-- ==== Sys2Proof/Word.lean ====
section
/-! DEFINITION. The plain words of the NVX-1248 model: bytes, 32-bit and 64-bit words, and the shape of
sparse data keyed by a number. Nothing here computes anything the spec states. -/
namespace Sys2Proof

/-- One byte. -/
abbrev Byte := BitVec 8

/-- A 32-bit word. -/
abbrev Word := BitVec 32

/-- A 64-bit word. -/
abbrev DWord := BitVec 64

/-- Sparse data keyed by a number: keys strictly rising, no entry equal to what an absent key reads as
(`Sys2Proof.Machine.Sparse.wf` says so). -/
abbrev Sparse (α : Type) := List (Nat × α)

end Sys2Proof
end

