-- ==== Sys2Proof/Syntax.lean ====
section
/-! DEFINITION. The commands of the block: one constructor of `Instr` per row of the opcode table, and the operand
records they carry. An enumerated field that the spec gives a code (a SYNC target, a CHAIN source kind) stays a raw
bit vector, so that a reserved code can be named and meets the stop the spec gives it. -/
namespace Sys2Proof

/-- A core of the package, numbered die × 13 + physical core (R17). -/
abbrev CoreId := Fin 52
/-- An index register X0–X31 (R127). -/
abbrev XReg := Fin 32
/-- A vector register V0–V31 (R88). -/
abbrev VReg := Fin 32
/-- A mask register M0–M7 (R88). -/
abbrev MReg := Fin 8
/-- A descriptor register D0–D63 (R127). -/
abbrev DReg := Fin 64
/-- A logical tile 0–15 (R72). -/
abbrev TileNo := Fin 16
/-- A vat 0–15 (R278). -/
abbrev VatNo := Fin 16
/-- A host function: 0 the physical function, 1–16 the virtual functions (R324). -/
abbrev FnNo := Fin 17
/-- A unit by its record number 0–283 (R21). -/
abbrev UnitNo := Fin 284

/-- The common row W0 of an instruction (Table 7-2), class and operation apart. -/
structure Hdr where
  waitAll : Bool
  pred : Bool
  pneg : Bool
  xp : XReg
  deriving DecidableEq, Repr

/-- The fields of SWEEP and SEMIRING (Table 7-4). -/
structure SweepF where
  da : DReg
  dw : DReg
  tile : TileNo
  enable : BitVec 4
  init : Bool
  xa : XReg
  xw : XReg
  xk : XReg
  k : Nat
  deriving DecidableEq, Repr

/-- The fields of ACCOP (Table 7-5). -/
structure AccF where
  td : TileNo
  ta : TileNo
  tb : TileNo
  enable : BitVec 4
  v : VReg
  xs : XReg
  d : DReg
  xr : XReg
  xc : XReg
  deriving DecidableEq, Repr

/-- The fields of CHAIN (Table 7-6). -/
structure ChainF where
  srcKind : BitVec 2
  source : BitVec 6
  release : Bool
  scl : Bool
  res : Bool
  fn : Bool
  aff : Bool
  row : Bool
  cen : Bool
  cvt : Bool
  cc : BitVec 16
  scaleReg : VReg
  scaleRow : Bool
  noScale : Bool
  biasReg : VReg
  biasRow : Bool
  noBias : Bool
  resDesc : DReg
  fnCode : BitVec 6
  table : Fin 8
  clampReg : VReg
  affBase : VReg
  statMax : Bool
  statSum : Bool
  statSq : Bool
  statBase : VReg
  dstKind : BitVec 2
  dst : BitVec 10
  mask : MReg
  maskZero : Bool
  xdr : XReg
  xdc : XReg
  xsr : XReg
  xsc : XReg
  stream : Word
  draw : Word
  rows : Nat
  deriving DecidableEq, Repr

/-- The fields of VECTOR (Table 7-7). -/
structure VecF where
  vd : VReg
  va : VReg
  vb : VReg
  vc : VReg
  mask : MReg
  maskZero : Bool
  sat : Bool
  md : MReg
  ms : MReg
  xd : XReg
  cmp : BitVec 3
  sfmt : BitVec 4
  cc : BitVec 16
  stream : Word
  draw : Word
  deriving DecidableEq, Repr

/-- The fields of MOVE (Table 7-9). -/
structure MoveF where
  ds : DReg
  dd : DReg
  xsr : XReg
  xsc : XReg
  xdr : XReg
  xdc : XReg
  rows : Nat
  cc : BitVec 16
  cols : Nat
  pace : Nat
  reg : Fin 64
  w5 : Word
  deriving DecidableEq, Repr

/-- The fields of WINDOW (Table 7-10). -/
structure WinF where
  ds : DReg
  dd : DReg
  xo : XReg
  xc : XReg
  xdr : XReg
  kt : Nat
  kh : Nat
  kw : Nat
  st : Nat
  sh : Nat
  sw : Nat
  dt : Nat
  dh : Nat
  dw : Nat
  front : Nat
  back : Nat
  top : Nat
  bottom : Nat
  left : Nat
  right : Nat
  positions : Nat
  channels : Nat
  deriving DecidableEq, Repr

/-- The fields of TABLE (Table 7-11). -/
structure TabF where
  ds : DReg
  table : Fin 8
  off : Word
  deriving DecidableEq, Repr

/-- The fields of SYNC (Table 7-12). -/
structure SyncF where
  rennet : BitVec 16
  f : Bool
  target : BitVec 2
  p : Bool
  count : Word
  peer : Word
  deriving DecidableEq, Repr

/-- The fields of RANDOM (Table 7-13). -/
structure RandF where
  dstKind : BitVec 2
  dst : BitVec 6
  xi : XReg
  xdr : XReg
  stream : Word
  draw : Word
  threshold : Nat
  rows : Nat
  deriving DecidableEq, Repr

/-- The fields of CONTROL (Table 7-14). -/
structure CtlF where
  xd : XReg
  xa : XReg
  xb : XReg
  alu : BitVec 4
  useImm : Bool
  cmp : BitVec 3
  target : BitVec 13
  imm : DWord
  d : DReg
  word : Fin 16
  sel : BitVec 4
  deriving DecidableEq, Repr

/-- The fields of CENSUS (Table 7-15). -/
structure CenF where
  slot : Fin 16
  d : DReg
  xr : XReg
  rows : Nat
  deriving DecidableEq, Repr

/-- A write of bytes to a command frame of a function's aperture (R282): the bytes `data` at byte `off` of frame
`frame` of the frames of `vat`, and whether it came in an IDE stream of the function (R333). -/
structure FrameWrite where
  fn : FnNo
  vat : VatNo
  frame : Nat
  off : Nat
  data : List Byte
  secure : Bool
  deriving DecidableEq, Repr

/-- Registers of the configuration space that Table 17-1 and R324 give a range: the maximum payload and read request sizes in bytes, BAR4's size of
the physical function and of every virtual function as log2 of bytes, the target link width of L0p, and where BAR0, BAR2 and BAR4 (0, 1, 2) of the
physical function and of the virtual functions are assigned, the latter in the physical function's SR-IOV registers. -/
inductive ConfigReg where
  | bar (k : Fin 3)
  | vfBar (k : Fin 3)
  | maxPayload
  | maxReadRequest
  | barSize
  | vfBarSize
  | linkWidth
  deriving DecidableEq, Repr

/-- A write to a vector's mask bit in BAR0 (R330), and whether its TLP is in an IDE stream (R333). -/
structure VectorUnmask where
  vector : Nat
  secure : Bool
  deriving DecidableEq, Repr

/-- A pause or PFC frame at a port (R337): the MACsec association it passed under, if any (R339). -/
structure PauseFrame where
  port : Fin 8
  sa : Option (Fin 64)
  deriving DecidableEq, Repr

/-- Where a host write to a register of the port goes: an offset of BAR0 (Table 17-3), or a register of the configuration space
(R322), whose value the bytes of the write give little-endian. -/
inductive HostReg where
  | bar0 (off : Nat)
  | config (r : ConfigReg)
  deriving DecidableEq, Repr

/-- The transport a dictionary message arrives on (R374, R375): the management port, the physical function's
mailbox, or a virtual function's mailbox. -/
inductive KopVia where
  | port
  | pf
  | vf (n : Fin 16)
  deriving DecidableEq, Repr

/-- A dictionary-protocol message (R375, R376) in its fields; `auth` carries the session's authentication bytes and
`data` the payload bytes. -/
structure KopMsg where
  via : KopVia
  magic : Word
  typ : Byte
  session : Nat
  seq : Word
  index : BitVec 16
  sub : Byte
  staged : Bool
  offset : Nat
  data : List Byte
  auth : List Byte
  secure : Bool
  deriving DecidableEq, Repr

/-- Where a unit operation comes from (R26): a command frame of kind UNIT or a write of U+2:01. -/
inductive UnitSrc where
  | frame (w : FrameWrite)
  | kop (m : KopMsg)
  deriving DecidableEq, Repr

/-- What the image check, calibration and self-test of a loading unit find (R79, R82, R104, R213, R396, R398): the
image digest over the loaded bytes, whether a port's reference clock is there and within tolerance (R450), whether the rest passes, and the rows, lane groups or known answer that fail. -/
structure SelfTest where
  imageOk : Bool
  clock : Bool
  passed : Bool
  rows : List (Fin 130)
  groups : BitVec 9
  cipher : Option (Fin 64)
  deriving DecidableEq, Repr

/-- Where an array fault arises (R85): in operand data as it arrived, or in a feeder (2), a processing element (3) or slot
storage (4) of one array, with the physical row or 0xFF. -/
inductive FaultOrigin where
  | weightPoison
  | activationPoison (array : Fin 4) (row : Byte)
  | array (array : Fin 4) (row : Byte) (cause : Fin 5)
  deriving DecidableEq, Repr

/-- A destination that an instruction stopped by a fault has not yet written (R101, R106, R214), with the mask register that says
which of its lanes or columns are active (R90): lanes of a vector register from one on, a mask register, rows of a tensor in memory
or in a pipe, or rows of 128 columns in a pipe named directly, under a control field. -/
inductive UnitDest where
  | vreg (v : VReg) (firstLane : Fin 129) (mask : Option MReg)
  | mreg (m : MReg) (mask : Option MReg)
  | rows (d : DReg) (row : Int) (count : Nat) (col : Int) (cols : Nat) (mask : Option MReg)
  | pipe (n : Fin 1024) (cc : BitVec 16) (rows : Nat) (mask : Option MReg)
  deriving DecidableEq, Repr

/-- The instruction a fault finds at the arrays (R85, R86): a sweep of a kind (0 SWEEP, 1 to 4 the semirings), an element-wise
operation with the tiles it names in operand order, the one it writes last, or a drain of a tile, which writes none, with what it has
not yet written. -/
inductive ArrayWork where
  | sweep (kind : Fin 5) (f : SweepF)
  | accop (sources : List TileNo) (td : TileNo) (enable : BitVec 4)
  | drain (tile : TileNo) (dests : List UnitDest)
  deriving DecidableEq, Repr

/-- An uncorrectable operand fault at the arrays (R85, R86): the instruction, the step, where it arose, and the tile in whose spill
it was met, if in one. -/
structure OperandFault where
  work : ArrayWork
  k : Nat
  origin : FaultOrigin
  spilling : Option TileNo
  deriving DecidableEq, Repr

/-- A fault of a lane group or the Culture unit (R106, R214), with every destination of the instruction in progress. -/
structure UnitFault where
  lane : Nat
  counter : DWord
  dests : List UnitDest
  deriving DecidableEq, Repr

/-- The structures of a unit that report corrected errors in its own record (Table 4-8, Table 5-6, Table 22-4): an array's slots and
feeders or a core's registers and lanes, a core buffer or a die's buffer, a program memory, a die's links. -/
inductive CorrectedIn where
  | lanes
  | buffer
  | program
  | links
  deriving DecidableEq, Repr

/-- Corrected errors of a structure of a unit, so many more of them (R415). -/
structure CorrectedErrors where
  unit : UnitNo
  place : CorrectedIn
  count : Nat
  deriving DecidableEq, Repr

/-- A fault of a compute die (R416): of its buffer, with the failing offset, or of its router. -/
structure DieError where
  die : Fin 4
  buffer : Option Nat
  deriving DecidableEq, Repr

/-- The end of a scrub pass of a die, with the corrections that the on-die ECC of each of its three stacks has reported (R232,
R246). -/
structure ScrubReport where
  die : Fin 4
  n0 : Nat
  n1 : Nat
  n2 : Nat
  deriving DecidableEq, Repr

/-- What an IEEE 1588 message tells a slave clock, in quarters of a nanosecond (Table 18-1): of a Sync when it left the master and when it
was received, or of a delay response when the delay request left the port and when the master received it (R340). -/
inductive PtpBody where
  | sync (t1 t2 : Nat)
  | response (t3 t4 : Nat)
  deriving DecidableEq, Repr

/-- An IEEE 1588 message on the timing port (R340): its domain, the MACsec channel and association it came under as a segment's (R339), and
what it tells. -/
structure PtpMessage where
  domain : Byte
  sa : Option (Fin 64)
  body : PtpBody
  deriving DecidableEq, Repr

/-- The on-chip memories of Table 22-4; of the hub buffer, an image slot, a slot of the audit ring and one of the event ring
are named apart, and of any buffer the end stores of pipes (R259). -/
inductive ChipMem where
  | core (c : CoreId)
  | program (c : CoreId)
  | die (d : Fin 4)
  | hub
  | hubImage (kind : Fin 6)
  | hubAudit (slot : Fin 4096)
  | hubEvent (slot : Fin 2048)
  | pipeEnd (pipe : Fin 1024) (head : Bool)
  deriving DecidableEq, Repr

/-- An uncorrectable read of an on-chip memory word (R414): of an image slot or a pipe's end store, whether the word was last written whole. -/
structure ChipError where
  mem : ChipMem
  offset : Nat
  hard : Bool
  deriving DecidableEq, Repr

/-- An uncorrectable flit on an internal link (R414): the sending die (0–3 compute, 4 hub), the link, whether the
resend failed as well, and the register or memory granule the flit was bound for. -/
structure LinkError where
  die : Fin 5
  link : Nat
  second : Bool
  target : Option (ChipMem × Nat)
  deriving DecidableEq, Repr

/-- What the segment master samples at a symbol's scheduled time (R306, R308, R309). -/
structure BusSample where
  now : Nat
  rdy : Bool
  holdN : Bool
  deriving DecidableEq, Repr

/-- A group unit request as it reaches the segment master (R310). -/
structure GroupRequest where
  op : Byte
  target : DWord
  version : BitVec 16
  role : Fin 5
  deriving DecidableEq, Repr

/-- A received segment: the 32-byte Psiger header in eight words, the payload, and the MACsec association number under
which the frame passes its integrity and replay checks, if it is protected (R339, R341, R342). -/
structure Segment where
  header : List Word
  payload : List Byte
  sa : Option (Fin 64)
  deriving DecidableEq, Repr

/-- A peer of remote signals: the twin or a fabric peer reached by a binding (R264). -/
inductive Peer where
  | twin
  | fabric (pkg : Word)
  deriving DecidableEq, Repr

/-- A remote signal message (R264). -/
structure RemoteSignal where
  peer : Peer
  seq : Word
  vat : VatNo
  rennet : Fin 65536
  count : Word
  deriving DecidableEq, Repr

/-- The outcomes of a remote signal (R265). -/
inductive SignalOutcome where
  | applied
  | full
  | permanent (why : Fin 4)
  deriving DecidableEq, Repr

/-- Where a remote signal or its outcome arrives: a payload on the twin link, or a segment at a fabric port (R264, R345). -/
inductive FromPeer where
  | twin (payload : List Byte)
  | fabric (p : Fin 8) (g : Segment)
  deriving DecidableEq, Repr

/-- The reconcile exchange with a peer (R266): its highest sequence sent, its last applied sequence from this
package, and the outcomes it sends. -/
structure Reconcile where
  sent : Word
  applied : Word
  outcomes : List (Word × SignalOutcome)
  credits : List (Nat × Word)
  deriving DecidableEq, Repr

/-- A shadow record (R351): the vat of the pipe that carries it, the sixteen header words and the data bytes. -/
structure ShadowRecord where
  vat : VatNo
  header : List Word
  data : List Byte
  deriving DecidableEq, Repr

/-- A codec frame record (R363): its words, the bytes of the surface or access unit it names, whether any of them is poisoned, and, where it
came through an input codec ring, the address of the ring's descriptor (R362, R365). -/
structure FrameRecord where
  words : List Word
  data : List Byte
  poison : Bool
  ring : Option Nat
  deriving DecidableEq, Repr

/-- What start-up samples when PWRGD rises (R435): the node straps and the units detected. -/
structure PartStart where
  straps : BitVec 5
  detected : List UnitNo
  deriving DecidableEq, Repr

/-- A thermal sample (R431): the sensors of the four compute dies and the hub, and the twelve stacks, in units of
1/16 °C. -/
structure ThermalReading where
  dies : List Int
  stackTemps : List Int
  deriving DecidableEq, Repr

/-- A flit of a plain twin-link pipe (R346); or the link credits of each class that the sideband fields of a message or an idle
symbol return (R268). -/
inductive PipeFlit where
  | data (pipe : Fin 1024) (bytes : List Byte) (last : Bool)
  | credit (pipe : Fin 1024) (freed : Word)
  | returns (c0 c1 c2 c3 : Nat)
  deriving DecidableEq, Repr

/-- A request on the pair unit that entered the other package (R30): operation, target beat, expected version, the number of its
sender's role (Table 20-5). -/
structure PairReq where
  op : Byte
  target : Nat
  version : BitVec 16
  role : Fin 5
  deriving DecidableEq, Repr

/-- A copy of the pair record (R30, R32): the sending package's identifier, the package it names as its twin (R438), state code, hold causes, version, how the sending
package itself stands as a member (R16, R29), and the requests that entered it since its last copy. -/
structure PairRecord where
  sender : Word
  names : Word
  state : Fin 9
  causes : Byte
  version : BitVec 16
  member : Fin 9
  memberCauses : Byte
  requests : List PairReq
  deriving DecidableEq, Repr

/-- The levels at the test access port's lands on a TCK edge (R452). -/
structure TapPins where
  rising : Bool
  tms : Bool
  tdi : Bool
  trstN : Bool
  deriving DecidableEq, Repr

/-- A neighbour solicitation (R337, R378): where it arrives (a fabric port or the management port), the address it asks
for, the address to answer to, and the frame's MACsec association number as a segment's. -/
structure Solicitation where
  port : Option (Fin 8)
  target : List Byte
  source : List Byte
  sa : Option (Fin 64)
  deriving DecidableEq, Repr

/-- The commands of the block, one per row of the opcode table, with their operands. -/
inductive Instr where
  /-- SWEEP (R135): SWEEP instruction accumulates outer products of an activation tile and a weight stream into a logical tile. -/
  | sweep (c : CoreId) (h : Hdr) (f : SweepF)
  /-- MIN_PLUS (R69): SEMIRING min-plus sweep updates each slot element as min(c, a + w). -/
  | minPlus (c : CoreId) (h : Hdr) (f : SweepF)
  /-- MAX_PLUS (R69): SEMIRING max-plus sweep updates each slot element as max(c, a + w). -/
  | maxPlus (c : CoreId) (h : Hdr) (f : SweepF)
  /-- L1 (R69): SEMIRING L1 sweep accumulates |a − w| into each slot element. -/
  | l1Sweep (c : CoreId) (h : Hdr) (f : SweepF)
  /-- SQUARED_L2 (R69): SEMIRING squared-L2 sweep accumulates (a − w)² into each slot element. -/
  | squaredL2 (c : CoreId) (h : Hdr) (f : SweepF)
  /-- CLEAR (R71): ACCOP CLEAR sets a logical tile to +0 and clears its poison and overflow flag. -/
  | clearTile (c : CoreId) (h : Hdr) (f : AccF)
  /-- FILL (R71): ACCOP FILL sets every element of a tile to a scalar widened exactly. -/
  | fillTile (c : CoreId) (h : Hdr) (f : AccF)
  /-- COPY (R71): ACCOP COPY copies one logical tile, poison and flag included, into another. -/
  | copyTile (c : CoreId) (h : Hdr) (f : AccF)
  /-- ADD (R71): ACCOP ADD adds two tiles element-wise under the alignment truncation rule. -/
  | addTile (c : CoreId) (h : Hdr) (f : AccF)
  /-- SUB (R71): ACCOP SUB subtracts two tiles element-wise under the alignment truncation rule. -/
  | subTile (c : CoreId) (h : Hdr) (f : AccF)
  /-- ACCOP_MAX (R71): ACCOP MAX takes the element-wise maximum of two tiles. -/
  | accopMax (c : CoreId) (h : Hdr) (f : AccF)
  /-- ACCOP_MIN (R71): ACCOP MIN takes the element-wise minimum of two tiles. -/
  | accopMin (c : CoreId) (h : Hdr) (f : AccF)
  /-- SCALE (R71): ACCOP SCALE multiplies a tile by a scalar from an index register. -/
  | scaleTile (c : CoreId) (h : Hdr) (f : AccF)
  /-- SCALE_ROW (R71): ACCOP SCALE_ROW multiplies each tile row by a per-row vector lane. -/
  | scaleRow (c : CoreId) (h : Hdr) (f : AccF)
  /-- SCALE_COL (R71): ACCOP SCALE_COL multiplies each tile column by a per-column vector lane. -/
  | scaleCol (c : CoreId) (h : Hdr) (f : AccF)
  /-- ADD_COL (R71): ACCOP ADD_COL adds a per-column vector lane to each tile column. -/
  | addCol (c : CoreId) (h : Hdr) (f : AccF)
  /-- ACCOP_LOAD (R71): ACCOP LOAD reads an FP32 tile from the core buffer and widens it exactly into A38. -/
  | accopLoad (c : CoreId) (h : Hdr) (f : AccF)
  /-- CHAIN_DRAIN (R92): CHAIN with a drain source streams a logical tile through the enabled stages into its destination. -/
  | chainDrain (c : CoreId) (h : Hdr) (f : ChainF)
  /-- CHAIN_TENSOR (R136): CHAIN with a core-buffer tensor source streams rows through the enabled stages into its destination. -/
  | chainTensor (c : CoreId) (h : Hdr) (f : ChainF)
  /-- CHAIN_REGISTER (R92): CHAIN with a vector-register source streams one register through the enabled stages. -/
  | chainRegister (c : CoreId) (h : Hdr) (f : ChainF)
  /-- SMAX_END (R120): Register-only SMAX_END computes the reciprocal row sum and log-sum-exp for each row. -/
  | smaxEnd (c : CoreId) (h : Hdr) (f : ChainF)
  /-- NSTAT_FAST (R121): Register-only NSTAT_FAST derives the normalisation multiplier and offset from folded sums. -/
  | nstatFast (c : CoreId) (h : Hdr) (f : ChainF)
  /-- NSTAT_MEAN (R122): Register-only NSTAT_MEAN writes the row mean and resets the stable-mode registers. -/
  | nstatMean (c : CoreId) (h : Hdr) (f : ChainF)
  /-- NSTAT_STABLE (R122): Register-only NSTAT_STABLE derives the multiplier from the centred sum of squares. -/
  | nstatStable (c : CoreId) (h : Hdr) (f : ChainF)
  /-- NSTAT_RMS (R123): Register-only NSTAT_RMS derives an RMS multiplier from the folded sum of squares. -/
  | nstatRms (c : CoreId) (h : Hdr) (f : ChainF)
  /-- FADD (R91): VECTOR FADD adds two FP32 registers lane by lane. -/
  | fadd (c : CoreId) (h : Hdr) (f : VecF)
  /-- FSUB (R91): VECTOR FSUB subtracts two FP32 registers lane by lane. -/
  | fsub (c : CoreId) (h : Hdr) (f : VecF)
  /-- FMUL (R91): VECTOR FMUL multiplies two FP32 registers lane by lane. -/
  | fmul (c : CoreId) (h : Hdr) (f : VecF)
  /-- FFMA (R91): VECTOR FFMA computes a fused multiply-add lane by lane. -/
  | ffma (c : CoreId) (h : Hdr) (f : VecF)
  /-- FMIN (R91): VECTOR FMIN takes the lane-wise minimum of two FP32 registers. -/
  | fmin (c : CoreId) (h : Hdr) (f : VecF)
  /-- FMAX (R91): VECTOR FMAX takes the lane-wise maximum of two FP32 registers. -/
  | fmax (c : CoreId) (h : Hdr) (f : VecF)
  /-- IADD (R91): VECTOR IADD adds INT32 lanes with saturation or wrap. -/
  | iadd (c : CoreId) (h : Hdr) (f : VecF)
  /-- ISUB (R91): VECTOR ISUB subtracts INT32 lanes with saturation or wrap. -/
  | isub (c : CoreId) (h : Hdr) (f : VecF)
  /-- IMUL (R91): VECTOR IMUL multiplies INT32 lanes with saturation or wrap. -/
  | imul (c : CoreId) (h : Hdr) (f : VecF)
  /-- SEL (R90): VECTOR SEL selects each lane from one of two registers by a mask register. -/
  | selLanes (c : CoreId) (h : Hdr) (f : VecF)
  /-- BCAST (R90): VECTOR BCAST writes the low 32 bits of an index register into every lane. -/
  | bcast (c : CoreId) (h : Hdr) (f : VecF)
  /-- MOV (R90): VECTOR MOV copies a vector register under a mask. -/
  | mov (c : CoreId) (h : Hdr) (f : VecF)
  /-- FCMP (R90): VECTOR FCMP compares two registers lane by lane into a mask register. -/
  | fcmp (c : CoreId) (h : Hdr) (f : VecF)
  /-- MASKOP (R90): VECTOR MASKOP combines two mask registers with a logical operation. -/
  | maskop (c : CoreId) (h : Hdr) (f : VecF)
  /-- VECTOR_CVT (R89): VECTOR CVT converts packed elements between formats under a conversion control field. -/
  | vectorCvt (c : CoreId) (h : Hdr) (f : VecF)
  /-- SUM (R95): VECTOR SUM reduces active lanes by a fixed binary tree into an index register. -/
  | sumLanes (c : CoreId) (h : Hdr) (f : VecF)
  /-- PROD (R95): VECTOR PROD reduces active lanes by product over the fixed tree. -/
  | prodLanes (c : CoreId) (h : Hdr) (f : VecF)
  /-- VECTOR_MAX (R97): VECTOR MAX reduces active lanes to their exact maximum. -/
  | vectorMax (c : CoreId) (h : Hdr) (f : VecF)
  /-- VECTOR_MIN (R97): VECTOR MIN reduces active lanes to their exact minimum. -/
  | vectorMin (c : CoreId) (h : Hdr) (f : VecF)
  /-- COUNT (R96): VECTOR COUNT returns the number of active lanes. -/
  | countLanes (c : CoreId) (h : Hdr) (f : VecF)
  /-- MEAN (R96): VECTOR MEAN returns the mean of the active lanes. -/
  | meanLanes (c : CoreId) (h : Hdr) (f : VecF)
  /-- VAR (R96): VECTOR VAR returns the population variance of the active lanes in stable form. -/
  | varLanes (c : CoreId) (h : Hdr) (f : VecF)
  /-- ARGMAX (R97): VECTOR ARGMAX returns the lowest lane index attaining the maximum. -/
  | argmax (c : CoreId) (h : Hdr) (f : VecF)
  /-- ARGMIN (R97): VECTOR ARGMIN returns the lowest lane index attaining the minimum. -/
  | argmin (c : CoreId) (h : Hdr) (f : VecF)
  /-- SCAN_INCL_FADD (R99): Inclusive FP32 add scan over 128 lanes with carry. -/
  | scanInclFadd (c : CoreId) (h : Hdr) (f : VecF)
  /-- SCAN_INCL_FMAX (R99): Inclusive FP32 max scan over 128 lanes with carry. -/
  | scanInclFmax (c : CoreId) (h : Hdr) (f : VecF)
  /-- SCAN_INCL_FMIN (R99): Inclusive FP32 min scan over 128 lanes with carry. -/
  | scanInclFmin (c : CoreId) (h : Hdr) (f : VecF)
  /-- SCAN_INCL_IADD (R99): Inclusive INT32 add scan over 128 lanes with carry. -/
  | scanInclIadd (c : CoreId) (h : Hdr) (f : VecF)
  /-- SCAN_EXCL_FADD (R99): Exclusive FP32 add scan over 128 lanes with carry. -/
  | scanExclFadd (c : CoreId) (h : Hdr) (f : VecF)
  /-- SCAN_EXCL_FMAX (R99): Exclusive FP32 max scan over 128 lanes with carry. -/
  | scanExclFmax (c : CoreId) (h : Hdr) (f : VecF)
  /-- SCAN_EXCL_FMIN (R99): Exclusive FP32 min scan over 128 lanes with carry. -/
  | scanExclFmin (c : CoreId) (h : Hdr) (f : VecF)
  /-- SCAN_EXCL_IADD (R99): Exclusive INT32 add scan over 128 lanes with carry. -/
  | scanExclIadd (c : CoreId) (h : Hdr) (f : VecF)
  /-- TENSOR (R137): MOVE TENSOR copies and converts a tensor region between memory locations. -/
  | moveTensor (c : CoreId) (h : Hdr) (f : MoveF)
  /-- LDV (R137): MOVE LDV loads 512 bytes from the core buffer into a vector register. -/
  | ldv (c : CoreId) (h : Hdr) (f : MoveF)
  /-- STV (R137): MOVE STV stores a vector register into the core buffer. -/
  | stv (c : CoreId) (h : Hdr) (f : MoveF)
  /-- LDDESC (R137): MOVE LDDESC loads a 64-byte descriptor image from the core buffer. -/
  | lddesc (c : CoreId) (h : Hdr) (f : MoveF)
  /-- LDX (R139): MOVE LDX loads 8 bytes into an index register, stopping on poisoned data. -/
  | ldx (c : CoreId) (h : Hdr) (f : MoveF)
  /-- STX (R137): MOVE STX stores an index register into the core buffer. -/
  | stx (c : CoreId) (h : Hdr) (f : MoveF)
  /-- ZPACK (R198): MOVE ZPACK writes a tensor in zero-run compressed block format. -/
  | zpack (c : CoreId) (h : Hdr) (f : MoveF)
  /-- ZUNPACK (R200): MOVE ZUNPACK expands a compressed tensor into the core buffer, checking each block. -/
  | zunpack (c : CoreId) (h : Hdr) (f : MoveF)
  /-- VTENSOR (R227): Conditional MOVE VTENSOR acts as TENSOR only when the named sealed verdict is GOOD. -/
  | vtensor (c : CoreId) (h : Hdr) (f : MoveF)
  /-- VSPLIT (R228): Conditional MOVE VSPLIT writes a rounded value and its remainder when the verdict is GOOD. -/
  | vsplit (c : CoreId) (h : Hdr) (f : MoveF)
  /-- WINDOW (R192): WINDOW assembles an implicit convolution matrix from a planar source into the core buffer. -/
  | window (c : CoreId) (h : Hdr) (f : WinF)
  /-- TABLE_EXPANSION (R140): TABLE loads an expansion table image into a table's shadow copy. -/
  | tableExpansion (c : CoreId) (h : Hdr) (f : TabF)
  /-- TABLE_CUSTOM (R118): TABLE loads a custom function table image, refusing bad bounds, knots or reserved bytes. -/
  | tableCustom (c : CoreId) (h : Hdr) (f : TabF)
  /-- TABLE_SWAP (R57): A completed table fill swaps in at the next instruction boundary and increments its version tag. -/
  | tableSwap (c : CoreId) (custom : Bool) (t : Fin 8)
  /-- SIGNAL (R261): SYNC SIGNAL adds tokens to a local or remote rennet, or is refused at its maximum. -/
  | signalRennet (c : CoreId) (h : Hdr) (f : SyncF)
  /-- SIGNAL_RETRY (R261): A refused local signal is retried every 64 ACLK cycles until accepted. -/
  | signalRetry (c : CoreId)
  /-- WAIT (R262): SYNC WAIT joins a rennet's queue with a threshold. -/
  | waitRennet (c : CoreId) (h : Hdr) (f : SyncF)
  /-- WAIT_SATISFIED (R262): The head waiter is satisfied when the count covers its threshold, consuming the tokens. -/
  | waitSatisfied (n : Fin 65536)
  /-- FENCE (R144): SYNC FENCE completes when every earlier write of the core is visible. -/
  | fence (c : CoreId) (h : Hdr) (f : SyncF)
  /-- RANDOM_RAW (R207): RANDOM writes raw 32-bit counter-based draws. -/
  | randomRaw (c : CoreId) (h : Hdr) (f : RandF)
  /-- RANDOM_UNIFORM (R207): RANDOM writes uniform FP32 draws in [0, 1). -/
  | randomUniform (c : CoreId) (h : Hdr) (f : RandF)
  /-- RANDOM_NORMAL (R208): RANDOM writes normal FP32 draws by the profile-1 Box–Muller method. -/
  | randomNormal (c : CoreId) (h : Hdr) (f : RandF)
  /-- RANDOM_BERNOULLI (R207): RANDOM writes Bernoulli draws against a 16-bit threshold. -/
  | randomBernoulli (c : CoreId) (h : Hdr) (f : RandF)
  /-- NOP (R141): CONTROL NOP occupies one issue cycle. -/
  | nop (c : CoreId) (h : Hdr) (f : CtlF)
  /-- END (R141): CONTROL END waits for every earlier instruction, releases tiles and ends the core's part of the launch. -/
  | endProgram (c : CoreId) (h : Hdr) (f : CtlF)
  /-- BR (R141): CONTROL BR branches to a target word. -/
  | br (c : CoreId) (h : Hdr) (f : CtlF)
  /-- BRC (R141): CONTROL BRC branches when a comparison of two index registers holds. -/
  | brc (c : CoreId) (h : Hdr) (f : CtlF)
  /-- LOOP (R141): CONTROL LOOP decrements an index register and branches while non-zero. -/
  | loopX (c : CoreId) (h : Hdr) (f : CtlF)
  /-- XALU (R141): CONTROL XALU computes an index-register operation. -/
  | xalu (c : CoreId) (h : Hdr) (f : CtlF)
  /-- XIMM (R141): CONTROL XIMM writes a 64-bit immediate into an index register. -/
  | ximm (c : CoreId) (h : Hdr) (f : CtlF)
  /-- DSET (R141): CONTROL DSET writes 32 bits into a descriptor word. -/
  | dset (c : CoreId) (h : Hdr) (f : CtlF)
  /-- SPILLAREA (R141): CONTROL SPILLAREA sets the spill area word after earlier instructions complete. -/
  | spillarea (c : CoreId) (h : Hdr) (f : CtlF)
  /-- XGET (R141): CONTROL XGET reads a core value such as VSTAT or the beat stamp into an index register. -/
  | xget (c : CoreId) (h : Hdr) (f : CtlF)
  /-- PREEMPT (R146): PREEMPT instruction is a pre-emption point where a pending request stops issue and saves context. -/
  | preempt (c : CoreId) (h : Hdr)
  /-- ATTACH (R217): CENSUS ATTACH binds a descriptor to a census slot. -/
  | attach (c : CoreId) (h : Hdr) (f : CenF)
  /-- DETACH (R217): CENSUS DETACH removes a descriptor's slot binding. -/
  | detach (c : CoreId) (h : Hdr) (f : CenF)
  /-- CENSUS_SCAN (R218): CENSUS SCAN counts rows of a descriptor into its slot as a CEN stage would. -/
  | censusScan (c : CoreId) (h : Hdr) (f : CenF)
  /-- STORE (R219): CENSUS STORE writes a slot's 128-byte record and folds guarded slots into the verdict. -/
  | censusStore (c : CoreId) (h : Hdr) (f : CenF)
  /-- CENSUS_CLEAR (R219): CENSUS CLEAR zeroes a census slot. -/
  | censusClear (c : CoreId) (h : Hdr) (f : CenF)
  /-- SEAL (R223): CENSUS SEAL closes the open verdict, writes its record, updates the loss scale and opens a new verdict. -/
  | seal (c : CoreId) (h : Hdr) (f : CenF)
  /-- PREEMPT_INTERVAL_EXCEEDED (R147): The run-time interval count passes 8,192 cycles without a point; EV-0x0703 is raised. -/
  | preemptIntervalExceeded (c : CoreId) (cycles : Nat)
  /-- LAUNCH_RUN (R288): LAUNCH command of kind RUN takes a dispatch slot for a tile program start. -/
  | launchRun (w : FrameWrite)
  /-- LAUNCH_LOAD (R288): LAUNCH command of kind LOAD takes a dispatch slot to copy a program image into cores. -/
  | launchLoad (w : FrameWrite)
  /-- LAUNCH_RESTORE (R300): LAUNCH command of kind RESTORE takes a dispatch slot to restore context images. -/
  | launchRestore (w : FrameWrite)
  /-- LAUNCH_ELIGIBLE (R13): A launch whose stamp, preconditions and cores are ready becomes eligible and starts its cores. -/
  | launchEligible (slot : Fin 4096)
  /-- LOAD_COPY_COMPLETE (R288): A LOAD launch finishes copying its image and writes the program tag. -/
  | loadCopyComplete (slot : Fin 4096)
  /-- RESTORE_LOAD_COMPLETE (R300): Restored images finish loading and their digests are checked; each core issues from its saved word. -/
  | restoreLoadComplete (slot : Fin 4096)
  /-- CONTEXT_SAVE_COMPLETE (R299): Every context image is visible; the launch ends PREEMPTED and its cores go on to their requested state. -/
  | contextSaveComplete (slot : Fin 4096)
  /-- LAUNCH_OVERRUN (R290): A core's actual cycles pass the declared bound; OVERRUN is set and EV-0x0F00 raised. -/
  | launchOverrun (c : CoreId)
  /-- PREEMPT_COMMAND (R298): PREEMPT command requests pre-emption of a running launch on all its cores. -/
  | preemptCommand (w : FrameWrite)
  /-- CANCEL (R301): CANCEL command ends a waiting launch or pending join CANCELLED. -/
  | cancelCommand (w : FrameWrite)
  /-- SEED (R203): SEED command sets the vat's seed and starts forming its Culture key. -/
  | seedCommand (w : FrameWrite)
  /-- SEED_KEY_READY (R203): The security engine finishes forming the key; seed entries update and the SEED slot completes. -/
  | seedKeyReady (v : VatNo)
  /-- JOIN (R295): JOIN command requests admission or resumption of a sequence in a batch slot. -/
  | joinCommand (w : FrameWrite)
  /-- LEAVE (R297): LEAVE command releases a batch slot at the page work that applies it. -/
  | leaveCommand (w : FrameWrite)
  /-- GROWTH (R174): GROWTH command gives each slot's token growth for a beat's page work. -/
  | growthCommand (w : FrameWrite)
  /-- LAYOUT (R169): LAYOUT command defines one of a vat's KV page layouts. -/
  | layoutCommand (w : FrameWrite)
  /-- SWAPAREA (R188): SWAPAREA command sets the vat's host swap area. -/
  | swapAreaCommand (w : FrameWrite)
  /-- PIPE_OPEN (R254): PIPE command opens a pipe with its end stores and whey ring. -/
  | pipeOpen (w : FrameWrite)
  /-- PIPE_CLOSE (R259): PIPE command puts a pipe into closing, or empties a faulted pipe. -/
  | pipeClose (w : FrameWrite)
  /-- PIPE_CONFIGURE (R254): PIPE command configures a pipe's record. -/
  | pipeConfigure (w : FrameWrite)
  /-- PIPE_CLOSE_COMPLETE (R259): A closing pipe becomes unconfigured once empty and unused, completing its close. -/
  | pipeCloseComplete (p : Fin 1024)
  /-- PIPE_PACKET_ADVANCE (R255): A committed packet moves from tail or whey ring into a free head slot. -/
  | pipePacketAdvance (p : Fin 1024)
  /-- RENNET (R260): RENNET command sets a rennet's maximum and remote bit. -/
  | rennetCommand (w : FrameWrite)
  /-- UNIT_HOLD (R26): Unit operation Hold, by command or U+2:01 write, holds a unit at its target beat. -/
  | unitHold (r : UnitSrc)
  /-- UNIT_READMIT (R26): Unit operation Re-admit clears the issuer's hold causes or sends a SHED or FAULTED unit to LOADING. -/
  | unitReadmit (r : UnitSrc)
  /-- UNIT_TAIL_DROP (R26): Unit operation Tail-drop drains a unit to SHED. -/
  | unitTailDrop (r : UnitSrc)
  /-- UNIT_UPDATE_IMAGE (R398): Unit operation Update image loads a HELD unit from its kind's valid image slot. -/
  | unitUpdateImage (r : UnitSrc)
  /-- UNIT_RECALIBRATE (R417): Unit operation Recalibrate re-runs calibration and self-test of a HELD or COLD unit. -/
  | unitRecalibrate (r : UnitSrc)
  /-- UNIT_RECLAIM (R27): Unit operation Reclaim returns a FAULTED unit's frozen holdings to their pools. -/
  | unitReclaim (r : UnitSrc)
  /-- UNIT_DRAIN_COMPLETE (R23): A DRAINING unit stops at its boundary, returns holdings and enters HELD or SHED. -/
  | unitDrainComplete (u : UnitNo)
  /-- DRAIN_LIMIT_PASSED (R23): A unit's drain limit expires; it enters FAULTED and any running program stops, EV-0x0206. -/
  | drainLimitPassed (u : UnitNo) (micros : Nat)
  /-- LOADING_COMPLETE (R398): A LOADING unit finishes its image check and self-test and enters READY or FAULTED. -/
  | loadingComplete (u : UnitNo) (r : SelfTest)
  /-- AGGREGATE_REEVALUATE (R29): Within 1 µs of a member transition a composite unit's aggregated state is re-evaluated. -/
  | aggregateReevaluate (u : UnitNo)
  /-- ARRAY_OPERAND_FAULT (R85): An uncorrectable error or poison reaches an array; the instruction stops, tiles are poisoned and EV-0x0400 raised. -/
  | arrayOperandFault (c : CoreId) (f : OperandFault)
  /-- LANE_GROUP_FAULT (R106): An uncorrectable error in a lane group stops the program and holds the core with cause [2]. -/
  | laneGroupFault (c : CoreId) (group : Fin 9) (f : UnitFault)
  /-- CULTURE_FAULT (R214): A Culture mismatch or uncorrectable error stops the program and holds the core with cause [2]. -/
  | cultureFault (c : CoreId) (f : UnitFault)
  /-- ONCHIP_UNCORRECTABLE (R414): An uncorrectable read in an on-chip memory delivers poison and raises EV-0x1600, faulting the unit on a hard fault. -/
  | onchipUncorrectable (f : ChipError)
  /-- LINK_FLIT_UNCORRECTABLE (R414): An uncorrectable flit on an internal link is resent once, then delivered poisoned. -/
  | linkFlitUncorrectable (f : LinkError)
  /-- CORRECTED_ERROR_THRESHOLD (R415): A unit's corrected errors pass the threshold within its window; EV-0x1601 and optional hold. -/
  | correctedErrorThreshold (e : CorrectedErrors)
  /-- DIE_FAULT (R416): A router fault or die-buffer hard fault puts a compute die into FAULTED. -/
  | dieFault (d : DieError)
  /-- HUB_FAULT (R416): A hub fault puts the hub die and package into FAULTED and sends a fault notice. -/
  | hubFault
  /-- PAGE_WORK (R181): A vat's page work begins once the beat has come and no earlier-stamped launch remains. -/
  | pageWork (v : VatNo)
  /-- PAGE_WORK_END (R181): The page work ends once all steps and demanded swap-outs complete; stamped launches may become eligible. -/
  | pageWorkEnd (v : VatNo)
  /-- SWAP_OUT_COMPLETE (R184): The swap-out's read-back completes; private frames free and the sequence becomes swapped. -/
  | swapOutComplete (b : Fin 64)
  /-- SWAP_IN_COMPLETE (R185): Host frames are read back and entries rewritten; the sequence becomes resident. -/
  | swapInComplete (b : Fin 64) (data : List Byte)
  /-- SWAP_TRANSFER_FAILED (R186): A swap transfer ends in a PCIe, poison or integrity error and is undone. -/
  | swapTransferFailed (b : Fin 64) (status : Nat)
  /-- GRANULE_CLEAR (R240): The die memory clears storage newly added to a region, granule by granule. -/
  | granuleClear (d : Fin 4) (granule : Nat)
  /-- SCRUB_PASS (R246): Each scrub period the die memory reads and corrects every word of its in-service sets; the numbers are
  what the on-die ECC of its three stacks reports for the pass (R232). -/
  | scrubPass (p : ScrubReport)
  /-- SHADOW_MOVE_GRANULE (R241): A shadow granule is copied to its new place after a commit changes L. -/
  | shadowMoveGranule
  /-- RELOCATE_GRANULE (R248): A granule of a retiring set is copied or poisoned into its home. -/
  | relocateGranule (d : Fin 4)
  /-- HBM_STACK_FAILURE (R249): A stack stops responding or fails training; its die's memory reads poison and EV-0x0D07 is raised. -/
  | hbmStackFailure (stack : Fin 12) (cause : Nat)
  /-- BEAT_SYMBOL_RECEIVE (R307): A member detects a beat symbol, checks CRC and mark, and schedules the local beat instant. -/
  | beatSymbolReceive (sym : BitVec 192) (mark : Bool) (markNs : Nat)
  /-- BEAT_BEGIN (R33): At the beat instant the beat begins, running the audit and the ordered per-beat steps. -/
  | beatBegin (now : Nat)
  /-- BEAT_SYMBOL_SEND (R306): The segment master samples readiness and sends the next beat symbol at its scheduled time. -/
  | beatSymbolSend (p : BusSample)
  /-- BEAT_MISSED (R317): No symbol arrives by the expected time; a missed beat is counted and the state may become stopped. -/
  | beatMissed (now : Nat)
  /-- HOLD_NOTICE (R309): The master receives a member's hold notice and counts it out of service. -/
  | holdNotice (node : Fin 32)
  /-- RELEASE_NOTICE (R309): The master receives a member's release notice and restores its count. -/
  | releaseNotice (node : Fin 32)
  /-- MEMBER_LOSS_NOTICE (R350): The master receives a twin's member-loss notice and counts one member fewer. -/
  | memberLossNotice (node : Fin 32)
  /-- GROUP_REQUEST_FORWARD (R310): The master receives a forwarded group request, checks it and carries it in a symbol. -/
  | groupRequestForward (r : GroupRequest)
  /-- PTP_MESSAGE (R340): An IEEE 1588 message on the timing port disciplines the local time counter. -/
  | ptpMessage (m : PtpMessage)
  /-- RESULT_SLOT_RELEASE (R293): A host write of the current generation releases a final result slot; other writes are stale. -/
  | resultSlotRelease (fn : FnNo) (slot : Nat) (value : Word) (secure : Bool)
  /-- BAR4_READ (R326): A host read through the BAR4 window reaches device memory, or returns poisoned 0xFF. -/
  | bar4Read (fn : FnNo) (off : Nat) (len : Nat) (secure : Bool)
  /-- BAR4_WRITE (R326): A host write through the BAR4 window reaches device memory or is discarded. -/
  | bar4Write (fn : FnNo) (off : Nat) (data : List Byte) (secure : Bool)
  /-- REGISTER_WRITE (R325): A write to a host port register without behaviour of its own updates it. -/
  | registerWrite (fn : FnNo) (w : HostReg) (data : List Byte) (secure : Bool)
  /-- HOST_LINK_RECOVERY (R334): The PCIe link recovers or changes speed; configuration is kept and EV-0x1100 raised. -/
  | hostLinkRecovery (rate : Nat) (width : Nat)
  /-- HOST_LINK_BELOW_MINIMUM (R334): Training ends below the minimum link; EV-0x1101 is raised. -/
  | hostLinkBelowMinimum (rate : Nat) (width : Nat)
  /-- HOST_LINK_DOWN (R334): Link down, hot reset or PERST_N resets every function and empties the host-bound queue. -/
  | hostLinkDown
  /-- FLR_PHYSICAL (R334): Function Level Reset of the physical function resets it and clears VF Enable. -/
  | flrPhysical
  /-- FLR_VIRTUAL (R334): Function Level Reset of a virtual function resets it and stops its vat, EV-0x1104. -/
  | flrVirtual (n : Fin 16)
  /-- IDE_INTEGRITY_FAILURE (R333): An IDE stream leaves the secure state; its TLPs are discarded and its flows held. -/
  | ideIntegrityFailure (stream : Nat) (fn : FnNo)
  /-- FABRIC_LINK_DOWN (R338): A fabric port's link goes down; it leaves spray sets and its segments are resent elsewhere. -/
  | fabricLinkDown (p : Fin 8)
  /-- FABRIC_LINK_UP (R338): A fabric port's link returns and rejoins spray sets at the next beat. -/
  | fabricLinkUp (p : Fin 8)
  /-- PSIGER_DATA (R345): A Psiger data segment is received and delivered in sequence order. -/
  | psigerData (p : Fin 8) (g : Segment)
  /-- PSIGER_ACK (R344): A Psiger acknowledgement frees covered segments from the retransmit store. -/
  | psigerAck (p : Fin 8) (g : Segment)
  /-- PSIGER_NAK (R344): A Psiger negative acknowledgement causes the named segment to be resent. -/
  | psigerNak (p : Fin 8) (g : Segment)
  /-- PSIGER_CREDIT (R346): A Psiger credit segment returns end-to-end credits for a remote pipe. -/
  | psigerCredit (p : Fin 8) (g : Segment)
  /-- REMOTE_SIGNAL_RECEIVE (R265): A remote signal message is applied, refused or recognised as duplicate by sequence. -/
  | remoteSignalReceive (m : FromPeer)
  /-- REMOTE_SIGNAL_OUTCOME (R265): A signal outcome response settles a token in transit at the sender. -/
  | remoteSignalOutcome (m : FromPeer)
  /-- REMOTE_SIGNAL_RESEND (R265): A signal refused full is sent again with a new sequence after 2 µs. -/
  | remoteSignalResend (peer : Peer) (seq : Word)
  /-- PSIGER_RECONCILE (R266): A reconcile exchange after link restoration settles signals and credits in transit. -/
  | psigerReconcile (p : Fin 8) (g : Segment)
  /-- PSIGER_PROBE (R350): A probe segment is received and answered with a probe reply. -/
  | psigerProbe (p : Fin 8) (g : Segment)
  /-- PSIGER_PROBE_REPLY (R350): A probe reply shows only the twin link is down; the twin link unit is held. -/
  | psigerProbeReply (p : Fin 8) (g : Segment)
  /-- PSIGER_FAULT_NOTICE (R347): A received fault notice makes the peer lost. -/
  | psigerFaultNotice (p : Fin 8) (g : Segment)
  /-- PSIGER_EXPORT (R355): An export segment's bytes are written at the import base on the spare. -/
  | psigerExport (p : Fin 8) (g : Segment)
  /-- RETRANSMIT_TIMEOUT (R344): An unacknowledged segment is resent on the next port after its timeout. -/
  | retransmitTimeout (b : Fin 4096) (seq : Word)
  /-- GAP_TIMEOUT (R345): A sequence gap persists 4 µs and a negative acknowledgement is sent. -/
  | gapTimeout (b : Fin 4096)
  /-- ACK_TIMER (R345): An acknowledgement with credit returns is sent at least every 2 µs while segments arrive. -/
  | ackTimer (b : Fin 4096)
  /-- PEER_LOSS_TIMEOUT (R347): No acknowledgement within the peer-loss time makes the peer lost, EV-0x1202. -/
  | peerLossTimeout (b : Fin 4096)
  /-- TWIN_HEARTBEAT (R350): Each twin sends a heartbeat flit every 1 µs. -/
  | twinHeartbeat
  /-- TWIN_LOSS_OF_SIGNAL (R350): Loss of signal on the twin link marks it down and sends a fabric probe. -/
  | twinLossOfSignal
  /-- TWIN_FLIT_TIMEOUT (R350): Four microseconds without a flit mark the twin link down and send a fabric probe. -/
  | twinFlitTimeout
  /-- TWIN_PROBE_TIMEOUT (R350): The probe goes unanswered; the partner becomes ABSENT and a member-loss notice is sent. -/
  | twinProbeTimeout
  /-- TWIN_FLIT_CRC_FAIL (R349): A twin flit failing CRC is resent from the replay buffer. -/
  | twinFlitCrcFail (flit : Nat)
  /-- SHADOW_DATA (R352): A shadow data record is written at its offset in the epoch's half. -/
  | shadowData (r : ShadowRecord)
  /-- SHADOW_COMMIT (R352): A shadow commit record makes its half current and signals the acknowledgement rennet. -/
  | shadowCommit (r : ShadowRecord)
  /-- SHADOW_ABORT (R352): A shadow abort record discards the epoch. -/
  | shadowAbort (r : ShadowRecord)
  /-- EXPORT_COMPLETE (R355): The shadow transfer ends and both packages raise EV-0x1208. -/
  | exportComplete
  /-- ENCODE_FRAME (R363): A frame record of kind encode frame reaches a slice with its surface. -/
  | encodeFrame (k : Fin 4) (r : FrameRecord)
  /-- DECODE_ACCESS_UNIT (R363): A frame record of kind decode access unit reaches a slice with its bytes. -/
  | decodeAccessUnit (k : Fin 4) (r : FrameRecord)
  /-- CODEC_CLOSE (R363): A close record releases a stream context. -/
  | codecClose (k : Fin 4) (r : FrameRecord)
  /-- BLOCK_ROW_START (R367): An engine starts a block row once the previous row ends and the row's data has arrived. -/
  | blockRowStart (k : Fin 4) (enc : Bool)
  /-- FRAME_OUTPUT (R366): A finished frame's output entry becomes visible and the frame rennet is signalled. -/
  | frameOutput (k : Fin 4) (enc : Bool)
  /-- RING_POLL (R365): A waiting engine rereads a ring's consumer index every 10 µs. -/
  | ringPoll (k : Fin 4) (enc : Bool) (consumer : Word)
  /-- KOP_READ (R374): READ message returns an entry's value, or its staged value. -/
  | kopRead (m : KopMsg)
  /-- KOP_WRITE (R377): WRITE message stages a generation entry or applies a volatile write. -/
  | kopWrite (m : KopMsg)
  /-- COMMIT (R385): COMMIT message snapshots staging for a target beat, or applies it at once when beats are absent. -/
  | commit (m : KopMsg)
  /-- RETURN (R387): RETURN message restores the previous generation's values at a target beat. -/
  | returnGeneration (m : KopMsg)
  /-- DISCARD (R384): DISCARD message empties the session's staging and cancels its pending commit. -/
  | discard (m : KopMsg)
  /-- STATUS (R379): STATUS message returns the current and previous generation and pending state. -/
  | kopStatus (m : KopMsg)
  /-- HELLO (R403): HELLO message starts a session handshake with a credential and ECDH point. -/
  | hello (m : KopMsg)
  /-- PROOF (R403): PROOF message completes the handshake and opens the session. -/
  | proofMessage (m : KopMsg)
  /-- SESSION_CLOSE (R403): CLOSE message closes a session. -/
  | sessionClose (m : KopMsg)
  /-- ATTEST (R405): ATTEST message returns a signed attestation report. -/
  | attest (m : KopMsg)
  /-- IMAGE (R397): IMAGE message places a piece of an image into its kind's slot. -/
  | imagePiece (m : KopMsg)
  /-- IMAGE_VERIFY_COMPLETE (R397): The security engine finishes verifying an image slot; valid slots start COLD units loading. -/
  | imageVerifyComplete (kind : Fin 6)
  /-- SESSION_IDLE_TIMEOUT (R403): A session with no request for the idle limit is closed. -/
  | sessionIdleTimeout (session : Nat)
  /-- PROOF_TIMEOUT (R403): A half-open session without PROOF within 1 s is discarded with EV-0x1502. -/
  | proofTimeout (session : Nat)
  /-- EVENT_ACKNOWLEDGE (R412): Operator write of 0x9010:02 acknowledges events up to a number. -/
  | eventAcknowledge (m : KopMsg)
  /-- VAT_RUN_STATE (R281): Write of 0x2029 sets a vat's run state for the next beat. -/
  | vatRunState (m : KopMsg)
  /-- ECHO_REQUEST (R316): Write of 0xB000:0A asks the master to echo a node for offset measurement. -/
  | echoRequest (m : KopMsg)
  /-- DEBUG_UNLOCK (R406): Maker write of 0xA000:05 clears secrets and data, extends the measurement and unlocks debug. -/
  | debugUnlock (m : KopMsg)
  /-- MACSEC_KEY_WRITE (R339): Installer write of 0xA300 installs a secure association key from the next beat. -/
  | macsecKeyWrite (m : KopMsg)
  /-- FUSE_WRITE (R377): Maker write of a fused entry programs its next fuse bank. -/
  | fuseWrite (m : KopMsg)
  /-- POWER_GOOD (R435): PWRGD rises; the boot ROM runs, straps are sampled and detected units enter COLD. -/
  | powerGood (p : PartStart)
  /-- POWER_LOSS (R425): PWRGD falls or a rail leaves tolerance; the package sends a notice and stops every clock. -/
  | powerLoss
  /-- THROTTLE_N_CHANGE (R430): THROTTLE_N changes level, setting or clearing the input duty. -/
  | throttleNChange (high : Bool)
  /-- POWER_SAMPLE (R429): Every 10 µs the package measures its draw and updates the 1 ms average. -/
  | powerSample (watts : Word)
  /-- CAP_DUTY_STEP (R429): The cap duty rises or falls by 1/64 on its timer as the average is above or below the cap. -/
  | capDutyStep
  /-- THERMAL_SAMPLE (R431): Every 100 µs the package reads die and stack temperatures. -/
  | thermalSample (t : ThermalReading)
  /-- THERMAL_DUTY_STEP (R431): The die or stack thermal duty rises or falls on its 1 ms timer. -/
  | thermalDutyStep
  /-- GATE_FRAME_BOUNDARY (R427): At each 64-cycle frame boundary the duty in force takes effect on every core. -/
  | gateFrameBoundary
  /-- PAIR_RECORD_TIMER (R438): Before beats run, twins exchange pair records every 1 ms, bringing the pair to READY. -/
  | pairRecordTimer
  /-- COMMAND_FRAME_WRITE (R282): A host write to an aperture frame that does not cover bytes 0-3 accumulates its bytes in the frame's assembly buffer. -/
  | commandFrameWrite (w : FrameWrite)
  /-- CROAK_HOLD_N_CHANGE (R309): The master samples CROAK_HOLD_N low or high and recounts the group's members in service or empties its set of standing hold notices. -/
  | croakHoldNChange (high : Bool)
  /-- CROAK_RDY_RELEASE (R308): Under ready policy 1, CROAK_RDY is sampled high during a stretch and the master starts the delayed beat symbol. -/
  | croakRdyRelease (now : Nat)
  /-- STRETCH_LIMIT_REACHED (R308): The stretch limit 0xB000:07 runs out while CROAK_RDY is low, so the master sends the symbol with STRETCHED set. -/
  | stretchLimitReached (now : Nat)
  /-- HOST_LINK_TRAINED (R334): Host port training completes at or above the minimum link and the link enters L0. -/
  | hostLinkTrained (rate : Nat) (width : Nat)
  /-- VF_ENABLE_WRITE (R324): A host write of NumVFs and VF Enable creates or removes virtual functions, which changes the BARs served and the requester IDs of vat traffic. -/
  | vfEnableWrite (num : Nat) (enable : Bool)
  /-- MSIX_VECTOR_UNMASK (R330): Unmasking a masked MSI-X vector with its pending bit set sends one message. -/
  | msixVectorUnmask (fn : FnNo) (w : VectorUnmask)
  /-- IDE_KEY_PROGRAMMING (R333): The host programs new IDE keys by IDE_KM, and the stream returns to the secure state and releases its held flows. -/
  | ideKeyProgramming (stream : Nat) (fn : FnNo)
  /-- TWIN_LINK_UP (R350): The twin link returns after being down, and the twins reconcile and resume waiting traffic and shadow records. -/
  | twinLinkUp (m : Reconcile)
  /-- TWIN_FAULT_NOTICE (R350): A fault notice arrives from the partner on the twin link and makes the partner ABSENT. -/
  | twinFaultNotice
  /-- TWIN_PIPE_FLIT (R346): Data and credit flits of a plain twin-link pipe (carrier 1, mode 0) are received into the inbound pipe. -/
  | twinPipeFlit (m : PipeFlit)
  /-- PAIR_RECORD_RECEIVE (R30): The partner's copy of the pair record arrives over the twin link at its beat and is held for reconciliation. -/
  | pairRecordReceive (r : PairRecord)
  /-- TWIN_AUDIT_RECORD_RECEIVE (R393): An audit record sent by the twin is received and stored at 0x9120 onward. -/
  | twinAuditRecordReceive (words : List Word)
  /-- DEBUG_UNLOCK_COMPLETE (R406): Up to 1 s after an accepted unlock write, clearing ends, the measurement is extended, debug unlocks and EV-0x1503 is raised. -/
  | debugUnlockComplete
  /-- TEST_ACCESS_PORT_CLOCK (R452): A TCK edge with debug unlocked advances the IEEE 1149.1 test access port from TMS, TDI and TRST_N. -/
  | testAccessPortClock (p : TapPins)
  /-- NEIGHBOUR_SOLICITATION (R337): A neighbour discovery message for a fabric port or management address is answered in hardware. -/
  | neighbourSolicitation (m : Solicitation)
  /-- PAUSE_FRAME_RECEIVE (R337): A received IEEE 802.3 pause or PFC frame is discarded and counted in 0x8800:07. -/
  | pauseFrameReceive (f : PauseFrame)
  deriving DecidableEq, Repr

end Sys2Proof
end

