-- ==== Sys2Proof/Config.lean ====
section
/-! DEFINITION. What an implementation fixes and what the spec leaves open: constants with no body. Nothing can be
proved of their values, so a claim that holds of the model holds whatever they are. -/
namespace Sys2Proof.Config

/-- Profile 0's choice for a function code at an FP32 input (R114: its bits are not published). The model keeps it
only where it meets the bound of Table 6-3. DESIGN CHOICE, assumption 1. -/
opaque profile0 : Nat → Word → Word

/-- The least input at which profile 0's result of a monotone function is at least a given FP32 value (R113, R114).
DESIGN CHOICE, assumption 1. -/
opaque profile0From : Nat → Word → Word

/-- The free values of the model, drawn in order by `State.freeIx`. DESIGN CHOICE, assumption 2. -/
opaque freeNat : Nat → Nat

/-- A shift of an index register by 64 or more, of XALU operation, value and amount: the spec states no result (R141).
DESIGN CHOICE, assumption 40. -/
opaque wideShift : Nat → DWord → DWord → DWord

/-- The number by which EV-0x0D02 and EV-0x0D03 name an agent (R242): the spec gives none. DESIGN CHOICE, assumption 91. -/
opaque agentCode : Nat → Nat

/-- What a part's fuses hold for an entry whose default the spec gives as per part (the variant, serial number, MAC addresses, vendor
identifier, maker key hash, identity key and certificate). DESIGN CHOICE, assumption 24. -/
opaque partFuse : Nat → Nat

/-- The length in bytes of the salt of RSASSA-PSS, which the spec does not state. DESIGN CHOICE, assumption 75. -/
opaque pssSalt : Nat

/-- The maker's modulus, of which a part holds the hash alone (R401). DESIGN CHOICE, assumption 28. -/
opaque makerModulus : (hash : List Byte) → List Byte

/-- The signature the package's identity key gives a message (R400, R405). -/
opaque identitySign : List Byte → List Byte

/-- The random number behind the package's ephemeral P-384 key (R403), keyed by a draw number. -/
opaque ecdhScalar : Nat → Nat

/-- Random bytes of the security engine (R403), keyed by a draw number. -/
opaque randomBytes : Nat → Nat → List Byte

/-- One superblock's statistics (Table 19-6): mean motion, costs, bits, QP and mode. -/
structure SbStat where
  motion : Word
  intra : Word
  inter : Word
  bits : BitVec 16
  qp : Byte
  mode : Byte
  deriving DecidableEq, Repr, Inhabited

/-- What the standards of Table 19-1 make of one frame or access unit, given the stream's records and bytes so far: the bit
stream or the surface, whether it is a key picture, whether a CBR stream's buffer would underflow, the block row at which an
error stops it, the nearest reference's surface, the average QP, the statistics, and whether the stream signals a
decoded picture buffer beyond eight pictures. DESIGN CHOICE, assumption 29. -/
structure CodecOut where
  payload : List Byte
  key : Bool
  underflow : Bool
  error : Option Nat
  reference : Option (List Byte)
  qp : Byte
  stats : List SbStat
  largeDpb : Bool
  deriving DecidableEq, Repr, Inhabited

/-- The coded frame of an input number, as a key frame or not, after the records of a stream (R361, R369). -/
opaque codecEncode : (stream : List (List Word × List Byte)) → (number : Nat) → (key : Bool) → CodecOut

/-- The same frame coded again at the codec's largest QP (R369). -/
opaque codecEncodeMax : (stream : List (List Word × List Byte)) → (number : Nat) → (key : Bool) → CodecOut

/-- What a frame that is dropped or skipped leaves for its statistics and its average QP, which no rule states. -/
opaque codecUncoded : (stream : List (List Word × List Byte)) → (number : Nat) → CodecOut

/-- The picture of a stream's last access unit (R361). -/
opaque codecDecode : (stream : List (List Word × List Byte)) → CodecOut

/-- How many decoded pictures leave in output order after a stream's last access unit. -/
opaque codecShown : (stream : List (List Word × List Byte)) → Nat

/-- Which of the frames or pictures that may leave leaves next: the coding or output order, which the standards fix. -/
opaque codecPick : (stream : List (List Word × List Byte)) → (left : Nat) → Nat

/-- Whether a stream's parameters meet those limits of the named profile and level that the standards state. -/
opaque codecLevelOk : (encode : Bool) → (parameters : List Word) → Bool

/-- A byte of the context area an engine keeps its state and reference surfaces in, whose layout the spec leaves open. -/
opaque codecAreaByte : Nat → Nat → Byte

/-- The boot ROM's bytes (R404). -/
opaque bootRom : List Byte

/-- The instruction code that selects the identification register, least significant bit first (R452). -/
opaque tapIdcode : List Bool

/-- What Capture-IR loads above the two low bits that IEEE 1149.1 fixes; its length with those two is the instruction's. -/
opaque tapIrCapture : List Bool

/-- Kypel's JEDEC manufacturer code and the identification code's top four bits (R452). -/
opaque jedecCode : BitVec 11
opaque tapVersion : BitVec 4

/-- What Capture-DR loads for an instruction the spec does not describe, keyed by a draw number. -/
opaque tapCapture : List Bool → Nat → List Bool

end Sys2Proof.Config
end

