-- ==== Sys2Proof/Machine/Entries.lean ====
section
/-! DEFINITION. The entry table of the object dictionary: every Index:Sub row the spec's tables give, with its type,
access by role (R381), persistence (R380) and default. Generated from no run: each row is a row of a spec table. -/
namespace Sys2Proof.Machine

/-- Which indices a row covers: absolute indices, or object k of every unit, an array, a core or a die (R21). -/
inductive EntrySpace where
  | abs
  | anyUnit
  | array
  | core
  | die
  deriving DecidableEq, Repr

/-- Persistence of an entry (R380). -/
inductive Persist where
  | volatile
  | generation
  | fused
  deriving DecidableEq, Repr

/-- Access of a role: RO, RW, WO or none (R381). -/
inductive Access where
  | ro
  | rw
  | wo
  | no
  deriving DecidableEq, Repr

/-- One row: index range (or object number), subindex range, type code, bytes (0 of variable length), access of
operator, installer and maker, persistence, default. -/
structure EntryRow where
  space : EntrySpace
  lo : Nat
  hi : Nat
  subLo : Nat
  subHi : Nat
  typ : Nat
  bytes : Nat
  o : Access
  i : Access
  m : Access
  pers : Persist
  dflt : Nat
  deriving DecidableEq, Repr

/-- Rows 0 to 39 of the entry table. -/
def entryRows0 : List EntryRow := [
  -- 0x1000:01 Product code
  ⟨.abs, 0x1000, 0x1000, 1, 1, 8, 0, .ro, .ro, .ro, .fused, 0⟩,
  -- 0x1000:02 Variant: by part (`entryDefault`)
  ⟨.abs, 0x1000, 0x1000, 2, 2, 0, 1, .ro, .ro, .ro, .fused, 0⟩,
  -- 0x1000:03 Stepping
  ⟨.abs, 0x1000, 0x1000, 3, 3, 0, 1, .ro, .ro, .ro, .fused, 0xB0⟩,
  -- 0x1000:04 Serial number
  ⟨.abs, 0x1000, 0x1000, 4, 4, 3, 8, .ro, .ro, .ro, .fused, 0⟩,
  -- 0x1001:01 Logical cores READY
  ⟨.abs, 0x1001, 0x1001, 1, 1, 0, 1, .ro, .ro, .ro, .volatile, 0x30⟩,
  -- 0x1001:02 ACLK frequency, MHz
  ⟨.abs, 0x1001, 0x1001, 2, 2, 1, 2, .ro, .ro, .ro, .volatile, 0x514⟩,
  -- 0x1001:03 FP8 MAC per ACLK cycle: READY arrays × 16,384
  ⟨.abs, 0x1001, 0x1001, 3, 3, 2, 4, .ro, .ro, .ro, .volatile, 0x300000⟩,
  -- 0x1001:04 HBM3E data capacity in service, MiB
  ⟨.abs, 0x1001, 0x1001, 4, 4, 2, 4, .ro, .ro, .ro, .volatile, 0x80000⟩,
  -- 0x1001:05 HBM3E stacks in service
  ⟨.abs, 0x1001, 0x1001, 5, 5, 0, 1, .ro, .ro, .ro, .volatile, 0xC⟩,
  -- 0x1001:06 Largest array latency, ACLK cycles
  ⟨.abs, 0x1001, 0x1001, 6, 6, 0, 1, .ro, .ro, .ro, .volatile, 0x18⟩,
  -- 0x2010:01–04 Logical map of die c: physical core of logical n in bits [4n
  ⟨.abs, 0x2010, 0x2010, 1, 4, 3, 8, .ro, .rw, .ro, .generation, 0xBA9876543210⟩,
  -- 0x2011:01–04 Auto-spare for die c
  ⟨.abs, 0x2011, 0x2011, 1, 4, 7, 1, .ro, .rw, .ro, .generation, 1⟩,
  -- U+0:01 Unit path
  ⟨.anyUnit, 0x0, 0x0, 1, 1, 1, 2, .ro, .ro, .ro, .fused, 0⟩,
  -- U+0:02 Logical number (cores), otherwise 0xFF
  ⟨.anyUnit, 0x0, 0x0, 2, 2, 0, 1, .ro, .ro, .ro, .generation, 0⟩,
  -- U+1:01 State (Table 2-5)
  ⟨.anyUnit, 0x1, 0x1, 1, 1, 0, 1, .ro, .ro, .ro, .volatile, 0⟩,
  -- U+1:02 State version
  ⟨.anyUnit, 0x1, 0x1, 2, 2, 1, 2, .ro, .ro, .ro, .volatile, 0⟩,
  -- U+1:03 Hold causes (Table 2-8)
  ⟨.anyUnit, 0x1, 0x1, 3, 3, 0, 1, .ro, .ro, .ro, .volatile, 0⟩,
  -- U+1:04 Beat of last state change
  ⟨.anyUnit, 0x1, 0x1, 4, 4, 3, 8, .ro, .ro, .ro, .volatile, 0⟩,
  -- U+1:05 Members in service
  ⟨.anyUnit, 0x1, 0x1, 5, 5, 1, 2, .ro, .ro, .ro, .volatile, 0⟩,
  -- U+1:06 Service minimum
  ⟨.anyUnit, 0x1, 0x1, 6, 6, 1, 2, .ro, .rw, .ro, .generation, 0⟩,
  -- U+1:07 Drain limit, µs
  ⟨.anyUnit, 0x1, 0x1, 7, 7, 2, 4, .ro, .rw, .ro, .generation, 0x3E8⟩,
  -- U+2:01 Operation code (Table 2-7)
  ⟨.anyUnit, 0x2, 0x2, 1, 1, 0, 1, .wo, .wo, .no, .volatile, 0⟩,
  -- U+2:02 Target beat; 0 means the next beat
  ⟨.anyUnit, 0x2, 0x2, 2, 2, 3, 8, .wo, .wo, .no, .volatile, 0⟩,
  -- U+2:03 Expected state version
  ⟨.anyUnit, 0x2, 0x2, 3, 3, 1, 2, .wo, .wo, .no, .volatile, 0⟩,
  -- U+2:04 Operation status: 0 none, 1 pending, 2 done, 3 refused
  ⟨.anyUnit, 0x2, 0x2, 4, 4, 0, 1, .ro, .ro, .ro, .volatile, 0⟩,
  -- U+3:01–0x08 Frozen holdings, one per conserved pool
  ⟨.anyUnit, 0x3, 0x3, 1, 8, 2, 4, .ro, .ro, .ro, .volatile, 0⟩,
  -- U+4:01 State transitions since start-up (48-bit, saturating)
  ⟨.anyUnit, 0x4, 0x4, 1, 1, 3, 8, .ro, .ro, .ro, .volatile, 0⟩,
  -- U+4:02 Divergences since start-up (48-bit, saturating)
  ⟨.anyUnit, 0x4, 0x4, 2, 2, 3, 8, .ro, .ro, .ro, .volatile, 0⟩,
  -- U+5:01 Hash of loaded image, SHA-512
  ⟨.anyUnit, 0x5, 0x5, 1, 1, 9, 64, .ro, .ro, .ro, .volatile, 0⟩,
  -- 0x8100+n:01 Spills
  ⟨.abs, 0x8100, 0x8133, 1, 1, 3, 8, .ro, .ro, .ro, .volatile, 0⟩,
  -- 0x8100+n:02 Reloads
  ⟨.abs, 0x8100, 0x8133, 2, 2, 3, 8, .ro, .ro, .ro, .volatile, 0⟩,
  -- 0x8100+n:03 Throttle-gated ACLK cycles
  ⟨.abs, 0x8100, 0x8133, 3, 3, 3, 8, .ro, .ro, .ro, .volatile, 0⟩,
  -- 0x8100+n:04 Instructions that set an overflow flag
  ⟨.abs, 0x8100, 0x8133, 4, 4, 3, 8, .ro, .ro, .ro, .volatile, 0⟩,
  -- U+6:01 Factory-retired physical row, first; 0xFF none
  ⟨.array, 0x6, 0x6, 1, 1, 0, 1, .ro, .ro, .rw, .fused, 0⟩,
  -- U+6:02 Factory-retired physical row, second; 0xFF none
  ⟨.array, 0x6, 0x6, 2, 2, 0, 1, .ro, .ro, .rw, .fused, 0⟩,
  -- U+6:03 Field-retired physical row, first; 0xFF none
  ⟨.array, 0x6, 0x6, 3, 3, 0, 1, .ro, .rw, .ro, .generation, 0xFF⟩,
  -- U+6:04 Field-retired physical row, second; 0xFF none
  ⟨.array, 0x6, 0x6, 4, 4, 0, 1, .ro, .rw, .ro, .generation, 0xFF⟩,
  -- U+6:05 Spare rows in use, 0–2
  ⟨.array, 0x6, 0x6, 5, 5, 0, 1, .ro, .ro, .ro, .volatile, 0⟩,
  -- U+6:06 Array latency L, ACLK cycles
  ⟨.array, 0x6, 0x6, 6, 6, 0, 1, .ro, .ro, .ro, .volatile, 0x18⟩,
  -- U+6:07 Physical row that failed the last self-test; 0xFF none
  ⟨.array, 0x6, 0x6, 7, 7, 0, 1, .ro, .ro, .ro, .volatile, 0xFF⟩]

/-- Rows 40 to 79 of the entry table. -/
def entryRows1 : List EntryRow := [
  -- U+7:01 Corrected errors in slot storage and feeders (48-bit, satura
  ⟨.array, 0x7, 0x7, 1, 1, 3, 8, .ro, .ro, .ro, .volatile, 0⟩,
  -- U+7:02 Uncorrectable operand faults (48-bit, saturating)
  ⟨.array, 0x7, 0x7, 2, 2, 3, 8, .ro, .ro, .ro, .volatile, 0⟩,
  -- U+9:01 Factory-retired lane groups, bits [8:0]
  ⟨.core, 0x9, 0x9, 1, 1, 1, 2, .ro, .ro, .rw, .fused, 0⟩,
  -- U+9:02 Field-retired lane groups, bits [8:0]
  ⟨.core, 0x9, 0x9, 2, 2, 1, 2, .ro, .rw, .ro, .generation, 0⟩,
  -- U+9:03 Lane mode: 128 or 64
  ⟨.core, 0x9, 0x9, 3, 3, 0, 1, .ro, .ro, .ro, .volatile, 0x80⟩,
  -- U+9:04 Vector cycle multiplier: 1 or 2
  ⟨.core, 0x9, 0x9, 4, 4, 0, 1, .ro, .ro, .ro, .volatile, 1⟩,
  -- U+9:05 Lane group that failed the last self-test or faulted; 0xFF n
  ⟨.core, 0x9, 0x9, 5, 5, 0, 1, .ro, .ro, .ro, .volatile, 0xFF⟩,
  -- U+9:06 Corrected errors in registers and lanes (48-bit, saturating)
  ⟨.core, 0x9, 0x9, 6, 6, 3, 8, .ro, .ro, .ro, .volatile, 0⟩,
  -- 0x1002:01 Profiles supported, bit k for profile k
  ⟨.abs, 0x1002, 0x1002, 1, 1, 0, 1, .ro, .ro, .ro, .fused, 3⟩,
  -- 0x1002:02 Profile 1 definition version
  ⟨.abs, 0x1002, 0x1002, 2, 2, 1, 2, .ro, .ro, .ro, .fused, 1⟩,
  -- 0x1002:03 Profile 0 revision
  ⟨.abs, 0x1002, 0x1002, 3, 3, 1, 2, .ro, .ro, .ro, .fused, 0xB000⟩,
  -- U+8:01 Instructions issued (48-bit, saturating)
  ⟨.core, 0x8, 0x8, 1, 1, 3, 8, .ro, .ro, .ro, .volatile, 0⟩,
  -- U+8:02 Pre-emption intervals over 8,192 (48-bit, saturating)
  ⟨.core, 0x8, 0x8, 2, 2, 3, 8, .ro, .ro, .ro, .volatile, 0⟩,
  -- U+8:03 Longest pre-emption interval measured, ACLK cycles
  ⟨.core, 0x8, 0x8, 3, 3, 2, 4, .ro, .ro, .ro, .volatile, 0⟩,
  -- U+8:04 Word number of the last program fault; 0xFFFF none
  ⟨.core, 0x8, 0x8, 4, 4, 1, 2, .ro, .ro, .ro, .volatile, 0xFFFF⟩,
  -- U+15:01–08 Version tag in force, expansion tables 0–7
  ⟨.core, 0xF, 0xF, 1, 8, 1, 2, .ro, .ro, .ro, .volatile, 0⟩,
  -- U+15:09–10 Version tag in force, custom tables 0–7
  ⟨.core, 0xF, 0xF, 9, 16, 1, 2, .ro, .ro, .ro, .volatile, 0⟩,
  -- U+10:01 Sweep occupancy cycles (48-bit, saturating)
  ⟨.core, 0xA, 0xA, 1, 1, 3, 8, .ro, .ro, .ro, .volatile, 0⟩,
  -- U+10:02 Array-cycles of disabled arrays during sweeps (48-bit, satur
  ⟨.core, 0xA, 0xA, 2, 2, 3, 8, .ro, .ro, .ro, .volatile, 0⟩,
  -- U+10:03 Padded activation row-steps in enabled arrays (48-bit, satur
  ⟨.core, 0xA, 0xA, 3, 3, 3, 8, .ro, .ro, .ro, .volatile, 0⟩,
  -- U+10:04 Padded weight row-steps (48-bit, saturating)
  ⟨.core, 0xA, 0xA, 4, 4, 3, 8, .ro, .ro, .ro, .volatile, 0⟩,
  -- U+10:05 Padded reduction steps (48-bit, saturating)
  ⟨.core, 0xA, 0xA, 5, 5, 3, 8, .ro, .ro, .ro, .volatile, 0⟩,
  -- 0xD800:01–10 Pool first frame
  ⟨.abs, 0xD800, 0xD800, 1, 16, 2, 4, .ro, .rw, .ro, .generation, 0⟩,
  -- 0xD801:01–10 Pool frames
  ⟨.abs, 0xD801, 0xD801, 1, 16, 2, 4, .ro, .rw, .ro, .generation, 0⟩,
  -- 0xD802:01–10 Node table base, 8 KiB aligned
  ⟨.abs, 0xD802, 0xD802, 1, 16, 3, 8, .ro, .rw, .ro, .generation, 0⟩,
  -- 0xD803:01–10 Node table capacity, nodes
  ⟨.abs, 0xD803, 0xD803, 1, 16, 2, 4, .ro, .rw, .ro, .generation, 0⟩,
  -- 0xD804:01–10 Staging base
  ⟨.abs, 0xD804, 0xD804, 1, 16, 3, 8, .ro, .rw, .ro, .generation, 0⟩,
  -- 0xD805:01–10 Staging stride per slot, bytes
  ⟨.abs, 0xD805, 0xD805, 1, 16, 2, 4, .ro, .rw, .ro, .generation, 0⟩,
  -- 0xD806:01–10 Swap area host address
  ⟨.abs, 0xD806, 0xD806, 1, 16, 3, 8, .ro, .ro, .ro, .volatile, 0⟩,
  -- 0xD807:01–10 Swap area frames
  ⟨.abs, 0xD807, 0xD807, 1, 16, 2, 4, .ro, .ro, .ro, .volatile, 0⟩,
  -- 0xD808:01–10 Step mask address
  ⟨.abs, 0xD808, 0xD808, 1, 16, 3, 8, .ro, .rw, .ro, .generation, 0⟩,
  -- 0xD810:01–10 Free pages
  ⟨.abs, 0xD810, 0xD810, 1, 16, 2, 4, .ro, .ro, .ro, .volatile, 0⟩,
  -- 0xD811:01–10 Held pages
  ⟨.abs, 0xD811, 0xD811, 1, 16, 2, 4, .ro, .ro, .ro, .volatile, 0⟩,
  -- 0xD812:01–10 Inbound and outbound pages
  ⟨.abs, 0xD812, 0xD812, 1, 16, 2, 4, .ro, .ro, .ro, .volatile, 0⟩,
  -- 0xD813:01–10 Host frames in use
  ⟨.abs, 0xD813, 0xD813, 1, 16, 2, 4, .ro, .ro, .ro, .volatile, 0⟩,
  -- 0xD814:01–10 Live nodes
  ⟨.abs, 0xD814, 0xD814, 1, 16, 2, 4, .ro, .ro, .ro, .volatile, 0⟩,
  -- 0xD820:01–40 Page record (Table 9-7)
  ⟨.abs, 0xD820, 0xD820, 1, 64, 10, 64, .ro, .ro, .ro, .volatile, 0⟩,
  -- 0x8300:01 Prefix blocks matched
  ⟨.abs, 0x8300, 0x8300, 1, 1, 3, 8, .ro, .ro, .ro, .volatile, 0⟩,
  -- 0x8300:02 Joins stopped by a miss
  ⟨.abs, 0x8300, 0x8300, 2, 2, 3, 8, .ro, .ro, .ro, .volatile, 0⟩,
  -- 0x8300:03 Blocks inserted
  ⟨.abs, 0x8300, 0x8300, 3, 3, 3, 8, .ro, .ro, .ro, .volatile, 0⟩]

/-- Rows 80 to 119 of the entry table. -/
def entryRows2 : List EntryRow := [
  -- 0x8300:04 Insertions skipped
  ⟨.abs, 0x8300, 0x8300, 4, 4, 3, 8, .ro, .ro, .ro, .volatile, 0⟩,
  -- 0x8300:05 Nodes evicted
  ⟨.abs, 0x8300, 0x8300, 5, 5, 3, 8, .ro, .ro, .ro, .volatile, 0⟩,
  -- 0x8300:06 Pages swapped out
  ⟨.abs, 0x8300, 0x8300, 6, 6, 3, 8, .ro, .ro, .ro, .volatile, 0⟩,
  -- 0x8300:07 Pages swapped in
  ⟨.abs, 0x8300, 0x8300, 7, 7, 3, 8, .ro, .ro, .ro, .volatile, 0⟩,
  -- 0x8300:08 Flush saturations
  ⟨.abs, 0x8300, 0x8300, 8, 8, 3, 8, .ro, .ro, .ro, .volatile, 0⟩,
  -- 0x8300:09 Flush non-finite values
  ⟨.abs, 0x8300, 0x8300, 9, 9, 3, 8, .ro, .ro, .ro, .volatile, 0⟩,
  -- 0x8300:0A Flush flushes to zero
  ⟨.abs, 0x8300, 0x8300, 10, 10, 3, 8, .ro, .ro, .ro, .volatile, 0⟩,
  -- 0x8300:0B Hash collisions
  ⟨.abs, 0x8300, 0x8300, 11, 11, 3, 8, .ro, .ro, .ro, .volatile, 0⟩,
  -- 0x8300:0C Sequences parked
  ⟨.abs, 0x8300, 0x8300, 12, 12, 3, 8, .ro, .ro, .ro, .volatile, 0⟩,
  -- U+11:01 Blocks packed (48-bit, saturating)
  ⟨.core, 0xB, 0xB, 1, 1, 3, 8, .ro, .ro, .ro, .volatile, 0⟩,
  -- U+11:02 Zero elements dropped (48-bit, saturating)
  ⟨.core, 0xB, 0xB, 2, 2, 3, 8, .ro, .ro, .ro, .volatile, 0⟩,
  -- U+11:03 Compressed bytes written (48-bit, saturating)
  ⟨.core, 0xB, 0xB, 3, 3, 3, 8, .ro, .ro, .ro, .volatile, 0⟩,
  -- U+11:04 Blocks unpacked (48-bit, saturating)
  ⟨.core, 0xB, 0xB, 4, 4, 3, 8, .ro, .ro, .ro, .volatile, 0⟩,
  -- 0x2040:01–10 Seed in force
  ⟨.abs, 0x2040, 0x2040, 1, 16, 3, 8, .ro, .ro, .no, .volatile, 0⟩,
  -- 0x2041:01–10 Key check: word o0 of the counter (0, 0, 0, 0) under the key
  ⟨.abs, 0x2041, 0x2041, 1, 16, 2, 4, .ro, .ro, .no, .volatile, 0⟩,
  -- U+12:01 Source: 0 cipher, 1 fallback
  ⟨.core, 0xC, 0xC, 1, 1, 0, 1, .ro, .ro, .ro, .volatile, 0⟩,
  -- U+12:02 Retire the cipher: 0 no, 1 yes
  ⟨.core, 0xC, 0xC, 2, 2, 0, 1, .ro, .rw, .ro, .generation, 0⟩,
  -- U+12:03 Known answer that failed the last self-test; 0xFF none
  ⟨.core, 0xC, 0xC, 3, 3, 0, 1, .ro, .ro, .ro, .volatile, 0xFF⟩,
  -- U+12:04 Culture occupancy multiplier: 1 or 4
  ⟨.core, 0xC, 0xC, 4, 4, 0, 1, .ro, .ro, .ro, .volatile, 1⟩,
  -- U+12:05 Fallback draws (48-bit, saturating)
  ⟨.core, 0xC, 0xC, 5, 5, 3, 8, .ro, .ro, .ro, .volatile, 0⟩,
  -- U+12:06 Cipher draws (48-bit, saturating)
  ⟨.core, 0xC, 0xC, 6, 6, 3, 8, .ro, .ro, .ro, .volatile, 0⟩,
  -- 0x8200:01–10 Verdict record address
  ⟨.abs, 0x8200, 0x8200, 1, 16, 3, 8, .ro, .rw, .ro, .generation, 0⟩,
  -- 0x8201:01–10 Saturation limit
  ⟨.abs, 0x8201, 0x8201, 1, 16, 2, 4, .ro, .rw, .ro, .generation, 0xFFFFFFFF⟩,
  -- 0x8202:01–10 Initial loss scale
  ⟨.abs, 0x8202, 0x8202, 1, 16, 6, 4, .ro, .rw, .ro, .generation, 0x47000000⟩,
  -- 0x8203:01–10 Minimum loss scale
  ⟨.abs, 0x8203, 0x8203, 1, 16, 6, 4, .ro, .rw, .ro, .generation, 0x3F800000⟩,
  -- 0x8204:01–10 Maximum loss scale
  ⟨.abs, 0x8204, 0x8204, 1, 16, 6, 4, .ro, .rw, .ro, .generation, 0x4B800000⟩,
  -- 0x8205:01–10 Growth interval, good steps
  ⟨.abs, 0x8205, 0x8205, 1, 16, 2, 4, .ro, .rw, .ro, .generation, 0x7D0⟩,
  -- 0x8206:01–10 Loss scale in force
  ⟨.abs, 0x8206, 0x8206, 1, 16, 6, 4, .ro, .ro, .ro, .volatile, 0⟩,
  -- 0x8207:01–10 Last sealed sequence
  ⟨.abs, 0x8207, 0x8207, 1, 16, 2, 4, .ro, .ro, .ro, .volatile, 0⟩,
  -- 0x8208:01–10 Last sealed BAD bit
  ⟨.abs, 0x8208, 0x8208, 1, 16, 7, 1, .ro, .ro, .ro, .volatile, 0⟩,
  -- 0x8209:01–10 Skipped steps (48-bit, saturating)
  ⟨.abs, 0x8209, 0x8209, 1, 16, 3, 8, .ro, .ro, .ro, .volatile, 0⟩,
  -- 0xD000:01 Interleave mask, bit d for die d
  ⟨.abs, 0xD000, 0xD000, 1, 1, 0, 1, .ro, .rw, .ro, .generation, 0xF⟩,
  -- 0xD000:02 Interleave boundary I, 4 GiB units, 0–32
  ⟨.abs, 0xD000, 0xD000, 2, 2, 0, 1, .ro, .rw, .ro, .generation, 0x20⟩,
  -- 0xD000:03 Shadow size S, 4 GiB units, 0–64
  ⟨.abs, 0xD000, 0xD000, 3, 3, 0, 1, .ro, .rw, .ro, .generation, 0⟩,
  -- 0xD000:04 Scrub period, s
  ⟨.abs, 0xD000, 0xD000, 4, 4, 2, 4, .ro, .rw, .ro, .generation, 0xE10⟩,
  -- 0xD000:05 Corrected-error threshold per set per pass
  ⟨.abs, 0xD000, 0xD000, 5, 5, 2, 4, .ro, .rw, .ro, .generation, 0x400⟩,
  -- 0xD000:06 Interleaved window limit L, bytes
  ⟨.abs, 0xD000, 0xD000, 6, 6, 3, 8, .ro, .ro, .ro, .volatile, 0x8000000000⟩,
  -- 0xD000:07 Shadow move: granules still to copy; 0 when no move is in pr
  ⟨.abs, 0xD000, 0xD000, 7, 7, 2, 4, .ro, .ro, .ro, .volatile, 0⟩,
  -- 0xD010+v:01–08 Regions of vat v (Table 13-5)
  ⟨.abs, 0xD010, 0xD01F, 1, 8, 10, 16, .ro, .rw, .ro, .generation, 0⟩,
  -- 0xD030+d:01–10 Slice of vat v at die d, sixty-fourths
  ⟨.abs, 0xD030, 0xD033, 1, 16, 0, 1, .ro, .rw, .ro, .generation, 0x40⟩]

/-- Rows 120 to 159 of the entry table. -/
def entryRows3 : List EntryRow := [
  -- 0xD030+d:11 Shadow slice at die d
  ⟨.abs, 0xD030, 0xD033, 17, 17, 0, 1, .ro, .rw, .ro, .generation, 0⟩,
  -- 0xD040+d:01 Die memory state: 0 in service, 1 relocating, 2 one set reti
  ⟨.abs, 0xD040, 0xD043, 1, 1, 0, 1, .ro, .ro, .ro, .volatile, 0⟩,
  -- 0xD040+d:02 Retired set; 0xFF none
  ⟨.abs, 0xD040, 0xD043, 2, 2, 0, 1, .ro, .rw, .ro, .generation, 0xFF⟩,
  -- 0xD040+d:03 Relocation mode: 0 copy, 1 poison
  ⟨.abs, 0xD040, 0xD043, 3, 3, 0, 1, .ro, .rw, .ro, .generation, 0⟩,
  -- 0xD040+d:04 Memory withdrawn
  ⟨.abs, 0xD040, 0xD043, 4, 4, 7, 1, .ro, .rw, .ro, .generation, 0⟩,
  -- 0xD040+d:05 Granules relocated
  ⟨.abs, 0xD040, 0xD043, 5, 5, 2, 4, .ro, .ro, .ro, .volatile, 0⟩,
  -- 0xD040+d:06 Corrected errors, by set: sub 0x10 + p
  ⟨.abs, 0xD040, 0xD043, 6, 6, 3, 8, .ro, .ro, .ro, .volatile, 0⟩,
  -- 0xD040+d:07 Uncorrectable errors
  ⟨.abs, 0xD040, 0xD043, 7, 7, 3, 8, .ro, .ro, .ro, .volatile, 0⟩,
  -- 0xD040+d:08 Scrub passes completed; bit [62] set while a pass is overrun
  ⟨.abs, 0xD040, 0xD043, 8, 8, 3, 8, .ro, .ro, .ro, .volatile, 0⟩,
  -- 0xD050+s:01 Stack state: 0 in service, 1 idle, 2 failed
  ⟨.abs, 0xD050, 0xD05B, 1, 1, 0, 1, .ro, .ro, .ro, .volatile, 0⟩,
  -- 0xD050+s:02 Corrected errors
  ⟨.abs, 0xD050, 0xD05B, 2, 2, 3, 8, .ro, .ro, .ro, .volatile, 0⟩,
  -- 0xD050+s:03 Uncorrectable errors
  ⟨.abs, 0xD050, 0xD05B, 3, 3, 3, 8, .ro, .ro, .ro, .volatile, 0⟩,
  -- 0xD050+s:04 Stack on-die ECC corrections reported
  ⟨.abs, 0xD050, 0xD05B, 4, 4, 3, 8, .ro, .ro, .ro, .volatile, 0⟩,
  -- 0xD050+s:05 Stack temperature, °C
  ⟨.abs, 0xD050, 0xD05B, 5, 5, 4, 4, .ro, .ro, .ro, .volatile, 0⟩,
  -- 0x2044:01–10 First Culture stream
  ⟨.abs, 0x2044, 0x2044, 1, 16, 2, 4, .ro, .rw, .ro, .generation, 0⟩,
  -- 0x2045:01–10 Culture stream count
  ⟨.abs, 0x2045, 0x2045, 1, 16, 2, 4, .ro, .rw, .ro, .generation, 0x10000000⟩,
  -- 0x2050:01–10 First rennet
  ⟨.abs, 0x2050, 0x2050, 1, 16, 1, 2, .ro, .rw, .ro, .generation, 0⟩,
  -- 0x2051:01–10 Rennet count
  ⟨.abs, 0x2051, 0x2051, 1, 16, 2, 4, .ro, .rw, .ro, .generation, 0x10000⟩,
  -- 0x2100–0x2107 Pipe records (Table 14-1)
  ⟨.abs, 0x2100, 0x2107, 1, 128, 10, 32, .ro, .ro, .ro, .volatile, 0⟩,
  -- 0x2108:01–05 Pipe-end reserve, MiB, for C0–C3 and H
  ⟨.abs, 0x2108, 0x2108, 1, 5, 0, 1, .ro, .rw, .ro, .generation, 4⟩,
  -- 0x2200–0x23FF Rennet records (Table 14-2)
  ⟨.abs, 0x2200, 0x23FF, 1, 128, 10, 16, .ro, .ro, .ro, .volatile, 0⟩,
  -- 0x8400:01 Local signals refused
  ⟨.abs, 0x8400, 0x8400, 1, 1, 3, 8, .ro, .ro, .ro, .volatile, 0⟩,
  -- 0x8400:02 Remote signals sent
  ⟨.abs, 0x8400, 0x8400, 2, 2, 3, 8, .ro, .ro, .ro, .volatile, 0⟩,
  -- 0x8400:03 Remote signals refused full
  ⟨.abs, 0x8400, 0x8400, 3, 3, 3, 8, .ro, .ro, .ro, .volatile, 0⟩,
  -- 0x8400:04 Remote signals refused permanently
  ⟨.abs, 0x8400, 0x8400, 4, 4, 3, 8, .ro, .ro, .ro, .volatile, 0⟩,
  -- 0x8400:05 Duplicate remote signals
  ⟨.abs, 0x8400, 0x8400, 5, 5, 3, 8, .ro, .ro, .ro, .volatile, 0⟩,
  -- 0x8400:06 Reconciliations
  ⟨.abs, 0x8400, 0x8400, 6, 6, 3, 8, .ro, .ro, .ro, .volatile, 0⟩,
  -- 0x8400:07 Whey packets written
  ⟨.abs, 0x8400, 0x8400, 7, 7, 3, 8, .ro, .ro, .ro, .volatile, 0⟩,
  -- 0x8400:08 Packets read by cut-through
  ⟨.abs, 0x8400, 0x8400, 8, 8, 3, 8, .ro, .ro, .ro, .volatile, 0⟩,
  -- 0x9020:01–08 Holdings lost with peers, per pool of Table 14-5
  ⟨.abs, 0x9020, 0x9020, 1, 8, 3, 8, .ro, .ro, .ro, .volatile, 0⟩,
  -- 0x9021:01–08 Conservation faults, per pool
  ⟨.abs, 0x9021, 0x9021, 1, 8, 3, 8, .ro, .ro, .ro, .volatile, 0⟩,
  -- 0x2020:01–10 Vat enabled
  ⟨.abs, 0x2020, 0x2020, 1, 16, 7, 1, .ro, .rw, .ro, .generation, 0⟩,
  -- 0x2021:01–10 Logical cores, bit q for vat-space core q (R18)
  ⟨.abs, 0x2021, 0x2021, 1, 16, 3, 8, .ro, .rw, .ro, .generation, 0xFFFFFFFFFFFF⟩,
  -- 0x2022:01–10 First dispatch slot
  ⟨.abs, 0x2022, 0x2022, 1, 16, 1, 2, .ro, .rw, .ro, .generation, 0⟩,
  -- 0x2023:01–10 Dispatch slot count
  ⟨.abs, 0x2023, 0x2023, 1, 16, 1, 2, .ro, .rw, .ro, .generation, 0x1000⟩,
  -- 0x2024:01–10 First result slot
  ⟨.abs, 0x2024, 0x2024, 1, 16, 1, 2, .ro, .rw, .ro, .generation, 0⟩,
  -- 0x2025:01–10 Result slot count
  ⟨.abs, 0x2025, 0x2025, 1, 16, 1, 2, .ro, .rw, .ro, .generation, 0x1000⟩,
  -- 0x2026:01–10 First batch slot
  ⟨.abs, 0x2026, 0x2026, 1, 16, 0, 1, .ro, .rw, .ro, .generation, 0⟩,
  -- 0x2027:01–10 Batch slot count
  ⟨.abs, 0x2027, 0x2027, 1, 16, 0, 1, .ro, .rw, .ro, .generation, 0x40⟩,
  -- 0x2028:01–10 Hub functions, bit s for sub-unit s (Table 2-2)
  ⟨.abs, 0x2028, 0x2028, 1, 16, 1, 2, .ro, .rw, .ro, .generation, 0xFFFF⟩]

/-- Rows 160 to 199 of the entry table. -/
def entryRows4 : List EntryRow := [
  -- 0x2029:01–10 Run state: 0 stopped, 1 running
  ⟨.abs, 0x2029, 0x2029, 1, 16, 0, 1, .rw, .rw, .no, .volatile, 0⟩,
  -- 0x202A:01–10 Context pace, bytes per ACLK cycle per core, 1–1,023
  ⟨.abs, 0x202A, 0x202A, 1, 16, 1, 2, .ro, .rw, .ro, .generation, 0x80⟩,
  -- U+13:01 Program tag
  ⟨.core, 0xD, 0xD, 1, 1, 2, 4, .ro, .ro, .ro, .volatile, 0⟩,
  -- U+13:02 Result slot of the running launch; 0xFFFF none
  ⟨.core, 0xD, 0xD, 2, 2, 1, 2, .ro, .ro, .ro, .volatile, 0xFFFF⟩,
  -- 0x8500+v:01 Commands taken
  ⟨.abs, 0x8500, 0x850F, 1, 1, 3, 8, .ro, .ro, .ro, .volatile, 0⟩,
  -- 0x8500+v:02 Commands refused
  ⟨.abs, 0x8500, 0x850F, 2, 2, 3, 8, .ro, .ro, .ro, .volatile, 0⟩,
  -- 0x8500+v:03 Commands dropped
  ⟨.abs, 0x8500, 0x850F, 3, 3, 3, 8, .ro, .ro, .ro, .volatile, 0⟩,
  -- 0x8500+v:04 Launches ended
  ⟨.abs, 0x8500, 0x850F, 4, 4, 3, 8, .ro, .ro, .ro, .volatile, 0⟩,
  -- 0x8500+v:05 Overruns
  ⟨.abs, 0x8500, 0x850F, 5, 5, 3, 8, .ro, .ro, .ro, .volatile, 0⟩,
  -- 0x8500+v:06 Launches pre-empted
  ⟨.abs, 0x8500, 0x850F, 6, 6, 3, 8, .ro, .ro, .ro, .volatile, 0⟩,
  -- 0x8500+v:07 Stale releases
  ⟨.abs, 0x8500, 0x850F, 7, 7, 3, 8, .ro, .ro, .ro, .volatile, 0⟩,
  -- 0x8500+v:08 Join deferrals
  ⟨.abs, 0x8500, 0x850F, 8, 8, 3, 8, .ro, .ro, .ro, .volatile, 0⟩,
  -- 0xB000:01 Source mode (Table 16-3)
  ⟨.abs, 0xB000, 0xB000, 1, 1, 0, 1, .ro, .rw, .ro, .generation, 0⟩,
  -- 0xB000:02 Node number, 0–31
  ⟨.abs, 0xB000, 0xB000, 2, 2, 0, 1, .ro, .rw, .ro, .generation, 0⟩,
  -- 0xB000:03 Beat period P, µs, 50–60,000,000
  ⟨.abs, 0xB000, 0xB000, 3, 3, 2, 4, .ro, .rw, .ro, .generation, 0x2710⟩,
  -- 0xB000:04 Member offset, ns, −1,000 to +1,000
  ⟨.abs, 0xB000, 0xB000, 4, 4, 4, 4, .ro, .rw, .ro, .generation, 0⟩,
  -- 0xB000:05 Epoch E, ns of IEEE 1588 time
  ⟨.abs, 0xB000, 0xB000, 5, 5, 3, 8, .ro, .rw, .ro, .generation, 0⟩,
  -- 0xB000:06 Ready policy: 0 record, 1 stretch
  ⟨.abs, 0xB000, 0xB000, 6, 6, 0, 1, .ro, .rw, .ro, .generation, 0⟩,
  -- 0xB000:07 Stretch limit, µs
  ⟨.abs, 0xB000, 0xB000, 7, 7, 2, 4, .ro, .rw, .ro, .generation, 0⟩,
  -- 0xB000:08 Missed-beat limit, 1–255
  ⟨.abs, 0xB000, 0xB000, 8, 8, 0, 1, .ro, .rw, .ro, .generation, 3⟩,
  -- 0xB000:09 Expected members, bit per node
  ⟨.abs, 0xB000, 0xB000, 9, 9, 2, 4, .ro, .rw, .ro, .generation, 1⟩,
  -- 0xB000:0A Echo request node; 0xFF none
  ⟨.abs, 0xB000, 0xB000, 10, 10, 0, 1, .ro, .rw, .ro, .volatile, 0xFF⟩,
  -- 0xB000:0C Ready-gate vats, bit per vat
  ⟨.abs, 0xB000, 0xB000, 12, 12, 1, 2, .ro, .rw, .ro, .generation, 0⟩,
  -- 0xB010:01 Current beat
  ⟨.abs, 0xB010, 0xB010, 1, 1, 3, 8, .ro, .ro, .ro, .volatile, 0⟩,
  -- 0xB010:02 Instant of the current beat, local time, ns
  ⟨.abs, 0xB010, 0xB010, 2, 2, 3, 8, .ro, .ro, .ro, .volatile, 0⟩,
  -- 0xB010:03 Servo offset from IEEE 1588 time, ns
  ⟨.abs, 0xB010, 0xB010, 3, 3, 5, 8, .ro, .ro, .ro, .volatile, 0⟩,
  -- 0xB010:04 CROAK_RDY at the last sample
  ⟨.abs, 0xB010, 0xB010, 4, 4, 7, 1, .ro, .ro, .ro, .volatile, 0⟩,
  -- 0xB010:05 Beat state: 0 locked, 1 missing, 2 stopped, 3 holdover
  ⟨.abs, 0xB010, 0xB010, 5, 5, 0, 1, .ro, .ro, .ro, .volatile, 2⟩,
  -- 0xB011:01–20 Echo delay d of node n, ps
  ⟨.abs, 0xB011, 0xB011, 1, 32, 2, 4, .ro, .ro, .ro, .volatile, 0⟩,
  -- 0x8600:01 Symbols accepted
  ⟨.abs, 0x8600, 0x8600, 1, 1, 3, 8, .ro, .ro, .ro, .volatile, 0⟩,
  -- 0x8600:02 Symbols discarded
  ⟨.abs, 0x8600, 0x8600, 2, 2, 3, 8, .ro, .ro, .ro, .volatile, 0⟩,
  -- 0x8600:03 Beats missed
  ⟨.abs, 0x8600, 0x8600, 3, 3, 3, 8, .ro, .ro, .ro, .volatile, 0⟩,
  -- 0x8600:04 Beats skipped by jumps
  ⟨.abs, 0x8600, 0x8600, 4, 4, 3, 8, .ro, .ro, .ro, .volatile, 0⟩,
  -- 0x8600:05 Beats sent while not ready
  ⟨.abs, 0x8600, 0x8600, 5, 5, 3, 8, .ro, .ro, .ro, .volatile, 0⟩,
  -- 0x8600:06 Beats stretched
  ⟨.abs, 0x8600, 0x8600, 6, 6, 3, 8, .ro, .ro, .ro, .volatile, 0⟩,
  -- 0x1100:01 Link rate, GT/s
  ⟨.abs, 0x1100, 0x1100, 1, 1, 0, 1, .ro, .ro, .ro, .volatile, 0⟩,
  -- 0x1100:02 Link width
  ⟨.abs, 0x1100, 0x1100, 2, 2, 0, 1, .ro, .ro, .ro, .volatile, 0⟩,
  -- 0x1100:03 Link state: 0 down, 1 training or recovery, 2 L0, 3 L0p
  ⟨.abs, 0x1100, 0x1100, 3, 3, 0, 1, .ro, .ro, .ro, .volatile, 0⟩,
  -- 0x1100:04 Virtual functions enabled
  ⟨.abs, 0x1100, 0x1100, 4, 4, 0, 1, .ro, .ro, .ro, .volatile, 0⟩,
  -- 0x1100:05 Physical function BAR4 size, log2 bytes
  ⟨.abs, 0x1100, 0x1100, 5, 5, 0, 1, .ro, .ro, .ro, .volatile, 0x27⟩]

/-- Rows 200 to 239 of the entry table. -/
def entryRows5 : List EntryRow := [
  -- 0x1100:06 IDE required
  ⟨.abs, 0x1100, 0x1100, 6, 6, 7, 1, .ro, .rw, .ro, .generation, 0⟩,
  -- 0x1100:07 Minimum link: rate in [15:8], width in [7:0]
  ⟨.abs, 0x1100, 0x1100, 7, 7, 1, 2, .ro, .rw, .ro, .generation, 0x8010⟩,
  -- 0x1100:0A Vendor ID
  ⟨.abs, 0x1100, 0x1100, 10, 10, 1, 2, .ro, .ro, .ro, .fused, 0⟩,
  -- 0x8700:01 Recoveries
  ⟨.abs, 0x8700, 0x8700, 1, 1, 3, 8, .ro, .ro, .ro, .volatile, 0⟩,
  -- 0x8700:02 Link downs and resets
  ⟨.abs, 0x8700, 0x8700, 2, 2, 3, 8, .ro, .ro, .ro, .volatile, 0⟩,
  -- 0x8700:03 IDE integrity failures
  ⟨.abs, 0x8700, 0x8700, 3, 3, 3, 8, .ro, .ro, .ro, .volatile, 0⟩,
  -- 0x8700:04 Host-bound writes discarded
  ⟨.abs, 0x8700, 0x8700, 4, 4, 3, 8, .ro, .ro, .ro, .volatile, 0⟩,
  -- 0x8700:05 BAR4 accesses refused
  ⟨.abs, 0x8700, 0x8700, 5, 5, 3, 8, .ro, .ro, .ro, .volatile, 0⟩,
  -- 0x8700:06 Mailbox submissions ignored
  ⟨.abs, 0x8700, 0x8700, 6, 6, 3, 8, .ro, .ro, .ro, .volatile, 0⟩,
  -- 0xC000:01 Package identifier
  ⟨.abs, 0xC000, 0xC000, 1, 1, 2, 4, .ro, .rw, .ro, .generation, 0⟩,
  -- 0xC000:02 Peer-loss time, µs
  ⟨.abs, 0xC000, 0xC000, 2, 2, 2, 4, .ro, .rw, .ro, .generation, 0x7D0⟩,
  -- 0xC000:03 Twin probe time, µs
  ⟨.abs, 0xC000, 0xC000, 3, 3, 2, 4, .ro, .rw, .ro, .generation, 0x64⟩,
  -- 0xC000:04 IEEE 1588 port; 0xFF none
  ⟨.abs, 0xC000, 0xC000, 4, 4, 0, 1, .ro, .rw, .ro, .generation, 0xFF⟩,
  -- 0xC000:05 IEEE 1588 domain
  ⟨.abs, 0xC000, 0xC000, 5, 5, 0, 1, .ro, .rw, .ro, .generation, 0⟩,
  -- 0xC000:06 Psiger UDP port
  ⟨.abs, 0xC000, 0xC000, 6, 6, 1, 2, .ro, .rw, .ro, .generation, 0xB5E0⟩,
  -- 0xC008+p:01 Port IPv6 address
  ⟨.abs, 0xC008, 0xC00F, 1, 1, 9, 16, .ro, .rw, .ro, .generation, 0⟩,
  -- 0xC008+p:02 MAC address
  ⟨.abs, 0xC008, 0xC00F, 2, 2, 3, 8, .ro, .ro, .ro, .fused, 0⟩,
  -- 0xC008+p:03 VLAN identifier; 0 untagged
  ⟨.abs, 0xC008, 0xC00F, 3, 3, 1, 2, .ro, .rw, .ro, .generation, 0⟩,
  -- 0xC008+p:04 MACsec required
  ⟨.abs, 0xC008, 0xC00F, 4, 4, 7, 1, .ro, .rw, .ro, .generation, 0⟩,
  -- 0xC008+p:05 Link state: 0 down, 1 training, 2 up
  ⟨.abs, 0xC008, 0xC00F, 5, 5, 0, 1, .ro, .ro, .ro, .volatile, 0⟩,
  -- 0xC010:01 Twin package identifier
  ⟨.abs, 0xC010, 0xC010, 1, 1, 2, 4, .ro, .rw, .ro, .generation, 0⟩,
  -- 0xC010:02 Twin fabric binding
  ⟨.abs, 0xC010, 0xC010, 2, 2, 1, 2, .ro, .rw, .ro, .generation, 0⟩,
  -- 0xC010:03 Twin state: 0 down, 1 training, 2 up, 3 partner lost
  ⟨.abs, 0xC010, 0xC010, 3, 3, 0, 1, .ro, .ro, .ro, .volatile, 0⟩,
  -- 0xC100–0xC11F Binding records (Table 18-3)
  ⟨.abs, 0xC100, 0xC11F, 1, 128, 10, 32, .ro, .rw, .ro, .generation, 0⟩,
  -- 0xC200–0xC207 Fabric pipe map (R346)
  ⟨.abs, 0xC200, 0xC207, 1, 128, 2, 4, .ro, .rw, .ro, .generation, 0⟩,
  -- 0xC300:01–04 Committed epoch, size, half, beat
  ⟨.abs, 0xC300, 0xC300, 1, 4, 3, 8, .ro, .ro, .ro, .volatile, 0⟩,
  -- 0xC310:01 Export binding; 0xFFFF none
  ⟨.abs, 0xC310, 0xC310, 1, 1, 1, 2, .ro, .rw, .ro, .generation, 0xFFFF⟩,
  -- 0xC310:02 Export state: 0 idle, 1 running, 2 done, 3 failed
  ⟨.abs, 0xC310, 0xC310, 2, 2, 0, 1, .ro, .ro, .ro, .volatile, 0⟩,
  -- 0xC311:01–03 Import vat, base, expected size
  ⟨.abs, 0xC311, 0xC311, 1, 3, 3, 8, .ro, .rw, .ro, .generation, 0⟩,
  -- 0xC311:04 Import state, as 0xC310:02
  ⟨.abs, 0xC311, 0xC311, 4, 4, 0, 1, .ro, .ro, .ro, .volatile, 0⟩,
  -- 0xA300+p:01 MACsec key and association number
  ⟨.abs, 0xA300, 0xA307, 1, 1, 9, 64, .no, .wo, .no, .volatile, 0⟩,
  -- 0x8800:01–02 Segments sent, received
  ⟨.abs, 0x8800, 0x8800, 1, 2, 3, 8, .ro, .ro, .ro, .volatile, 0⟩,
  -- 0x8800:03 Segments resent
  ⟨.abs, 0x8800, 0x8800, 3, 3, 3, 8, .ro, .ro, .ro, .volatile, 0⟩,
  -- 0x8800:04 Duplicates discarded
  ⟨.abs, 0x8800, 0x8800, 4, 4, 3, 8, .ro, .ro, .ro, .volatile, 0⟩,
  -- 0x8800:05 Malformed segments
  ⟨.abs, 0x8800, 0x8800, 5, 5, 3, 8, .ro, .ro, .ro, .volatile, 0⟩,
  -- 0x8800:06 MACsec discards
  ⟨.abs, 0x8800, 0x8800, 6, 6, 3, 8, .ro, .ro, .ro, .volatile, 0⟩,
  -- 0x8800:07 Pause and PFC frames discarded
  ⟨.abs, 0x8800, 0x8800, 7, 7, 3, 8, .ro, .ro, .ro, .volatile, 0⟩,
  -- 0x8800:08 Shadow bytes received
  ⟨.abs, 0x8800, 0x8800, 8, 8, 3, 8, .ro, .ro, .ro, .volatile, 0⟩,
  -- 0x8800:09 Segments held for retransmit-store space
  ⟨.abs, 0x8800, 0x8800, 9, 9, 3, 8, .ro, .ro, .ro, .volatile, 0⟩,
  -- 0xE000:01–10 First context of vat v
  ⟨.abs, 0xE000, 0xE000, 1, 16, 1, 2, .ro, .rw, .ro, .generation, 0⟩]

/-- Rows 240 to 279 of the entry table. -/
def entryRows6 : List EntryRow := [
  -- 0xE001:01–10 Context count of vat v
  ⟨.abs, 0xE001, 0xE001, 1, 16, 1, 2, .ro, .rw, .ro, .generation, 0x100⟩,
  -- 0xE100–0xE101 Context c: [31:28] state 0 closed, 1 open, 2 running; [27:24
  ⟨.abs, 0xE100, 0xE101, 1, 128, 2, 4, .ro, .ro, .ro, .volatile, 0⟩,
  -- 0x8900:01–02 Frames encoded, decoded
  ⟨.abs, 0x8900, 0x8900, 1, 2, 3, 8, .ro, .ro, .ro, .volatile, 0⟩,
  -- 0x8900:03 Records refused
  ⟨.abs, 0x8900, 0x8900, 3, 3, 3, 8, .ro, .ro, .ro, .volatile, 0⟩,
  -- 0x8900:04 Decode errors
  ⟨.abs, 0x8900, 0x8900, 4, 4, 3, 8, .ro, .ro, .ro, .volatile, 0⟩,
  -- 0x8900:05 Context switches
  ⟨.abs, 0x8900, 0x8900, 5, 5, 3, 8, .ro, .ro, .ro, .volatile, 0⟩,
  -- 0x8900:06 Ring waits
  ⟨.abs, 0x8900, 0x8900, 6, 6, 3, 8, .ro, .ro, .ro, .volatile, 0⟩,
  -- 0x1010:01 Management IPv6 address; zero for link-local only
  ⟨.abs, 0x1010, 0x1010, 1, 1, 9, 16, .ro, .rw, .ro, .generation, 0⟩,
  -- 0x1010:02 Protocol UDP port
  ⟨.abs, 0x1010, 0x1010, 2, 2, 1, 2, .ro, .rw, .ro, .generation, 0x4B50⟩,
  -- 0x1010:03 PLCA node identifier, 0–31
  ⟨.abs, 0x1010, 0x1010, 3, 3, 0, 1, .ro, .rw, .ro, .generation, 0⟩,
  -- 0x1010:04 PLCA node count, 1–32
  ⟨.abs, 0x1010, 0x1010, 4, 4, 0, 1, .ro, .rw, .ro, .generation, 8⟩,
  -- 0x1010:05 PLCA burst count
  ⟨.abs, 0x1010, 0x1010, 5, 5, 0, 1, .ro, .rw, .ro, .generation, 0⟩,
  -- 0x1010:06 Management MAC address
  ⟨.abs, 0x1010, 0x1010, 6, 6, 3, 8, .ro, .ro, .ro, .fused, 0⟩,
  -- 0x1010:07 Sessions open
  ⟨.abs, 0x1010, 0x1010, 7, 7, 0, 1, .ro, .ro, .ro, .volatile, 0⟩,
  -- 0x2000:01 Current generation
  ⟨.abs, 0x2000, 0x2000, 1, 1, 2, 4, .ro, .ro, .ro, .volatile, 0⟩,
  -- 0x2000:02 Previous generation
  ⟨.abs, 0x2000, 0x2000, 2, 2, 2, 4, .ro, .ro, .ro, .volatile, 0⟩,
  -- 0x2000:03 Pending target beat
  ⟨.abs, 0x2000, 0x2000, 3, 3, 3, 8, .ro, .ro, .ro, .volatile, 0⟩,
  -- 0x2000:04 Pending kind: 0 none, 1 commit, 2 return
  ⟨.abs, 0x2000, 0x2000, 4, 4, 0, 1, .ro, .ro, .ro, .volatile, 0⟩,
  -- 0x2000:05 Previous generation held
  ⟨.abs, 0x2000, 0x2000, 5, 5, 7, 1, .ro, .ro, .ro, .volatile, 0⟩,
  -- 0x2000:06 Beat of the current generation
  ⟨.abs, 0x2000, 0x2000, 6, 6, 3, 8, .ro, .ro, .ro, .volatile, 0⟩,
  -- 0x9000:01 Last audit sequence
  ⟨.abs, 0x9000, 0x9000, 1, 1, 2, 4, .ro, .ro, .ro, .volatile, 0⟩,
  -- 0x9000:02 Host mirror address; 0 disables
  ⟨.abs, 0x9000, 0x9000, 2, 2, 3, 8, .ro, .rw, .ro, .generation, 0⟩,
  -- 0x9000:03 Host mirror records, a power of two from 64 to 65,536
  ⟨.abs, 0x9000, 0x9000, 3, 3, 2, 4, .ro, .rw, .ro, .generation, 0x1000⟩,
  -- 0x9000:04 Last sequence mirrored to the host
  ⟨.abs, 0x9000, 0x9000, 4, 4, 2, 4, .ro, .ro, .ro, .volatile, 0⟩,
  -- 0x9000:05 Records not mirrored to the host
  ⟨.abs, 0x9000, 0x9000, 5, 5, 3, 8, .ro, .ro, .ro, .volatile, 0⟩,
  -- 0x9000:06 Records not mirrored to the twin
  ⟨.abs, 0x9000, 0x9000, 6, 6, 3, 8, .ro, .ro, .ro, .volatile, 0⟩,
  -- 0x9100–0x911F Audit records (Table 20-5)
  ⟨.abs, 0x9100, 0x911F, 1, 128, 10, 256, .ro, .ro, .ro, .volatile, 0⟩,
  -- 0x9120–0x913F Twin's audit records
  ⟨.abs, 0x9120, 0x913F, 1, 128, 10, 256, .ro, .ro, .ro, .volatile, 0⟩,
  -- 0x8A00:01 Messages dropped
  ⟨.abs, 0x8A00, 0x8A00, 1, 1, 3, 8, .ro, .ro, .ro, .volatile, 0⟩,
  -- 0x8A00:02 Stale sequences
  ⟨.abs, 0x8A00, 0x8A00, 2, 2, 3, 8, .ro, .ro, .ro, .volatile, 0⟩,
  -- 0x8A00:03 Commits and returns applied
  ⟨.abs, 0x8A00, 0x8A00, 3, 3, 3, 8, .ro, .ro, .ro, .volatile, 0⟩,
  -- 0x8A00:04 Commits and returns refused
  ⟨.abs, 0x8A00, 0x8A00, 4, 4, 3, 8, .ro, .ro, .ro, .volatile, 0⟩,
  -- 0xA000:01 Maker key hash
  ⟨.abs, 0xA000, 0xA000, 1, 1, 9, 64, .ro, .ro, .rw, .fused, 0⟩,
  -- 0xA000:02 Identity public key, modulus
  ⟨.abs, 0xA000, 0xA000, 2, 2, 9, 512, .ro, .ro, .ro, .fused, 0⟩,
  -- 0xA000:03 Identity certificate
  ⟨.abs, 0xA000, 0xA000, 3, 3, 9, 1036, .ro, .ro, .rw, .fused, 0⟩,
  -- 0xA000:04 Session idle limit, s
  ⟨.abs, 0xA000, 0xA000, 4, 4, 2, 4, .ro, .rw, .ro, .generation, 0x384⟩,
  -- 0xA000:05 Debug state: 0 locked, 1 unlocked
  ⟨.abs, 0xA000, 0xA000, 5, 5, 0, 1, .ro, .ro, .rw, .volatile, 0⟩,
  -- 0xA010:01–08 Installer certificate hashes
  ⟨.abs, 0xA010, 0xA010, 1, 8, 9, 64, .ro, .ro, .rw, .fused, 0⟩,
  -- 0xA020:01–10 Operator keys: W0–W15 key hash, W16[15:0] vat mask
  ⟨.abs, 0xA020, 0xA020, 1, 16, 10, 68, .ro, .rw, .no, .generation, 0⟩,
  -- 0xA030:k Minimum security version
  ⟨.abs, 0xA030, 0xA030, 1, 6, 2, 4, .ro, .ro, .rw, .fused, 0⟩]

/-- Rows 280 to 314 of the entry table. -/
def entryRows7 : List EntryRow := [
  -- 0xA040:01 Measurement register
  ⟨.abs, 0xA040, 0xA040, 1, 1, 9, 64, .ro, .ro, .ro, .volatile, 0⟩,
  -- 0xA040:02 Extensions
  ⟨.abs, 0xA040, 0xA040, 2, 2, 2, 4, .ro, .ro, .ro, .volatile, 0⟩,
  -- 0xA050:k Slot state: 0 empty, 1 receiving, 2 verifying, 3 valid, 4 re
  ⟨.abs, 0xA050, 0xA050, 1, 6, 0, 1, .ro, .ro, .ro, .volatile, 0⟩,
  -- 0xA051:k Slot body hash
  ⟨.abs, 0xA051, 0xA051, 1, 6, 9, 64, .ro, .ro, .ro, .volatile, 0⟩,
  -- 0x8B00:01 Sessions opened
  ⟨.abs, 0x8B00, 0x8B00, 1, 1, 3, 8, .ro, .ro, .ro, .volatile, 0⟩,
  -- 0x8B00:02 Sessions refused
  ⟨.abs, 0x8B00, 0x8B00, 2, 2, 3, 8, .ro, .ro, .ro, .volatile, 0⟩,
  -- 0x8B00:03 Images refused
  ⟨.abs, 0x8B00, 0x8B00, 3, 3, 3, 8, .ro, .ro, .ro, .volatile, 0⟩,
  -- 0x8B00:04 Reports signed
  ⟨.abs, 0x8B00, 0x8B00, 4, 4, 3, 8, .ro, .ro, .ro, .volatile, 0⟩,
  -- 0x9010:01 Events numbered and written (R411); suppressed events exclud
  ⟨.abs, 0x9010, 0x9010, 1, 1, 3, 8, .ro, .ro, .ro, .volatile, 0⟩,
  -- 0x9010:02 Acknowledged up to
  ⟨.abs, 0x9010, 0x9010, 2, 2, 3, 8, .rw, .rw, .ro, .volatile, 0⟩,
  -- 0x9010:03 Events suppressed
  ⟨.abs, 0x9010, 0x9010, 3, 3, 3, 8, .ro, .ro, .ro, .volatile, 0⟩,
  -- 0x9010:04 Host event mirror address; 0 disables
  ⟨.abs, 0x9010, 0x9010, 4, 4, 3, 8, .ro, .rw, .ro, .generation, 0⟩,
  -- 0x9010:05 Host mirror records, a power of two from 64 to 65,536
  ⟨.abs, 0x9010, 0x9010, 5, 5, 2, 4, .ro, .rw, .ro, .generation, 0x800⟩,
  -- 0x9010:06 Events not mirrored
  ⟨.abs, 0x9010, 0x9010, 6, 6, 3, 8, .ro, .ro, .ro, .volatile, 0⟩,
  -- 0x9200–0x920F Event records (Table 22-1)
  ⟨.abs, 0x9200, 0x920F, 1, 128, 10, 32, .ro, .ro, .ro, .volatile, 0⟩,
  -- 0x2060:01 Corrected-error threshold per unit
  ⟨.abs, 0x2060, 0x2060, 1, 1, 2, 4, .ro, .rw, .ro, .generation, 0x1000⟩,
  -- 0x2060:02 Threshold window, beats, 1–65,535
  ⟨.abs, 0x2060, 0x2060, 2, 2, 1, 2, .ro, .rw, .ro, .generation, 1⟩,
  -- 0x2060:03 Hold on threshold
  ⟨.abs, 0x2060, 0x2060, 3, 3, 7, 1, .ro, .rw, .ro, .generation, 0⟩,
  -- U+14:01–04 (cores) Core-buffer corrected, uncorrectable; program-memory correct
  ⟨.core, 0xE, 0xE, 1, 4, 3, 8, .ro, .ro, .ro, .volatile, 0⟩,
  -- U+6:01–04 (dies) Buffer corrected, uncorrectable; link corrected, uncorrectab
  ⟨.die, 0x6, 0x6, 1, 4, 3, 8, .ro, .ro, .ro, .volatile, 0⟩,
  -- 0x2070:01 Power cap, W
  ⟨.abs, 0x2070, 0x2070, 1, 1, 1, 2, .ro, .rw, .ro, .generation, 0x834⟩,
  -- 0x2070:02 Cap duty limit, 64ths
  ⟨.abs, 0x2070, 0x2070, 2, 2, 0, 1, .ro, .rw, .ro, .generation, 8⟩,
  -- 0x2070:03 Input throttle duty, 64ths
  ⟨.abs, 0x2070, 0x2070, 3, 3, 0, 1, .ro, .rw, .ro, .generation, 0x20⟩,
  -- 0x2070:04 Die throttle threshold, °C
  ⟨.abs, 0x2070, 0x2070, 4, 4, 4, 4, .ro, .rw, .ro, .generation, 0x64⟩,
  -- 0x1004:01 Package power, W, 1 ms average
  ⟨.abs, 0x1004, 0x1004, 1, 1, 6, 4, .ro, .ro, .ro, .volatile, 0⟩,
  -- 0x1004:02 Duty in force, 64ths
  ⟨.abs, 0x1004, 0x1004, 2, 2, 0, 1, .ro, .ro, .ro, .volatile, 0⟩,
  -- 0x1004:03 Duty sources: [0] cap, [1] input, [2] die thermal, [3] stack
  ⟨.abs, 0x1004, 0x1004, 3, 3, 0, 1, .ro, .ro, .ro, .volatile, 0⟩,
  -- 0x1004:04 Hottest die sensor, °C
  ⟨.abs, 0x1004, 0x1004, 4, 4, 4, 4, .ro, .ro, .ro, .volatile, 0⟩,
  -- 0x1004:05 Die of the hottest sensor, unit path
  ⟨.abs, 0x1004, 0x1004, 5, 5, 1, 2, .ro, .ro, .ro, .volatile, 0⟩,
  -- 0x1004:06 THROTTLE_N level
  ⟨.abs, 0x1004, 0x1004, 6, 6, 7, 1, .ro, .ro, .ro, .volatile, 1⟩,
  -- 0x8C00:01 Milliseconds with cap duty above zero
  ⟨.abs, 0x8C00, 0x8C00, 1, 1, 3, 8, .ro, .ro, .ro, .volatile, 0⟩,
  -- 0x8C00:02 Milliseconds with input duty above zero
  ⟨.abs, 0x8C00, 0x8C00, 2, 2, 3, 8, .ro, .ro, .ro, .volatile, 0⟩,
  -- 0x8C00:03 Milliseconds with a thermal duty above zero
  ⟨.abs, 0x8C00, 0x8C00, 3, 3, 3, 8, .ro, .ro, .ro, .volatile, 0⟩,
  -- 0x8C00:04 Milliseconds with cap duty above its limit
  ⟨.abs, 0x8C00, 0x8C00, 4, 4, 3, 8, .ro, .ro, .ro, .volatile, 0⟩,
  -- 0xD040+d:10–2F Corrected errors of set p (Table 13-6)
  ⟨.abs, 0xD040, 0xD043, 16, 47, 3, 8, .ro, .ro, .ro, .volatile, 0⟩]

/-- The entry table. -/
def entryRows : List EntryRow := entryRows0 ++ entryRows1 ++ entryRows2 ++ entryRows3 ++ entryRows4 ++ entryRows5 ++ entryRows6 ++ entryRows7

/-- The kind and object number of an index within the unit records (Table 2-3): the ordinal and the object. -/
def unitIndex (idx : Nat) : Option (Nat × Nat) :=
  if 0x4000 ≤ idx ∧ idx < 0x51C0 then some ((idx - 0x4000) / 16, (idx - 0x4000) % 16) else none

/-- Whether a row covers an index and subindex. -/
def EntryRow.covers (r : EntryRow) (idx sub : Nat) : Bool :=
  decide (r.subLo ≤ sub ∧ sub ≤ r.subHi) &&
  match r.space, unitIndex idx with
  | .abs, _ => decide (r.lo ≤ idx ∧ idx ≤ r.hi)
  | .anyUnit, some (_, k) => k == r.lo
  | .array, some (u, k) => k == r.lo && decide (u < 208)
  | .core, some (u, k) => k == r.lo && decide (208 ≤ u ∧ u < 260)
  | .die, some (u, k) => k == r.lo && decide (276 ≤ u ∧ u < 281)
  | _, none => false

/-- The row of an entry, if the dictionary has it. -/
def entryRow (idx sub : Nat) : Option EntryRow := entryRows.find? fun r => r.covers idx sub

/-- The dictionary key of an entry. -/
def ek (idx sub : Nat) : Nat := idx * 256 + sub

/-- Default service minimum of a unit by its ordinal (Table 2-1). -/
def defaultMin (u : Nat) : Nat :=
  if u < 208 then 0 else if u < 260 then 4 else if u < 276 then 0 else if u < 280 then 11
  else if u = 280 then 0 else if u = 281 then 5 else if u = 282 then 2 else 0xFFFF

/-- The default of a generation entry (the tables' Default column), or what the part's fuses hold, the variant L or N among them (Table 0-2): rows whose default differs by subindex first. -/
def entryDefault (key : Nat) : Nat :=
  let idx := key / 256
  let sub := key % 256
  let v0 (n : Nat) : Nat := if sub = 1 then n else 0
  match unitIndex idx with
  | some (u, 1) => if sub = 6 then defaultMin u else if sub = 7 then 1000 else 0
  | some (_, 6) => if 1 ≤ sub ∧ sub ≤ 4 then 0xFF else 0
  | some _ => 0
  | none =>
    if key = 0x100002 then (if Config.partFuse key % 2 = 0 then 0x4C else 0x4E)
    else if [0x100004, 0x11000A, 0x101006, 0xA00001, 0xA00002, 0xA00003].contains key ∨ (0xC008 ≤ idx ∧ idx < 0xC010 ∧ sub = 2) then
      match entryRow idx sub with
      | some r => Config.partFuse key % 2 ^ (8 * r.bytes)
      | none => 0
    else match idx with
    | 0x2020 => v0 1
    | 0x2021 => v0 0xFFFFFFFFFFFF
    | 0x2023 => v0 4096
    | 0x2025 => v0 4096
    | 0x2027 => v0 64
    | 0x2028 => v0 0xFFFF
    | 0x2044 => (sub - 1) * 0x10000000
    | 0x2051 => v0 65536
    | 0x2108 => if sub = 5 then 2 else 4
    | 0xE001 => v0 256
    | 0xD030 | 0xD031 | 0xD032 | 0xD033 => v0 64
    | _ =>
      match entryRow idx sub with
      | some r => r.dflt
      | none => 0

end Sys2Proof.Machine
end

