-- ==== Sys2Proof/Machine/Float.lean ====
section
/-! DEFINITION. Numbers: exact values, the floating-point and integer formats of Tables 3-1 and 3-2, and the one
conversion rule set of R42 to R46. A conversion takes an exact value, rounds it once and reports its census. -/
namespace Sys2Proof.Machine

/-- An exact value: NaN, an infinity, or a signed finite dyadic `±m × 2^e`. Zero keeps its sign (R37). -/
inductive FVal where
  | nan
  | inf (neg : Bool)
  | fin (neg : Bool) (m : Nat) (e : Int)
  deriving DecidableEq, Repr

/-- The value +0. -/
def FVal.zero : FVal := .fin false 0 0

/-- An integer as an exact value (R45: an integer converts like any other exact value). -/
def FVal.ofInt (i : Int) : FVal := .fin (i < 0) i.natAbs 0

/-- Whether the value is an infinity or NaN. -/
def FVal.nonFinite : FVal → Bool
  | .fin .. => false
  | _ => true

/-- Whether the value is finite and zero. -/
def FVal.isZero : FVal → Bool
  | .fin _ m _ => m == 0
  | _ => false

/-- The sign bit of a value; NaN is positive (R37). -/
def FVal.neg? : FVal → Bool
  | .nan => false
  | .inf n => n
  | .fin n _ _ => n

/-- The value with its sign changed. -/
def FVal.negate : FVal → FVal
  | .nan => .nan
  | .inf n => .inf (!n)
  | .fin n m e => .fin (!n) m e

/-- The magnitude of a value. -/
def FVal.abs : FVal → FVal
  | .nan => .nan
  | .inf _ => .inf false
  | .fin _ m e => .fin false m e

/-- `m × 2^e` scaled to the exponent `lo ≤ e`, as an integer multiple of `2^lo`. -/
def scaleTo (m : Nat) (e lo : Int) : Nat := m <<< (e - lo).toNat

/-- A finite value as a signed multiple of `2^lo`, for `lo` at most its exponent. -/
def signedAt (neg : Bool) (m : Nat) (e lo : Int) : Int :=
  if neg then -(scaleTo m e lo : Int) else (scaleTo m e lo : Int)

/-- The exact sum. Unlike infinities give NaN; an exact zero sum is +0 unless both terms are −0 (IEEE 754-2019,
to nearest). -/
def FVal.add : FVal → FVal → FVal
  | .nan, _ => .nan
  | _, .nan => .nan
  | .inf a, .inf b => if a = b then .inf a else .nan
  | .inf a, _ => .inf a
  | _, .inf b => .inf b
  | .fin a m e, .fin b n f =>
    let lo := min e f
    let s := signedAt a m e lo + signedAt b n f lo
    if s = 0 then .fin (a && b) 0 0 else .fin (s < 0) s.natAbs lo

/-- The exact difference. -/
def FVal.sub (x y : FVal) : FVal := x.add y.negate

/-- The exact product; zero times an infinity is NaN. -/
def FVal.mul : FVal → FVal → FVal
  | .nan, _ => .nan
  | _, .nan => .nan
  | .inf a, .inf b => .inf (a != b)
  | .inf a, .fin b n _ => if n = 0 then .nan else .inf (a != b)
  | .fin a m _, .inf b => if m = 0 then .nan else .inf (a != b)
  | .fin a m e, .fin b n f => .fin (a != b) (m * n) (e + f)

/-- How many quotient and root bits are kept before the sticky bit: more than any format's fraction and the sixteen
bits of a stochastic draw together. -/
def stickyBits : Nat := 160

/-- The quotient, exact but for a sticky last bit, so that one rounding of it is one rounding of the exact quotient. -/
def FVal.div : FVal → FVal → FVal
  | .nan, _ => .nan
  | _, .nan => .nan
  | .inf _, .inf _ => .nan
  | .inf a, .fin b _ _ => .inf (a != b)
  | .fin a _ _, .inf b => .fin (a != b) 0 0
  | .fin a m e, .fin b n f =>
    if n = 0 then (if m = 0 then .nan else .inf (a != b))
    else if m = 0 then .fin (a != b) 0 0
    else
      let sh := stickyBits + Nat.log2 n
      let q := (m <<< sh) / n
      let r := (m <<< sh) % n
      .fin (a != b) (2 * q + if r = 0 then 0 else 1) (e - f - (sh : Int) - 1)

/-- The integer square root by Newton's digit method: one result bit per step. -/
def sqrtStep : Nat → Nat → Nat → Nat
  | 0, acc, _ => acc
  | k + 1, acc, n =>
    let t := acc + 2 ^ k
    sqrtStep k (if t * t ≤ n then t else acc) n

/-- The largest integer whose square is at most `n`. -/
def natSqrt (n : Nat) : Nat := sqrtStep (Nat.log2 n / 2 + 1) 0 n

/-- The square root, exact but for a sticky last bit; a negative operand gives NaN and −0 gives −0. -/
def FVal.sqrt : FVal → FVal
  | .nan => .nan
  | .inf n => if n then .nan else .inf false
  | .fin n m e =>
    if m = 0 then .fin n 0 0
    else if n then .nan
    else
      let odd := e % 2 = 1
      let m' := (if odd then 2 * m else m) <<< (2 * stickyBits)
      let e' := if odd then e - 1 else e
      let s := natSqrt m'
      .fin false (2 * s + if s * s = m' then 0 else 1) (e' / 2 - (stickyBits : Int) - 1)

/-- Exact comparison of two values that are not NaN: `x < y`; −0 equals +0. -/
def FVal.lt : FVal → FVal → Bool
  | .nan, _ => false
  | _, .nan => false
  | .inf a, .inf b => a && !b
  | .inf a, _ => a
  | _, .inf b => !b
  | .fin a m e, .fin b n f =>
    let lo := min e f
    signedAt a m e lo < signedAt b n f lo

/-- Exact equality of two values that are not NaN; −0 equals +0. -/
def FVal.eqv (x y : FVal) : Bool :=
  !(x == .nan) && !(y == .nan) && !(x.lt y) && !(y.lt x)

/-- How a value is rounded (R42): to nearest with ties to even, toward zero, or stochastically with a 16-bit draw. -/
inductive Rnd where
  | rne
  | rz
  | stoch (r : Nat)
  deriving DecidableEq, Repr

/-- Whether `rem / 2^sh`, a proper fraction of a unit above an integer `lo`, is rounded up (R42). -/
def Rnd.up (rnd : Rnd) (lo rem sh : Nat) : Bool :=
  match rnd with
  | .rne => 2 * rem > 2 ^ sh || (2 * rem == 2 ^ sh && lo % 2 == 1)
  | .rz => false
  | .stoch r => rem * 65536 / 2 ^ sh + r ≥ 65536

/-- `m × 2^e` rounded to an integer multiple of `2^q` (R42). -/
def roundAt (rnd : Rnd) (m : Nat) (e q : Int) : Nat :=
  if q ≤ e then scaleTo m e q
  else
    let sh := (q - e).toNat
    let lo := m >>> sh
    let rem := m % 2 ^ sh
    if rnd.up lo rem sh then lo + 1 else lo

/-- What the top encodings of a floating-point format mean (Table 3-1). -/
inductive TopKind where
  | ieee
  | e4m3
  | allFinite
  deriving DecidableEq, Repr

/-- A floating-point format: exponent bits, fraction bits, bias and the meaning of its top encodings (Table 3-1). -/
structure FFmt where
  eb : Nat
  fb : Nat
  bias : Nat
  top : TopKind
  deriving DecidableEq, Repr

/-- FP32 (Table 3-1). -/
def FFmt.fp32 : FFmt := ⟨8, 23, 127, .ieee⟩
/-- BF16 (Table 3-1). -/
def FFmt.bf16 : FFmt := ⟨8, 7, 127, .ieee⟩
/-- FP16 (Table 3-1). -/
def FFmt.fp16 : FFmt := ⟨5, 10, 15, .ieee⟩
/-- E4M3 (Table 3-1). -/
def FFmt.e4m3 : FFmt := ⟨4, 3, 7, .e4m3⟩
/-- E5M2 (Table 3-1). -/
def FFmt.e5m2 : FFmt := ⟨5, 2, 15, .ieee⟩
/-- E3M2 (Table 3-1). -/
def FFmt.e3m2 : FFmt := ⟨3, 2, 3, .allFinite⟩
/-- E2M3 (Table 3-1). -/
def FFmt.e2m3 : FFmt := ⟨2, 3, 1, .allFinite⟩
/-- E2M1 (Table 3-1). -/
def FFmt.e2m1 : FFmt := ⟨2, 1, 1, .allFinite⟩
/-- A38 (Table 3-1, R36). -/
def FFmt.a38 : FFmt := ⟨8, 30, 127, .ieee⟩

/-- The number of bits of an encoding. -/
def FFmt.bits (f : FFmt) : Nat := 1 + f.eb + f.fb

/-- The exponent of the smallest normal value. -/
def FFmt.emin (f : FFmt) : Int := 1 - (f.bias : Int)

/-- The largest exponent field and fraction of a finite value. -/
def FFmt.maxField (f : FFmt) : Nat × Nat :=
  match f.top with
  | .ieee => (2 ^ f.eb - 2, 2 ^ f.fb - 1)
  | .e4m3 => (2 ^ f.eb - 1, 2 ^ f.fb - 2)
  | .allFinite => (2 ^ f.eb - 1, 2 ^ f.fb - 1)

/-- The magnitude bits (exponent field and fraction) of the largest finite value. -/
def FFmt.maxMag (f : FFmt) : Nat := f.maxField.1 * 2 ^ f.fb + f.maxField.2

/-- The largest finite value as an exact value. -/
def FFmt.maxVal (f : FFmt) (neg : Bool) : FVal :=
  .fin neg (2 ^ f.fb + f.maxField.2) ((f.maxField.1 : Int) - f.bias - f.fb)

/-- A sign and magnitude bits as an encoding. -/
def FFmt.code (f : FFmt) (neg : Bool) (mag : Nat) : Nat := (if neg then 2 ^ (f.eb + f.fb) else 0) + mag

/-- The canonical NaN's encoding (R37); the formats without a NaN have none and give +0 (Table 3-4). -/
def FFmt.nanCode (f : FFmt) : Nat :=
  match f.top with
  | .ieee => (2 ^ f.eb - 1) * 2 ^ f.fb + 2 ^ (f.fb - 1)
  | .e4m3 => 2 ^ (f.eb + f.fb) - 1
  | .allFinite => 0

/-- The value an encoding stands for (R35). -/
def FFmt.decode (f : FFmt) (n : Nat) : FVal :=
  let neg := n.testBit (f.eb + f.fb)
  let e := n / 2 ^ f.fb % 2 ^ f.eb
  let m := n % 2 ^ f.fb
  let top := e == 2 ^ f.eb - 1
  if f.top == .ieee && top then (if m = 0 then .inf neg else .nan)
  else if f.top == .e4m3 && top && m == 2 ^ f.fb - 1 then .nan
  else if e = 0 then .fin neg m (f.emin - f.fb)
  else .fin neg (2 ^ f.fb + m) ((e : Int) - f.bias - f.fb)

/-- The ulp exponent of a magnitude `m × 2^e` in a format, the exponent above unbounded (R42). -/
def FFmt.ulp (f : FFmt) (m : Nat) (e : Int) : Int :=
  max ((Nat.log2 m : Int) + e - f.fb) (f.emin - f.fb)

/-- The magnitude bits of `k × 2^q` for a rounded significand `k ≤ 2^(fb+1)` whose ulp exponent is `q`. The field
runs past the largest finite one when the magnitude overflows. -/
def FFmt.magOf (f : FFmt) (k : Nat) (q : Int) : Nat :=
  if k < 2 ^ f.fb then k
  else (q + f.fb + f.bias).toNat * 2 ^ f.fb + (k - 2 ^ f.fb)

/-- A conversion's result and the counts it reports (R46). -/
structure Conv where
  code : Nat
  sat : Bool
  nonfin : Bool
  flush : Bool
  deriving DecidableEq, Repr

/-- A result that reports nothing. -/
def Conv.plain (n : Nat) : Conv := ⟨n, false, false, false⟩

/-- The counts of two steps of one element: each at most once (R46). -/
def Conv.also (a : Conv) (b : Conv) : Conv := ⟨b.code, a.sat || b.sat, a.nonfin || b.nonfin, a.flush || b.flush⟩

/-- Conversion of an exact value into a floating-point format (R42 to R44, R46, Table 3-4). -/
def FFmt.convert (f : FFmt) (rnd : Rnd) (sat ftz : Bool) : FVal → Conv
  | .nan => ⟨f.nanCode, false, true, false⟩
  | .inf neg =>
    match f.top with
    | .ieee => ⟨f.code neg ((2 ^ f.eb - 1) * 2 ^ f.fb), false, true, false⟩
    | .e4m3 => if sat then ⟨f.code neg f.maxMag, true, true, false⟩ else ⟨f.nanCode, false, true, false⟩
    | .allFinite => ⟨f.code neg f.maxMag, true, true, false⟩
  | .fin neg m e =>
    if m = 0 then .plain (f.code neg 0)
    else
      let q := f.ulp m e
      let mag := f.magOf (roundAt rnd m e q) q
      if mag > f.maxMag then
        if sat || f.top == .allFinite then ⟨f.code neg f.maxMag, true, false, false⟩
        else if f.top == .e4m3 then ⟨f.nanCode, false, true, false⟩
        else ⟨f.code neg ((2 ^ f.eb - 1) * 2 ^ f.fb), false, true, false⟩
      else if mag = 0 || (ftz && mag < 2 ^ f.fb) then ⟨f.code neg 0, false, false, true⟩
      else .plain (f.code neg mag)

/-- An integer format: its width and whether it is signed (Table 3-2). -/
structure IFmt where
  bits : Nat
  signed : Bool
  deriving DecidableEq, Repr

/-- The least value (Table 3-2). -/
def IFmt.least (f : IFmt) : Int := if f.signed then -((2 ^ (f.bits - 1) : Nat) : Int) else 0
/-- The greatest value (Table 3-2). -/
def IFmt.greatest (f : IFmt) : Int := if f.signed then ((2 ^ (f.bits - 1) : Nat) : Int) - 1 else ((2 ^ f.bits : Nat) : Int) - 1
/-- The encoding of an integer, modulo 2^bits. -/
def IFmt.code (f : IFmt) (i : Int) : Nat := (i % ((2 ^ f.bits : Nat) : Int)).toNat
/-- The integer an encoding stands for (R38). -/
def IFmt.decode (f : IFmt) (n : Nat) : Int :=
  let k := n % 2 ^ f.bits
  if f.signed && 2 ^ (f.bits - 1) ≤ k then (k : Int) - ((2 ^ f.bits : Nat) : Int) else k

/-- Conversion of an exact value into an integer format (R45, R46). -/
def IFmt.convert (f : IFmt) (rnd : Rnd) (sat : Bool) : FVal → Conv
  | .nan => ⟨0, false, true, false⟩
  | .inf neg => ⟨f.code (if neg then f.least else f.greatest), true, true, false⟩
  | .fin neg m e =>
    let k := roundAt rnd m e 0
    let i : Int := if neg then -(k : Int) else k
    if i < f.least ∨ f.greatest < i then
      ⟨f.code (if sat then (if i < f.least then f.least else f.greatest) else i), true, false, false⟩
    else ⟨f.code i, false, false, k = 0 && m ≠ 0⟩

/-- The value of an FP32 encoding. -/
def f32 (w : Word) : FVal := FFmt.fp32.decode w.toNat

/-- RNE32: an exact value rounded once to FP32, to nearest, ties to even, FTZ 0 (R50, R91). -/
def rne32 (x : FVal) : Word := BitVec.ofNat 32 (FFmt.fp32.convert .rne false false x).code

/-- RNE32 as a value. -/
def rne32v (x : FVal) : FVal := f32 (rne32 x)

/-- The canonical FP32 NaN (R37). -/
def nan32 : Word := 0x7FC00000#32

/-- FP32 +∞. -/
def inf32 : Word := 0x7F800000#32

end Sys2Proof.Machine
end

