-- ==== Sys2Proof/Machine/Formats.lean ====
section
/-! DEFINITION. Format codes (Table 0-4), the conversion control field (R40, R41), two-level scales (R47 to R51), operand
expansion (R54 to R56) and the A38 accumulator arithmetic (R61, R62, R67, R69, R71). -/
namespace Sys2Proof.Machine

/-- A number format: floating-point or integer. -/
inductive Fmt where
  | flt (f : FFmt)
  | int (f : IFmt)
  deriving DecidableEq, Repr

/-- The format a 4-bit code names; reserved codes name none (Table 0-4, R4). -/
def fmtOf (c : BitVec 4) : Option Fmt :=
  match c.toNat with
  | 0x0 => some (.flt .fp32)
  | 0x1 => some (.flt .bf16)
  | 0x2 => some (.flt .fp16)
  | 0x3 => some (.flt .e4m3)
  | 0x4 => some (.flt .e5m2)
  | 0x5 => some (.flt .e3m2)
  | 0x6 => some (.flt .e2m3)
  | 0x7 => some (.flt .e2m1)
  | 0x8 => some (.int ⟨8, true⟩)
  | 0x9 => some (.int ⟨4, true⟩)
  | 0xA => some (.int ⟨8, false⟩)
  | 0xB => some (.int ⟨2, true⟩)
  | 0xC => some (.flt .a38)
  | 0xD => some (.int ⟨32, true⟩)
  | _ => none

/-- The bits an element occupies when packed (R39). -/
def Fmt.width : Fmt → Nat
  | .flt f => f.bits
  | .int f => f.bits

/-- The value of an encoding. -/
def Fmt.decode : Fmt → Nat → FVal
  | .flt f, n => f.decode n
  | .int f, n => .ofInt (f.decode n)

/-- Conversion of an exact value into the format (R42 to R46). -/
def Fmt.convert (f : Fmt) (rnd : Rnd) (sat ftz : Bool) (x : FVal) : Conv :=
  match f with
  | .flt g => g.convert rnd sat ftz x
  | .int g => g.convert rnd sat x

/-- The largest finite value of a format. -/
def Fmt.maxVal : Fmt → FVal
  | .flt f => f.maxVal false
  | .int f => .ofInt f.greatest

/-- Bytes of a packed row of `n` elements, padded to a byte, or to three bytes for 6-bit formats (R39). -/
def Fmt.rowBytes (f : Fmt) (n : Nat) : Nat :=
  if f.width = 6 then 3 * ((n + 3) / 4) else (n * f.width + 7) / 8

/-- The conversion control field (Table 3-3). -/
structure CCtl where
  dst : BitVec 4
  scale : BitVec 3
  rnd : BitVec 2
  sat : Bool
  ftz : Bool
  amax : Bool
  deriving DecidableEq, Repr

/-- The field from its 16 bits (Table 3-3). -/
def CCtl.ofBits (w : BitVec 16) : CCtl where
  dst := w.extractLsb' 12 4
  scale := w.extractLsb' 9 3
  rnd := w.extractLsb' 7 2
  sat := w.getLsbD 6
  ftz := w.getLsbD 5
  amax := w.getLsbD 4

/-- Block size of a scale mode (Table 3-3); mode 0 has no blocks and is given size 1. -/
def blockSize (mode : BitVec 3) : Nat :=
  match mode.toNat with
  | 1 => 32
  | 2 => 16
  | 3 => 32
  | 4 => 16
  | _ => 1

/-- Whether a scale mode stores E8M0 scales (Table 3-3). -/
def modeE8M0 (mode : BitVec 3) : Bool := mode == 1#3 || mode == 2#3

/-- Whether a control field is legal outside an accumulator transfer (R4, R5, R41). -/
def CCtl.legal (c : CCtl) : Bool :=
  (fmtOf c.dst).isSome && c.dst != 0xC#4 && decide (c.scale.toNat ≤ 4) && c.rnd != 3#2 &&
    (c.scale == 0#3 || !(c.dst == 0x0#4 || c.dst == 0xD#4))

/-- The rounding of a control field, with the draw a stochastic rounding takes (R40, R42). -/
def CCtl.rounding (c : CCtl) (draw : Nat) : Rnd :=
  match c.rnd.toNat with
  | 1 => .stoch draw
  | 2 => .rz
  | _ => .rne

/-- The bits of a control field that are not reserved: bits [3:0] read zero (R3, R40). -/
def ctlBits (w : BitVec 16) : BitVec 16 := w &&& 0xFFF0#16

/-- The control field a write through a descriptor works under (R454): the descriptor's format and scale mode, and
the instruction's remaining bits unless its field is zero. -/
def effectiveCC (instr desc : BitVec 16) : BitVec 16 :=
  if ctlBits instr = 0#16 then desc else (desc &&& 0xFE00#16) ||| (instr &&& 0x01F0#16)

/-- A fine scale byte as a value: NaN for the NaN scale (R49). -/
def scaleVal (mode : BitVec 3) (b : Byte) : FVal :=
  if mode == 0#3 then .fin false 1 0
  else if modeE8M0 mode then (if b = 0xFF#8 then .nan else .fin false 1 ((b.toNat : Int) - 127))
  else if b.getLsbD 7 then .nan
  else FFmt.e4m3.decode b.toNat

/-- An element under its fine scale, `S × q`, exact (R47, R49). -/
def underScale (s q : FVal) : FVal :=
  if s = .nan then .nan else if s.isZero then .zero else s.mul q

/-- A scaled element decoded to FP32 (R50). -/
def decodeFP32 (c s q : FVal) : FVal := rne32v ((underScale s q).mul c)

/-- Whether a coarse scale is positive, finite and normal (R47). -/
def coarseOk (c : Word) : Bool :=
  let e := c.toNat / 2 ^ 23
  decide (1 ≤ e ∧ e ≤ 254)

/-- `floor(log2 x)` of a positive finite value. -/
def FVal.floorLog2 : FVal → Int
  | .fin _ m e => (Nat.log2 m : Int) + e
  | _ => 0

/-- The larger magnitude of two finite values. -/
def maxMag (x y : FVal) : FVal := if x.lt y then y else x

/-- emax of a destination (Table 3-5). -/
def emaxOf (c : BitVec 4) : Int :=
  match c.toNat with
  | 0x1 => 127
  | 0x2 => 15
  | 0x3 => 8
  | 0x4 => 15
  | 0x5 => 4
  | 0x6 => 2
  | 0x7 => 2
  | 0x8 => 6
  | 0x9 => 2
  | 0xA => 7
  | 0xB => 0
  | _ => 0

/-- The smallest UE4M3 code whose value is at least `x`, or 448 (R51). -/
def ue4m3Above (x : FVal) : Nat :=
  ((List.range 127).find? fun k => !((FFmt.e4m3.decode k).lt x)).getD 0x7E

/-- The fine scale byte of a block whose largest magnitude is `a` (R51). -/
def chooseScale (fmt : BitVec 4) (mode : BitVec 3) (a : FVal) : Byte :=
  if modeE8M0 mode then
    if a.isZero then 127#8
    else BitVec.ofNat 8 (min (max (a.floorLog2 - emaxOf fmt + 127) 0) 254).toNat
  else if a.isZero then 0#8
  else
    let qmax := match fmtOf fmt with
      | some f => f.maxVal
      | none => .fin false 1 0
    BitVec.ofNat 8 (ue4m3Above (rne32v (a.div qmax)))

/-- A value counts as a flush when it is finite and non-zero and its code is a zero that did not wrap (R44, R46). -/
def Conv.flushFrom (x : FVal) (f : Fmt) (r : Conv) : Conv :=
  { r with flush := r.flush || (!x.nonFinite && !x.isZero && !r.sat && !r.nonfin && (f.decode r.code).isZero) }

/-- One converted block: its scale byte, if the mode has one, and its elements. -/
structure BlockConv where
  scale : Option Byte
  elems : List Conv
  deriving DecidableEq, Repr

/-- The value a destination's coarse scale leaves: `rne32(x × rne32(1 / C))` (R51); 1.0 leaves the value as it is, so that it is
rounded once (R42). -/
def coarseRemoved (c x : FVal) : FVal := if c.eqv (.fin false 1 0) then x else rne32v (x.mul (rne32v ((FVal.fin false 1 0).div c)))

/-- Conversion of one block of values into a destination format with coarse scale `c` (R51); `draw i` is the draw
element `i` takes when the rounding is stochastic. A block under the NaN scale counts each element as non-finite. -/
def convertBlock (ctl : CCtl) (f : Fmt) (c : FVal) (draw : Nat → Nat) (xs : List FVal) : BlockConv :=
  let ts := xs.map (coarseRemoved c)
  if ctl.scale == 0#3 then
    { scale := none
      elems := (xs.zip ts).zipIdx.map fun p =>
        (f.convert (ctl.rounding (draw p.2)) ctl.sat ctl.ftz p.1.2).flushFrom p.1.1 f }
  else if ts.any FVal.nonFinite then
    { scale := some (if modeE8M0 ctl.scale then 0xFF#8 else 0x7F#8)
      elems := xs.map fun _ => ⟨0, false, true, false⟩ }
  else
    let a := ts.foldl (fun m t => maxMag m t.abs) .zero
    let b := chooseScale ctl.dst ctl.scale a
    let s := scaleVal ctl.scale b
    { scale := some b
      elems := (xs.zip ts).zipIdx.map fun p =>
        let r := if s.isZero then Conv.plain 0
                 else f.convert (ctl.rounding (draw p.2)) true ctl.ftz (p.1.2.div s)
        r.flushFrom p.1.1 f }

/-! ### Operand pairs and expansion (R53 to R56) -/

/-- Operand classes of Table 3-6. -/
inductive OpClass where
  | wide
  | byteF
  | byteI
  | narrowF
  | int4
  | int2
  | fp32
  deriving DecidableEq, Repr

/-- The class of a format code (Table 3-6); INT32 and A38 are no array operands. -/
def classOf (c : BitVec 4) : Option OpClass :=
  match c.toNat with
  | 0x0 => some .fp32
  | 0x1 => some .wide
  | 0x2 => some .wide
  | 0x3 => some .byteF
  | 0x4 => some .byteF
  | 0x5 => some .narrowF
  | 0x6 => some .narrowF
  | 0x7 => some .narrowF
  | 0x8 => some .byteI
  | 0x9 => some .int4
  | 0xA => some .byteI
  | 0xB => some .int2
  | _ => none

/-- How a descriptor says its elements are expanded (DW0[27:26], R54 to R56). -/
inductive Expand where
  | none
  | table (t : Fin 8)
  | zero
  deriving DecidableEq, Repr

/-- How one operand of a pair reaches the arrays: as stored, rounded into the partner's format, by table or by scale
and zero point. -/
inductive Feed where
  | native
  | widen (goal : BitVec 4)
  | table (t : Fin 8) (goal : BitVec 4)
  | zeroPoint (goal : BitVec 4)
  deriving DecidableEq, Repr

/-- The update class a sweep runs in (Table 4-2). -/
inductive Rate where
  | rank1
  | rank2
  | split3
  deriving DecidableEq, Repr

/-- How a pair of operand formats runs (R53, Table 3-6): the update, and how the activation and the weight are fed.
The weight may be an INT4 or INT2 operand expanded by table or zero point; any other pair is illegal. -/
def pairUp (a : BitVec 4) (ea : Expand) (w : BitVec 4) (ew : Expand) : Option (Rate × Feed × Feed) :=
  match classOf a, classOf w with
  | some ca, some cw =>
    if ea != .none then none
    else
      let narrowInt := cw == .int4 || cw == .int2
      let expanded : Option Feed := match ew with
        | .none => none
        | .table t => some (.table t a)
        | .zero => some (.zeroPoint a)
      match ew with
      | .none =>
        match ca, cw with
        | .fp32, .fp32 => some (.split3, .native, .native)
        | .wide, .wide => some (.rank1, .native, .native)
        | .wide, .byteF => some (.rank1, .native, .widen a)
        | .wide, .narrowF => some (.rank1, .native, .widen a)
        | .byteF, .wide => some (.rank1, .widen w, .native)
        | .narrowF, .wide => some (.rank1, .widen w, .native)
        | .byteF, .byteF => some (.rank1, .native, .native)
        | .byteI, .byteI => some (.rank1, .native, .native)
        | .byteF, .narrowF => some (.rank1, .native, .widen a)
        | .narrowF, .byteF => some (.rank1, .widen w, .native)
        | .narrowF, .narrowF => some (.rank2, .native, .native)
        | .int4, .int4 => some (.rank2, .native, .native)
        | _, _ => none
      | _ =>
        if !narrowInt then none
        else match ca, cw with
          | .wide, _ => expanded.map fun f => (.rank1, .native, f)
          | .byteF, _ => expanded.map fun f => (.rank1, .native, f)
          | .byteI, _ => if a = 0x8#4 then expanded.map fun f => (.rank1, .native, f) else none
          | .int4, .int2 => expanded.map fun f => (.rank2, .native, f)
          | _, _ => none
  | _, _ => none

/-! ### A38 accumulation -/

/-- `e(x)` of R61. -/
def a38Exp (m : Nat) (e : Int) : Int := if m = 0 then -126 else max ((Nat.log2 m : Int) + e) (-126)

/-- A magnitude truncated toward zero to a multiple of `2^u`, in units of `2^u` (R61). -/
def truncUnits (m : Nat) (e u : Int) : Nat := if u ≤ e then m <<< (e - u).toNat else m >>> (u - e).toNat

/-- The alignment truncation sum of two finite values, and whether it was clamped (R61). -/
def a38AddFin (cn : Bool) (cm : Nat) (ce : Int) (pn : Bool) (pm : Nat) (pe : Int) : FVal × Bool :=
  let u := max (a38Exp cm ce) (a38Exp pm pe) - 30
  let c1 := truncUnits cm ce u
  let p1 := truncUnits pm pe u
  let s : Int := (if cn then -(c1 : Int) else c1) + (if pn then -(p1 : Int) else p1)
  let k := if 2 ^ 31 ≤ s.natAbs then s.natAbs / 2 * 2 else s.natAbs
  if s = 0 then (.fin (cn && cm == 0 && pn && p1 == 0) 0 0, false)
  else if (FVal.fin false (2 ^ 31 - 1) 97).lt (.fin false k u) then (.fin (s < 0) (2 ^ 31 - 1) 97, true)
  else (.fin (s < 0) k u, false)

/-- The accumulation of an addend into an accumulator value (R61, R62), and whether R61 clamped it. -/
def a38Add : FVal → FVal → FVal × Bool
  | .fin cn cm ce, .fin pn pm pe => a38AddFin cn cm ce pn pm pe
  | c, p => (c.add p, false)

/-- The A38 encoding of a value, truncated toward zero, clamped at the largest finite value (R36, R71). -/
def toA38 (x : FVal) : BitVec 40 × Bool :=
  let r := FFmt.a38.convert .rz true false x
  (BitVec.ofNat 40 r.code, r.sat)

/-- The value of an A38 encoding (R36). -/
def ofA38 (w : BitVec 40) : FVal := FFmt.a38.decode w.toNat

/-- The FP32 widening of an A38 value at a drain or spill, and whether it counts as non-finite (R64). -/
def drainA38 (w : BitVec 40) : Word × Bool :=
  let r := FFmt.fp32.convert .rne false false (ofA38 w)
  (BitVec.ofNat 32 r.code, r.nonfin)

/-- Least of two values; −0 is below +0 and NaN gives NaN (R69, R97). -/
def minVal (x y : FVal) : FVal :=
  if x = .nan ∨ y = .nan then .nan
  else if x.lt y then x else if y.lt x then y else if x.neg? then x else y

/-- Greatest of two values; +0 is above −0 and NaN gives NaN (R69, R97). -/
def maxVal (x y : FVal) : FVal :=
  if x = .nan ∨ y = .nan then .nan
  else if x.lt y then y else if y.lt x then x else if x.neg? then y else x

/-- The exact sum of the six digit products of split-3 mode (R67). -/
def split3Mag (m n : Nat) : Nat :=
  let d2 := m / 2 ^ 16
  let d1 := m / 2 ^ 8 % 2 ^ 8
  let d0 := m % 2 ^ 8
  let g2 := n / 2 ^ 16
  let g1 := n / 2 ^ 8 % 2 ^ 8
  let g0 := n % 2 ^ 8
  d2 * g2 * 2 ^ 32 + (d2 * g1 + d1 * g2) * 2 ^ 24 + (d2 * g0 + d0 * g2 + d1 * g1) * 2 ^ 16

/-- The product of two FP32 operands in split-3 mode (R67); infinities and NaN follow R58. -/
def split3 : FVal → FVal → FVal
  | .fin a m e, .fin b n f => .fin (a != b) (split3Mag m n) (e + f)
  | x, y => x.mul y

/-- The semiring sweeps of Table 4-3. -/
inductive Semiring where
  | minPlus
  | maxPlus
  | l1
  | squaredL2
  deriving DecidableEq, Repr

/-- One semiring update of a slot element, and whether R61 clamped anything in it (R69). -/
def Semiring.update (r : Semiring) (c a w : FVal) : FVal × Bool :=
  match r with
  | .minPlus => let s := a38Add a w; (minVal c s.1, s.2)
  | .maxPlus => let s := a38Add a w; (maxVal c s.1, s.2)
  | .l1 =>
    let d := a38Add a w.negate
    let s := a38Add c d.1.abs
    (s.1, d.2 || s.2)
  | .squaredL2 =>
    let d := a38Add a w.negate
    let s := a38Add c (d.1.mul d.1)
    (s.1, d.2 || s.2)

/-- The starting value of a semiring sweep under INIT (R135). -/
def Semiring.start : Semiring → FVal
  | .minPlus => .inf false
  | .maxPlus => .inf true
  | _ => .zero

end Sys2Proof.Machine
end

