-- ==== Sys2Proof/Machine/Functions.lean ====
section
/-! DEFINITION. The functions of the FN stage (Table 6-1): special inputs (R112), profile 1 bit for bit (R116), the exact
functions (R109, R453), custom tables (R117) and profile 0 within its bounds (R113, R114). -/
namespace Sys2Proof.Machine

/-- An FP32 constant by its encoding. -/
def k32 (n : Nat) : FVal := FFmt.fp32.decode n

/-- `fma(a, b, c)`: rounded once (the profile 1 operations). -/
def fma32 (a b c : FVal) : FVal := rne32v ((a.mul b).add c)

/-- `rni(v)`: the nearest integer, ties to even, of a finite value. -/
def rni : FVal → Int
  | .fin neg m e => let k := roundAt .rne m e 0; if neg then -(k : Int) else k
  | _ => 0

/-- `scale2(p, n, f)`: `p × 2^n` rounded once into a format. -/
def scale2 (p : FVal) (n : Int) (f : FFmt) : FVal :=
  match p with
  | .fin neg m e => f.decode (f.convert .rne false false (.fin neg m (e + n))).code
  | v => v

/-- The value one. -/
def one : FVal := .fin false 1 0

/-- `min(max(x, −150), 128)` of the exponentials. -/
def expClamp (x : FVal) : FVal := minVal (maxVal x (.fin true 150 0)) (.fin false 128 0)

/-- INVLN2 of Table 6-4. -/
def cInvLn2 : FVal := k32 0x3FB8AA3B
/-- LN2HI of Table 6-4. -/
def cLn2Hi : FVal := k32 0x3F317200
/-- LN2LO of Table 6-4. -/
def cLn2Lo : FVal := k32 0x35BFBE8E
/-- LN2 of Table 6-4. -/
def cLn2 : FVal := k32 0x3F317218

/-- A polynomial by Horner's rule, one fma per coefficient after the first. -/
def horner (r : FVal) : List FVal → FVal → FVal
  | [], q => q
  | c :: cs, q => horner r cs (fma32 q r c)

/-- `q` after the coefficient 1/2 in exp and expm1 (R116). -/
def expQ (r : FVal) : FVal :=
  horner r [k32 0x3C088889, k32 0x3D2AAAAB, k32 0x3E2AAAAB, k32 0x3F000000] (k32 0x3AB60B61)

/-- The polynomial lines of exp (R116). -/
def expPoly (r : FVal) : FVal := horner r [one, one] (expQ r)

/-- The reduction of exp: `n` and `r` (R116). -/
def expReduce (x : FVal) : Int × FVal :=
  let n := rni (rne32v (x.mul cInvLn2))
  let nn := FVal.ofInt (-n)
  (n, fma32 nn cLn2Lo (fma32 nn cLn2Hi x))

/-- `exp(x)` of profile 1. -/
def p1exp (x0 : FVal) : FVal :=
  let nr := expReduce (expClamp x0)
  scale2 (expPoly nr.2) nr.1 .fp32

/-- `exp2(x)` of profile 1. -/
def p1exp2 (x0 : FVal) : FVal :=
  let x := expClamp x0
  let n := rni x
  scale2 (expPoly (rne32v ((x.sub (.ofInt n)).mul cLn2))) n .fp32

/-- `exp2b(x)` of profile 1: a BF16 value. -/
def p1exp2b (x0 : FVal) : FVal :=
  let x := expClamp x0
  let n := rni x
  let f := x.sub (.ofInt n)
  scale2 (horner f [k32 0x3E77F358, k32 0x3F317218, one] (k32 0x3D635847)) n .bf16

/-- `expm1(x)` of profile 1, for 0 ≤ x ≤ 32. -/
def p1expm1 (x0 : FVal) : FVal :=
  let nr := expReduce (expClamp x0)
  let n := nr.1
  let r := nr.2
  let m := fma32 (rne32v (r.mul r)) (expQ r) r
  if n = 0 then m
  else
    let p : FVal := .fin false 1 n
    rne32v (((p.mul m).add p).sub one)

/-- `x = 2^k × m` with `1 ≤ m < 2`, for positive finite x. -/
def logSplit : FVal → Int × FVal
  | .fin _ m e => ((Nat.log2 m : Int) + e, .fin false m (-(Nat.log2 m : Int)))
  | v => (0, v)

/-- `log(x)` of profile 1, x positive and finite. -/
def p1log (x : FVal) : FVal :=
  let km := logSplit x
  let up := !(km.2.lt (k32 0x3FB504F3))
  let m := if up then km.2.mul (.fin false 1 (-1)) else km.2
  let k := FVal.ofInt (if up then km.1 + 1 else km.1)
  let s := rne32v ((m.sub one).div (m.add one))
  let z := rne32v (s.mul s)
  let q := horner z [k32 0x3E124925, k32 0x3E4CCCCD, k32 0x3EAAAAAB] (k32 0x3DE38E39)
  let t := rne32v (z.mul q)
  let h := rne32v (s.add s)
  fma32 k cLn2Hi (fma32 k cLn2Lo (fma32 h t h))

/-- `log1p(u)` of profile 1, u ≥ 0. -/
def p1log1p (u : FVal) : FVal :=
  let w := rne32v (one.add u)
  if w.eqv one then u
  else rne32v (((p1log w).mul u).div (w.sub one))

/-- `sigmoid(x)` of profile 1. -/
def p1sigmoid (x : FVal) : FVal := rne32v (one.div (one.add (p1exp x.negate)))

/-- A value with the sign of another. -/
def FVal.withSign (x : FVal) (neg : Bool) : FVal := if neg then x.abs.negate else x.abs

/-- `tanh(x)` of profile 1. -/
def p1tanh (x : FVal) : FVal :=
  let a := x.abs
  let two : FVal := .fin false 2 0
  let y := if a.lt (.fin false 16 0) then
      let u := p1expm1 (two.mul a)
      rne32v (u.div (u.add two))
    else one
  y.withSign x.neg?

/-- `silu(x)` of profile 1. -/
def p1silu (x : FVal) : FVal := rne32v (x.mul (p1sigmoid x))

/-- `gelu_sigmoid(x)` of profile 1. -/
def p1geluSigmoid (x : FVal) : FVal := rne32v (x.mul (p1sigmoid (rne32v ((k32 0x3FD9DB23).mul x))))

/-- `gelu_tanh(x)` of profile 1. -/
def p1geluTanh (x : FVal) : FVal :=
  let k := fma32 (k32 0x3D372713) (rne32v (x.mul x)) one
  let g := rne32v ((k32 0x3F4C422A).mul (rne32v (x.mul k)))
  rne32v (x.mul (p1sigmoid ((FVal.fin false 2 0).mul g)))

/-- `gelu_erf(x)` of profile 1. -/
def p1geluErf (x : FVal) : FVal :=
  let a := (rne32v (x.mul (k32 0x3F3504F3))).abs
  let t := rne32v (one.div (fma32 (k32 0x3EA7BA05) a one))
  let q := horner t [k32 0xBFBA00E3, k32 0x3FB5F0E3, k32 0xBE91A98E, k32 0x3E827906] (k32 0x3F87DC22)
  let c := rne32v ((rne32v (t.mul q)).mul (p1exp (rne32v (a.mul a)).negate))
  let h := if x.lt .zero then c else rne32v ((FVal.fin false 2 0).sub c)
  rne32v (((FVal.fin false 1 (-1)).mul x).mul h)

/-- `softplus(x)` of profile 1. -/
def p1softplus (x : FVal) : FVal :=
  if (FVal.fin false 20 0).lt x then x else p1log1p (p1exp x)

/-! ### Reference values for profile 0

Real functions to about 240 bits, as exact dyadics; they serve only to judge the bounds of Table 6-3. -/

/-- Fraction bits of the reference fixed point. -/
def hpBits : Nat := 256

/-- A value in units of `2^-hpBits`, truncated. -/
def FVal.toFix : FVal → Int
  | .fin neg m e =>
    let k := truncUnits m e (-(hpBits : Int))
    if neg then -(k : Int) else k
  | _ => 0

/-- A fixed-point integer as a value. -/
def ofFix (i : Int) : FVal := .fin (i < 0) i.natAbs (-(hpBits : Int))

/-- `Σ t_k` of a series whose next term is `term k t`. -/
def series (term : Nat → Int → Int) : Nat → Nat → Int → Int → Int
  | 0, _, _, acc => acc
  | fuel + 1, k, t, acc => series term fuel (k + 1) (term k t) (acc + t)

/-- Fixed-point product. -/
def fixMul (a b : Int) : Int := a * b / ((2 ^ hpBits : Nat) : Int)

/-- `atanh(s)` for a fixed-point s of magnitude at most 1/3. -/
def hpAtanh (s : Int) : Int :=
  let z := fixMul s s
  ((List.range 96).foldl (fun (p : Int × Int) k => (p.1 + p.2 / ((2 * k + 1 : Nat) : Int), fixMul p.2 z)) (0, s)).1

/-- `atan(1/n)` in fixed point. -/
def hpAtanInv (n : Nat) : Int :=
  ((List.range 120).foldl (fun (p : Int × Int) k =>
    (p.1 + (if k % 2 = 0 then p.2 else -p.2) / ((2 * k + 1 : Nat) : Int), p.2 / ((n * n : Nat) : Int)))
    (0, ((2 ^ hpBits : Nat) : Int) / (n : Int))).1

/-- π in fixed point (Machin's formula). -/
def hpPi : FVal := ofFix (16 * hpAtanInv 5 - 4 * hpAtanInv 239)

/-- ln 2 in fixed point. -/
def hpLn2 : Int := 2 * hpAtanh (((2 ^ hpBits : Nat) : Int) / 3)

/-- `e^x` for |x| at most 2000; beyond that the value is cut to the largest or smallest the range needs. -/
def hpExp (x0 : FVal) : FVal :=
  let lim : FVal := .fin false 2000 0
  let x := minVal (maxVal x0 lim.negate) lim
  let f := x.toFix
  let n := (2 * f + hpLn2) / (2 * hpLn2)
  let r := f - n * hpLn2
  let p := series (fun k t => fixMul t r / ((k + 1 : Nat) : Int)) 64 0 ((2 ^ hpBits : Nat) : Int) 0
  .fin false p.natAbs (n - (hpBits : Int))

/-- `ln x` of a positive finite value. -/
def hpLog (x : FVal) : FVal :=
  let km := logSplit x
  let up := (FVal.fin false 3 (-1)).lt km.2
  let m := if up then km.2.mul (.fin false 1 (-1)) else km.2
  let k := if up then km.1 + 1 else km.1
  ofFix (2 * hpAtanh (((m.sub one).div (m.add one)).toFix) + k * hpLn2)

/-- `2^x`. -/
def hpExp2 (x : FVal) : FVal := hpExp (x.mul (ofFix hpLn2))

/-- `1/(1 + e^−x)`. -/
def hpSigmoid (x : FVal) : FVal := one.div (one.add (hpExp x.negate))

/-- `erfc(z)` for z of 7 and more, by its continued fraction; 120 levels give over 100 bits there. -/
def hpErfc (z : FVal) : FVal :=
  let f := z.toFix
  let unit : Int := ((2 ^ hpBits : Nat) : Int)
  let t := (List.range 120).foldl (fun (t : Int) i => f + ((120 - i : Nat) : Int) * unit * unit / (2 * t)) f
  (hpExp (z.mul z).negate).div (hpPi.sqrt.mul (ofFix t))

/-- `erf(z)`. -/
def hpErf (z : FVal) : FVal :=
  if (FVal.fin false 7 0).lt z.abs then (one.sub (hpErfc z.abs)).withSign z.neg?
  else
    let f := z.toFix
    let zz := fixMul f f
    let s := ((List.range 260).foldl (fun (p : Int × Int) n =>
      (p.1 + p.2 / ((2 * n + 1 : Nat) : Int), -(fixMul p.2 zz) / ((n + 1 : Nat) : Int))) (0, f)).1
    ((FVal.fin false 2 0).div hpPi.sqrt).mul (ofFix s)

/-- The real value of a function of Table 6-3 at an exact input. -/
def hpFn (code : Nat) (x : FVal) : FVal :=
  let half : FVal := .fin false 1 (-1)
  let two : FVal := .fin false 2 0
  match code with
  | 0x08 => hpExp x
  | 0x09 => hpExp2 x
  | 0x0A => hpLog x
  | 0x0E => hpSigmoid x
  | 0x0F =>
    let e := hpExp (two.mul x.abs)
    (((e.sub one).div (e.add one))).withSign x.neg?
  | 0x10 => x.mul (hpSigmoid x)
  | 0x11 =>
    let z := x.div two.sqrt
    (x.mul half).mul (if z.lt (.fin true 7 0) then hpErfc z.abs else one.add (hpErf z))
  | 0x12 =>
    let c := (FVal.fin false 44715 0).div (.fin false 1000000 0)
    let g := ((two.div hpPi).sqrt).mul (x.add (c.mul (x.mul (x.mul x))))
    x.mul (hpSigmoid (two.mul g))
  | 0x13 => x.mul (hpSigmoid (x.mul ((FVal.fin false 1702 0).div (.fin false 1000 0))))
  | 0x14 => (maxVal x .zero).add (hpLog (one.add (hpExp x.abs.negate)))
  | _ => x

/-- The bound of profile 0 for a function: units in the last place, and whether 2^−24 absolute is allowed as well
(Table 6-3). -/
def p0Bound (code : Nat) : Nat × Bool :=
  match code with
  | 0x10 => (2, false)
  | 0x11 => (2, true)
  | 0x12 => (2, true)
  | 0x13 => (2, true)
  | _ => (1, false)

/-- Whether a result meets the bound around a real value: the value's unit is `2^(E − 23)`, E at least −126
(R113). Results outside the normal range of FP32 have no bound. -/
def withinBound (code : Nat) (v r : FVal) : Bool :=
  match v, r with
  | .fin _ m e, .fin .. =>
    let lo := v.abs.lt (.fin false 1 (-126))
    let hi := (FFmt.fp32.maxVal false).lt v.abs
    if lo || hi then true
    else
      let b := p0Bound code
      let unit : FVal := .fin false b.1 (FFmt.fp32.ulp m e)
      let tol := if b.2 then maxMag unit (.fin false 1 (-24)) else unit
      !(tol.lt (r.sub v).abs)
  | .fin _ _ _, _ => v.abs.lt (.fin false 1 (-126)) || (FFmt.fp32.maxVal false).lt v.abs
  | _, _ => true

/-- The functions of Table 6-3 that are monotone and that profile 0 does not round correctly. -/
def monotone (code : Nat) : Bool := [0x08, 0x09, 0x0A, 0x0E, 0x0F, 0x14].contains code

/-- FP32 values numbered in ascending order: 0 is zero, ±0x7F7FFFFF the largest finite, one past it an infinity. -/
def rankVal (i : Int) : FVal :=
  let v := f32 (BitVec.ofNat 32 i.natAbs)
  if i < 0 then v.negate else v

/-- The number of the greatest FP32 value that is not above a finite value. -/
def rankBelow (v : FVal) : Int :=
  let n : Int := ((FFmt.fp32.convert .rz true false v.abs).code : Nat)
  if !v.neg? then n else if (rankVal n).eqv v.abs then -n else -n - 1

/-- The least and greatest results a monotone function may give around a positive real value in the normal range (R113): a unit
to either side, no further than the bound of a neighbouring binade or the normal range lets it. -/
def boundsUp (v : FVal) : FVal × FVal :=
  match v with
  | .fin _ m e =>
    let q := FFmt.fp32.ulp m e
    let low : FVal := .fin false 1 v.floorLog2
    let edge := if v.floorLog2 = -126 then low else low.sub (.fin false 1 (q - 1))
    (maxVal (v.sub (.fin false 1 q)) edge, minVal (v.add (.fin false 1 q)) (FFmt.fp32.maxVal false))
  | _ => (v, v)

/-- The same around any value in the normal range. -/
def boundsOf (v : FVal) : FVal × FVal :=
  if v.neg? then ((boundsUp v.abs).2.negate, (boundsUp v.abs).1.negate) else boundsUp v

/-- The greatest number of a range whose threshold an input reaches, by bisection; a threshold outside what the thresholds around
it leave is moved there, so the result never falls as the input grows. -/
def reached (from_ : Int → FVal) (x : FVal) : Nat → Int → Int → FVal → FVal → Int
  | 0, lo, _, _, _ => lo
  | fuel + 1, lo, hi, tlo, thi =>
    if hi ≤ lo then lo
    else
      let mid := (lo + hi + 1) / 2
      let t := if from_ mid = .nan then tlo else maxVal tlo (minVal (from_ mid) thi)
      if x.lt t then reached from_ x fuel lo (mid - 1) tlo t else reached from_ x fuel mid hi t thi

/-- What Table 6-2 gives a monotone function at zero, where it gives a finite result. -/
def atZero (code : Nat) : Option FVal :=
  match code with
  | 0x08 | 0x09 => some one
  | 0x0E => some (.fin false 1 (-1))
  | 0x0F => some .zero
  | _ => none

/-- A result kept on its side of the one at zero. -/
def pastZero (code : Nat) (x r : FVal) : FVal :=
  match atZero code with
  | some z => if x.neg? then minVal r z else maxVal r z
  | none => r

/-- Profile 0's result of a monotone function (R113, R114) but for its special inputs: the greatest FP32 value within the bound whose threshold the input
reaches. Below the normal range and past it there is no bound, and the function is monotone still. -/
def profile0Near (code : Nat) (x : FVal) : FVal :=
  let v := hpFn code x
  let from_ (i : Int) : FVal := f32 (Config.profile0From code (rne32 (rankVal i)))
  let signed := code == 0x0A || code == 0x0F
  if v.abs.lt (.fin false 1 (-126)) then
    let i := reached from_ x 26 (if signed then -0x800000 else 0) 0x800000 (.inf true) (.inf false)
    if i = 0 then .fin v.neg? 0 0 else rankVal i
  else if (FFmt.fp32.maxVal false).lt v.abs then
    if x.lt (from_ 0x7F800000) then FFmt.fp32.maxVal false else .inf false
  else
    let k := rankBelow v
    let b := boundsOf v
    let may := ([-2, -1, 0, 1, 2].map fun (d : Int) => k + d).filter fun i =>
      !((rankVal i).lt b.1) && !(b.2.lt (rankVal i))
    match may with
    | [] => rne32v v
    | i :: is => rankVal (is.foldl (fun r j => if x.lt (from_ j) then r else j) i)

/-- Profile 0's result of a monotone function, which stays monotone across the special result at zero (R112 to R114). -/
def profile0Mono (code : Nat) (x : FVal) : FVal := pastZero code x (profile0Near code x)

/-- Profile 0's result (R113, R114): monotone where Table 6-3 says so, elsewhere the part's own choice where it meets the bound
and the nearest FP32 value otherwise. -/
def profile0 (code : Nat) (x : FVal) : FVal :=
  if monotone code then profile0Mono code x
  else
    let v := hpFn code x
    let c := f32 (Config.profile0 code (rne32 x))
    if withinBound code v c then c else rne32v v

/-- 2^x or e^x correctly rounded to BF16 (Table 6-3, profile 0). A power of two with an integer exponent is exact;
every other value is no tie. -/
def p0exp2b (x : FVal) (natural : Bool) : FVal :=
  let f := FFmt.bf16
  let exactInt := !natural && (FVal.ofInt (rni x)).eqv x
  let v := if exactInt then .fin false 1 (min (max (rni x) (-2000)) 2000)
           else match (if natural then hpExp x else hpExp2 x) with
             | .fin n m e => .fin n (2 * m + 1) (e - 1)
             | w => w
  f.decode (f.convert .rne false false v).code

/-! ### The function codes -/

/-- The special inputs of Table 6-2; `none` where the profile's definition applies. -/
def specialInput (code : Nat) (x : FVal) : Option FVal :=
  if x = .nan then some .nan
  else match code with
  | 0x05 | 0x06 | 0x08 | 0x09 =>
    match x with
    | .inf n => some (if n then .zero else .inf false)
    | _ => if x.isZero then some one else none
  | 0x0A =>
    match x with
    | .inf n => some (if n then .nan else .inf false)
    | _ => if x.isZero then some (.inf true) else if x.lt .zero then some .nan else none
  | 0x0B =>
    match x with
    | .inf n => some (.fin n 0 0)
    | _ => if x.isZero then some (.inf x.neg?) else none
  | 0x0C =>
    match x with
    | .inf n => some (if n then .nan else .inf false)
    | _ => if x.isZero then some x else if x.lt .zero then some .nan else none
  | 0x0D =>
    match x with
    | .inf n => some (if n then .nan else .zero)
    | _ => if x.isZero then some (.inf x.neg?) else if x.lt .zero then some .nan else none
  | 0x0E =>
    match x with
    | .inf n => some (if n then .zero else one)
    | _ => if x.isZero then some (.fin false 1 (-1)) else none
  | 0x0F =>
    match x with
    | .inf n => some (if n then one.negate else one)
    | _ => if x.isZero then some x else none
  | 0x10 | 0x11 | 0x12 | 0x13 =>
    match x with
    | .inf n => some (if n then .fin true 0 0 else .inf false)
    | _ => if x.isZero then some x else none
  | 0x14 =>
    match x with
    | .inf n => some (if n then .zero else .inf false)
    | _ => none
  | _ => none

/-- A custom table in force: bounds, knots and the reciprocal span formed at the fill (R117). -/
structure CustomTable where
  lo : Word
  hi : Word
  winv : Word
  knots : Vector Word 65
  deriving DecidableEq, Repr

/-- CUSTOM at a value (R112, R117). -/
def CustomTable.eval (t : CustomTable) (x : FVal) : FVal :=
  match x with
  | .nan => .nan
  | .inf n => f32 (if n then t.knots[0] else t.knots[64])
  | .fin .. =>
    let p0 := rne32v ((x.sub (f32 t.lo)).mul (f32 t.winv))
    let p := if p0.lt .zero then .zero else p0
    let past := !(p.lt (.fin false 64 0))
    let k : Nat := if past then 63 else match p with
      | .fin _ m e => truncUnits m e 0
      | _ => 63
    let f := if past then one else p.sub (.ofInt k)
    let y0 := f32 (t.knots.getD k 0#32)
    let y1 := f32 (t.knots.getD (k + 1) 0#32)
    fma32 f (rne32v (y1.sub y0)) y0

/-- The natural logarithm of the selected profile (R116, R120). -/
def logOf (p1 : Bool) (x : FVal) : FVal :=
  (specialInput 0x0A x).getD (if p1 then p1log x else profile0 0x0A x)

/-- EXP2B of the selected profile (R119). -/
def exp2bOf (p1 : Bool) (x : FVal) : FVal :=
  (specialInput 0x05 x).getD (if p1 then p1exp2b x else p0exp2b x false)

/-- RSQRT, correctly rounded (Table 6-3). -/
def rsqrt32 (x : FVal) : FVal := (specialInput 0x0D x).getD (rne32v (one.div x.sqrt))

/-- The element-wise functions of Table 6-1, SMAX, CENTRE, NORM_APPLY and the register-only codes apart; `lo`, `hi`
are the clamp bounds of R453. -/
def applyFn (code : Nat) (p1 : Bool) (tab : CustomTable) (lo hi x : FVal) : FVal :=
  match code with
  | 0x01 => maxVal x .zero
  | 0x02 => x.abs
  | 0x03 => x.negate
  | 0x04 => minVal (maxVal x lo) hi
  | 0x15 => tab.eval x
  | _ =>
    match specialInput code x with
    | some y => y
    | none =>
      match code with
      | 0x05 => if p1 then p1exp2b x else p0exp2b x false
      | 0x06 => if p1 then p1exp2b (rne32v (x.mul cInvLn2)) else p0exp2b x true
      | 0x0B => rne32v (one.div x)
      | 0x0C => rne32v x.sqrt
      | 0x0D => rne32v (one.div x.sqrt)
      | 0x08 => if p1 then p1exp x else profile0 code x
      | 0x09 => if p1 then p1exp2 x else profile0 code x
      | 0x0A => if p1 then p1log x else profile0 code x
      | 0x0E => if p1 then p1sigmoid x else profile0 code x
      | 0x0F => if p1 then p1tanh x else profile0 code x
      | 0x10 => if p1 then p1silu x else profile0 code x
      | 0x11 => if p1 then p1geluErf x else profile0 code x
      | 0x12 => if p1 then p1geluTanh x else profile0 code x
      | 0x13 => if p1 then p1geluSigmoid x else profile0 code x
      | 0x14 => if p1 then p1softplus x else profile0 code x
      | _ => x

end Sys2Proof.Machine
end

