-- ==== Sys2Proof/Machine/State.lean ====
section
/-! DEFINITION. The state of the block: every register, table, queue, counter, buffer and line the spec gives the
package, as plain data, and the state right after reset. Sparse maps list only what differs from what an absent key
reads as. -/
namespace Sys2Proof.Machine

/-- Why the machine would stop with a fault. No command of this block stops the machine: every fault the spec names
is a state of a unit, a launch or a result slot, taken as a next state. -/
inductive Fault where
  /-- Raised by no command; here because the interface asks for a type of faults. Safe. -/
  | none
  deriving DecidableEq, Repr

/-- Why a command has no meaning. -/
inductive Refusal where
  /-- A command of the table whose meaning is not written; raised by `exec` alone. Safe: the run stops. -/
  | notModelled (mnemonic : String)
  deriving DecidableEq, Repr

/-- Bytes and the check state of each 16-byte word of a memory (R235): mark 1 a single-symbol error, 2 an
uncorrectable error, 3 the poison marker; `parts` the words last written in part (R414); an unlisted byte reads 0 and an unlisted word is clean and
counts as written whole. -/
structure Mem where
  bytes : Sparse Byte
  marks : Sparse Nat
  parts : Sparse Nat := []
  deriving DecidableEq, Repr

/-- A memory with nothing listed. -/
def Mem.empty : Mem := ⟨[], [], []⟩

/-! ### Cores -/

/-- One lane of a vector register: its value and its poison bit (R88). -/
structure Lane where
  val : Word
  poison : Bool
  deriving DecidableEq, Repr

/-- A lane that reads zero. -/
def Lane.zero : Lane := ⟨0#32, false⟩

/-- One array's part of a tile slot: 16,384 A38 values row by row, its poison and overflow flags (R36, R63, R85). -/
structure TileArr where
  vals : Vector (BitVec 40) 16384
  poison : Bool
  ovf : Bool
  deriving DecidableEq, Repr

/-- A cleared part of a slot. -/
def TileArr.zero : TileArr := ⟨Vector.replicate 16384 0#40, false, false⟩

/-- A tile: its part in each of the four arrays, and the coarse scales of the sweep it holds (R58, R92). -/
structure Tile where
  arr : Vector TileArr 4
  ca : Word
  cw : Word
  deriving DecidableEq, Repr

/-- A tile as a free slot starts: +0 everywhere (R73). -/
def Tile.zero : Tile := ⟨Vector.replicate 4 TileArr.zero, 0x3F800000#32, 0x3F800000#32⟩

/-- Where a logical tile is (R73, R74): unbound, in a slot, or in four spill frames with its flags. -/
inductive TileLoc where
  | unbound
  | bound (slot : Fin 8)
  | spilled (frame : Nat) (poison : BitVec 4) (ovf : BitVec 4) (ca cw : Word)
  deriving DecidableEq, Repr

/-- An expansion table: sixteen entries and the target format (R55). -/
structure ExpTable where
  entries : Vector (BitVec 16) 16
  target : Byte
  deriving DecidableEq, Repr

/-- A census slot: the nine counts with bit 63 sticky, the conversion and census maxima (Table 12-2). -/
structure Census where
  q : Vector DWord 9
  convMax : Word
  cenMax : Word
  deriving DecidableEq, Repr

/-- A census slot that reads zero. -/
def Census.zero : Census := ⟨Vector.replicate 9 0#64, 0#32, 0#32⟩

/-- A WAIT of a core that is not satisfied yet (R262). -/
structure CoreWait where
  rennet : Nat
  count : Nat
  f : Bool
  p : Bool
  word : Nat
  deriving DecidableEq, Repr

/-- A MOVE that has issued and still waits for bytes of the pipe it reads (R142, R257): its fields, and the index and descriptor registers
it read at issue; its word number. -/
structure Moving where
  f : MoveF
  x : Vector DWord 32
  d : Vector (BitVec 512) 64
  word : Nat
  deriving DecidableEq, Repr

/-- A SYNC instruction that has issued and waits for its unit (R142, Table 7-17): SIGNAL 0, WAIT 1 or FENCE 2, its fields and its word
number. -/
structure SyncItem where
  op : Fin 3
  f : SyncF
  word : Nat
  deriving DecidableEq, Repr

/-- What the core's part of a launch is doing. -/
inductive CoreRun where
  | idle
  | running
  | saving
  | restoring
  | loading
  deriving DecidableEq, Repr

/-- A physical core (R127, R128): program memory, registers, tables, tiles, census, buffer and run state; `unfenced` the older
contents of granules its unordered writes changed (R144), `noted` the count of instructions issued at the last such write and the
granules that instruction has noted; `moving` the MOVE that waits for its pipe and `pipeIn` what it has read, `syncQ` the queue of the
synchronisation unit; `held` the instructions that cannot issue yet, in order (R142). -/
structure Core where
  prog : Sparse (BitVec 256)
  progBad : List Nat
  loaded : Nat
  pc : Nat
  x : Vector DWord 32
  v : Vector (Vector Lane 128) 32
  m : Vector (BitVec 128) 8
  d : Vector (BitVec 512) 64
  checked : BitVec 64
  vstat : Word
  spillWord : Word
  tiles : Vector TileLoc 16
  slots : Vector Tile 8
  recency : List TileNo
  exps : Vector ExpTable 8
  expShadow : Vector (Option ExpTable) 8
  expVer : Vector (BitVec 16) 8
  custs : Vector CustomTable 8
  custShadow : Vector (Option CustomTable) 8
  custVer : Vector (BitVec 16) 8
  census : Vector Census 16
  attach : Vector (Option (Fin 16)) 64
  lfsr : Vector DWord 128
  buf : Mem
  unfenced : Sparse (List (List (Byte × Bool)))
  noted : Nat × List Nat
  wait : Option CoreWait
  pipeIn : List (Byte × Bool)
  moving : Option Moving
  syncQ : List SyncItem
  held : List Instr
  run : CoreRun
  launch : Option Nat
  preReq : Bool
  interval : Nat
  intervalRaised : Bool
  lastPoint : Nat
  folds : List Census
  deriving DecidableEq, Repr

/-- A core at start-up: every register, table and buffer zero, no program, no launch. -/
def Core.reset : Core where
  prog := []
  progBad := []
  loaded := 0
  pc := 0
  x := Vector.replicate 32 0#64
  v := Vector.replicate 32 (Vector.replicate 128 Lane.zero)
  m := Vector.replicate 8 0#128
  d := Vector.replicate 64 0#512
  checked := 0#64
  vstat := 0#32
  spillWord := 0#32
  tiles := Vector.replicate 16 .unbound
  slots := Vector.replicate 8 Tile.zero
  recency := []
  exps := Vector.replicate 8 ⟨Vector.replicate 16 0#16, 0#8⟩
  expShadow := Vector.replicate 8 none
  expVer := Vector.replicate 8 0#16
  custs := Vector.replicate 8 ⟨0#32, 0#32, 0#32, Vector.replicate 65 0#32⟩
  custShadow := Vector.replicate 8 none
  custVer := Vector.replicate 8 0#16
  census := Vector.replicate 16 Census.zero
  attach := Vector.replicate 64 none
  lfsr := Vector.replicate 128 0#64
  buf := Mem.empty
  unfenced := []
  noted := (0, [])
  wait := none
  pipeIn := []
  moving := none
  syncQ := []
  held := []
  run := .idle
  launch := none
  preReq := false
  interval := 0
  intervalRaised := false
  lastPoint := 0
  folds := []

/-! ### Units -/

/-- One path's view of a unit (R31): state code of Table 2-5, hold causes of Table 2-8, version. -/
structure UView where
  state : Fin 9
  causes : Byte
  version : BitVec 16
  deriving DecidableEq, Repr

/-- The command whose result slot reports a unit operation (Table 15-2): its function, slot, vat and frame. -/
structure OpSlot where
  fn : FnNo
  slot : Nat
  vat : VatNo
  frame : Nat
  deriving DecidableEq, Repr

/-- A unit record (R22): the management path's view and the data path's, the common objects, where a draining unit goes
and with which causes, the pipes of which it holds frozen slots, each with whether at its consumer's end, the body hash of its image and that image's security version, whether it streams an image while
LOADING (R398, R417) and whether its self-test is bound to fail (R436), its corrected errors at the beats of the window, the beats left of a window already reported and whether a hold is due (R415), and the retired rows (R79) and lane groups (R103) it last passed
LOADING with. -/
structure UnitRec where
  mg : UView
  dp : UView
  lastBeat : Nat
  opStatus : Nat
  frozen : Vector Nat 8
  frozenPipes : List (Nat × Bool)
  drainTo : Option (Fin 9)
  drainCauses : Byte
  image : List Byte
  version : Nat
  streaming : Bool
  doomed : Bool
  opSlot : Option OpSlot
  corrWindow : List Nat
  corrTold : Nat
  corrHold : Bool
  rows : List Nat
  groups : BitVec 9
  deriving DecidableEq, Repr

/-- A unit at start-up: ABSENT, version 0, no cause. -/
def UnitRec.reset : UnitRec where
  mg := ⟨0, 0#8, 0#16⟩
  dp := ⟨0, 0#8, 0#16⟩
  lastBeat := 0
  opStatus := 0
  frozen := Vector.replicate 8 0
  frozenPipes := []
  drainTo := none
  drainCauses := 0#8
  image := []
  version := 0
  streaming := false
  doomed := false
  opSlot := none
  corrWindow := []
  corrTold := 0
  corrHold := false
  rows := []
  groups := 0#9

/-- Who issues a request (R26, R381): the roles of the dictionary and the Smiund driver. -/
inductive Role where
  | operator
  | installer
  | maker
  | driver
  | package
  deriving DecidableEq, Repr

/-- A unit request waiting for its target beat (R26), with who sent it: its role, the vats its operator key covers, the key
and source its audit record names. -/
structure UnitReq where
  unit : UnitNo
  op : Byte
  target : Nat
  version : BitVec 16
  role : Role
  mask : BitVec 16
  keyId : List Byte
  source : Nat
  slot : Option OpSlot
  deriving DecidableEq, Repr

/-! ### Launches and result slots -/

/-- How one core stands in a launch (R289). -/
inductive CoreEnd where
  | waiting
  | running
  | ended
  | faulted
  | abandoned
  | stopping
  | stopped
  | saving
  | saved
  deriving DecidableEq, Repr

/-- A core named by a launch: its vat-space logical number, its physical core once started, and how it stands. -/
structure LCore where
  q : Fin 48
  phys : Option CoreId
  fin : CoreEnd
  cycles : Nat
  past : Bool
  deriving DecidableEq, Repr

/-- An accepted launch (R285), waiting or running, with what its result will report; `keyWait` counts the
seed keys still being formed that it waits for (R204). -/
structure Launch where
  vat : VatNo
  fn : FnNo
  slot : Nat
  kind : Fin 3
  ctx : Bool
  preEn : BitVec 4
  start : Nat
  cores : List LCore
  stamp : Nat
  bound : Nat
  rennets : Vector Nat 4
  thresholds : Vector Nat 4
  ctxBase : Nat
  image : Nat
  count : Nat
  loadStart : Nat
  pace : Nat
  tag : Word
  xs : Vector DWord 32
  started : Bool
  preReq : Bool
  overrun : Bool
  fallback : Bool
  poison : Bool
  summary : BitVec 4
  reason : Nat
  fault : Option (Nat × Nat × Nat)
  seed : DWord
  key : BitVec 128
  keyWait : Nat
  frame : Nat
  preSlots : List Nat
  deriving DecidableEq, Repr

/-- A result slot (Table 15-4), its sixteen words. -/
structure RSlot where
  w : Vector Word 16
  deriving DecidableEq, Repr

/-- A slot at reset: RELEASED, generation 0, no word, no core. -/
def RSlot.reset : RSlot :=
  ⟨#v[0#32, 0#32, 0xFFFF#32, 0xFF#32, 0#32, 0#32, 0#32, 0#32, 0#32, 0#32, 0#32, 0#32, 0#32, 0#32, 0#32, 0#32]⟩

/-- A vat's open verdict and what R225 keeps (R221 to R225). -/
structure Verdict where
  acc : Census
  taint : Bool
  good : Nat
  initPending : Bool
  scale : Word
  seq : Word
  bad : Bool
  deriving DecidableEq, Repr

/-- A verdict at reset: empty, the initial loss scale in force. -/
def Verdict.reset : Verdict := ⟨Census.zero, false, 0, false, 0x47000000#32, 0#32, false⟩

/-! ### Events -/

/-- An event record (Table 22-1). -/
structure EventRec where
  beat : Nat
  code : Nat
  path : Nat
  detail : List Byte
  deriving DecidableEq, Repr

/-- Where the package sends what leaves it. -/
inductive OutDest where
  | host
  | msix
  | kop
  | fabric
  | twin
  | croak
  | mgmt
  | ptp
  deriving DecidableEq, Repr

/-- Something the package sends: its destination, a kind within it, numbers and bytes. -/
structure OutMsg where
  dest : OutDest
  kind : Nat
  nums : List Nat
  data : List Byte
  deriving DecidableEq, Repr



/-! ### The page keeper (R168 to R188) and the batch commands (R294 to R297) -/

/-- A batch slot: what its page record shows (Table 9-7), the blocks opened for a flush still to come (R181), and what the keeper keeps of its join: priority, beat of
admission, shareable tokens, salt, token list, whether its blocks are still to be inserted (R178), its private pages (W7) and
the frames a swap of it moves. -/
structure SeqRec where
  state : Nat
  layout : Nat
  vat : VatNo
  staged : Nat
  n : Nat
  opened : Nat
  cap : Nat
  base : Nat
  hit : Nat
  lastNode : Nat
  growth : Nat
  hostFrames : List Nat
  prio : Nat
  joinBeat : Nat
  share : Nat
  salt : DWord
  tokens : Nat
  insertDue : Bool
  priv : Nat
  moving : List Nat
  deriving DecidableEq, Repr

/-- An empty batch slot. -/
def SeqRec.empty : SeqRec where
  state := 0
  layout := 0
  vat := 0
  staged := 0
  n := 0
  opened := 0
  cap := 0
  base := 0
  hit := 0
  lastNode := 0xFFFFFFFF
  growth := 0
  hostFrames := []
  prio := 0
  joinBeat := 0
  share := 0
  salt := 0#64
  tokens := 0
  insertDue := false
  priv := 0
  moving := []

/-- A frame of a pool (R180): 0 free, 1 held, 2 inbound, 3 outbound; its vat and its reference count. -/
structure Frame where
  state : Nat
  vat : Nat
  refs : Nat
  deriving DecidableEq, Repr

/-- A free frame. -/
def Frame.free : Frame := ⟨0, 0, 0⟩

/-- A join that is not admitted yet (Table 15-6, R296). -/
structure JoinRec where
  vat : VatNo
  fn : FnNo
  slot : Nat
  batch : Nat
  resume : Bool
  layout : Nat
  prio : Nat
  stamp : Nat
  taken : Nat
  base : Nat
  cap : Nat
  prefill : Nat
  share : Nat
  salt : DWord
  tokens : Nat
  deferred : Bool
  deriving DecidableEq, Repr

/-- A leave that is not applied yet (R296, R297). -/
structure LeaveRec where
  vat : VatNo
  fn : FnNo
  slot : Nat
  frame : Nat
  batch : Nat
  stamp : Nat
  taken : Nat
  deriving DecidableEq, Repr

/-- A growth for one beat's page work (Table 15-2, R174). -/
structure GrowthRec where
  vat : VatNo
  fn : FnNo
  slot : Nat
  frame : Nat
  beat : Nat
  growth : List Nat
  deriving DecidableEq, Repr

/-- The page work of a vat (R181): beats whose work has not begun, the beat of the work under way, the latest beat begun,
whether its page demands have begun, the slots whose demands are still unmet, highest priority first, and the slots whose
swap-outs they wait for. -/
structure PageWork where
  due : List Nat
  now : Option Nat
  begun : Nat
  demanded : Bool
  demands : List Nat
  waitFor : List Nat
  deriving DecidableEq, Repr

/-- A seed command whose key is not ready yet (R203). -/
structure SeedReq where
  fn : FnNo
  slot : Nat
  seed : DWord
  deriving DecidableEq, Repr

/-- A vat's seed in force, the seed commands whose keys are being formed, oldest first (R203), and whether an unlock has zeroed the key of the
seed in force (R406). -/
structure VatSeed where
  seed : DWord
  pend : List SeedReq
  zeroed : Bool
  deriving DecidableEq, Repr

/-! ### Memory (R232 to R250) -/

/-- A shadow move in progress (R241): bases, the sizes of a half before and after in bytes (R351), the granules it copies, one half of them in
each half, how many are copied in order, and the places in the order of those copied ahead. -/
structure ShadowMove where
  oldBase : Nat
  newBase : Nat
  oldHalf : Nat
  newHalf : Nat
  granules : Nat
  copied : Nat
  early : List Nat
  deriving DecidableEq, Repr

/-- A relocation of a retired set (R248): the set, the mode, whether it has begun, the rows done in order, those done
out of order, and the poisoned words met. -/
structure Reloc where
  set : Nat
  poisonMode : Bool
  begun : Bool
  next : Nat
  early : List Nat
  poisoned : Nat
  deriving DecidableEq, Repr

/-! ### Pipes, rennets and pools (R253 to R276) -/

/-- A packet in a pipe's store: its bytes with their poison, how many are already read, whether it is committed,
whether its notice has been signalled (R255 to R258). -/
structure Packet where
  data : List (Byte × Bool)
  read : Nat
  committed : Bool
  noticed : Bool
  deriving DecidableEq, Repr

/-- A packet in the whey ring: its ring slot and length; the bytes lie in HBM (R254, R255). -/
structure WheyPacket where
  slot : Nat
  len : Nat
  deriving DecidableEq, Repr

/-- A pipe: the record of Table 14-1, its stores, the notices still owed for packets that have left its head, the bytes of a writing instruction that wait for tail room, and the word
number of that instruction. -/
structure Pipe where
  state : Fin 4
  vat : VatNo
  k : Nat
  short : Bool
  threshold : Nat
  prodHub : Bool
  prod : Nat
  consHub : Bool
  cons : Nat
  wheyBase : Nat
  whey : Nat
  notice : Nat
  noticeOn : Bool
  tail : List Packet
  middle : List WheyPacket
  wheyNext : Nat
  head : List Packet
  owed : Nat
  waiting : List (Byte × Bool)
  flushEnd : Bool
  word : Nat
  slotDone : Option (FnNo × Nat)
  deriving DecidableEq, Repr

/-- An unconfigured pipe. -/
def Pipe.reset : Pipe where
  state := 0
  vat := 0
  k := 0
  short := false
  threshold := 0
  prodHub := false
  prod := 0
  consHub := false
  cons := 0
  wheyBase := 0
  whey := 0
  notice := 0
  noticeOn := false
  tail := []
  middle := []
  wheyNext := 0
  head := []
  owed := 0
  waiting := []
  flushEnd := false
  word := 0
  slotDone := none

/-- A rennet (Table 14-2); maximum 0 is unconfigured. -/
structure Rennet where
  count : Nat
  max : Nat
  vat : VatNo
  remote : Bool
  deriving DecidableEq, Repr

/-- An unconfigured rennet. -/
def Rennet.reset : Rennet := ⟨0, 0, 0, false⟩

/-- Who retries a refused local signal (R258, R261). -/
inductive SignalFrom where
  | core (c : CoreId)
  | pipe (p : Fin 1024)
  | codec (e : Fin 8)
  deriving DecidableEq, Repr

/-- A local signal that waits for its rennet, and whether its refusal has been reported (R261). -/
structure Retry where
  rennet : Nat
  count : Nat
  src : SignalFrom
  told : Bool
  deriving DecidableEq, Repr

/-- A remote signal of this package not yet settled (R264, R265). -/
structure SentSignal where
  seq : Word
  rennet : Nat
  count : Nat
  vat : VatNo
  raised : Bool
  full : Bool
  deriving DecidableEq, Repr

/-- What is kept for one peer of remote signals (R264 to R267): `early` the signals that wait their turn, each with the binding it came on;
`window` is how many signals it can hold unacknowledged, `free` how many more (R264, R271); `queued` the hub's own signals that wait for
room, each by vat, rennet and count. -/
structure PeerRec where
  peer : Peer
  nextSeq : Word
  sent : List SentSignal
  lastApplied : Word
  outcomes : List (Word × SignalOutcome)
  early : List (Nat × RemoteSignal)
  reconciling : Bool
  window : Nat
  free : Nat
  queued : List (VatNo × Nat × Nat)
  deriving DecidableEq, Repr

/-- A peer as it is bound: sequences start at 1, nothing is in transit (R264, R267). -/
def PeerRec.fresh (p : Peer) : PeerRec := ⟨p, 1#32, [], 0#32, [], [], false, 1024, 1024, []⟩

/-! ### Croak (R304 to R318) -/

/-- A group request waiting for its symbol, at the segment master or at the member that forwarded it (R310): operation, target
beat, sender's role, the command that made it. -/
structure GroupOp where
  op : Byte
  target : Nat
  role : Role
  slot : Option OpSlot
  deriving DecidableEq, Repr

/-- The servo of the ordinary clock (R312, R313, R340), in quarters of a nanosecond: the Sync whose delay response it awaits, when it last
measured, by how much it has corrected the local time counter in all, and whether it slews after a holdover. -/
structure Servo where
  sync : Option (Nat × Nat)
  seen : Nat
  correction : Int
  slewing : Bool
  deriving DecidableEq, Repr

/-- The servo at start-up. -/
def Servo.reset : Servo := ⟨none, 0, 0, false⟩

/-- The Croak interface: the symbol whose beat has not begun and its local beat instant (R307); the missed count (R317);
whether this beat period has discarded a symbol; whether the last symbol had STOP; whether no symbol has been accepted since
mode 0 was left (R437); whether a beat has begun since start-up (R314); the group operation for the next beat (Table 16-2), and
the one of the symbol whose beat has not begun; the member count of the group record (R310); of a master, its requests, whether its first symbol is still
to come, and the instant its source mode took effect at (R312, R314), the instant from which it waits for CROAK_RDY (R308), the echo asked
for and the one whose answer the last symbol called for (R316), whether it has given way to another master (R311); whether IEEE 1588 lock is
lost (R313); CROAK_HOLD_N as last sampled, and the nodes still counted out until the next symbol (R309); whether this gap has
raised EV-0x1001 (R317). -/
structure Croak where
  symbol : Option (BitVec 192 × Nat)
  missed : Nat
  discarded : Bool
  stopSeen : Bool
  fresh : Bool
  begun : Bool
  op : Option GroupOp
  carried : Option GroupOp
  members : Nat
  ops : List GroupOp
  first : Bool
  since : Nat
  waiting : Option Nat
  echo : Option (Fin 32)
  echoed : Option (Fin 32)
  yields : Bool
  holdover : Bool
  holdHigh : Bool
  countedOut : List Nat
  stopTold : Bool
  servo : Servo
  deriving DecidableEq, Repr

/-- The interface at start-up. -/
def Croak.reset : Croak where
  symbol := none
  missed := 0
  discarded := false
  stopSeen := false
  fresh := false
  begun := false
  op := none
  carried := none
  members := 0
  ops := []
  first := false
  since := 0
  waiting := none
  echo := none
  echoed := none
  yields := false
  holdover := false
  holdHigh := true
  countedOut := []
  stopTold := false
  servo := Servo.reset

/-! ### Host port (R322 to R334) -/

/-- One function's registers, MSI-X table, mailbox and assembly buffers (R282, R324, R325, R329). -/
structure Func where
  winBase : Nat
  enables : BitVec 6
  causes : BitVec 6
  masked : BitVec 128
  pend : BitVec 128
  reqLen : Nat
  respLen : Nat
  busy : Bool
  req : Sparse Byte
  resp : Sparse Byte
  frames : Sparse Byte
  msix : Sparse Byte
  secure : Bool
  ideHold : Bool
  deriving DecidableEq, Repr

/-- A function at reset: registers zero, every vector masked, buffers empty. -/
def Func.reset : Func where
  winBase := 0
  enables := 0#6
  causes := 0#6
  masked := BitVec.allOnes 128
  pend := 0#128
  reqLen := 0
  respLen := 0
  busy := false
  req := []
  resp := []
  frames := []
  msix := []
  secure := false
  ideHold := false

/-- What waits in the host-bound queue (R332): the function that carries it, its flow (a vat, or 16 for the package's own) and the
message. -/
structure HostBound where
  fn : FnNo
  flow : Fin 17
  msg : OutMsg
  deriving DecidableEq, Repr

/-- A command taken from a frame: its function, vat, frame and 512 bytes (R282). -/
structure Cmd where
  fn : FnNo
  vat : VatNo
  frame : Nat
  bytes : List Byte
  deriving DecidableEq, Repr

/-- The host port: VF Enable, what the host-bound queue holds, oldest first, the flow it served last (R332), the functions whose TLPs outside
IDE have raised their event in this beat (R324, R333, R334), the maximum payload and read request sizes in bytes (Table 17-1), BAR4's
size of every virtual function as log2 of bytes (Table 17-2), the width that training gave the link (L0p), and the commands whose frames
arrived while the host port or the hub die was HELD or LOADING, oldest first (Table 22-7); the ring records whose copies were discarded
before they left (R392, R411), the mailbox messages that wait for the management core to resume (R382), the reads of host memory not
answered yet (Table 17-1), and where BAR0, BAR2 and BAR4 of the physical function and of virtual function 1 are assigned (R324, R334). -/
structure HostPort where
  vfEnable : Bool
  held : List HostBound
  served : Fin 17
  tlpBeat : List Nat
  maxPayload : Nat
  maxRead : Nat
  vfBar : Nat
  trained : Nat
  waiting : List Cmd
  lost : List (List Byte)
  late : List KopMsg
  asked : List HostBound
  bars : Vector (Option Nat) 3
  vfBars : Vector (Option Nat) 3
  deriving DecidableEq, Repr

/-- The host port at start-up: 128-byte payloads and 512-byte read requests are PCI Express's own reset values (PRESUMED, assumption 112),
16 GiB the default of Table 17-2. -/
def HostPort.reset : HostPort := ⟨false, [], 16, [], 128, 512, 34, 0, [], [], [], [], Vector.replicate 3 none, Vector.replicate 3 none⟩

/-! ### Fabric, twin link, shadow and export (R337 to R357) -/

/-- A Psiger segment kept in the retransmit store until it is acknowledged (R344): its sequence, class, header and payload,
the port of its last send and the place of that port in the turn. -/
structure SentSeg where
  seq : Word
  cls : Nat
  header : List Word
  payload : List Byte
  port : Option Nat
  turn : Nat
  deriving DecidableEq, Repr

/-- A segment held until it can leave (R344): type, class, W6, W7 and payload, and whether its wait for space in the retransmit store has been
counted. -/
structure HeldSeg where
  typ : Nat
  cls : Nat
  w6 : Nat
  w7 : Nat
  payload : List Byte
  counted : Bool
  deriving DecidableEq, Repr

/-- What a bound binding keeps beside its record (R343 to R347): state, sequences, copies and held segments, segments that
arrived early, ports left until the next beat, consecutive resends of each port, the port of the last resend, whether an acknowledgement is due, and of an exchange
under R266 whether this side has left and the peer's has come. -/
structure Binding where
  state : Nat
  next : Word
  last : Word
  sent : List SentSeg
  held : List HeldSeg
  early : List Segment
  away : List Nat
  resends : Sparse Nat
  lastPort : Option Nat
  ackDue : Bool
  told : Bool
  heard : Bool
  deriving DecidableEq, Repr

/-- An unbound binding. -/
def Binding.unbound : Binding := ⟨0, 1#32, 0#32, [], [], [], [], [], none, false, false, false⟩

/-- End-to-end credits of a mapped pipe (R346). Outbound: packets sent, packets freed at the far end as last returned, the far
end's capacity, and the credits at the sender. Inbound: packets received, and packets freed as last told to the far end. -/
structure PipeCredit where
  taken : Word
  returned : Word
  capacity : Nat
  free : Nat
  deriving DecidableEq, Repr

/-- A mapped pipe before its first packet. -/
def PipeCredit.reset : PipeCredit := ⟨0#32, 0#32, 0, 0⟩

/-- A fabric port (R338, R339): whether it is in the spray sets, its secure association keys in force and those that come
into force at the next beat, and the frames it discarded in this beat. -/
structure FPort where
  spray : Bool
  keys : List (List Byte)
  newKeys : List (List Byte)
  discards : Nat
  deriving DecidableEq, Repr

/-- The slot a key installed by the dictionary takes, from its last byte (DESIGN CHOICE, assumption 25): of a transmit key, with bit 7 set, its
association number in the two low bits; of a receive key those and its channel in the four bits above. -/
def keySlot (key : List Byte) : Nat :=
  let b := (key.getLastD 0#8).toNat
  if 128 ≤ b then 128 + b % 4 else b % 64

/-- A key put in its slot, in place of the one there: at most one transmit channel and 16 receive channels of four associations (R337). -/
def putKey (keys : List (List Byte)) (key : List Byte) : List (List Byte) :=
  (keys.filter fun k => keySlot k != keySlot key) ++ [key]

/-- A port at start-up. -/
def FPort.reset : FPort := ⟨false, [], [], 0⟩

/-- The twin link (R350 to R352): whether a probe is outstanding, the partner's pair record held for the next beat, and the
epochs whose records are refused until their aborts. -/
structure TwinLink where
  probing : Bool
  record : Option PairRecord
  refused : List Nat
  deriving DecidableEq, Repr

/-- The twin link's credits (R268, R271, R349), in flits: of each class those at the sender and those of messages whose credits have not
come back, their number in all, and the messages that wait for a credit of their class; `owe` the flits of each class that have come from the
twin and whose credits are still to be returned; and the last audit sequence handed to the link (R393). -/
structure TwinPool where
  free : Vector Nat 4
  taken : Vector Nat 4
  total : Nat
  waiting : List (Fin 4 × OutMsg)
  owe : Vector Nat 4
  audited : Nat
  deriving DecidableEq, Repr

/-- The twin link's receiver buffers, all free (R349). -/
def TwinPool.reset : TwinPool := ⟨#v[1024, 128, 128, 32], Vector.replicate 4 0, 1312, [], Vector.replicate 4 0, 0⟩

/-- An export or an import under way (R355): bytes sent or written so far. -/
structure Transfer where
  size : Nat
  done : Nat
  deriving DecidableEq, Repr

/-! ### Codec (R361 to R373) -/

/-- An entry to be written to a codec ring: the ring descriptor's address, the bytes, and for an output entry the rennet to
signal once it is visible (R365, R366). -/
structure RingEntry where
  ring : Nat
  bytes : List Byte
  rennet : Option Nat
  deriving DecidableEq, Repr

/-- A frame or picture of a stream that has not left yet: its input number or place, whether it is a key frame, whether its input
was poisoned, what it decoded to. -/
structure CodecFrame where
  number : Nat
  key : Bool
  poison : Bool
  picture : Option Config.CodecOut
  deriving DecidableEq, Repr

/-- A stream context (R362): its state, the vat, the engine kind, the words of its OPEN record, the last frame number, the records
so far, the frames still to leave, the pictures output, and what an error or a key frame leaves for the next frame. -/
structure CodecCtx where
  state : Nat
  slice : Nat
  vat : Nat
  enc : Bool
  words : List Word
  last : Word
  stream : List (List Word × List Byte)
  waiting : List CodecFrame
  shown : Nat
  sinceKey : Nat
  forceKey : Bool
  skip : Bool
  ended : Bool
  deriving DecidableEq, Repr

/-- A closed context. -/
def CodecCtx.closed : CodecCtx := ⟨0, 0, 0, false, [], 0#32, [], [], 0, 0, false, false, false⟩

/-- The frame an engine works on (R367): context, record, block rows started, whether it is past them, and the entries still to
be written. -/
structure CodecWork where
  ctx : Nat
  record : FrameRecord
  rows : Nat
  finished : Bool
  outs : List RingEntry
  waits : Bool
  deriving DecidableEq, Repr

/-- An engine of a slice: records that have reached it, oldest first, its frame, the context it served last (R367). -/
structure CodecEngine where
  queue : List FrameRecord
  work : Option CodecWork
  lastCtx : Option Nat
  deriving DecidableEq, Repr

/-! ### Sessions, staging and commits (R379 to R389, R402, R403), images, debug (R396, R397, R406) -/

/-- A piece collection of a message type (R379): what it is for and the bytes so far. -/
structure Pieces where
  typ : Nat
  key : Nat
  bytes : List Byte
  deriving DecidableEq, Repr

/-- A session (R381, R403): identifier, path, role, whether it is half-open, credential, the vats of an operator's key,
session key, HELLO transcript, last sequence and its stored response, staging set, piece collection, and the target beats
and versions it has written to unit records (R26). -/
structure Session where
  id : Nat
  via : KopVia
  role : Role
  half : Bool
  modulus : List Byte
  mask : BitVec 16
  key : List Byte
  transcript : List Byte
  last : Word
  reply : Option OutMsg
  staging : Sparse Nat
  pieces : Option Pieces
  targets : Sparse Nat
  versions : Sparse Nat
  deriving DecidableEq, Repr

/-- Session 0 of the physical function's mailbox (R402). -/
def Session.zero : Session := ⟨0, .pf, .package, false, [], 0#16, [], [], 0#32, none, [], none, [], []⟩

/-- A pending commit or return (R385): its session, role, path, key, target beat, expected generation and snapshot. -/
structure PendingGen where
  kind : Nat
  session : Nat
  role : Role
  source : Nat
  keyId : List Byte
  target : Nat
  expected : Nat
  values : Sparse Nat
  deriving DecidableEq, Repr

/-- An image slot (R397): its bytes so far; the body hash and security version once valid. -/
structure ImageSlot where
  bytes : List Byte
  hash : List Byte
  version : Nat
  deriving DecidableEq, Repr

/-- An empty image slot. -/
def ImageSlot.reset : ImageSlot := ⟨[], [], 0⟩

/-! ### Audit ring (R390 to R393) -/

/-! ### Power, thermal limits and the test port (R425 to R432, R452) -/

/-- Power and gating: whether PWRGD is taken as high, whether the clocks run (R425, R432), THERMTRIP_N low, THROTTLE_N high,
the last draws of the 1 ms average in watts (R429), the four duties in 64ths (R428), how many 100 µs the average has stayed above
the cap with the cap duty at its limit, and the last sensor readings in units of 1/16 °C (R431). -/
structure Power where
  on : Bool
  clocks : Bool
  tripped : Bool
  throttleHigh : Bool
  samples : List Word
  capDuty : Nat
  inputDuty : Nat
  dieDuty : Nat
  stackDuty : Nat
  past : Nat
  dies : List Int
  stackTemps : List Int
  deriving DecidableEq, Repr

/-- Before PWRGD rises: no power, no clock, no duty. -/
def Power.reset : Power := ⟨false, false, false, true, [], 0, 0, 0, 0, 0, [], []⟩

/-- The states of an IEEE 1149.1 controller. -/
inductive TapState where
  | testLogicReset
  | runTestIdle
  | selectDr
  | captureDr
  | shiftDr
  | exit1Dr
  | pauseDr
  | exit2Dr
  | updateDr
  | selectIr
  | captureIr
  | shiftIr
  | exit1Ir
  | pauseIr
  | exit2Ir
  | updateIr
  deriving DecidableEq, Repr

/-- The test access port (R452): the controller's state, the instruction in force, the instruction and data registers as they
shift, least significant bit first, and TDO, `none` at high impedance. -/
structure Tap where
  state : TapState
  ir : List Bool
  irShift : List Bool
  dr : List Bool
  tdo : Option Bool
  deriving DecidableEq, Repr

/-- The port in Test-Logic-Reset: the identification instruction in force. -/
def Tap.reset : Tap := ⟨.testLogicReset, Config.tapIdcode, [], [], none⟩

/-- The state of the block. -/
structure State where
  pending : List Instr
  cores : Vector Core 52
  units : Vector UnitRec 284
  unitReqs : List UnitReq
  launches : List Launch
  results : Sparse RSlot
  verdicts : Vector Verdict 16
  events : List EventRec
  evCount : Nat
  evBeat : List ((Nat × Nat) × Nat)
  raised : List EventRec
  out : List OutMsg
  cfg : Sparse Nat
  prevCfg : Sparse Nat
  vol : Sparse Nat
  freeIx : Nat
  partner : UView
  holdStanding : List Nat
  lostMembers : List Nat
  lostCores : List (Nat × Nat)
  linkBeat : Sparse Nat
  layouts : Sparse Nat
  seqs : Vector SeqRec 64
  frames : Sparse Frame
  work : Vector PageWork 16
  joins : List JoinRec
  resumes : List JoinRec
  leaves : List LeaveRec
  growths : List GrowthRec
  seeds : Vector VatSeed 16
  runReq : List (Nat × Nat)
  hbm : Mem
  dieBuf : Vector Mem 4
  hubBuf : Mem
  uncleared : List (Nat × Nat)
  shadowMove : Option ShadowMove
  reloc : Vector (Option Reloc) 4
  scrubCount : Sparse Nat
  agentBeat : List (Nat × Nat)
  pipes : Vector Pipe 1024
  rennets : Sparse Rennet
  waitQ : List (Nat × CoreId)
  retries : List Retry
  peers : List PeerRec
  poolTotal : Vector Nat 8
  poolFault : Vector Bool 8
  lostNext : List (Nat × Nat)
  croak : Croak
  funcs : Vector Func 17
  host : HostPort
  bindings : Sparse Binding
  credits : Sparse PipeCredit
  fports : Vector FPort 8
  twin : TwinLink
  twinPool : TwinPool
  exporting : Option Transfer
  importing : Option Transfer
  codecs : Vector CodecEngine 8
  contexts : Sparse CodecCtx
  rings : Sparse Nat
  codecIn : Sparse (List (Byte × Bool))
  sessions : List Session
  pendingGen : Option PendingGen
  fuseBanks : Sparse (List Nat)
  images : Vector ImageSlot 6
  measurement : List Byte
  dropBeat : List Nat
  mirrorBeat : Bool
  unlocking : Option Nat
  helloPieces : List (KopVia × List Byte)
  audit : List (List Byte)
  twinAudit : Sparse (List Byte)
  power : Power
  tap : Tap
  deriving DecidableEq, Repr

/-- The machine right after reset. -/
def State.reset : State where
  pending := []
  cores := Vector.replicate 52 Core.reset
  units := Vector.replicate 284 UnitRec.reset
  unitReqs := []
  launches := []
  results := []
  verdicts := Vector.replicate 16 Verdict.reset
  events := []
  evCount := 0
  evBeat := []
  raised := []
  out := []
  cfg := []
  prevCfg := []
  vol := []
  freeIx := 0
  partner := ⟨0, 0#8, 0#16⟩
  holdStanding := []
  lostMembers := []
  lostCores := []
  linkBeat := []
  layouts := []
  seqs := Vector.replicate 64 SeqRec.empty
  frames := []
  work := Vector.replicate 16 ⟨[], none, 0, false, [], []⟩
  joins := []
  resumes := []
  leaves := []
  growths := []
  seeds := Vector.replicate 16 ⟨0#64, [], false⟩
  runReq := []
  hbm := Mem.empty
  dieBuf := Vector.replicate 4 Mem.empty
  hubBuf := Mem.empty
  uncleared := []
  shadowMove := none
  reloc := Vector.replicate 4 none
  scrubCount := []
  agentBeat := []
  pipes := Vector.replicate 1024 Pipe.reset
  rennets := []
  waitQ := []
  retries := []
  peers := []
  poolTotal := #v[1312, 0, 0, 0, 64, 4096, 4096, 4294967296]
  poolFault := Vector.replicate 8 false
  lostNext := []
  croak := Croak.reset
  funcs := Vector.replicate 17 Func.reset
  host := HostPort.reset
  bindings := []
  credits := []
  fports := Vector.replicate 8 FPort.reset
  twin := ⟨false, none, []⟩
  twinPool := TwinPool.reset
  exporting := none
  importing := none
  codecs := Vector.replicate 8 ⟨[], none, none⟩
  contexts := []
  rings := []
  codecIn := []
  sessions := [Session.zero]
  pendingGen := none
  fuseBanks := []
  images := Vector.replicate 6 ImageSlot.reset
  measurement := []
  dropBeat := []
  mirrorBeat := false
  unlocking := none
  helloPieces := []
  audit := []
  twinAudit := []
  power := Power.reset
  tap := Tap.reset

end Sys2Proof.Machine
end

