-- ==== Sys2Proof/Machine/Ops.lean ====
section
/-! DEFINITION. The named operations every meaning is built from: sparse maps, entries and counters, events, what the
package sends, free values, cores, and reads and writes of the memories. -/
namespace Sys2Proof.Machine

/-! ### Sparse maps -/

/-- The value of a key, `d` where it is not listed. -/
def Sparse.get {α : Type} (d : α) : Sparse α → Nat → α
  | [], _ => d
  | p :: m, k => if p.1 = k then p.2 else Sparse.get d m k

/-- The map without a key. -/
def Sparse.del {α : Type} : Sparse α → Nat → Sparse α
  | [], _ => []
  | p :: m, k => if p.1 = k then m else p :: Sparse.del m k

/-- The map with a key listed at a value, keys kept rising. -/
def Sparse.put {α : Type} : Sparse α → Nat → α → Sparse α
  | [], k, v => [(k, v)]
  | p :: m, k, v =>
    if k < p.1 then (k, v) :: p :: m
    else if p.1 = k then (k, v) :: m
    else p :: Sparse.put m k v

/-- The map with a key at a value; a key at the default is not listed. -/
def Sparse.set {α : Type} [DecidableEq α] (d : α) (m : Sparse α) (k : Nat) (v : α) : Sparse α :=
  if v = d then Sparse.del m k else Sparse.put m k v

/-- Keys strictly rising, each above `b`. -/
def Sparse.above {α : Type} (b : Nat) : Sparse α → Bool
  | [] => true
  | p :: m => decide (b ≤ p.1) && Sparse.above (p.1 + 1) m

/-- The canonical form: keys strictly rising and no entry equal to the default. -/
def Sparse.wf {α : Type} [DecidableEq α] (d : α) (m : Sparse α) : Bool :=
  Sparse.above 0 m && m.all fun p => decide (p.2 ≠ d)

/-! ### Vectors by a number -/

/-- The element at a number, a default past the end. -/
def vget {α : Type} {n : Nat} (d : α) (v : Vector α n) (i : Nat) : α := if h : i < n then v[i] else d

/-- The vector with an element replaced; unchanged past the end. -/
def vset {α : Type} {n : Nat} (v : Vector α n) (i : Nat) (a : α) : Vector α n := if h : i < n then v.set i a h else v

/-! ### Units -/

/-- ABSENT (Table 2-5). -/
abbrev stAbsent : Fin 9 := 0
/-- COLD (Table 2-5). -/
abbrev stCold : Fin 9 := 1
/-- LOADING (Table 2-5). -/
abbrev stLoading : Fin 9 := 2
/-- READY (Table 2-5). -/
abbrev stReady : Fin 9 := 3
/-- RUNNING (Table 2-5). -/
abbrev stRunning : Fin 9 := 4
/-- DRAINING (Table 2-5). -/
abbrev stDraining : Fin 9 := 5
/-- HELD (Table 2-5). -/
abbrev stHeld : Fin 9 := 6
/-- SHED (Table 2-5). -/
abbrev stShed : Fin 9 := 7
/-- FAULTED (Table 2-5). -/
abbrev stFaulted : Fin 9 := 8

/-- Whether a version is newer than another (R31). -/
def versionNewer (a b : BitVec 16) : Bool := decide (1 ≤ (a - b).toNat ∧ (a - b).toNat ≤ 32767)

/-- A unit as it stands: the newer of its two views, which replaces the older at the next beat (R31, R32). -/
def State.view (s : State) (u : UnitNo) : UView :=
  if versionNewer s.units[u].dp.version s.units[u].mg.version then s.units[u].dp else s.units[u].mg

/-- A unit's state. -/
def State.ust (s : State) (u : UnitNo) : Fin 9 := (s.view u).state

/-- Whether a unit is HELD or LOADING, in which Table 22-7 says what it does not do. -/
def State.away (s : State) (u : UnitNo) : Bool := s.ust u == stHeld || s.ust u == stLoading

/-- Whether the management port carries traffic: not before its unit is READY, nor while it loads or has faulted (R382, R435). -/
def State.mgmtUp (s : State) : Bool :=
  let st := s.ust 271
  decide (3 ≤ st.val) && st != stFaulted

/-! ### Entries of the dictionary -/

/-- A generation entry in force. -/
def State.cfgAt (s : State) (key : Nat) : Nat := Sparse.get (entryDefault key) s.cfg key

/-- A generation entry set, default values not listed. -/
def cfgSet (m : Sparse Nat) (key v : Nat) : Sparse Nat := Sparse.set (entryDefault key) m key v

/-- The default of a volatile entry: the tables' Default column. -/
def volDefault (key : Nat) : Nat :=
  match entryRow (key / 256) (key % 256) with
  | some r => r.dflt
  | none => 0

/-- A volatile entry as it reads. -/
def State.volAt (s : State) (key : Nat) : Nat := Sparse.get (volDefault key) s.vol key

/-- The state with a volatile entry set. -/
def State.setVol (s : State) (key v : Nat) : State := { s with vol := Sparse.set (volDefault key) s.vol key v }

/-- The current beat number, 0xB010:01. -/
def State.beat (s : State) : Nat := s.volAt (ek 0xB010 1)

/-! ### Events (R409 to R411) -/

/-- A number as little-endian bytes. -/
def leBytes (v n : Nat) : List Byte := (List.range n).map fun i => BitVec.ofNat 8 (v >>> (8 * i))

/-- Little-endian bytes as a number. -/
def leNat : List Byte → Nat
  | [] => 0
  | b :: bs => b.toNat + 256 * leNat bs

/-- Detail fields packed in order, each at its width, zero-filled to twenty bytes (R410). -/
def packDetail (fs : List (Nat × Nat)) : List Byte :=
  ((fs.flatMap fun f => leBytes f.1 f.2) ++ List.replicate 20 0#8).take 20

/-- How often a path has raised a code in this beat. -/
def raisedCount (l : List ((Nat × Nat) × Nat)) (k : Nat × Nat) : Nat :=
  match l.find? fun p => p.1 == k with
  | some p => p.2
  | none => 0

/-- The count of a path and code one higher. -/
def raisedBump (l : List ((Nat × Nat) × Nat)) (k : Nat × Nat) : List ((Nat × Nat) × Nat) :=
  if l.any fun p => p.1 == k then l.map fun p => if p.1 == k then (p.1, p.2 + 1) else p else l ++ [(k, 1)]

/-- An event record's 32 bytes (Table 22-1). -/
def EventRec.bytes (e : EventRec) : List Byte :=
  leBytes e.beat 8 ++ leBytes (e.code * 65536 + e.path) 4 ++ e.detail

/-- The state with something sent. -/
def State.send (s : State) (m : OutMsg) : State := { s with out := s.out ++ [m] }

/-- The state with something sent on the management port, while it carries traffic (R435). -/
def State.sendMgmt (s : State) (m : OutMsg) : State := if s.mgmtUp then s.send m else s

/-- The flits of a message on the twin link, of 1,008 bytes each (R349). -/
def OutMsg.flits (m : OutMsg) : Nat := max 1 ((m.data.length + 1007) / 1008)

/-- A message of a class put on the twin link against credits of its class, or kept until they come back, each class in order (R268); while the link's
unit is HELD or LOADING its traffic waits (Table 22-7), and while it is FAULTED nobody uses its credits (R275). -/
def State.sendTwin (s : State) (cls : Fin 4) (m : OutMsg) : State :=
  let p := s.twinPool
  let n := m.flits
  if s.away 269 || s.ust 269 == stFaulted || p.waiting.any (fun w => w.1 == cls) || decide (p.free[cls] < n) then
    { s with twinPool := { p with waiting := p.waiting ++ [(cls, m)] } }
  else
    ({ s with twinPool := { p with
        free := p.free.set cls (p.free[cls] - n), taken := p.taken.set cls (p.taken[cls] + n) } } : State).send m

/-- Credits of the twin link returned, and the messages that waited for them sent (R268). -/
def State.twinReturns (s : State) (n : Vector Nat 4) : State :=
  let p := s.twinPool
  let back (i : Fin 4) : Nat := min n[i] p.taken[i]
  let t : State := { s with twinPool := { p with
    free := Vector.ofFn fun (i : Fin 4) => p.free[i] + back i
    taken := Vector.ofFn fun (i : Fin 4) => p.taken[i] - back i
    waiting := [] } }
  p.waiting.foldl (fun s w => s.sendTwin w.1 w.2) t

/-- A message of a class that has come from the twin in so many bytes: the credits of its flits are to be returned (R268, R349). -/
def State.owe (s : State) (cls : Fin 4) (n : Nat) : State :=
  { s with twinPool := { s.twinPool with owe := s.twinPool.owe.set cls (s.twinPool.owe[cls] + max 1 ((n + 1007) / 1008)) } }

/-! ### Interrupts (R329, R330) -/

/-- A function's registers changed. -/
def State.updFunc (s : State) (f : FnNo) (g : Func → Func) : State := { s with funcs := s.funcs.set f (g s.funcs[f]) }

/-- Whether a virtual function exists (R324); function 0 always does. -/
def State.fnExists (s : State) (f : FnNo) : Bool :=
  f == 0 || (s.host.vfEnable && decide (f.val ≤ s.volAt (ek 0x1100 4)))

/-- The function that carries a vat's traffic: virtual function v + 1 while it exists, else the physical one (R331). -/
def State.vatFn (s : State) (v : VatNo) : FnNo :=
  let f : FnNo := ⟨v.val + 1, by omega⟩
  if s.fnExists f then f else 0

/-- Whether the host link carries TLPs: L0 or L0p (Table 17-6). -/
def State.hostUp (s : State) : Bool := decide (2 ≤ s.volAt (ek 0x1100 3))

/-- The flow of a vat in the host-bound queue (R332). -/
def vatFlow (v : VatNo) : Fin 17 := ⟨v.val, by omega⟩

/-- Whether the host-bound queue sends: the link is up and the host port neither HELD nor LOADING (R334, Table 22-7). -/
def State.hostSends (s : State) : Bool := s.hostUp && !s.away 260

/-- Whether a message is a read of host memory. -/
def HostBound.isRead (h : HostBound) : Bool := h.msg.dest == .host && h.msg.kind == 1

/-- Whether a message may leave as far as the reads not answered go, of which 4,096 may be outstanding (Table 17-1). -/
def State.readRoom (s : State) (h : HostBound) : Bool := !h.isRead || decide (s.host.asked.length < 4096)

/-- A message leaves for the host; a read is outstanding from then on. -/
def State.asks (s : State) (h : HostBound) : State :=
  if h.isRead then { s.send h.msg with host := { s.host with asked := s.host.asked ++ [h] } } else s.send h.msg

/-- Host-bound traffic of a function and a flow: sent, or held in the host-bound queue while it does not send, the function's IDE
stream has failed, or a read has no tag (R322, R332, R333, R334). Kind 0 writes (function, address, then the offsets of poisoned words),
kind 4 writes with Relaxed Ordering and ID-Based Ordering set (Table 17-1), kind 1 reads. -/
def State.toHost (s : State) (f : FnNo) (flow : Fin 17) (m : OutMsg) : State :=
  let h : HostBound := ⟨f, flow, m⟩
  if s.hostSends && !s.funcs[f].ideHold && s.readRoom h then s.asks h
  else { s with host := { s.host with held := s.host.held ++ [h] } }

/-- Whether a message is an interrupt, which the host-bound queue serves first (R332). -/
def HostBound.isMsix (h : HostBound) : Bool := h.msg.dest == .msix

/-- The message the host-bound queue serves next after flow `last` (R332): the oldest interrupt; else the oldest payload of the next flow
in rotating vat order that has one, the package's own flow after the last vat (DESIGN CHOICE, assumption 112). -/
def nextBound (last : Fin 17) (l : List HostBound) : Option HostBound :=
  match l.find? HostBound.isMsix with
  | some h => some h
  | none => (List.finRange 17).findSome? fun i => l.find? fun h => h.flow == Fin.ofNat 17 (last.val + 1 + i.val)

/-- A message leaves the host-bound queue; an audit record that leaves is the last mirrored (R392). -/
def State.serveBound (s : State) (h : HostBound) : State :=
  let s : State := ({ s with host := { s.host with
    held := s.host.held.erase h, served := if h.isMsix then s.host.served else h.flow } } : State).asks h
  if s.audit.contains h.msg.data then s.setVol (ek 0x9000 4) (leNat (h.msg.data.take 4)) else s

/-- At most `fuel` messages served of those whose function's traffic may flow (R332, R333). -/
def State.serveHost : Nat → State → State
  | 0, s => s
  | fuel + 1, s =>
    match nextBound s.host.served (s.host.held.filter fun h => !s.funcs[h.fn].ideHold && s.readRoom h) with
    | none => s
    | some h => State.serveHost fuel (s.serveBound h)

/-- The host-bound queue served while it sends (R332 to R334). -/
def State.flushHost (s : State) : State := if s.hostSends then State.serveHost s.host.held.length s else s

/-- A vat's bytes posted to host memory in payloads, the offsets of poisoned 16-byte words named in each (R331); swap and codec data with
Relaxed Ordering and ID-Based Ordering set, kind 4, an index of a codec ring, kind 0, behind them (Table 17-1, R365). -/
def State.postHost (s : State) (kind : Nat) (v : VatNo) (a : Nat) (b : List Byte) (bad : List Nat) : State :=
  let f := s.vatFn v
  let n := max 1 (min 512 s.host.maxPayload)
  (List.range ((b.length + n - 1) / n)).foldl (fun s i =>
    let here := (bad.filter fun o => decide (o < n * i + n ∧ n * i < o + 16)).map fun o => o - n * i
    s.toHost f (vatFlow v) ⟨.host, kind, [f.val, a + n * i] ++ here, (b.drop (n * i)).take n⟩) s

/-- A vat's bytes asked of host memory in read requests of the maximum size (Table 17-1); a zero-length read is one request (R184). -/
def State.askHost (s : State) (v : VatNo) (a len : Nat) : State :=
  let f := s.vatFn v
  let n := max 1 s.host.maxRead
  (List.range (max 1 ((len + n - 1) / n))).foldl (fun s i =>
    s.toHost f (vatFlow v) ⟨.host, 1, [f.val, a + n * i, min n (len - n * i)], []⟩) s

/-- The reads of a vat that a test on their address picks. -/
def readOf (v : VatNo) (p : Nat → Bool) (h : HostBound) : Bool := h.isRead && h.flow == vatFlow v && p (h.msg.nums.getD 1 0)

/-- Reads of a vat at an end: neither outstanding nor waiting. -/
def State.readsEnd (s : State) (v : VatNo) (p : Nat → Bool) : State :=
  { s with host := { s.host with held := s.host.held.filter (!readOf v p ·), asked := s.host.asked.filter (!readOf v p ·) } }

/-- Reads of a vat answered: those that still waited for a tag went out as the earlier ones came back, and what waited behind them follows
(Table 17-1). -/
def State.readsBack (s : State) (v : VatNo) (p : Nat → Bool) : State :=
  ((s.host.held.filter (readOf v p)).foldl (fun s h => s.send h.msg) (s.readsEnd v p)).flushHost

/-- A vector's message: pending while the vector is masked, sent otherwise (R330). -/
def State.signalVector (s : State) (f : FnNo) (vec : Nat) : State :=
  if s.funcs[f].masked.getLsbD vec then s.updFunc f fun g => { g with pend := g.pend ||| BitVec.twoPow 128 vec }
  else s.toHost f 16 ⟨.msix, 0, [f.val, vec], []⟩

/-- A cause in a function: its bit sets whatever the enables say, and an enabled cause signals its vector (R330). -/
def State.cause (s : State) (f : FnNo) (bit vec : Nat) : State :=
  let s := s.updFunc f fun g => { g with causes := g.causes ||| BitVec.twoPow 6 bit }
  if s.funcs[f].enables.getLsbD bit then s.signalVector f vec else s

/-- A cause of a vat: in the physical function, and in the vat's virtual function while it exists (R329). -/
def State.vatCause (s : State) (v : VatNo) (bit vec : Nat) : State :=
  let s := s.cause 0 bit vec
  if s.vatFn v = 0 then s else s.cause (s.vatFn v) bit vec

/-- An event to be written and numbered, unless its path has raised its code sixteen times in this beat: it is told whether it is (R411). -/
def State.emit (s : State) (code path : Nat) (fs : List (Nat × Nat)) : Bool × State :=
  let k := (path, code)
  let n := raisedCount s.evBeat k
  let s := { s with evBeat := raisedBump s.evBeat k }
  if 16 ≤ n then (false, s)
  else (true, { s with raised := s.raised ++ [⟨s.beat, code % 65536, path % 65536, packDetail fs⟩] })

/-- A counter of the event ring one higher: 48-bit, it saturates under R77 with EV-0x1605 (R421). -/
def State.countEvent (s : State) (sub : Nat) : State :=
  let key := ek 0x9010 sub
  let v := s.volAt key
  if 2 ^ 63 ≤ v then s
  else if v + 1 < 2 ^ 48 - 1 then s.setVol key (v + 1)
  else ((s.setVol key (2 ^ 63 + (2 ^ 48 - 1))).emit 0x1605 0x5000 [(0x9010, 2), (sub, 2)]).2

/-- An event raised (R409, R411): to be written and numbered, or counted in 0x9010:03 where it is suppressed. -/
def State.raise (s : State) (code path : Nat) (fs : List (Nat × Nat)) : State :=
  let r := s.emit code path fs
  if r.1 then r.2 else r.2.countEvent 3

/-- The oldest record of a full event ring is about to be overwritten: its copy that still waits in the host-bound queue, or was discarded
there, is skipped and counted in 0x9010:06 (R411). -/
def State.skipEvent (s : State) : State :=
  let old := (s.events.head?).map EventRec.bytes
  let waits (h : HostBound) : Bool := h.flow == 16 && some h.msg.data == old
  let gone (b : List Byte) : Bool := some b == old
  if s.events.length < 2048 ∨ !(s.host.held.any waits || s.host.lost.any gone) then s
  else ({ s with host := { s.host with held := s.host.held.filter (!waits ·), lost := s.host.lost.filter (!gone ·) } } : State).countEvent 6

/-- An event written and numbered: into its slot of the ring, mirrored to the host while 0x9010:04 is non-zero, the event cause of the
physical function set (R329, R411). -/
def State.writeEvent (s : State) (e : EventRec) : State :=
  let ix := s.evCount
  let s := s.skipEvent
  let s := { s with events := (s.events ++ [e]).drop (s.events.length + 1 - 2048), evCount := ix + 1 }
  let base := s.cfgAt (ek 0x9010 4)
  let s := s.cause 0 1 0
  if base = 0 then s
  else s.toHost 0 16 ⟨.host, 0, [0, base + ix % (max 1 (s.cfgAt (ek 0x9010 5))) * 32], e.bytes⟩

/-- An event placed among others of its beat by unit path, then code, behind its equals and what earlier beats raised (R411). -/
def placeEvent (e : EventRec) : List EventRec → List EventRec
  | [] => [e]
  | x :: xs => if e.beat = x.beat ∧ (e.path < x.path ∨ (e.path = x.path ∧ e.code < x.code)) then e :: x :: xs else x :: placeEvent e xs

/-- Events beat by beat, by ascending unit path and then by code, equals in the order given. -/
def sortEvents (l : List EventRec) : List EventRec := l.foldl (fun l e => placeEvent e l) []

/-- The events raised after the first n written: those of one beat are of one HCLK cycle, so by ascending unit path and then by code (R411;
DESIGN CHOICE, assumption 116). -/
def State.settleOnce (s : State) (n : Nat) : State :=
  (sortEvents (s.raised.drop n)).foldl State.writeEvent { s with raised := s.raised.take n }

/-- The events a command has raised, those after the first n, written, and the one that a count of copies skipped may raise behind them. -/
def State.settled (s : State) (n : Nat) : State := (s.settleOnce n).settleOnce n

/-- An event names a vat: its virtual function's event cause fires (R329). -/
def State.vatEvent (s : State) (v : VatNo) : State := if s.vatFn v = 0 then s else s.cause (s.vatFn v) 1 0

/-- An event that names a vat: its virtual function's event cause fires as well (R329). -/
def State.raiseVat (s : State) (v : VatNo) (code path : Nat) (fs : List (Nat × Nat)) : State := (s.raise code path fs).vatEvent v

/-- A 48-bit counter raised by `n`: on reaching saturation it sets bit 63, keeps its value, and raises its event once
(R77). -/
def State.count (s : State) (key n code path : Nat) (fs : List (Nat × Nat)) : State :=
  let v := s.volAt key
  if n = 0 ∨ 2 ^ 63 ≤ v then s
  else if v + n < 2 ^ 48 - 1 then s.setVol key (v + n)
  else (s.setVol key (2 ^ 63 + (2 ^ 48 - 1))).raise code path fs

/-- A 48-bit counter of a vat's: the event of its saturation names the vat (R77, R329). -/
def State.countFor (s : State) (v : VatNo) (key code path sub : Nat) : State :=
  let old := s.volAt key
  let t := s.count key 1 code path [(v.val, 1), (sub, 2)]
  if old < 2 ^ 63 ∧ 2 ^ 48 - 1 ≤ old + 1 then t.vatEvent v else t

/-! ### Free values -/

/-- The next free value and the state after it is drawn. -/
def State.free (s : State) : Nat × State := (Config.freeNat s.freeIx, { s with freeIx := s.freeIx + 1 })

/-! ### Cores and units by number -/

/-- The die of a core. -/
def coreDie (c : CoreId) : Fin 4 := ⟨c.val / 13, by omega⟩
/-- The physical core number within its die. -/
def corePhys (c : CoreId) : Nat := c.val % 13
/-- The ordinal of a core's unit (Table 2-3). -/
def coreUnit (c : CoreId) : UnitNo := ⟨208 + c.val, by omega⟩
/-- The ordinal of array `a` of a core (Table 2-3). -/
def arrayUnit (c : CoreId) (a : Fin 4) : UnitNo := ⟨c.val / 13 * 52 + c.val % 13 * 4 + a.val, by omega⟩
/-- The ordinal of a die, 4 for the hub (Table 2-3). -/
def dieUnit (d : Fin 5) : UnitNo := ⟨276 + d.val, by omega⟩

/-- The unit path of an ordinal (R6, R7, Table 0-5, Table 2-2). -/
def unitPath (u : UnitNo) : Nat :=
  if u.val < 208 then u.val / 52 * 0x400 + u.val % 52 / 4 * 0x40 + u.val % 4 * 0x10
  else if u.val < 260 then 0x2000 + (u.val - 208) / 13 * 0x400 + (u.val - 208) % 13 * 0x40
  else if u.val < 276 then 0x3000 + (u.val - 260)
  else if u.val < 281 then 0x4000 + (u.val - 276) * 0x400
  else if u.val = 281 then 0x6000
  else if u.val = 282 then 0x8000 else 0xA000

/-- The dictionary index of object k of a unit (R21). -/
def unitObj (u : UnitNo) (k : Nat) : Nat := 0x4000 + u.val * 16 + k

/-- The unit path of a core. -/
def corePath (c : CoreId) : Nat := unitPath (coreUnit c)

/-- A core changed. -/
def State.updCore (s : State) (c : CoreId) (f : Core → Core) : State := { s with cores := s.cores.set c (f s.cores[c]) }

/-- A unit's record changed. -/
def State.updUnit (s : State) (u : UnitNo) (f : UnitRec → UnitRec) : State := { s with units := s.units.set u (f s.units[u]) }

/-! ### Memories -/

/-- The mark of the word that holds an address. -/
def Mem.mark (m : Mem) (a : Nat) : Nat := Sparse.get 0 m.marks (a / 16)

/-- One byte as it reads, and whether it is poisoned (Table 13-3). -/
def Mem.read (m : Mem) (a : Nat) : Byte × Bool := (Sparse.get 0#8 m.bytes a, decide (2 ≤ m.mark a))

/-- Whether cells cover a whole aligned word. -/
def coversWord (cells : List (Nat × Byte)) (w : Nat) : Bool :=
  (List.range 16).all fun i => cells.any fun c => c.1 == 16 * w + i

/-- Whether a write loses its bytes in a word: the word is poisoned and not wholly covered (R236). -/
def Mem.lost (m : Mem) (cells : List (Nat × Byte)) (w : Nat) : Bool :=
  decide (2 ≤ Sparse.get 0 m.marks w) && !coversWord cells w

/-- Bytes written at their addresses (R236). -/
def Mem.write (m : Mem) (cells : List (Nat × Byte)) : Mem where
  bytes := cells.foldl (fun b c => if m.lost cells (c.1 / 16) then b else Sparse.set 0#8 b c.1 c.2) m.bytes
  marks := cells.foldl (fun k c =>
    Sparse.set 0 k (c.1 / 16) (if m.lost cells (c.1 / 16) then 3 else 0)) m.marks
  parts := cells.foldl (fun k c => Sparse.set 0 k (c.1 / 16) (if coversWord cells (c.1 / 16) then 0 else 1)) m.parts

/-- Whether the word of an address was last written whole, so that an uncorrectable read of it is a hard fault (R414). -/
def Mem.hard (m : Mem) (a : Nat) : Bool := Sparse.get 0 m.parts (a / 16) == 0

/-- The poison marker written in every word the addresses touch (R236). -/
def Mem.poison (m : Mem) (addrs : List Nat) : Mem :=
  { m with marks := addrs.foldl (fun k a => Sparse.set 0 k (a / 16) 3) m.marks }

/-- The canonical form of a memory. -/
def Mem.wf (m : Mem) : Bool := Sparse.wf 0#8 m.bytes && Sparse.wf 0 m.marks && Sparse.wf 0 m.parts

/-- A run of bytes as cells. -/
def cellsAt (a : Nat) (bs : List Byte) : List (Nat × Byte) := bs.zipIdx.map fun p => (a + p.2, p.1)

/-- The memories of the package. -/
inductive Place where
  | hbm
  | die (d : Fin 4)
  | core (c : CoreId)
  | hub
  deriving DecidableEq, Repr

/-- A memory of the state. -/
def State.mem (s : State) : Place → Mem
  | .hbm => s.hbm
  | .die d => s.dieBuf[d]
  | .core c => s.cores[c].buf
  | .hub => s.hubBuf

/-- The state with a memory replaced. -/
def State.setMem (s : State) (p : Place) (m : Mem) : State :=
  match p with
  | .hbm => { s with hbm := m }
  | .die d => { s with dieBuf := s.dieBuf.set d m }
  | .core c => s.updCore c fun k => { k with buf := m }
  | .hub => { s with hubBuf := m }

/-! #### The address map (R237, R238) -/

/-- The dies of the interleave mask, lowest first. -/
def State.maskDies (s : State) : List Nat := (List.range 4).filter fun d => (s.cfgAt (ek 0xD000 1)).testBit d

/-- `B_d`: the offsets of a die in service (R238). -/
def State.dieTop (s : State) (d : Nat) : Nat :=
  if s.cfgAt (ek (0xD040 + d) 4) ≠ 0 then 0
  else 2 ^ 37 - (if s.cfgAt (ek (0xD040 + d) 2) = 0xFF then 0 else 2 ^ 32)

/-- `I` in bytes (R238). -/
def State.iBytes (s : State) : Nat := s.cfgAt (ek 0xD000 2) * 2 ^ 32

/-- `L`, the limit of the interleaved window (R238). -/
def State.limitL (s : State) : Nat :=
  let ds := s.maskDies
  ds.length * ds.foldl (fun m d => min m (s.dieTop d)) s.iBytes

/-- A device address as its key: die × 2^37 + die offset; `none` where it is not valid (R237, R238). -/
def State.decodeAddr (s : State) (a : Nat) : Option Nat :=
  if a < 2 ^ 39 then
    if a < s.limitL then
      let ds := s.maskDies
      let n := max 1 ds.length
      let g := a / 4096
      some ((ds[g % n]?).getD 0 * 2 ^ 37 + g / n * 4096 + a % 4096)
    else none
  else if a < 2 ^ 40 then
    let d := a / 2 ^ 37 % 4
    let o := a % 2 ^ 37
    if s.iBytes ≤ o ∧ o < s.dieTop d then some (d * 2 ^ 37 + o) else none
  else none

/-- The key of a device address by the window it lies in, whatever the limits (R237). -/
def State.rawKey (s : State) (a : Nat) : Nat :=
  if a < 2 ^ 39 then
    let ds := s.maskDies
    let n := max 1 ds.length
    let g := a / 4096
    (ds[g % n]?).getD 0 * 2 ^ 37 + g / n * 4096 + a % 4096
  else a % 2 ^ 39

/-- The address of a key in the interleaved window, whatever `I` says (R237); `none` on a die the mask does not name. -/
def State.spread (s : State) (key : Nat) : Option Nat :=
  let d := key / 2 ^ 37
  let o := key % 2 ^ 37
  let ds := s.maskDies
  if ds.contains d then some ((o / 4096 * ds.length + ds.idxOf d) * 4096 + o % 4096) else none

/-- The device address of a key: in the interleaved window below `I`, in the near window at and above it (R237, R238). -/
def State.addrOf (s : State) (key : Nat) : Nat :=
  match s.spread key with
  | some a => if key % 2 ^ 37 < s.iBytes then a else 2 ^ 39 + key
  | none => 2 ^ 39 + key

/-- Whether the granule at row j of the set that a die retires lies at its home: no relocation is under way, or it is done (R248). -/
def State.atHome (s : State) (d j : Nat) : Bool :=
  match s.reloc[d % 4]'(Nat.mod_lt _ (by decide)) with
  | some r => decide (j < r.next) || r.early.contains j
  | none => true

/-- The stack and set of a key (R234, R247): a granule of a retired set counts for that set until it is relocated. -/
def State.stackSet (s : State) (key : Nat) : Nat × Nat :=
  let d := key / 2 ^ 37
  let h := key % 2 ^ 37 / 4096
  let piece := key % 4096 / 1536
  let p := h % 32
  let retired := s.cfgAt (ek (0xD040 + d) 2)
  let set := if p = retired ∧ s.atHome d (h / 32) then
      let i := h / 32 % 31
      if i < p then i else i + 1
    else p
  (3 * d + (h % 3 + piece) % 3, set)

/-- The unit path of a compute die or the hub. -/
def diePath (d : Nat) : Nat := 0x4000 + d * 0x400

/-- A memory statistic of Table 13-7 raised (R251). -/
def State.countMem (s : State) (idx sub path : Nat) : State :=
  s.count (ek idx sub) 1 0x0D08 path [(idx, 2), (sub, 2)]

/-- A corrected error of a stack and set (Table 13-3); EV-0x0D00 once a set's count within the scrub pass reaches the
threshold (R246). -/
def State.hbmCorrected (s : State) (key : Nat) : State :=
  let d := key / 2 ^ 37
  let ss := s.stackSet key
  let s := (s.countMem (0xD050 + ss.1) 2 (diePath d)).countMem (0xD040 + d) 6 (diePath d)
  let s := s.countMem (0xD040 + d) (0x10 + ss.2) (diePath d)
  let k := d * 32 + ss.2
  let n := Sparse.get 0 s.scrubCount k + 1
  let s := { s with scrubCount := Sparse.set 0 s.scrubCount k n }
  if n = s.cfgAt (ek 0xD000 5) then s.raise 0x0D00 (diePath d) [(ss.1, 1), (ss.2, 1), (n, 4)] else s

/-- EV-0x0D01 for a word by its key: device address, stack, set, source (Table 13-8). -/
def State.hbmEvent (s : State) (key source : Nat) : State :=
  let ss := s.stackSet key
  s.raise 0x0D01 (diePath (key / 2 ^ 37)) [(s.addrOf key, 5), (ss.1, 1), (ss.2, 1), (source, 1)]

/-- An uncorrectable error of a stack and set: counts and EV-0x0D01 (Table 13-3, Table 13-8). -/
def State.hbmUncorrectable (s : State) (key source : Nat) : State :=
  let d := key / 2 ^ 37
  let ss := s.stackSet key
  ((s.countMem (0xD050 + ss.1) 3 (diePath d)).countMem (0xD040 + d) 7 (diePath d)).hbmEvent key source

/-- An error statistic of a unit's own record raised (R421). -/
def State.countErr (s : State) (u : UnitNo) (obj sub : Nat) : State :=
  s.count (ek (unitObj u obj) sub) 1 0x1605 0x5000 [(unitObj u obj, 2), (sub, 2)]

/-- A read meets a marked word: corrected and written back, or replaced by the poison marker, with its counts and
events (Table 13-3, Table 22-4). -/
def State.resolveWord (s : State) (p : Place) (w : Nat) : State :=
  let m := s.mem p
  match Sparse.get 0 m.marks w with
  | 1 =>
    let s := s.setMem p { m with marks := Sparse.set 0 m.marks w 0 }
    match p with
    | .hbm => s.hbmCorrected (16 * w)
    | .die d => s.countErr (dieUnit ⟨d.val, by omega⟩) 6 1
    | .core c => s.countErr (coreUnit c) 14 1
    | .hub => s.countErr (dieUnit 4) 6 1
  | 2 =>
    let s := s.setMem p { m with marks := Sparse.set 0 m.marks w 3 }
    match p with
    | .hbm => s.hbmUncorrectable (16 * w) 1
    | .die d => (s.countErr (dieUnit ⟨d.val, by omega⟩) 6 2).raise 0x1600 (diePath d) [(3, 1), (16 * w, 5), (0xFFFF, 2)]
    | .core c => (s.countErr (coreUnit c) 14 2).raise 0x1600 (corePath c) [(1, 1), (16 * w, 5), (0xFFFF, 2)]
    | .hub => (s.countErr (dieUnit 4) 6 2).raise 0x1600 (diePath 4) [(4, 1), (16 * w, 5), (0xFFFF, 2)]
  | _ => s

/-- The marked words of a range of addresses. -/
def Mem.marked (m : Mem) (a n : Nat) : List Nat :=
  (m.marks.filter fun k => decide (a < 16 * k.1 + 16 ∧ 16 * k.1 < a + n)).map Prod.fst

/-- Every word of a range resolved as a read resolves it. -/
def State.resolve (s : State) (p : Place) (a n : Nat) : State :=
  ((s.mem p).marked a n).foldl (fun s w => s.resolveWord p w) s

/-- Whether a granule key is in the list of uncleared ranges (R240). -/
def inRanges (l : List (Nat × Nat)) (g : Nat) : Bool := l.any fun r => decide (r.1 ≤ g ∧ g < r.2)

/-- A granule taken out of the list of ranges. -/
def cutRange (l : List (Nat × Nat)) (g : Nat) : List (Nat × Nat) :=
  l.flatMap fun r =>
    if r.1 ≤ g ∧ g < r.2 then
      (if r.1 < g then [(r.1, g)] else []) ++ (if g + 1 < r.2 then [(g + 1, r.2)] else [])
    else [r]

/-- Whether the stacks of a key's die answer (R249). -/
def State.dieAnswers (s : State) (key : Nat) : Bool :=
  let d := key / 2 ^ 37
  (List.range 3).all fun i => s.volAt (ek (0xD050 + 3 * d + i) 1) != 2

/-! #### The shadow move (R241) -/

/-- The device address a moving granule leaves: granule i mod n of half i / n, n granules a half (R241, R351). -/
def ShadowMove.origin (m : ShadowMove) (i : Nat) : Nat :=
  let n := m.granules / 2
  m.oldBase + i / n * m.oldHalf + 4096 * (i % n)

/-- The device address a moving granule goes to. -/
def ShadowMove.goal (m : ShadowMove) (i : Nat) : Nat :=
  let n := m.granules / 2
  m.newBase + i / n * m.newHalf + 4096 * (i % n)

/-- Whether a half moves upwards. -/
def ShadowMove.up (m : ShadowMove) (half : Nat) : Bool := decide (m.oldBase + half * m.oldHalf < m.newBase + half * m.newHalf)

/-- The place of granule i in the order of a move: increasing addresses downwards, decreasing upwards (R241), the order in which no granule
is overwritten before it is copied; a commit that changes S moves each half for itself (DESIGN CHOICE, assumption 109). It is its own inverse. -/
def ShadowMove.place (m : ShadowMove) (i : Nat) : Nat :=
  let n := m.granules / 2
  if m.up 0 && m.up 1 then m.granules - 1 - i
  else if m.up (i / n) then i / n * n + (n - 1 - i % n) else i

/-- The moving granule that lay at a device address, if one did. -/
def ShadowMove.at (m : ShadowMove) (a : Nat) : Option Nat :=
  let n := m.granules / 2
  let o := a - m.oldBase
  if m.oldBase ≤ a ∧ o / m.oldHalf < 2 ∧ o % m.oldHalf / 4096 < n then some (o / m.oldHalf * n + o % m.oldHalf / 4096) else none

/-- Whether granule i of the shadow lies at its new place: copied, or beyond what the move copies. -/
def ShadowMove.done (m : ShadowMove) (i : Nat) : Bool :=
  decide (m.granules ≤ i) || decide (m.place i < m.copied) || m.early.contains (m.place i)

/-- A granule's bytes and marks copied to another. -/
def Mem.copyGranule (m : Mem) (from_ goal : Nat) : Mem :=
  let bs := (m.bytes.filter fun p => p.1 / 4096 == from_)
  let ks := (m.marks.filter fun p => p.1 / 256 == from_)
  let m0 : Mem := ⟨m.bytes.filter fun p => p.1 / 4096 != goal, m.marks.filter fun p => p.1 / 256 != goal, m.parts⟩
  ⟨bs.foldl (fun b p => Sparse.set 0#8 b (goal * 4096 + p.1 % 4096) p.2) m0.bytes,
   ks.foldl (fun b p => Sparse.set 0 b (goal * 256 + p.1 % 256) p.2) m0.marks, m0.parts⟩

/-- The first number from n on that is not in a list. -/
def skipEarly (early : List Nat) (n : Nat) : Nat :=
  ((List.range (early.length + 1)).find? fun i => !early.contains (n + i)).elim n fun i => n + i

/-- A move with one more place of its order copied. -/
def ShadowMove.note (m : ShadowMove) (p : Nat) : ShadowMove :=
  if p = m.copied then
    let n := skipEarly m.early (p + 1)
    { m with copied := n, early := m.early.filter fun j => decide (n < j) }
  else { m with early := m.early ++ [p] }

/-- Granules still to copy. -/
def ShadowMove.left (m : ShadowMove) : Nat := m.granules - m.copied - m.early.length

/-- Granule i of a moving shadow copied (R241): its old place read, its new one written; a die that does not answer gives poison and
takes nothing (R249). With the last, EV-0x0D09, and waiting relocations begin. -/
def State.copyShadow (s : State) (m : ShadowMove) (i : Nat) : State :=
  let a := s.rawKey (m.origin i)
  let b := s.rawKey (m.goal i)
  let s := s.resolve .hbm a 4096
  let hbm := if !s.dieAnswers b then s.hbm
    else if s.dieAnswers a then s.hbm.copyGranule (a / 4096) (b / 4096)
    else s.hbm.poison ((List.range 256).map fun w => b / 4096 * 4096 + 16 * w)
  let s := { s with hbm := hbm, uncleared := cutRange s.uncleared (b / 4096) }
  let m := m.note (m.place i)
  let s := s.setVol (ek 0xD000 7) m.left
  if m.left = 0 then
    ({ s with shadowMove := none, reloc := s.reloc.map fun r => r.map fun r => { r with begun := true } } : State).raise
      0x0D09 0x6000 [(m.oldBase, 5), (m.newBase, 5), (m.granules, 4)]
  else { s with shadowMove := some m }

/-- A granule that a moving shadow has still to copy, copied now: the copy and an access to the granule are served one after the
other (R241). What its new place holds and has still to be copied goes first. -/
def State.copyAhead : Nat → State → Nat → State
  | 0, s, _ => s
  | fuel + 1, s, g =>
    match s.shadowMove with
    | none => s
    | some m =>
      match (s.spread (g * 4096)).bind m.at with
      | none => s
      | some i =>
        if m.done i then s
        else
          let t := State.copyAhead fuel s (s.rawKey (m.goal i) / 4096)
          match t.shadowMove with
          | some m => t.copyShadow m i
          | none => t

/-- A granule of the HBM cleared: every byte zero and no mark (R240); what a shadow move has still to take from it is copied first. -/
def State.clearGranule (s : State) (g : Nat) : State :=
  let s := State.copyAhead 128 s g
  { s with
    hbm := ⟨s.hbm.bytes.filter fun c => c.1 / 4096 != g, s.hbm.marks.filter fun k => k.1 / 256 != g, s.hbm.parts⟩
    uncleared := cutRange s.uncleared g }

/-- The granules a key range touches. -/
def granulesOf (a n : Nat) : List Nat :=
  if n = 0 then [] else (List.range ((a + n - 1) / 4096 - a / 4096 + 1)).map fun i => a / 4096 + i

/-- An access first clears every granule it touches that is not yet cleared (R240). -/
def State.clearFirst (s : State) (a n : Nat) : State :=
  (granulesOf a n).foldl (fun s g => if inRanges s.uncleared g then s.clearGranule g else s) s

/-- A granule of a retiring set is relocated before an access to it: copied, or every word poisoned (R248). -/
def State.relocateRow (s : State) (d : Fin 4) (j : Nat) : State :=
  match s.reloc[d] with
  | none => s
  | some r =>
    if !r.begun || j < r.next || r.early.contains j then s
    else
      let g := (d.val * 2 ^ 37) / 4096 + 32 * j + r.set
      let bad := (s.hbm.marks.filter fun k => k.1 / 256 == g && decide (2 ≤ k.2)).length
      let s := if r.poisonMode then
          { s with hbm := s.hbm.poison ((List.range 256).map fun i => g * 4096 + 16 * i) }
        else (s.hbm.marked (g * 4096) 4096).foldl (fun s w =>
          match Sparse.get 0 s.hbm.marks w with
          | 2 => ({ s with hbm := { s.hbm with marks := Sparse.set 0 s.hbm.marks w 3 } } : State).hbmUncorrectable (16 * w) 4
          | 1 => ({ s with hbm := { s.hbm with marks := Sparse.set 0 s.hbm.marks w 0 } } : State).hbmCorrected (16 * w)
          | _ => s) s
      let words := if r.poisonMode then 256 else bad
      let s := s.setVol (ek (0xD040 + d.val) 5) (s.volAt (ek (0xD040 + d.val) 5) + 1)
      { s with reloc := s.reloc.set d (some { r with
          early := if j = r.next then r.early else r.early ++ [j]
          next := if j = r.next then r.next + 1 else r.next
          poisoned := r.poisoned + words }) }

/-- An access to granules of a retiring set relocates them first (R248). -/
def State.relocateFirst (s : State) (a n : Nat) : State :=
  (granulesOf a n).foldl (fun s g =>
    let d : Fin 4 := ⟨g / 2 ^ 25 % 4, by omega⟩
    match s.reloc[d] with
    | some r => if g % 32 = r.set then s.relocateRow d (g % 2 ^ 25 / 32) else s
    | none => s) s

/-- The event of a refused access, at most once per agent per beat (R242). Agents: 2 hub, 3 page keeper, 4 codec,
5 host window, 6 twin link, 7 fabric port, 16 and up the cores; the number an event gives one is `Config.agentCode` of it. -/
def State.refuseAccess (s : State) (code path a agent vat : Nat) : State :=
  if s.agentBeat.contains (agent, code) then s
  else
    let s := ({ s with agentBeat := s.agentBeat ++ [(agent, code)] } : State).raise code path
      ([(a % 2 ^ 40, 5), (Config.agentCode agent, 1)] ++ if code = 0x0D03 then [(vat, 1)] else [])
    if h : code = 0x0D03 ∧ vat < 16 then s.vatEvent ⟨vat, h.2⟩ else s

/-- The path a memory event carries for an address (R252): its die's, or the package's where it names no die. -/
def State.addrPath (s : State) (a : Nat) : Nat :=
  match s.decodeAddr a with
  | some k => diePath (k / 2 ^ 37)
  | none => if 2 ^ 39 ≤ a ∧ a < 2 ^ 40 then diePath (a / 2 ^ 37 % 4) else 0x6000

/-- The first byte of a device range whose address is not valid (R238). -/
def State.invalidByte (s : State) (a n : Nat) : Option Nat :=
  ((granulesOf a n).find? fun g => (s.decodeAddr (g * 4096)).isNone).map fun g => max a (g * 4096)

/-- The first byte of a device range that is not valid or whose die does not answer (R238, R249). -/
def State.badByte (s : State) (a n : Nat) : Nat :=
  match (granulesOf a n).find? fun g => match s.decodeAddr (g * 4096) with
    | some k => !s.dieAnswers k
    | none => true with
  | some g => max a (g * 4096)
  | none => a

/-- EV-0x0D02 for an access that meets an invalid address or a die that does not answer (R242, R249, R252). -/
def State.refuseInvalid (s : State) (a n agent : Nat) : State :=
  s.refuseAccess 0x0D02 (s.addrPath (s.badByte a n)) (s.badByte a n) agent 0

/-- The keys of a device address range, one a byte; `none` for a byte at an invalid address. -/
def State.keysOf (s : State) (a n : Nat) : List (Option Nat) := (List.range n).map fun i => s.decodeAddr (a + i)

/-- The state made ready for an access to a device address range: uncleared and retiring granules served first. Every
4 KiB granule of a device range is one granule of a die. -/
def State.readyHbm (s : State) (a n : Nat) : State :=
  (granulesOf a n).foldl (fun s g =>
    match s.decodeAddr (g * 4096) with
    | some k => (s.clearFirst k 1).relocateFirst k 1
    | none => s) s

/-- The state made ready for a read of a device address range: also its marked words resolved. -/
def State.openHbm (s : State) (a n : Nat) : State :=
  (granulesOf a n).foldl (fun s g =>
    match s.decodeAddr (g * 4096) with
    | some k =>
      let lo := max (g * 4096) a
      let hi := min (g * 4096 + 4096) (a + n)
      ((s.clearFirst k 1).relocateFirst k 1).resolve .hbm (k + (lo - g * 4096)) (hi - lo)
    | none => s) s

/-- A read of device addresses after `openHbm`: an invalid address, or a die whose stack has failed, reads poison. -/
def State.peekHbm (s : State) (a n : Nat) : List (Byte × Bool) :=
  (s.keysOf a n).map fun k =>
    match k with
    | some key => if s.dieAnswers key then s.hbm.read key else (0#8, true)
    | none => (0#8, true)

/-- Whether every byte of a device range can be reached (R238, R249). -/
def State.reachable (s : State) (a n : Nat) : Bool :=
  (granulesOf a n).all fun g => match s.decodeAddr (g * 4096) with
    | some key => s.dieAnswers key
    | none => false

/-- A read of device addresses by an agent: EV-0x0D02 where an address is invalid, which reads poison as a whole, or its die does not
answer (R242, R249). -/
def State.readHbm (s : State) (a n agent : Nat) : List (Byte × Bool) × State :=
  let s := s.openHbm a n
  (if (s.invalidByte a n).isSome then List.replicate n (0#8, true) else s.peekHbm a n, if s.reachable a n then s else s.refuseInvalid a n agent)

/-- A word read for the merge of a partial write: corrected, or poison under EV-0x0D01 with source 3 in HBM (R235, R236). -/
def State.mergeWord (s : State) (p : Place) (w : Nat) : State :=
  match p, Sparse.get 0 (s.mem p).marks w with
  | .hbm, 2 => ({ s with hbm := { s.hbm with marks := Sparse.set 0 s.hbm.marks w 3 } } : State).hbmUncorrectable (16 * w) 3
  | .hbm, 3 => s.hbmEvent (16 * w) 3
  | p, _ => s.resolveWord p w

/-- Bytes written into a memory at their addresses: a word only partly covered is read first (R236). -/
def State.writeMem (s : State) (p : Place) (cells : List (Nat × Byte)) : State :=
  let part := ((s.mem p).marks.filter fun k => (cells.any fun c => c.1 / 16 == k.1) && !coversWord cells k.1).map Prod.fst
  let s := part.foldl (fun s w => s.mergeWord p w) s
  s.setMem p ((s.mem p).write cells)

/-- A write of device addresses by an agent: one that meets an invalid address writes nothing; a die that does not answer discards its
part (R242, R249). -/
def State.writeHbm (s : State) (a : Nat) (bs : List Byte) (agent : Nat) : State :=
  let s := s.readyHbm a bs.length
  let t := if s.reachable a bs.length then s else s.refuseInvalid a bs.length agent
  if (s.invalidByte a bs.length).isSome then t
  else t.writeMem .hbm ((cellsAt a bs).filterMap fun c =>
    ((s.decodeAddr c.1).filter fun k => s.dieAnswers k).map fun k => (k, c.2))

/-- Poison written over device addresses (R236). -/
def State.poisonHbm (s : State) (a n : Nat) : State :=
  let s := s.readyHbm a n
  { s with hbm := s.hbm.poison ((s.keysOf a n).filterMap id) }

/-- A region record of a vat: base, bytes and kind (Table 13-5). -/
def State.regionOf (s : State) (vat k : Nat) : Nat × Nat × Nat :=
  let r := s.cfgAt (ek (0xD010 + vat) (k + 1))
  (r / 2 ^ 16 % 2 ^ 16 * 2 ^ 16 + r / 2 ^ 32 % 2 ^ 8 * 2 ^ 32, r / 2 ^ 64 % 2 ^ 32 * 2 ^ 16, r / 2 ^ 96 % 16)

/-- Whether a device range lies in one region of a vat, of a kind when one is named. -/
def State.inOneRegion (s : State) (vat a n : Nat) (kind : Option Nat) : Bool :=
  (List.range 8).any fun k =>
    let r := s.regionOf vat k
    r.2.2 != 0 && (kind.isNone || kind == some r.2.2) && decide (r.1 ≤ a ∧ a + n ≤ r.1 + r.2.1)

/-- The end of the vat's region that holds an address. -/
def State.regionEnd (s : State) (vat a : Nat) : Option Nat :=
  ((List.range 8).find? fun k =>
    let r := s.regionOf vat k
    r.2.2 != 0 && decide (r.1 ≤ a ∧ a < r.1 + r.2.1)).map fun k => (s.regionOf vat k).1 + (s.regionOf vat k).2.1

/-- The first address of a range outside a vat's regions, going region by region. -/
def State.firstOutside (s : State) (vat : Nat) : Nat → Nat → Nat → Option Nat
  | 0, a, _ => some a
  | fuel + 1, a, top =>
    if top ≤ a then none
    else match s.regionEnd vat a with
      | some e => s.firstOutside vat fuel e top
      | none => some a

/-- Whether a device range lies in a vat's regions (R131, R242). -/
def State.inRegions (s : State) (vat a n : Nat) : Bool := (s.firstOutside vat 9 a (a + n)).isNone

/-! ### Result of an agent's access on behalf of a vat (R242) -/

/-- The refusal of an agent's access outside its vat's regions: EV-0x0D02 where it meets an invalid address, EV-0x0D03
otherwise (R242). -/
def State.refuseOutside (s : State) (vat a n agent : Nat) : State :=
  if (s.invalidByte a n).isSome then s.refuseInvalid a n agent
  else
    let b := (s.firstOutside vat 9 a (a + n)).getD a
    s.refuseAccess 0x0D03 (s.addrPath b) b agent vat

/-- A read by an agent other than a core: outside the vat's regions it is refused and reads poison. -/
def State.agentRead (s : State) (vat a n agent : Nat) : List (Byte × Bool) × State :=
  if s.inRegions vat a n then s.readHbm a n agent
  else (List.replicate n (0#8, true), s.refuseOutside vat a n agent)

/-- A write by an agent other than a core: outside the vat's regions it is refused and writes nothing. -/
def State.agentWrite (s : State) (vat a : Nat) (bs : List Byte) (agent : Nat) : State :=
  if s.inRegions vat a bs.length then s.writeHbm a bs agent
  else s.refuseOutside vat a bs.length agent

/-! ### Clocks -/

/-- A state with its events written, power and gating as `p`, and the queue of `s`: the queue is the senders', so no command touches
it. -/
def State.endsPower (s t : State) (p : Power) : State := { t.settled s.raised.length with pending := s.pending, power := p }

/-- The state a command answers: power and gating change only by the commands of Power, Thermal Limits and Start-Up. -/
def State.ends (s t : State) : State := s.endsPower t s.power

/-- The outcome of a command that the package's clocks carry out and that leaves power and gating as `p`: without power, or once
a thermal trip or the loss of power has stopped every clock (R425, R432), nothing changes. -/
def State.clockedPower (s t : State) (p : Power) : Host.Outcome State Fault Refusal :=
  .next (if s.power.clocks then s.endsPower t p else s)

/-- The outcome of a command that the package's clocks carry out. -/
def State.clocked (s t : State) : Host.Outcome State Fault Refusal := .next (if s.power.clocks then s.ends t else s)

end Sys2Proof.Machine
end

