-- ==== Sys2Proof/Machine/Sha.lean ====
section
/-! DEFINITION. The cryptography that the spec names by its standards: SHA-512, HMAC, HKDF, verification of RSASSA-PSS
signatures, and the P-384 exchange (R2, R379, R380, R397, R401, R403). -/
namespace Sys2Proof.Machine

/-! ### SHA-512 -/

/-- Whether a number below 441 is prime. -/
def isPrime (n : Nat) : Bool := decide (2 ≤ n) && (List.range 21).all fun d => decide (d < 2) || decide (n ≤ d) || n % d != 0

/-- The first eighty primes. -/
def primes80 : List Nat := (List.range 410).filter isPrime

/-- The greatest number below `r + 2^bits` that is at least `r` and whose power `k` is at most `x`. -/
def rootFrom (k x : Nat) : (bits r : Nat) → Nat
  | 0, r => r
  | b + 1, r => rootFrom k x b (if (r + 2 ^ b) ^ k ≤ x then r + 2 ^ b else r)

/-- The first 64 bits of the fraction of a root of `p`. -/
def rootFraction (k p : Nat) : DWord := BitVec.ofNat 64 (rootFrom k (p * 2 ^ (64 * k)) 69 0)

/-- The constants of the rounds: cube roots of the first eighty primes. -/
def shaConstants : List DWord := primes80.map (rootFraction 3)

/-- The value a hash starts from: square roots of the first eight primes. -/
def shaStart : List DWord := (primes80.take 8).map (rootFraction 2)

/-- A word rotated right by each of some amounts, summed bit by bit. -/
def rotations (l : List Nat) (x : DWord) : DWord := l.foldl (fun a n => a ^^^ x.rotateRight n) 0#64

/-- The word of the message schedule that follows a window of sixteen. -/
def scheduleNext (w : List DWord) : DWord :=
  let early := w.getD 1 0#64
  let late := w.getD 14 0#64
  w.getD 0 0#64 + w.getD 9 0#64 + (rotations [1, 8] early ^^^ (early >>> 7)) + (rotations [19, 61] late ^^^ (late >>> 6))

/-- A round on the eight working words, with the constant and the schedule word it adds. -/
def shaStep (k w : DWord) : List DWord → List DWord
  | [a, b, c, d, e, f, g, h] =>
    let t := h + k + w + rotations [14, 18, 41] e + (g ^^^ (e &&& (f ^^^ g)))
    [t + rotations [28, 34, 39] a + ((a &&& b) ||| (c &&& (a ||| b))), a, b, c, d + t, e, f, g]
  | other => other

/-- The rounds of one block: the schedule slides as its oldest word is used. -/
def shaRounds : (constants window working : List DWord) → List DWord
  | [], _, v => v
  | k :: ks, w, v => shaRounds ks (w.drop 1 ++ [scheduleNext w]) (shaStep k (w.headD 0#64) v)

/-- Bytes as one number, most significant first. -/
def beNat (b : List Byte) : Nat := b.foldl (fun n x => 256 * n + x.toNat) 0

/-- A number as `n` bytes, most significant first. -/
def beBytes (x n : Nat) : List Byte := (List.range n).map fun i => BitVec.ofNat 8 (x / 256 ^ (n - 1 - i))

/-- A list in pieces of `n`, as many as `fuel` allows. -/
def pieces {α : Type} (n : Nat) : (fuel : Nat) → List α → List (List α)
  | 0, _ => []
  | fuel + 1, l => if l.isEmpty then [] else l.take n :: pieces n fuel (l.drop n)

/-- A hash value after one more block of 128 bytes. -/
def shaAbsorb (h : List DWord) (block : List Byte) : List DWord :=
  let window := (pieces 8 16 block).map fun b => BitVec.ofNat 64 (beNat b)
  List.zipWith (· + ·) h (shaRounds shaConstants window h)

/-- SHA-512 (FIPS 180-4): a one, zeros and the length in bits fill the last block. -/
def sha512 (m : List Byte) : List Byte :=
  let fill := List.replicate ((239 - m.length % 128) % 128) 0#8
  let whole := m ++ 0x80#8 :: (fill ++ beBytes (8 * m.length) 16)
  ((pieces 128 whole.length whole).foldl shaAbsorb shaStart).flatMap fun w => beBytes w.toNat 8

/-- HMAC-SHA-512. -/
def hmac512 (key msg : List Byte) : List Byte :=
  let short := if 128 < key.length then sha512 key else key
  let pad (with_ : Byte) : List Byte := (List.range 128).map fun i => short.getD i 0#8 ^^^ with_
  sha512 (pad 0x5C#8 ++ sha512 (pad 0x36#8 ++ msg))

/-- HKDF with SHA-512 of a salt and an info string, up to 64 bytes. -/
def hkdf512 (salt ikm info : List Byte) (n : Nat) : List Byte := (hmac512 (hmac512 salt ikm) (info ++ [1#8])).take n

/-! ### RSASSA-PSS (R2, R380, R397, R401) -/

/-- A power modulo `n`, by the exponent's bits. -/
def powMod (n : Nat) : (bits base exponent : Nat) → Nat
  | 0, _, _ => 1 % n
  | bits + 1, b, e =>
    let rest := powMod n bits (b * b % n) (e / 2)
    if e % 2 = 1 then rest * b % n else rest

/-- The mask generation function over SHA-512. -/
def mgf512 (seed : List Byte) (n : Nat) : List Byte :=
  ((List.range ((n + 63) / 64)).flatMap fun i => sha512 (seed ++ beBytes i 4)).take n

/-- Whether an encoded message of 512 bytes is a PSS encoding of a message, for a salt of `salt` bytes. -/
def pssEncodes (salt : Nat) (message encoded : List Byte) : Bool :=
  let h := (encoded.drop 447).take 64
  let db := (List.zipWith (· ^^^ ·) (encoded.take 447) (mgf512 h 447)).zipIdx.map fun p =>
    if p.2 = 0 then p.1 &&& 0x7F#8 else p.1
  let zeros := 446 - salt
  decide (salt ≤ 446) && encoded.getLast? == some 0xBC#8 && !(encoded.headD 0#8).getLsbD 7
    && (db.take zeros).all (· == 0#8) && db.getD zeros 0#8 == 1#8
    && sha512 (List.replicate 8 0#8 ++ sha512 message ++ db.drop (zeros + 1)) == h

/-- Whether a signature is the RSASSA-PSS signature over SHA-512 of a message under an RSA-4096 modulus, with the exponent
65,537 of Table 21-2. The length of the salt is the constant Config.pssSalt (DESIGN CHOICE, assumption 75). -/
def verifies (modulus message signature : List Byte) : Bool :=
  let n := beNat modulus
  let s := beNat signature
  modulus.length == 512 && signature.length == 512 && decide (2 ^ 4095 ≤ n) && decide (s < n)
    && pssEncodes Config.pssSalt message (beBytes (powMod n 17 s 65537) 512)

/-! ### P-384 (R403) -/

/-- The field of P-384. -/
def p384 : Nat := 2 ^ 384 - 2 ^ 128 - 2 ^ 96 + 2 ^ 32 - 1

/-- The curve's constant term: y² = x³ - 3x + b. -/
def p384b : Nat := 0xB3312FA7E23EE7E4988E056BE3F82D19181D9C6EFE8141120314088F5013875AC656398D8A2ED19D2A85C8EDD3EC2AEF

/-- The generator. -/
def p384g : Nat × Nat :=
  (0xAA87CA22BE8B05378EB1C71EF320AD746E1D3B628BA79B9859F741E082542A385502F25DBF55296C3A545E3872760AB7,
   0x3617DE4A96262C6F5D9E98BF9292DC29F8F41DBD289A147CE9DA3113B5F0B8C00A60B1CE1D7E819D7A431D7C90EA0E5F)

/-- The order of the generator. -/
def p384n : Nat := 0xFFFFFFFFFFFFFFFFFFFFFFFFFFFFFFFFFFFFFFFFFFFFFFFFC7634D81F4372DDF581A0DB248B0A77AECEC196ACCC52973

/-- Whether a pair is a point of the curve. -/
def onCurve (q : Nat × Nat) : Bool :=
  decide (q.1 < p384 ∧ q.2 < p384) && q.2 * q.2 % p384 == (q.1 * q.1 * q.1 + (p384 - 3) * q.1 + p384b) % p384

/-- The sum of two points; `none` is the point at infinity. -/
def curveAdd : Option (Nat × Nat) → Option (Nat × Nat) → Option (Nat × Nat)
  | none, q => q
  | p, none => p
  | some p, some q =>
    if p.1 = q.1 ∧ (p.2 + q.2) % p384 = 0 then none
    else
      let up := if p = q then 3 * p.1 * p.1 + (p384 - 3) else q.2 + p384 - p.2
      let down := if p = q then 2 * p.2 else q.1 + p384 - p.1
      let slope := up * powMod p384 384 (down % p384) (p384 - 2) % p384
      let x := (slope * slope + 2 * p384 - p.1 - q.1) % p384
      some (x, (slope * (p.1 + p384 - x) + p384 - p.2) % p384)

/-- A multiple of a point, by the bits of the factor. -/
def curveMul : (bits factor : Nat) → Option (Nat × Nat) → Option (Nat × Nat)
  | 0, _, _ => none
  | bits + 1, n, q =>
    let rest := curveMul bits (n / 2) (curveAdd q q)
    if n % 2 = 1 then curveAdd q rest else rest

/-- A private key of the exchange from free bits: from 1 to the order less one. -/
def scalarOf (draw : Nat) : Nat := 1 + draw % (p384n - 1)

/-- A point uncompressed under SEC 1, 97 bytes. -/
def pointBytes (q : Option (Nat × Nat)) : List Byte :=
  let p := q.getD (0, 0)
  4#8 :: (beBytes p.1 48 ++ beBytes p.2 48)

/-- The point of 97 bytes, if it is one of the curve. -/
def pointOf (b : List Byte) : Option (Nat × Nat) :=
  let q := (beNat ((b.drop 1).take 48), beNat ((b.drop 49).take 48))
  if b.length = 97 ∧ b.headD 0#8 = 4#8 ∧ onCurve q then some q else none

/-- The public point of a private key. -/
def publicPoint (d : Nat) : List Byte := pointBytes (curveMul 384 d (some p384g))

/-- The shared secret of a private key and a peer's point: the x coordinate of their product. -/
def sharedSecret (d : Nat) (q : Nat × Nat) : List Byte := beBytes ((curveMul 384 d (some q)).getD (0, 0)).1 48

end Sys2Proof.Machine
end

