-- ==== Sys2Proof/Machine/Audit.lean ====
section
/-! DEFINITION. The audit ring: one 256-byte record for every change (R390 to R393). -/
namespace Sys2Proof.Machine

/-- What an audit record says, its sequence, beat, generation and chain apart (Table 20-5). -/
structure AuditEntry where
  kind : Nat
  role : Nat
  source : Nat
  outcome : Nat
  idx : Nat
  sub : Nat
  vat : Nat
  keyId : List Byte
  path : Nat
  old : Option (List Byte)
  new : Option (List Byte)
  deriving DecidableEq, Repr

/-- A record that names no entry, vat, key or unit. -/
def AuditEntry.plain (kind role source outcome : Nat) : AuditEntry :=
  ⟨kind, role, source, outcome, 0, 0, 0xFF, List.replicate 8 0#8, 0, none, none⟩

/-- The hash field of a value: zero where there is none. -/
def hashField : Option (List Byte) → List Byte
  | some b => sha512 b
  | none => List.replicate 64 0#8

/-- The first 192 bytes of a record (Table 20-5). -/
def auditBody (seq beat gen : Nat) (e : AuditEntry) : List Byte :=
  leBytes seq 4 ++ leBytes beat 8 ++ leBytes gen 4
    ++ leBytes (e.kind * 2 ^ 24 + e.role * 2 ^ 16 + e.source * 2 ^ 8 + e.outcome) 4
    ++ leBytes (e.idx * 2 ^ 16 + e.sub * 2 ^ 8 + e.vat) 4 ++ e.keyId ++ leBytes (e.path * 2 ^ 16) 4
    ++ List.replicate 28 0#8 ++ hashField e.old ++ hashField e.new

/-- A record that the ring overwrites before its mirror to the host has left, waiting or discarded: skipped, counted in 0x9000:05, EV-0x1403 at most
once per beat (R392). -/
def State.skipMirror (s : State) (gone : List (List Byte)) : State :=
  match gone with
  | [] => s
  | r :: _ =>
    if !(s.host.held.any (fun h => h.msg.data == r) || s.host.lost.contains r) then s
    else
      let s := ({ s with host := { s.host with
          held := s.host.held.filter fun h => h.msg.data != r, lost := s.host.lost.filter fun b => b != r } } : State).count
        (ek 0x9000 5) 1 0x1404 0x5000 [(5, 2)]
      if s.mirrorBeat then s
      else ({ s with mirrorBeat := true } : State).raise 0x1403 0x5000 [(1, 1), (s.volAt (ek 0x9000 5) % 2 ^ 48, 4)]

/-- A record mirrored to host memory while 0x9000:02 is non-zero (R392). -/
def State.mirrorAudit (s : State) (seq : Nat) (r : List Byte) : State :=
  let base := s.cfgAt (ek 0x9000 2)
  if base = 0 then s
  else
    let t := s.toHost 0 16 ⟨.host, 0, [0, base + (seq + 2 ^ 32 - 1) % 2 ^ 32 % (max 1 (s.cfgAt (ek 0x9000 3))) * 256], r⟩
    if t.out.length = s.out.length then t else t.setVol (ek 0x9000 4) seq

/-- A record sent to the twin in class C0; the last one handed to the link is remembered (R393). -/
def State.auditTwin (s : State) (seq : Nat) (r : List Byte) : State :=
  let t := s.sendTwin 0 ⟨.twin, 3, [seq], r⟩
  { t with twinPool := { t.twinPool with audited := seq } }

/-- A record written to the ring, mirrored to the host while 0x9000:02 is non-zero, and sent to the twin while the twin
link is up (R390 to R393). -/
def State.auditRec (s : State) (e : AuditEntry) : State :=
  let seq := (s.volAt (ek 0x9000 1) + 1) % 2 ^ 32
  let chain := match s.audit.getLast? with
    | some r => sha512 r
    | none => List.replicate 64 0#8
  let rec_ := auditBody seq s.beat (s.volAt (ek 0x2000 1)) e ++ chain
  let all := s.audit ++ [rec_]
  let n := all.length - 4096
  let s := (({ s with audit := all.drop n } : State).setVol (ek 0x9000 1) seq).skipMirror (all.take n)
  let s := s.mirrorAudit seq rec_
  if s.volAt (ek 0xC010 3) = 2 then s.auditTwin seq rec_ else s

end Sys2Proof.Machine
end

