-- ==== Sys2Proof/Machine/Psiger.lean ====
section
/-! DEFINITION. The Psiger transport's sending side (R341 to R344, R347) and the fault notices that use it (R354). -/
namespace Sys2Proof.Machine

/-- A statistic of the fabric raised (R359). -/
def State.countFabric (s : State) (sub n : Nat) : State := s.count (ek 0x8800 sub) n 0x120A 0x6000 [(sub, 2)]

/-- Whether a port accepts a frame (R339): MACsec is not required, or the frame passes its checks under a receive channel and association
whose key is in force. -/
def State.macsecOk (s : State) (p : Fin 8) (sa : Option (Fin 64)) : Bool :=
  s.cfgAt (ek (0xC008 + p.val) 4) == 0 || match sa with
    | none => false
    | some n => (vget FPort.reset s.fports p.val).keys.any fun k => keySlot k == n.val

/-- How a port protects what it sends (R337): 1 plus the association number of the transmit key last in force where it requires MACsec and
holds one, else 0 (DESIGN CHOICE, assumption 25). -/
def State.txSa (s : State) (p : Fin 8) : Nat :=
  if s.cfgAt (ek (0xC008 + p.val) 4) = 0 then 0
  else match ((vget FPort.reset s.fports p.val).keys.filter fun k => decide (128 ≤ keySlot k)).getLast? with
    | some k => keySlot k - 127
    | none => 0

/-- A frame discarded for want of MACsec: counted, and reported at the end of the beat (R339). -/
def State.macsecDiscard (s : State) (p : Fin 8) : State :=
  let f := vget FPort.reset s.fports p.val
  ({ s with fports := s.fports.set p { f with discards := f.discards + 1 } } : State).countFabric 6 1

/-- Word n of a binding's record as committed (Table 18-3). -/
def State.bindWord (s : State) (b n : Nat) : Nat :=
  s.cfgAt (ek (0xC100 + b / 128) (b % 128 + 1)) / 2 ^ (32 * n) % 2 ^ 32

/-- The local vat, peer vat, peer binding, port mask and peer package of a binding (Table 18-3). -/
def State.bindVat (s : State) (b : Nat) : Nat := s.bindWord b 0 / 2 ^ 24 % 16
/-- The peer vat of a binding. -/
def State.bindPeerVat (s : State) (b : Nat) : Nat := s.bindWord b 0 / 2 ^ 20 % 16
/-- The peer's binding number. -/
def State.bindPeerBinding (s : State) (b : Nat) : Nat := s.bindWord b 0 / 2 ^ 8 % 4096
/-- The port mask of a binding. -/
def State.bindMask (s : State) (b : Nat) : Nat := s.bindWord b 0 % 256
/-- The peer package of a binding. -/
def State.bindPeer (s : State) (b : Nat) : Nat := s.bindWord b 1

/-- What is kept of a binding. -/
def State.binding (s : State) (b : Nat) : Binding := Sparse.get Binding.unbound s.bindings b

/-- What is kept of a binding, changed. -/
def State.updBinding (s : State) (b : Nat) (f : Binding → Binding) : State :=
  { s with bindings := Sparse.set Binding.unbound s.bindings b (f (s.binding b)) }

/-- The bindings in a state, lowest first. -/
def State.bindingsIn (s : State) (st : Nat) : List Nat := (s.bindings.filter fun p => p.2.state == st).map Prod.fst

/-- A fabric port's unit (Table 2-2). -/
def portUnit (p : Fin 8) : UnitNo := ⟨261 + p.val, by omega⟩

/-- Whether a port carries segments: its link up, in the spray sets, its unit in service (R338, R418). -/
def State.portUp (s : State) (p : Fin 8) : Bool :=
  let st := s.ust (portUnit p)
  s.volAt (ek (0xC008 + p.val) 5) == 2 && s.fports[p].spray
    && (st == stReady || st == stRunning || st == stDraining)

/-- The spray set of a binding, lowest port first (R344, R347). -/
def State.sprayOf (s : State) (b : Nat) : List (Fin 8) :=
  (List.finRange 8).filter fun p =>
    (s.bindMask b).testBit p.val && s.portUp p && !(s.binding b).away.contains p.val

/-- A binding loses its path when none of its ports is up: it reconciles once one returns (R266). -/
def State.pathsLost (s : State) : State :=
  (s.bindingsIn 1).foldl (fun s b => if (s.sprayOf b).isEmpty then s.updBinding b fun r => { r with state := 2 } else s) s

/-- A port whose unit is HELD or LOADING leaves every spray set, as when its link goes down (R338, Table 22-7). -/
def State.portAway (s : State) (p : Fin 8) : State :=
  if s.away (portUnit p) then
    ({ s with fports := s.fports.set p { (vget FPort.reset s.fports p.val) with spray := false } } : State).pathsLost
  else s

/-- The (n mod k)-th port of a binding's spray set (R344). -/
def State.sprayPort (s : State) (b n : Nat) : Option (Fin 8) :=
  let l := s.sprayOf b
  l[n % (max 1 l.length)]?

/-- A Psiger header (Table 18-2). -/
def State.psigerHeader (s : State) (b typ cls seq w6 w7 len : Nat) : List Word :=
  let w (n : Nat) : Word := BitVec.ofNat 32 n
  [w (2 ^ 28 + typ * 2 ^ 24 + cls * 2 ^ 22 + len), w (s.cfgAt (ek 0xC000 1)), w (s.bindPeer b),
   w (b * 2 ^ 20 + s.bindPeerBinding b * 2 ^ 8), w seq, (s.binding b).last, w w6, w w7]

/-- The DSCP of a class (R341). -/
def dscp (cls : Nat) : Nat := if cls ≤ 1 then 0x30 else if cls = 2 then 0x28 else 0x20

/-- Words as bytes, each little-endian. -/
def wordsLE (l : List Word) : List Byte := l.flatMap fun w => leBytes w.toNat 4

/-- A segment put on a port: the port, its IPv6 and UDP fields (R341), its VLAN tag and MACsec association (R337), its header and payload. -/
def State.putSegment (s : State) (p : Fin 8) (b cls seq : Nat) (header : List Word) (payload : List Byte) : State :=
  (s.send ⟨.fabric, 0, [p.val, s.bindWord b 2, s.bindWord b 3, s.bindWord b 4, s.bindWord b 5, dscp cls, seq % 2 ^ 20,
    s.cfgAt (ek 0xC000 6), s.cfgAt (ek (0xC008 + p.val) 3), s.txSa p], wordsLE header ++ payload⟩).countFabric 1 1

/-- A segment with sequence zero, of which no copy is kept: acknowledgements, negative ones, probes and replies. -/
def State.psigerControl (s : State) (b typ cls w6 w7 : Nat) (payload : List Byte) : State :=
  match s.sprayPort b 0 with
  | some p => s.putSegment p b cls 0 (s.psigerHeader b typ cls 0 w6 w7 payload.length) payload
  | none => s

/-- The bytes of a copy in the retransmit store. -/
def SentSeg.size (g : SentSeg) : Nat := 32 + g.payload.length

/-- The retransmit store a class uses, over every binding (R344). -/
def State.storeUsed (s : State) (cls : Nat) : Nat :=
  s.bindings.foldl (fun n p => p.2.sent.foldl (fun n g => if g.cls = cls then n + g.size else n) n) 0

/-- Whether the store has room for n bytes of a class: 12 MiB, 1 MiB of it kept for each of C0, C1 and C2 (R344). -/
def State.storeRoom (s : State) (cls n : Nat) : Bool :=
  let mib := 2 ^ 20
  let past (c : Nat) : Nat := s.storeUsed c + (if c = cls then n else 0) - (if c = 3 then 0 else mib)
  decide (past 0 + past 1 + past 2 + past 3 ≤ 9 * mib)

/-- Whether a binding can send a segment of a class now (R344). -/
def State.canSend (s : State) (b : Nat) (h : HeldSeg) : Bool :=
  let r := s.binding b
  r.state == 1 && decide (r.sent.length < 1024) && s.storeRoom h.cls (32 + h.payload.length)

/-- A segment leaves with the next sequence: a copy kept, and sent on its port if one is up (R344). -/
def State.sendNow (s : State) (b : Nat) (h : HeldSeg) : State :=
  let r := s.binding b
  let seq := r.next
  let header := s.psigerHeader b h.typ h.cls seq.toNat h.w6 h.w7 h.payload.length
  let port := s.sprayPort b seq.toNat
  let s := s.updBinding b fun r => { r with
    next := r.next + 1#32
    sent := r.sent ++ [⟨seq, h.cls, header, h.payload, port.map Fin.val, seq.toNat⟩] }
  match port with
  | some p => s.putSegment p b h.cls seq.toNat header h.payload
  | none => s

/-- A sequenced segment sent, or held behind the binding's held segments of its class until it can leave; a wait for space in the store is
counted (R344). -/
def State.psigerSend (s : State) (b typ cls w6 w7 : Nat) (payload : List Byte) : State :=
  let h : HeldSeg := ⟨typ, cls, w6, w7, payload, !s.storeRoom cls (32 + payload.length)⟩
  let r := s.binding b
  if s.canSend b h && !(r.held.any fun k => k.cls == cls) then s.sendNow b h
  else
    let t := s.updBinding b fun r => { r with held := r.held ++ [h] }
    if h.counted then t.countFabric 9 1 else t

/-- Held segments of a binding that can leave now leave, each class in order; one that finds no space in the store for the first time
is counted (R344). -/
def State.releaseHeld (s : State) (b : Nat) : State :=
  ((s.binding b).held.foldl (fun (a : State × List HeldSeg) h =>
    if !(a.2.any fun k => k.cls == h.cls) && a.1.canSend b h then (a.1.sendNow b h, a.2)
    else if h.counted || a.1.storeRoom h.cls (32 + h.payload.length) then (a.1, a.2 ++ [h])
    else (a.1.countFabric 9 1, a.2 ++ [{ h with counted := true }]))
    (s.updBinding b fun r => { r with held := [] }, [])) |> fun a =>
      a.1.updBinding b fun r => { r with held := a.2 }

/-- Fault notices on the twin link and to the peer of every bound binding, with EV-0x1205 (R354). -/
def State.faultNotice (s : State) (cause : Nat) : State :=
  let s := if s.volAt (ek 0xC010 3) = 2 then s.sendTwin 0 ⟨.twin, 9, [], []⟩ else s
  let s := (s.bindingsIn 1).foldl (fun s b => s.psigerSend b 9 0 0 0 []) s
  s.raise 0x1205 0x6000 [(cause, 1)]

end Sys2Proof.Machine
end

