-- ==== Sys2Proof/Machine/Units.lean ====
section
/-! DEFINITION. Units as a tree: members and service (R16, R19, R20), transitions (R23), hold causes (R24), aggregation
(R29), frozen holdings (R275) and the pools they come from (R271). -/
namespace Sys2Proof.Machine

/-- The package unit. -/
abbrev uPackage : UnitNo := 281
/-- The pair unit. -/
abbrev uPair : UnitNo := 282
/-- The group unit. -/
abbrev uGroup : UnitNo := 283
/-- The hub die unit. -/
abbrev uHub : UnitNo := 280

/-- Hub function s as a unit (Table 2-3). -/
def hubUnit (f : Fin 16) : UnitNo := ⟨260 + f.val, by omega⟩

/-- A unit in service: READY, RUNNING, or HELD with cause [3] alone (R16). -/
def UView.inService (v : UView) : Bool :=
  v.state == stReady || v.state == stRunning || (v.state == stHeld && v.causes == 8#8)

/-- Whether a unit is in service. -/
def State.inService (s : State) (u : UnitNo) : Bool := (s.view u).inService

/-- A unit from a number, the package past the end. -/
def unitOf (n : Nat) : UnitNo := if h : n < 284 then ⟨n, h⟩ else uPackage

/-- The physical core a die's logical number is bound to, `none` when unbound (R18, Table 2-11). -/
def State.boundPhys (s : State) (d : Fin 4) (n : Nat) : Option CoreId :=
  let p := s.cfgAt (ek 0x2010 (d.val + 1)) / 16 ^ n % 16
  if h : p < 13 then some ⟨d.val * 13 + p, by omega⟩ else none

/-- The logical number the map names a physical core for (R18). -/
def State.boundTo (s : State) (c : CoreId) : Option (Fin 48) :=
  (List.finRange 48).find? fun q => s.boundPhys ⟨q.val / 12, by omega⟩ (q.val % 12) == some c

/-- Whether a logical number has lost its core since the maps last changed (R19). -/
def State.isLost (s : State) (q : Nat) : Bool := s.lostCores.any fun p => p.1 == q

/-- The physical core of a vat-space logical core: the one the map names, unless it has left service (R18, R19). -/
def State.physOf (s : State) (q : Fin 48) : Option CoreId :=
  if s.isLost q.val then none else s.boundPhys ⟨q.val / 12, by omega⟩ (q.val % 12)

/-- The vat-space logical number of a physical core, if it is bound. -/
def State.logicalOf (s : State) (c : CoreId) : Option (Fin 48) :=
  (List.finRange 48).find? fun q => s.physOf q == some c

/-- The members of a unit (Table 2-1); the pair's and group's outside this package are not among them. -/
def State.members (s : State) (u : UnitNo) : List UnitNo :=
  if u.val < 208 then []
  else if u.val < 260 then (List.range 4).map fun a => unitOf ((u.val - 208) / 13 * 52 + (u.val - 208) % 13 * 4 + a)
  else if u.val < 276 then []
  else if u.val < 280 then
    (List.finRange 12).filterMap fun n => (s.physOf ⟨(u.val - 276) % 4 * 12 + n.val, by omega⟩).map coreUnit
  else if u.val = 280 then (List.range 16).map fun f => unitOf (260 + f)
  else if u.val = 281 then (List.range 5).map fun d => unitOf (276 + d)
  else [uPackage]

/-- Every unit below a unit, physical cores that are spares included. -/
def below (u : UnitNo) : List UnitNo :=
  let core (c : Nat) : List UnitNo := unitOf (208 + c) :: (List.range 4).map fun a => unitOf (c / 13 * 52 + c % 13 * 4 + a)
  let die (d : Nat) : List UnitNo := (List.range 13).flatMap fun p => core (d * 13 + p)
  let hub : List UnitNo := (List.range 16).map fun f => unitOf (260 + f)
  let pkg : List UnitNo := (List.range 4).flatMap (fun d => unitOf (276 + d) :: die d) ++ (uHub :: hub)
  if u.val < 208 then []
  else if u.val < 260 then (core (u.val - 208)).drop 1
  else if u.val < 276 then []
  else if u.val < 280 then die (u.val - 276)
  else if u.val = 280 then hub
  else if u.val = 281 then pkg
  else uPackage :: pkg

/-- The parents of a unit; the package has two (Table 2-1). -/
def parents (u : UnitNo) : List UnitNo :=
  if u.val < 208 then [unitOf (208 + u.val / 52 * 13 + u.val % 52 / 4)]
  else if u.val < 260 then [unitOf (276 + (u.val - 208) / 13)]
  else if u.val < 276 then [uHub]
  else if u.val < 281 then [uPackage]
  else if u.val = 281 then [uPair, uGroup]
  else []

/-- The group's member count: the bits set in the expected-member mask (R16). -/
def State.expectedMembers (s : State) : List Nat :=
  (List.range 32).filter fun n => (s.cfgAt (ek 0xB000 9)).testBit n

/-- The members a segment master counts (R309, R350): the expected ones that are not lost, whose hold notice does not stand, its
own package counted directly; one fewer while CROAK_HOLD_N is low and no member is known to hold it; until the next symbol the line's
return restores no count. -/
def State.groupCount (s : State) : Nat :=
  let own := s.cfgAt (ek 0xB000 2)
  let l := s.expectedMembers.filter fun n => !s.lostMembers.contains n
  let out := l.filter fun n => if n = own then !s.inService uPackage else s.holdStanding.contains n || s.croak.countedOut.contains n
  l.length - (if s.croak.holdHigh || !out.isEmpty then out.length else 1)

/-- Members in service (R16, U+1:05): a unit's own members; the pair counts the partner as its last copy of
the record said (DEDUCED, assumption 106); the group as its master counts them
(R309), in another package as the last symbol said (R310). -/
def State.membersIn (s : State) (u : UnitNo) : Nat :=
  if u = uPair then (if s.inService uPackage then 1 else 0) + (if s.partner.inService then 1 else 0)
  else if u = uGroup then
    (if s.cfgAt (ek 0xB000 1) = 1 then s.croak.members else s.groupCount)
  else ((s.members u).filter fun m => s.inService m).length

/-- The service minimum in force (R16). -/
def State.serviceMin (s : State) (u : UnitNo) : Nat :=
  let m := s.cfgAt (ek (unitObj u 1) 6)
  if u = uGroup then (if m = 0xFFFF ∨ s.expectedMembers.length < m then s.expectedMembers.length else m) else m

/-- A counter of 48 bits with no event of its own: at saturation it sets bit 63 and keeps its value (R77). -/
def State.count48 (s : State) (key : Nat) : State :=
  let v := s.volAt key
  if 2 ^ 63 ≤ v then s
  else if v + 1 < 2 ^ 48 - 1 then s.setVol key (v + 1) else s.setVol key (2 ^ 63 + (2 ^ 48 - 1))

/-- A core that has left service costs its logical number its core (R19). -/
def State.noteLost (s : State) (u : UnitNo) : State :=
  if h : 208 ≤ u.val ∧ u.val < 260 then
    let v := s.view u
    if v.state = stShed ∨ v.state = stFaulted ∨ (v.state = stHeld ∧ v.causes ≠ 8#8) then
      match s.boundTo ⟨u.val - 208, by omega⟩ with
      | some q => if s.isLost q.val then s else { s with lostCores := s.lostCores ++ [(q.val, s.beat)] }
      | none => s
    else s
  else s

/-- The package begins or ends to hold the group in a source mode with a bus (R304, R309): the line pulled low with a hold notice, or
released. -/
def State.driveHold (s : State) (before after : Bool) : State :=
  if !before && after then (s.send ⟨.croak, 1, [0], []⟩).sendMgmt ⟨.mgmt, 1, [s.cfgAt (ek 0xB000 2)], []⟩
  else if before && !after then s.send ⟨.croak, 1, [1], []⟩
  else s

/-- The package's hold line and notices (R304, R309), from how its unit stood before: the line low while the unit is out
of service for its peers, a hold notice as it leaves, a release notice as it returns to READY or RUNNING. -/
def State.noteHold (s : State) (old : UView) : State :=
  let mode := s.cfgAt (ek 0xB000 1)
  let v := s.view uPackage
  let node := s.cfgAt (ek 0xB000 2)
  let up (v : UView) : Bool := v.state == stReady || v.state == stRunning
  if mode < 1 ∨ 3 < mode then s
  else
    let s := s.driveHold (!old.inService) (!v.inService)
    if up v && !up old then s.sendMgmt ⟨.mgmt, 2, [node], []⟩ else s

/-- What a change of a unit's state or causes does at once: the logical number of a core, the package's hold line, what waited for the host
port or the twin link, the spray sets of a fabric port (Table 22-7). -/
def State.noteChange (s : State) (u : UnitNo) (old : UView) : State :=
  let s := s.noteLost u
  if u = uPackage then s.noteHold old
  else if u = hubUnit 0 then s.flushHost
  else if u = hubUnit 9 then s.twinReturns #v[0, 0, 0, 0]
  else if h : 261 ≤ u.val ∧ u.val < 269 then s.portAway ⟨u.val - 261, by omega⟩
  else s

/-- A unit's views replaced by one that stands in another state: beat recorded, U+4:01 and EV-0x0200 (R23). -/
def State.adoptView (s : State) (u : UnitNo) (v : UView) : State :=
  let old := s.view u
  let s := s.updUnit u fun r => { r with mg := v, dp := v, lastBeat := s.beat }
  ((s.count48 (ek (unitObj u 4) 1)).raise 0x0200 (unitPath u)
    [(old.state.val, 1), (v.state.val, 1), (v.version.toNat, 2), (v.causes.toNat, 1)]).noteChange u old

/-- A transition of a unit: state and causes replaced in both views, the version advanced (R23). -/
def State.transition (s : State) (u : UnitNo) (new : Fin 9) (causes : Byte) : State :=
  s.adoptView u ⟨new, causes, (s.view u).version + 1⟩

/-- Hold causes replaced without a change of state, in both views. -/
def State.setCauses (s : State) (u : UnitNo) (causes : Byte) : State :=
  let old := s.view u
  (s.updUnit u fun r => { r with mg := { r.mg with causes := causes }, dp := { r.dp with causes := causes } }).noteChange u old

/-! ### Pools (R271, R275) -/

/-- A pipe changed. -/
def State.updPipe (s : State) (n : Fin 1024) (f : Pipe → Pipe) : State := { s with pipes := s.pipes.set n (f s.pipes[n]) }

/-- The packets of a pipe's end stores and whey ring: slots held (Table 14-5). -/
def Pipe.heldSlots (p : Pipe) : Nat := p.tail.length + p.middle.length + p.head.length

/-- The capacity of a pipe (R254). -/
def Pipe.capacity (p : Pipe) : Nat := 4 + p.whey

/-- The dispatch slots in use: every accepted launch holds one (R286). -/
def State.dispatchHeld (s : State) : Nat := s.launches.length

/-- A result slot's state (Table 15-4). -/
def RSlot.state (r : RSlot) : Nat := r.w[1].toNat / 2 ^ 28

/-- The sum of a list. -/
def sumNat (l : List Nat) : Nat := l.foldl (· + ·) 0

/-- The packets a pipe has sent whose credits have not come back (R346). -/
def PipeCredit.transit (c : PipeCredit) : Nat := (c.taken - c.returned).toNat

/-- A pipe's map entry (R346). -/
def State.pipeMap (s : State) (p : Nat) : Nat := s.cfgAt (ek (0xC200 + p / 128) (p % 128 + 1))
/-- Whether a pipe is mapped. -/
def mapOn (m : Nat) : Bool := m.testBit 31
/-- Whether its carrier is the twin link. -/
def mapTwin (m : Nat) : Bool := m.testBit 30
/-- Its mode: 0 plain, 1 shadow. -/
def mapMode (m : Nat) : Nat := m / 2 ^ 28 % 4
/-- Its binding. -/
def mapBinding (m : Nat) : Nat := m / 2 ^ 16 % 4096
/-- The remote pipe. -/
def mapRemote (m : Nat) : Nat := m % 1024

/-- Whether a pipe sends to another package: it is in use, its consumer the carrier of its map entry (R346). -/
def State.outbound (s : State) (n : Nat) : Bool :=
  let p := vget Pipe.reset s.pipes n
  let m := s.pipeMap n
  p.state != 0 && p.consHub && mapOn m && (if mapTwin m then p.cons == 9 else decide (1 ≤ p.cons ∧ p.cons ≤ 8))

/-- The hub function whose link carries a pipe to another package: the twin link, or the lowest port of its binding's mask (DEDUCED, assumption
110). -/
def State.carrierOf (s : State) (n : Nat) : Nat :=
  let m := s.pipeMap n
  if mapTwin m then 9 else ((List.range 8).find? fun p => (s.bindMask (mapBinding m)).testBit p).getD 0 + 1

/-- The logical number the map names a unit for, a core's alone (R18). -/
def State.numberOf (s : State) (u : UnitNo) : Option (Fin 48) :=
  if h : 208 ≤ u.val ∧ u.val < 260 then s.boundTo ⟨u.val - 208, by omega⟩ else none

/-- The pipes of which a unit holds slots, each with whether at its consumer's end, and how many (R275): the open packet of a producer's tail
store, the packet a consumer reads; a core by the logical number the map names it for. -/
def State.slotsOf (s : State) (u : UnitNo) : List ((Nat × Bool) × Nat) :=
  let isEnd (hub : Bool) (n : Nat) : Bool :=
    if hub then decide (u.val = 260 + n) else (match s.numberOf u with
      | some q => q.val == n
      | none => false)
  (List.finRange 1024).flatMap fun i =>
    let p := s.pipes[i]
    let tail : Nat := if isEnd p.prodHub p.prod then (p.tail.filter fun k => !k.committed).length else 0
    let head : Nat := if isEnd p.consHub p.cons then (p.head.filter fun k => k.read != 0).length else 0
    (if tail = 0 then [] else [((i.val, false), tail)]) ++ (if head = 0 then [] else [((i.val, true), head)])

/-- The holdings of a unit in each pool (R275): the pipe slots of a core or a hub function; of a link's hub function its credits, those of the
twin link's flits and of the packets that pipes have sent over it; a compute die's rennet counts; the hub die's pools of Table 14-5. -/
def State.holdings (s : State) (u : UnitNo) : Vector Nat 8 :=
  let slots : Nat := sumNat ((s.slotsOf u).map Prod.snd)
  let links : Nat := if 261 ≤ u.val ∧ u.val < 270 then
      (if u.val = 269 then sumNat s.twinPool.taken.toList else 0)
        + sumNat ((s.credits.filter fun c => s.outbound c.1 && s.carrierOf c.1 == u.val - 260).map fun c => c.2.transit)
    else 0
  let tokens : Nat := if 276 ≤ u.val ∧ u.val < 280 then
      sumNat ((s.rennets.filter fun r => r.1 / 16384 == u.val - 276).map fun r => r.2.count) else 0
  if u = uHub then
    #v[0, 0, 0, (s.frames.filter fun f => f.2.state == 1).length, (s.seqs.toList.filter fun q => q.state != 0).length,
      s.dispatchHeld, (s.results.filter fun r => r.2.state != 0 && r.2.state != 1).length,
      sumNat ((List.range 16).map fun v => s.cfgAt (ek 0x2045 (v + 1)))]
  else #v[links, slots, tokens, 0, 0, 0, 0, 0]

/-! ### Parents and members -/

/-- A unit that has entered FAULTED or SHED is the lost end of its pipes (R259): a core by the logical number the map names
it for, a hub function by its number; bytes that a lost producer had not yet put into the tail are gone. -/
def State.pipesLost (s : State) (u : UnitNo) : State :=
  let q : Option (Fin 48) := s.numberOf u
  let isEnd (hub : Bool) (n : Nat) : Bool :=
    if hub then decide (u.val = 260 + n) else (match q with | some q => q.val == n | none => false)
  { s with pipes := s.pipes.map fun p =>
      let p := if isEnd p.prodHub p.prod then { p with waiting := [], flushEnd := false } else p
      if (p.state = 1 ∨ p.state = 2) ∧ (isEnd p.prodHub p.prod || isEnd p.consHub p.cons) then { p with state := 3 } else p }

/-- The core whose array a unit is (Table 2-1). -/
def coreOfArray (u : UnitNo) : UnitNo := unitOf (208 + u.val / 52 * 13 + u.val % 52 / 4)

/-- Whether a unit is an array whose core runs or drains, or still runs a launch (U+13:02): it stops with its core, and is held in its turn when the core is
(R23, R24). -/
def State.stopsWithCore (s : State) (u : UnitNo) : Bool :=
  decide (u.val < 208) && (s.ust (coreOfArray u) == stRunning || s.ust (coreOfArray u) == stDraining
    || s.volAt (ek (unitObj (coreOfArray u) 13) 2) != 0xFFFF)

/-- The READY descendants of a unit that has entered HELD are held with cause [3], and its RUNNING ones drain with it
(R24, R25); the arrays of a core that still runs follow when it stops (DEDUCED, assumption 98). -/
def State.holdBelow (s : State) (u : UnitNo) : State :=
  (below u).foldl (fun s m =>
    if s.stopsWithCore m then s
    else if s.ust m = stReady then s.transition m stHeld ((s.view m).causes ||| 8#8)
    else if s.ust m = stRunning then
      (s.updUnit m fun r => { r with drainTo := some stHeld }).transition m stDraining ((s.view m).causes ||| 8#8)
    else s) s

/-- The parent cause cleared in every descendant none of whose parents is HELD (R24). -/
def State.releaseBelow (s : State) (u : UnitNo) : State :=
  (below u).foldl (fun s m =>
    let r := s.view m
    if r.causes &&& 8#8 = 0#8 then s
    else if (parents m).any fun p => s.ust p == stHeld then s
    else
      let c := r.causes &&& 0xF7#8
      if r.state = stHeld ∧ c = 0#8 then s.transition m stReady 0#8 else s.setCauses m c) s

/-- A unit moves to a state, with what that does around it: the descendants of a unit entering or leaving HELD, the pipes
of one that is lost, the fault notices of a package that faults (R354). READY leaves no cause (Table 2-6). -/
def State.moveTo (s : State) (u : UnitNo) (new : Fin 9) (causes : Byte) : State :=
  let old := s.ust u
  let s := if new = stFaulted ∨ new = stShed then s.pipesLost u else s
  let s := s.transition u new (if new = stReady then 0#8 else causes)
  let s := if old = stHeld ∧ new ≠ stHeld then s.releaseBelow u else s
  let s := if new = stHeld ∧ old ≠ stHeld then s.holdBelow u else s
  if u = uPackage ∧ new = stFaulted then s.faultNotice 1 else s

/-- A unit enters HELD with a cause, with what that does below it. -/
def State.enterHeld (s : State) (u : UnitNo) (cause : Byte) : State :=
  s.moveTo u stHeld ((s.view u).causes ||| cause)

/-- Hold causes taken away; with none left a HELD unit returns to READY and its descendants are released (R24). -/
def State.clearCauses (s : State) (u : UnitNo) (mask : Byte) : State :=
  let c := (s.view u).causes &&& ~~~mask
  if s.ust u = stHeld ∧ c = 0#8 then s.moveTo u stReady 0#8 else s.setCauses u c

/-- Whether a member of the group in another package runs, which its master is not told: a free value while one is in service (R29, DESIGN
CHOICE, assumption 105). -/
def State.farRuns (s : State) (u : UnitNo) : Bool × State :=
  if u = uGroup ∧ (if s.inService uPackage then 1 else 0) < s.membersIn u then (s.free.1 % 2 == 1, s.free.2) else (false, s)

/-- The reported state of a composite unit re-evaluated (R29), the loss of its service minimum
included (R25). A unit neither READY, RUNNING nor HELD keeps its state; a member's copy of the group record is the
master's (R310). No message of the spec tells a group's master whether another member runs: while others are in service that is a
free value (DESIGN CHOICE, assumption 105). The two details of EV-0x0203 take 4 bytes each (DEDUCED, assumption 118). -/
def State.aggregate (s : State) (u : UnitNo) : State :=
  if u.val < 208 ∨ (260 ≤ u.val ∧ u.val < 276) ∨ (u = uGroup ∧ s.cfgAt (ek 0xB000 1) = 1) then s
  else
    let n := s.membersIn u
    let short := decide (n < s.serviceMin u)
    let st := s.ust u
    let s := s.setVol (ek (unitObj u 1) 5) n
    if st = stHeld then
      if !short && (s.view u).causes.getLsbD 4 then s.clearCauses u 0x10#8 else s
    else if st = stReady ∨ st = stRunning then
      if short then
        (s.enterHeld u 0x10#8).raise 0x0203 (unitPath u) [(n, 4), (s.serviceMin u, 4)]
      else
        let own := (s.members u).any (fun m => s.ust m == stRunning) || (u == uPair && s.partner.state == stRunning)
        let far := s.farRuns u
        let s := far.2
        if (own || far.1) && st == stReady then s.transition u stRunning 0#8
        else if !(own || far.1) && st == stRunning then s.transition u stReady 0#8
        else s
    else s

/-- Work starts on a core: the core, its arrays and, through R29, its ancestors run (R23). -/
def State.unitsRun (s : State) (c : CoreId) : State :=
  let s := (List.finRange 4).foldl (fun s a =>
    if s.ust (arrayUnit c a) = stReady then s.transition (arrayUnit c a) stRunning 0#8 else s) s
  if s.ust (coreUnit c) = stReady then s.transition (coreUnit c) stRunning 0#8 else s

/-- A unit's draining is complete: it enters the state asked for, and from HELD goes on to READY where every cause has been
cleared meanwhile (Table 2-6, R24). -/
def State.drained (s : State) (u : UnitNo) : State :=
  let goal := (s.units[u].drainTo).getD stHeld
  let s := (s.updUnit u fun r => { r with drainTo := none }).moveTo u goal ((s.view u).causes)
  if s.ust u = stHeld ∧ (s.view u).causes = 0#8 then s.moveTo u stReady 0#8 else s

/-- Work on a core has ended: RUNNING units return to READY, an array that drains stops with its core, and the arrays of a
core that is HELD already are held with it (R23, R24). -/
def State.unitsRest (s : State) (c : CoreId) : State :=
  let s := (List.finRange 4).foldl (fun s a =>
    let u := arrayUnit c a
    if s.ust u = stRunning then
      let s := s.transition u stReady 0#8
      if s.ust (coreUnit c) = stHeld then s.transition u stHeld 8#8 else s
    else if s.ust u = stDraining then s.drained u else s) s
  if s.ust (coreUnit c) = stRunning then s.transition (coreUnit c) stReady 0#8 else s

/-- Logical row m of an array with retired rows: the (m + 1)-th lowest that is not retired (R79). -/
def boundRow (dead : List Nat) (m : Nat) : Nat := ((List.range 130).filter fun r => !dead.contains r).getD m 0xFF

/-- Whether an array is in service for a core's instructions: READY or RUNNING (R65). -/
def State.arrayUp (s : State) (c : CoreId) (a : Fin 4) : Bool :=
  let st := s.ust (arrayUnit c a)
  st == stReady || st == stRunning

end Sys2Proof.Machine
end

