-- ==== Sys2Proof/Machine/Launch.lean ====
section
/-! DEFINITION. Launches as shared operations: result slots (R291, R292, R329), how a core's part ends and how the launch
ends (R289, R290), how a program stops (R152), rennets and their queues (R261, R262). -/
namespace Sys2Proof.Machine

/-! ### Result slots -/

/-- A result slot. -/
def State.rslot (s : State) (r : Nat) : RSlot := Sparse.get RSlot.reset s.results r

/-- A result slot replaced. -/
def State.setRslot (s : State) (r : Nat) (v : RSlot) : State := { s with results := Sparse.set RSlot.reset s.results r v }

/-- What a final state writes into a result slot (Table 15-4). -/
structure Final where
  state : Nat
  code : Nat
  overrun : Bool
  fallback : Bool
  poison : Bool
  summary : BitVec 4
  reason : Nat
  event : Nat
  word : Nat
  core : Nat
  cycles : Nat
  value : Nat
  deriving DecidableEq, Repr

/-- A final state with no fault, no flag and no value. -/
def Final.plain (state code reason : Nat) : Final :=
  ⟨state, code, false, false, false, 0#4, reason, 0, 0xFFFF, 0xFF, 0, 0⟩

/-- A bit as a number. -/
def b2n (b : Bool) : Nat := if b then 1 else 0

/-- The words a final state leaves, W0 the generation advanced (R292). -/
def Final.slot (f : Final) (gen : Word) (beat : Nat) : RSlot :=
  let w (n : Nat) : Word := BitVec.ofNat 32 n
  ⟨#v[gen + 1,
    w (f.state * 2 ^ 28 + f.code * 2 ^ 20 + b2n f.overrun * 2 ^ 19 + b2n f.fallback * 2 ^ 18 + b2n f.poison * 2 ^ 17
      + f.summary.toNat * 2 ^ 13 + f.reason),
    w (f.event % 65536 * 65536 + f.word), w f.core, w f.cycles, w (f.cycles / 2 ^ 32 % 65536),
    w beat, w (beat / 2 ^ 32), w f.value, w (f.value / 2 ^ 32), 0#32, 0#32, 0#32, 0#32, 0#32, 0#32]⟩

/-- A taken command's slot: PENDING, the generation kept, the words zero (R292). -/
def State.slotPending (s : State) (r code : Nat) : State :=
  let w0 := (s.rslot r).w[0]
  s.setRslot r ⟨#v[w0, BitVec.ofNat 32 (2 ^ 28 + code * 2 ^ 20), 0#32, 0#32, 0#32, 0#32, 0#32, 0#32, 0#32, 0#32,
    0#32, 0#32, 0#32, 0#32, 0#32, 0#32]⟩

/-- The result vector of a slot in a function (R329). -/
def State.resultVector (s : State) (fn : FnNo) (r : Nat) : Nat :=
  if fn = 0 then 8 + r % 120 else 8 + (r - s.cfgAt (ek 0x2024 fn.val)) % 112

/-- A result slot reaches a final state: written, and its cause signalled in the function whose aperture took the
command (R292, R329). -/
def State.slotFinal (s : State) (fn : FnNo) (r : Nat) (f : Final) : State :=
  let s := s.setRslot r (f.slot (s.rslot r).w[0] s.beat)
  s.cause fn 0 (s.resultVector fn r)

/-- A vat statistic raised (R302). -/
def State.countVat (s : State) (v : VatNo) (sub : Nat) : State :=
  s.countFor v (ek (0x8500 + v.val) sub) 0x0F08 0x5000 sub

/-! ### Rennets -/

/-- A rennet's record. -/
def State.rennet (s : State) (n : Nat) : Rennet := Sparse.get Rennet.reset s.rennets n

/-- A rennet's record replaced. -/
def State.setRennet (s : State) (n : Nat) (r : Rennet) : State := { s with rennets := Sparse.set Rennet.reset s.rennets n r }

/-- Whether a rennet lies in a vat's range (R260). -/
def State.rennetIn (s : State) (v : VatNo) (n : Nat) : Bool :=
  let lo := s.cfgAt (ek 0x2050 (v.val + 1))
  decide (lo ≤ n ∧ n < lo + s.cfgAt (ek 0x2051 (v.val + 1)))

/-- Whether a signal of k tokens fits, an exact comparison (R261). -/
def Rennet.accepts (r : Rennet) (k : Nat) : Bool := decide (r.count + k ≤ r.max)

/-- Whether a rennet's die is HELD or LOADING: it keeps its counts, and signals wait (Table 22-7); or FAULTED: its counts are frozen and
nobody uses them (R275). -/
def State.rennetAway (s : State) (n : Nat) : Bool :=
  let u := dieUnit ⟨n / 16384 % 4, by omega⟩
  s.away u || s.ust u == stFaulted

/-- Tokens added to a rennet. -/
def State.addTokens (s : State) (n k : Nat) : State :=
  s.setRennet n { s.rennet n with count := (s.rennet n).count + k }

/-- Tokens taken from a rennet. -/
def State.takeTokens (s : State) (n k : Nat) : State :=
  s.setRennet n { s.rennet n with count := (s.rennet n).count - k }

/-- The head waiter of a rennet. -/
def State.headWaiter (s : State) (n : Nat) : Option CoreId := (s.waitQ.find? fun w => w.1 == n).map Prod.snd

/-- Whether a core waits in a WAIT with P set that its rennet does not satisfy: a pre-emption point (R146). -/
def State.waitsAtPoint (s : State) (c : CoreId) : Bool :=
  match s.cores[c].wait with
  | some w => w.p && (s.headWaiter w.rennet != some c || decide ((s.rennet w.rennet).count < w.count) || s.rennetAway w.rennet)
  | none => false

/-- A core's WAIT is satisfied: the tokens are consumed, the waiter leaves the queue (R262). -/
def State.satisfy (s : State) (c : CoreId) (w : CoreWait) : State :=
  let s := s.takeTokens w.rennet w.count
  let s := { s with waitQ := s.waitQ.erase (w.rennet, c) }
  s.updCore c fun k => { k with wait := none }

/-- The queue of a rennet served, head first, while the count covers the head's threshold (R262). -/
def State.serveQueue : Nat → State → Nat → State
  | 0, s, _ => s
  | fuel + 1, s, n =>
    match s.headWaiter n with
    | none => s
    | some c =>
      match s.cores[c].wait with
      | none => s
      | some w => if w.count ≤ (s.rennet n).count ∧ !s.rennetAway n then State.serveQueue fuel (s.satisfy c w) n else s

/-- A waiter leaves its queue having consumed nothing (R262). -/
def State.leaveQueue (s : State) (c : CoreId) : State :=
  let s := { s with waitQ := s.waitQ.filter fun w => w.2 != c }
  s.updCore c fun k => { k with wait := none }

/-! ### Launches -/

/-- The launch of a result slot. -/
def State.launchAt (s : State) (slot : Nat) : Option Launch := s.launches.find? fun l => l.slot == slot

/-- A launch changed, by its result slot. -/
def State.updLaunch (s : State) (slot : Nat) (f : Launch → Launch) : State :=
  { s with launches := s.launches.map fun l => if l.slot = slot then f l else l }

/-- Whether a core's part is over. -/
def CoreEnd.past : CoreEnd → Bool
  | .ended => true
  | .faulted => true
  | .abandoned => true
  | .stopped => true
  | .saved => true
  | _ => false

/-- The final state of a launch whose cores are all over (R289); one with a saved core is PREEMPTED. -/
def Launch.finalState (l : Launch) : Nat :=
  if l.fault.isSome || l.reason != 0 || l.cores.any (fun c => c.fin == .faulted) then 3
  else if l.cores.any fun c => c.fin == .abandoned then 5
  else if l.cores.any fun c => c.fin == .saved then 4
  else 2

/-- A launch's actual cycles: the largest over its cores (R290). -/
def Launch.actual (l : Launch) : Nat := l.cores.foldl (fun m c => max m c.cycles) 0

/-- A core freed of its launch: every tile released (R73), its units at rest, U+13:02 cleared. -/
def State.freeCore (s : State) (c : CoreId) : State :=
  let s := s.leaveQueue c
  let s := s.updCore c fun k => { k with
    run := .idle, launch := none, preReq := false, tiles := Vector.replicate 16 .unbound, recency := [], unfenced := [],
    pipeIn := [], moving := none, syncQ := [], held := [], folds := [] }
  (s.setVol (ek (unitObj (coreUnit c) 13) 2) 0xFFFF).unitsRest c

/-- A launch reaches its final state: the result written, the dispatch slot and cores freed, the verdict tainted on a
fault (R222), waiting PREEMPT commands completed (Table 15-2). -/
def State.finishLaunch (s : State) (l : Launch) : State :=
  let st := l.finalState
  let s := { s with launches := s.launches.filter fun k => k.slot != l.slot }
  let s := (l.cores.filterMap fun c => c.phys).foldl
    (fun s c => if s.cores[c].launch = some l.slot then s.freeCore c else s) s
  let reason := if st = 3 then (if l.reason = 0 then 14 else l.reason) else 0
  let ev := l.fault.getD (0, 0xFFFF, 0xFF)
  let s := if st = 3 then { s with verdicts := s.verdicts.set l.vat { s.verdicts[l.vat] with taint := true } } else s
  let s := s.slotFinal l.fn l.slot
    ⟨st, 1, l.overrun, l.fallback, l.poison, l.summary, reason, ev.1, ev.2.1, ev.2.2, l.actual, if st = 4 then l.ctxBase else 0⟩
  let s := s.countVat l.vat 4
  let s := if st = 4 then
      (s.countVat l.vat 6).raiseVat l.vat 0x0F04 0x5000
        [(l.vat.val, 1), (l.slot, 2), (l.cores.foldl (fun m c => m ||| 2 ^ c.q.val) 0, 6), (l.ctxBase, 5)]
    else s
  l.preSlots.foldl (fun s r =>
    s.slotFinal l.fn r { Final.plain 2 2 0 with value := if st = 4 then 0 else 1 }) s

/-- The launch of a slot finished once every core it names is over. -/
def State.finishIfOver (s : State) (slot : Nat) : State :=
  match s.launchAt slot with
  | some l => if l.started && l.cores.all fun c => c.fin.past then s.finishLaunch l else s
  | none => s

/-- How a core stands in its launch, changed. -/
def Launch.setEnd (l : Launch) (c : CoreId) (e : CoreEnd) : Launch :=
  { l with cores := l.cores.map fun k => if k.phys = some c then { k with fin := e } else k }

/-- The vat-space number of a core in a launch, 0xFF if it has none. -/
def Launch.qOf (l : Launch) (c : CoreId) : Nat :=
  match l.cores.find? fun k => k.phys == some c with
  | some k => k.q.val
  | none => 0xFF

/-- What a core's VSTAT adds to its launch's flags (Table 15-4). -/
def Launch.takeFlags (l : Launch) (vstat : Word) : Launch :=
  { l with poison := l.poison || vstat.getLsbD 2, fallback := l.fallback || vstat.getLsbD 3 }

/-- The vat of the launch a core runs; vat 0 where it runs none. -/
def State.vatOf (s : State) (c : CoreId) : VatNo :=
  match s.cores[c].launch with
  | some slot => match s.launchAt slot with
    | some l => l.vat
    | none => 0
  | none => 0

/-- A 48-bit count with its sticky bit, and whether it saturates now (R219). -/
def addCount (q : DWord) (n : Nat) : DWord × Bool :=
  if n = 0 ∨ q.getLsbD 63 then (q, false)
  else if q.toNat + n < 2 ^ 48 - 1 then (q + BitVec.ofNat 64 n, false)
  else (BitVec.ofNat 64 (2 ^ 63 + (2 ^ 48 - 1)), true)

/-- The larger of two FP32 maxima. -/
def maxWord (w : Word) (x : FVal) : Word := if (f32 w).lt x then rne32 x else w

/-- A record folded into a vat's open accumulator (R221). -/
def Census.fold (a z : Census) : Census where
  q := Vector.ofFn fun i =>
    let r := (addCount a.q[i] (z.q[i].toNat % 2 ^ 48)).1
    if z.q[i].getLsbD 63 then r ||| 0x8000000000000000#64 else r
  convMax := maxWord a.convMax (f32 z.convMax)
  cenMax := maxWord a.cenMax (f32 z.cenMax)

/-- The folds of a core reach the hub (R144, R221). -/
def State.applyFolds (s : State) (c : CoreId) : State :=
  let v := s.vatOf c
  let s := { s with verdicts := s.verdicts.set v { s.verdicts[v] with
    acc := s.cores[c].folds.foldl Census.fold s.verdicts[v].acc } }
  s.updCore c fun k => { k with folds := [] }

/-- The ungated cycles of a core of a launch at its end: no clock is modelled, so a free value, above the declared bound
where the core has passed it and within it otherwise (R290). -/
def State.measure (s : State) (slot : Nat) (c : CoreId) : State :=
  let f := s.free
  let set (l : Launch) (k : LCore) : LCore :=
    if k.phys = some c then
      { k with cycles := if k.past then l.bound + 1 + f.1 % (max 1 (2 ^ 48 - 1 - l.bound)) else f.1 % (l.bound + 1) }
    else k
  f.2.updLaunch slot fun l => { l with cores := l.cores.map (set l) }

/-- A core's part of its launch is over: how, and what else that tells the launch; the core is freed. -/
def State.partOver (s : State) (c : CoreId) (e : CoreEnd) (f : Launch → Launch) : State :=
  match s.cores[c].launch with
  | none => s
  | some slot =>
    let vs := s.cores[c].vstat
    let s := (s.applyFolds c).measure slot c
    (s.updLaunch slot fun l => f ((l.setEnd c e).takeFlags vs)).freeCore c

/-- The other cores of a launch are to stop at their next pre-emption point with no context saved (R289); one that is at a
point already stops now. -/
def State.stopOthers (s : State) (slot : Nat) : State :=
  let s := s.updLaunch slot fun l => { l with cores := l.cores.map fun k =>
    if k.fin = .running ∨ k.fin = .saving then { k with fin := .stopping } else k }
  match s.launchAt slot with
  | none => s
  | some l => (l.cores.filterMap fun k => if k.fin = .stopping then k.phys else none).foldl (fun s c =>
      if s.cores[c].run == .saving || (s.waitsAtPoint c && s.cores[c].moving.isNone) then s.partOver c .stopped id else s) s

/-- A core's tile program stops with a fault: the launch takes the first fault, the others stop at their points, and the
launch ends when all are over (R152, R289). `ev` 0 names no event. -/
def State.haltCore (s : State) (c : CoreId) (ev word : Nat) : State :=
  match s.cores[c].launch with
  | none => s
  | some slot =>
    let s := s.partOver c .faulted fun l => { l with fault := some (l.fault.getD (ev, word, l.qOf c)) }
    (s.stopOthers slot).finishIfOver slot

/-- The word a core stands at. -/
def State.wordOf (s : State) (c : CoreId) : Nat := s.cores[c].pc

/-- A tile-program stop: the event with the core's path, U+8:04 for the events of Table 7-21 and EV-0x0705, and the
program stopped (R152, R413). -/
def State.stopProgram (s : State) (c : CoreId) (code : Nat) (fs : List (Nat × Nat)) : State :=
  let word := s.wordOf c
  let s := s.raise code (corePath c) fs
  let s := if 0x0700 ≤ code ∧ code ≤ 0x0705 then s.setVol (ek (unitObj (coreUnit c) 8) 4) word else s
  s.haltCore c code word

/-- A core abandons its launch: its arrays fell below the minimum while its program ran (R25, R289). -/
def State.abandonCore (s : State) (c : CoreId) : State :=
  match s.cores[c].launch with
  | none => s
  | some slot => ((s.partOver c .abandoned id).stopOthers slot).finishIfOver slot

/-- A core at a pre-emption point (R146, R289): it stops where another core of its launch has ended it, it saves its
context with the word to go on from where a request is pending and the launch has contexts, and otherwise goes on. -/
def State.reachPoint (s : State) (c : CoreId) (word : Nat) : State :=
  match s.cores[c].launch.bind s.launchAt with
  | none => s
  | some l =>
    if l.cores.any fun k => k.phys == some c && k.fin == .stopping then
      (s.partOver c .stopped id).finishIfOver l.slot
    else if s.cores[c].preReq && l.ctx then
      let s := s.leaveQueue c
      let s := s.updCore c fun k => { k with run := .saving, pc := word, held := [] }
      s.updLaunch l.slot fun l => l.setEnd c .saving
    else s

/-- A core that waits at a point without being asked when it came there (R146, R298): it stops or saves once it is asked and its outstanding MOVE
has completed. -/
def State.recheckPoint (s : State) (c : CoreId) : State :=
  match s.cores[c].wait with
  | some w => if s.waitsAtPoint c && s.cores[c].moving.isNone then s.reachPoint c w.word else s
  | none => s

/-- A pre-emption request on every core of a launch; one without CTX is not pre-empted (R298). A core in a WAIT with P
set whose condition does not hold is at a point; where it holds the WAIT completes (R146). -/
def State.requestPreempt (s : State) (slot : Nat) : State :=
  match s.launchAt slot with
  | none => s
  | some l =>
    if l.ctx && l.started then
      let s := s.updLaunch slot fun l => { l with preReq := true }
      (l.cores.filterMap fun k => if k.fin = .running then k.phys else none).foldl (fun s c =>
        let s := s.updCore c fun k => { k with preReq := true }
        s.recheckPoint c) s
    else s

/-- The core a unit lies in or is, if any. -/
def coresOfUnit (u : UnitNo) : List CoreId :=
  let mk (n : Nat) : Option CoreId := if h : n < 52 then some ⟨n, h⟩ else none
  ((u :: below u).filterMap fun m => if 208 ≤ m.val ∧ m.val < 260 then mk (m.val - 208) else none)

/-- Pre-emption requests on the launches that run on a unit or below it (R298). -/
def State.requestBelow (s : State) (u : UnitNo) : State :=
  (coresOfUnit u).foldl (fun s c => match s.cores[c].launch with
    | some slot => s.requestPreempt slot
    | none => s) s

/-- A unit's record replaced by a newer copy: the master's of the group, the partner's of the pair (R30, R32, R310). A change of state
is a transition, with what it does below. -/
def State.adopt (s : State) (u : UnitNo) (v : UView) : State :=
  let old := s.ust u
  if v.state = old then s.updUnit u fun r => { r with mg := v, dp := v }
  else
    let s := s.adoptView u v
    if v.state = stHeld then (s.holdBelow u).requestBelow u
    else if old = stHeld then s.releaseBelow u
    else s

/-- A composite unit re-evaluated: a RUNNING core that loses its minimum abandons its launch; the launches below another
unit that loses its minimum are asked to pre-empt (R25, R29). -/
def State.reevaluate (s : State) (u : UnitNo) : State :=
  let lost := decide (s.membersIn u < s.serviceMin u) && (s.ust u == stReady || s.ust u == stRunning)
  let s := s.aggregate u
  if !lost then s
  else if h : 208 ≤ u.val ∧ u.val < 260 then s.abandonCore ⟨u.val - 208, by omega⟩
  else s.requestBelow u

/-- Every composite unit re-evaluated, from the cores upwards (R33 step 4). -/
def State.aggregateAll (s : State) : State :=
  ((List.range 76).map fun i => unitOf (208 + i)).foldl (fun s u => s.reevaluate u) s

end Sys2Proof.Machine
end

