-- ==== Sys2Proof/Machine/Issue.lean ====
section
/-! DEFINITION. Issue: what every instruction of a tile program shares: when it issues (R133, R141, R142), registers and
lanes (R88, R90), stops (R134, R5, R131), VSTAT (R101, R102) and census counts (R218, R219). -/
namespace Sys2Proof.Machine

/-- A stop before any visible change: the event and its detail fields. -/
abbrev Stop := Nat × List (Nat × Nat)

/-- The first stop of a list of checks. -/
def firstStop (l : List (Option Stop)) : Option Stop := l.findSome? id

/-- A stop where a condition holds. -/
def stopIf (b : Bool) (e : Stop) : Option Stop := if b then some e else none

/-- The instruction classes that set VSTAT or use a unit, by number (Table 7-3). -/
abbrev clsSweep : Nat := 1
/-- SEMIRING. -/
abbrev clsSemiring : Nat := 2
/-- ACCOP. -/
abbrev clsAccop : Nat := 3
/-- CHAIN. -/
abbrev clsChain : Nat := 4
/-- VECTOR. -/
abbrev clsVector : Nat := 5
/-- MOVE. -/
abbrev clsMove : Nat := 6
/-- WINDOW. -/
abbrev clsWindow : Nat := 7
/-- TABLE. -/
abbrev clsTable : Nat := 8
/-- SYNC. -/
abbrev clsSync : Nat := 9
/-- RANDOM. -/
abbrev clsRandom : Nat := 10
/-- CONTROL. -/
abbrev clsControl : Nat := 11
/-- PREEMPT. -/
abbrev clsPreempt : Nat := 12
/-- CENSUS. -/
abbrev clsCensus : Nat := 13

/-- The illegal-instruction fault: word, class, operation, field at fault (R134, Table 7-21). -/
def illegal (word cls op field : Nat) : Stop := (0x0700, [(word, 2), (cls, 1), (op, 1), (field, 2)])

/-- The illegal-format fault: word, class, field at fault, format code (R5, R413). -/
def badFormat (word cls field code : Nat) : Stop := (0x0705, [(word, 2), (cls, 1), (field, 2), (code, 1)])

/-- The bounds fault: word, descriptor, first offending address (R131, Table 7-21). -/
def outOfBounds (word d addr : Nat) : Stop := (0x0701, [(word, 2), (d, 1), (addr, 5)])

/-- The illegal-operand fault of the chain engine: field at fault (R92, Table 5-8). -/
def badChain (field : Nat) : Stop := (0x0503, [(field, 2)])

/-- A field of the instruction word at word n, bit b (R410). -/
def atWord (n b : Nat) : Nat := 32 * n + b

/-- A field of the named descriptor at DWn, bit b (R410). -/
def atDesc (n b : Nat) : Nat := 0x1000 + 32 * n + b

/-- The stop of a result that an index register cannot hold poisoned (R101, R139). -/
def poisonedX (word reg : Nat) : Stop := (0x0704, [(word, 2), (reg, 1)])

/-! ### Registers -/

/-- An index register. -/
def State.xr (s : State) (c : CoreId) (r : XReg) : DWord := s.cores[c].x[r]

/-- An index register as a signed origin (R128). -/
def State.xi (s : State) (c : CoreId) (r : XReg) : Int := (s.xr c r).toInt

/-- An index register written. -/
def State.setX (s : State) (c : CoreId) (r : XReg) (v : DWord) : State := s.updCore c fun k => { k with x := k.x.set r v }

/-- A mask register; M0 reads as all ones (R88). -/
def Core.mask (k : Core) (m : MReg) : BitVec 128 := if m = 0 then BitVec.allOnes 128 else k.m[m]

/-- A mask register written; M0 ignores writes (R88). -/
def Core.setMask (k : Core) (m : MReg) (v : BitVec 128) : Core := if m = 0 then k else { k with m := k.m.set m v }

/-- A lane of a vector register; a lane past the end reads zero. -/
def Core.lane (k : Core) (v i : Nat) : Lane := vget Lane.zero (vget (Vector.replicate 128 Lane.zero) k.v v) i

/-- The value of a lane as FP32. -/
def Lane.f (l : Lane) : FVal := f32 l.val

/-- A vector register under a mask: an active lane takes its new value, an inactive lane keeps its own or reads zero
(R90). -/
def maskedReg (old : Vector Lane 128) (mask : BitVec 128) (zero : Bool) (new : Nat → Lane) : Vector Lane 128 :=
  Vector.ofFn fun i => if mask.getLsbD i then new i else if zero then Lane.zero else old[i]

/-- The 128 bits a function gives. -/
def bitsOf (f : Nat → Bool) : BitVec 128 := (BitVec.iunfoldr (fun (i : Fin 128) (_ : Unit) => ((), f i.val)) ()).2

/-- A mask under a mask, bit by bit (R90). -/
def maskedBits (old mask : BitVec 128) (zero : Bool) (new : Nat → Bool) : BitVec 128 :=
  bitsOf fun i => if mask.getLsbD i then new i else if zero then false else old.getLsbD i

/-- VSTAT bits set (R102): 0 EMPTY, 1 WRAP, 2 POISON, 3 FALLBACK. -/
def Core.orStat (k : Core) (bits : Word) : Core := { k with vstat := k.vstat ||| bits }

/-- The EMPTY bit written (R98). -/
def Core.setEmpty (k : Core) (b : Bool) : Core :=
  { k with vstat := (k.vstat &&& 0xFFFFFFFE#32) ||| (if b then 1#32 else 0#32) }

/-- A vector register written under a mask; a poisoned lane written sets POISON (R90, R101). -/
def State.writeV (s : State) (c : CoreId) (v : Nat) (mask : BitVec 128) (zero : Bool) (new : Nat → Lane) : State :=
  let hot := (List.range 128).any fun i => mask.getLsbD i && (new i).poison
  s.updCore c fun k =>
    let k := { k with v := vset k.v v (maskedReg (vget (Vector.replicate 128 Lane.zero) k.v v) mask zero new) }
    if hot then k.orStat 4#32 else k

/-! ### Issue -/

/-- The vat-space logical number of a core in its launch. -/
def State.lq (s : State) (c : CoreId) : Nat :=
  match s.cores[c].launch with
  | some slot => match s.launchAt slot with
    | some l => l.qOf c
    | none => 0xFF
  | none => 0xFF

/-- Whether bytes an earlier instruction of the core gave a pipe still wait for tail room (R256). -/
def State.pipeBusy (s : State) (c : CoreId) : Bool :=
  s.pipes.toList.any fun p => !p.waiting.isEmpty && !p.prodHub && p.prod == s.lq c && p.vat == s.vatOf c

/-- Whether a refused signal of a core is still retried (R261). -/
def State.retrying (s : State) (c : CoreId) : Bool := s.retries.any fun r => r.src == .core c

/-- Whether an earlier instruction of a core that counts as a writer of VSTAT has not completed (Table 7-16): a MOVE waits for the bytes
of its pipe, or bytes given to a pipe wait for tail room. -/
def State.writing (s : State) (c : CoreId) : Bool := s.pipeBusy c || s.cores[c].moving.isSome

/-- Whether a core's synchronisation unit is free: no WAIT outstanding, no signal retried, nothing in its queue (Table 7-17). -/
def State.syncIdle (s : State) (c : CoreId) : Bool := s.cores[c].wait.isNone && !s.retrying c && s.cores[c].syncQ.isEmpty

/-- Whether every earlier instruction of a core has completed. -/
def State.quiet (s : State) (c : CoreId) : Bool := s.syncIdle c && !s.writing c

/-- The classes that count as writers of VSTAT (R143). -/
def setsVstat (cls : Nat) : Bool :=
  cls == clsChain || cls == clsVector || cls == clsRandom || cls == clsMove || cls == clsWindow

/-- Whether a SYNC instruction in the queue holds back everything after it: FENCE, SIGNAL or WAIT with F (R144), WAIT with P, behind which
nothing issues (R146, DESIGN CHOICE, assumption 5). -/
def SyncItem.orders (q : SyncItem) : Bool := q.op == 2 || q.f.f || (q.op == 1 && q.f.p)

/-- Whether a predicated instruction is off (R133). -/
def hdrOff (h : Hdr) (x : DWord) : Bool := h.pred && (if h.pneg then x != 0#64 else x == 0#64)

/-- The operations of a class (Tables 7-4 to 7-15); a reserved class has none (Table 7-3). -/
def classOps (cls : Nat) : List Nat :=
  match cls with
  | 2 | 10 => [0, 1, 2, 3]
  | 3 => List.range 12
  | 5 => List.range 15 ++ (List.range 9).map (· + 16) ++ (List.range 8).map (· + 32)
  | 6 | 11 => List.range 10
  | 8 => [0, 1]
  | 9 => [0, 1, 2]
  | 13 => List.range 6
  | 1 | 4 | 7 | 12 => [0]
  | _ => []

/-- The class and operation fields of a program word (Table 7-2). -/
def wordClass (w : BitVec 256) : Nat := w.toNat / 2 ^ 27 % 32
/-- The operation of a program word. -/
def wordOp (w : BitVec 256) : Nat := w.toNat / 2 ^ 21 % 64

/-- The bits of rows W1 to W7 that a class gives a field (Tables 7-4 to 7-15), those of the conversion control included (R40). A
reserved class names none, and its rows are kept as they are written (DESIGN CHOICE, assumption 125). -/
def classFields (cls op : Nat) : List Nat :=
  match cls with
  | 1 | 2 => [0xFFFFF800, 0xFFFE0000, 0x00FFFFFF, 0, 0, 0, 0]
  | 3 => [0xFFFFFFFF, 0xFFC00000, 0, 0, 0, 0, 0]
  | 4 => [0xFFFFFFF0, 0xFFFFFFF8, 0xFFFFFFFC, 0xFFFFFF00, 0xFFFFFFFF, 0xFFFFFFFF, 0x000003FF]
  | 5 => [0xFFFFFFFE, 0xFF0FFFF0, 0xFFFFFFFF, 0xFFFFFFFF, 0, 0, 0]
  | 6 => [0xFFFFFFFF, 0xFFFFFFF0, 0x00FFFFFF, 0xFFFF0000, 0xFFFFFFFF, 0, 0]
  | 7 => [0xFFFFFFE0, 0xFFFFFFFC, 0xFFFFFF00, 0xFFFFFFFF, 0, 0, 0]
  | 8 => [0xFF800000, 0xFFFFFFFF, 0, 0, 0, 0, 0]
  | 9 => [0xFFFFF000, 0xFFFFFFFF, 0xFFFFFFFF, 0, 0, 0, 0]
  | 10 => [0xFFFFC000, 0xFFFFFFFF, 0xFFFFFFFF, 0x0000FFFF, 0x0000FFFF, 0, 0]
  | 11 => [0xFFFFFE00, 0x00001FFF, 0xFFFFFFFF, 0xFFFFFFFF, 0xFFC0000F, 0, 0]
  | 12 => [0, 0, 0, 0, 0, 0, 0]
  | 13 => if op = 5 then [0, 0, 0, 0, 0, 0, 0] else [0xFFFE0000, 0x0000FFFF, 0, 0, 0, 0, 0]
  | _ => List.replicate 7 0xFFFFFFFF

/-- A program word as program memory keeps it: its reserved fields are zero (R3). -/
def cleanWord (w : BitVec 256) : BitVec 256 :=
  let keep := (0xFFFFE000 :: classFields (wordClass w) (wordOp w)).zipIdx.map fun p => BitVec.ofNat 256 p.1 <<< (32 * p.2)
  w &&& keep.foldl (fun a b => a ||| b) 0#256

/-- The field at fault of a word whose class or operation is reserved (R134). -/
def reservedField (w : BitVec 256) : Option Nat :=
  if classOps (wordClass w) = [] then some 27
  else if (classOps (wordClass w)).contains (wordOp w) then none
  else some 21

/-- A core's program word at its pc. -/
def Core.word (k : Core) : BitVec 256 := Sparse.get 0#256 k.prog k.pc

/-- Whether the instruction at a core's pc takes effect once it issues: its word is loaded, readable and of no reserved class or operation
(R134), and it is not predicated off (R133). -/
def State.executes (s : State) (c : CoreId) (h : Hdr) : Bool :=
  decide (s.cores[c].pc < s.cores[c].loaded) && !s.cores[c].progBad.contains s.cores[c].pc && !hdrOff h (s.xr c h.xp)
    && (reservedField s.cores[c].word).isNone

/-- Whether a core runs a program. -/
def State.runs (s : State) (c : CoreId) : Bool := s.cores[c].run == .running && s.cores[c].launch.isSome

/-- An instruction that cannot issue yet is held, behind those already held (R142); a core that runs no program takes none. -/
def State.holdBack (s : State) (c : CoreId) (i : Instr) : State :=
  if s.runs c then s.updCore c fun k => { k with held := k.held ++ [i] } else s

/-- Whether an instruction can issue now (R133, R142, R143, R144): its core runs a program; none is held before it; one that is predicated off waits for
nothing but its Xp; WAITALL and the instructions that wait for every earlier one find none outstanding; a writer of VSTAT waits for every
earlier one; the queue of the synchronisation unit has room for a fourth waiting SYNC; nothing passes a SYNC that orders. -/
def State.canIssue (s : State) (c : CoreId) (h : Hdr) (cls : Nat) (all : Bool) : Bool :=
  let k := s.cores[c]
  s.runs c && k.held.isEmpty &&
  (hdrOff h (s.xr c h.xp) ||
    ((!(h.waitAll || all) || s.quiet c) &&
    (!setsVstat cls || !s.writing c) &&
    (cls != clsSync || decide (k.syncQ.length < 4)) &&
    !k.syncQ.any SyncItem.orders &&
    (match k.wait with
     | some w => !w.f && !w.p
     | none => true)))

/-- The next word. -/
def State.advance (s : State) (c : CoreId) : State := s.updCore c fun k => { k with pc := k.pc + 1 }

/-- The count of instructions issued, U+8:01 (R150). -/
def State.countIssued (s : State) (c : CoreId) : State :=
  s.count (ek (unitObj (coreUnit c) 8) 1) 1 0x0406 (corePath c) [(1, 2)]

/-- A program word whose stored code is uncorrectable is not issued: U+14:04, EV-0x1600, and the program stops (Table
22-4). -/
def State.programError (s : State) (c : CoreId) : State :=
  let word := s.wordOf c
  ((s.countErr (coreUnit c) 14 4).raise 0x1600 (corePath c) [(2, 1), (32 * word, 5), (word, 2)]).haltCore c 0x1600 word

/-- An instruction of a core's program at its issue: held back while it cannot issue (R142, assumption 5); past the last word
loaded it stops with EV-0x0702; predicated off it only takes its cycle; where the word in program memory has a reserved class or
operation it stops with EV-0x0700 (R134, assumption 86); otherwise `body` is its effect, the advance to the next word included. It counts as
issued before its own checks, so that one that stops with a fault counts too (DESIGN CHOICE, assumption 133). -/
def State.issue (s : State) (i : Instr) (c : CoreId) (h : Hdr) (cls : Nat) (all : Bool) (body : State → State) : State :=
  if !s.canIssue c h cls all then s.holdBack c i
  else if s.cores[c].loaded ≤ s.cores[c].pc then
    s.stopProgram c 0x0702 [(s.wordOf c, 2), (s.wordOf c, 2)]
  else if s.cores[c].progBad.contains s.cores[c].pc then s.programError c
  else if hdrOff h (s.xr c h.xp) then (s.countIssued c).advance c
  else match reservedField s.cores[c].word with
    | some field =>
      let w := s.cores[c].word
      let e := illegal (s.wordOf c) (wordClass w) (wordOp w) field
      (s.countIssued c).stopProgram c e.1 e.2
    | none => body (s.countIssued c)

/-- An instruction with checks: the first stop ends the program before any change, otherwise its effect runs and the
next word follows. -/
def State.checked (s : State) (c : CoreId) (stops : List (Option Stop)) (eff : State → State) : State :=
  match firstStop stops with
  | some e => s.stopProgram c e.1 e.2
  | none => (eff s).advance c

/-! ### Census (R216 to R219) -/

/-- What one instruction adds to a census slot (Table 12-1). -/
structure Counts where
  elements : Nat
  zeros : Nat
  nonfinCen : Nat
  sats : Nat
  nonfinConv : Nat
  flushes : Nat
  empties : Nat
  clamps : Nat
  poisons : Nat
  cenMax : FVal
  convMax : FVal
  deriving DecidableEq, Repr

/-- Nothing counted. -/
def Counts.none : Counts := ⟨0, 0, 0, 0, 0, 0, 0, 0, 0, .zero, .zero⟩

/-- Two counts together. -/
def Counts.add (a b : Counts) : Counts :=
  ⟨a.elements + b.elements, a.zeros + b.zeros, a.nonfinCen + b.nonfinCen, a.sats + b.sats, a.nonfinConv + b.nonfinConv,
    a.flushes + b.flushes, a.empties + b.empties, a.clamps + b.clamps, a.poisons + b.poisons,
    maxMag a.cenMax b.cenMax, maxMag a.convMax b.convMax⟩

/-- The counts of one conversion (R46). -/
def Conv.counts (r : Conv) : Counts := { Counts.none with sats := b2n r.sat, nonfinConv := b2n r.nonfin, flushes := b2n r.flush }

/-- What the census stage counts of one value (R218). -/
def cenCounts (x : FVal) (poison : Bool) : Counts :=
  if poison then { Counts.none with elements := 1, poisons := 1 }
  else { Counts.none with
    elements := 1, zeros := b2n x.isZero, nonfinCen := b2n x.nonFinite
    cenMax := if x.nonFinite then .zero else x.abs }

/-- The nine counts in record order. -/
def Counts.list (n : Counts) : List Nat :=
  [n.elements, n.zeros, n.nonfinCen, n.sats, n.nonfinConv, n.flushes, n.empties, n.clamps, n.poisons]

/-- A slot with counts added. -/
def Census.add (z : Census) (n : Counts) : Census :=
  { q := Vector.ofFn fun i => (addCount z.q[i] (n.list.getD i 0)).1
    convMax := maxWord z.convMax n.convMax
    cenMax := maxWord z.cenMax n.cenMax }

/-- Counts added to a core's slot; a count that saturates raises EV-0x0C00 once (R219). -/
def State.addCensus (s : State) (c : CoreId) (slot : Fin 16) (n : Counts) : State :=
  let z := s.cores[c].census[slot]
  let hot := (List.finRange 9).filter fun (i : Fin 9) => (addCount z.q[i] (n.list.getD i 0)).2
  let s := s.updCore c fun k => { k with census := k.census.set slot (z.add n) }
  hot.foldl (fun s i => s.raise 0x0C00 (corePath c) [(slot.val, 1), (i.val, 2)]) s

/-- The slot of a descriptor: the one it is attached to, or the launch census (R216). -/
def State.slotOf (s : State) (c : CoreId) (d : DReg) : Fin 16 := (s.cores[c].attach[d]).getD 15

/-- A vector register written by an instruction that converts nothing: each lane written poisoned counts in the launch census (R101,
R218). -/
def State.putV (s : State) (c : CoreId) (v : Nat) (mask : BitVec 128) (zero : Bool) (new : Nat → Lane) : State :=
  let n := ((List.range 128).filter fun i => mask.getLsbD i && (new i).poison).length
  let s := s.writeV c v mask zero new
  if n = 0 then s else s.addCensus c 15 { Counts.none with poisons := n }

end Sys2Proof.Machine
end

