-- ==== Sys2Proof/Machine/Operands.lean ====
section
/-! DEFINITION. Operands: tensor descriptors and their checks (R129 to R131, R454), element reads and writes in every
location, and pipe ends (R256, R257). -/
namespace Sys2Proof.Machine

/-! ### Descriptors -/

/-- A tensor descriptor's fields (Table 7-1). -/
structure Desc where
  loc : Nat
  expand : Nat
  table : Fin 8
  cc : BitVec 16
  base : Nat
  colOrg : Nat
  n0 : Nat
  n1 : Nat
  n2 : Nat
  n3 : Nat
  s1 : Nat
  s2 : Nat
  s3 : Nat
  coarse : Word
  scaleBase : Nat
  zpBase : Nat
  rowOrg : Nat
  rowLen : Nat
  deriving DecidableEq, Repr

/-- A field of a descriptor: word n, bits [hi:lo]. -/
def dfield (w : BitVec 512) (n hi lo : Nat) : Nat := w.toNat / 2 ^ (32 * n + lo) % 2 ^ (hi - lo + 1)

/-- The fields of a descriptor image (Table 7-1); N2 and N3 of 0 read as 1, a logical row length of 0 as N0. -/
def Desc.ofBits (w : BitVec 512) : Desc :=
  let f := dfield w
  { loc := f 0 31 28, expand := f 0 27 26, table := ⟨f 0 25 23 % 8, by omega⟩, cc := BitVec.ofNat 16 (f 0 15 0)
    base := f 1 31 0 + f 2 7 0 * 2 ^ 32, colOrg := f 2 31 8
    n0 := f 3 31 0, n1 := f 4 31 0, n2 := max 1 (f 5 31 0), n3 := max 1 (f 6 31 0)
    s1 := f 7 31 0, s2 := f 8 31 0, s3 := f 9 31 0, coarse := BitVec.ofNat 32 (f 10 31 0)
    scaleBase := f 11 31 0 + f 12 7 0 * 2 ^ 32, zpBase := f 13 31 0 + f 12 15 8 * 2 ^ 32
    rowOrg := f 14 31 0, rowLen := if f 15 31 0 = 0 then f 3 31 0 else f 15 31 0 }

/-- The reserved bits of a descriptor, DW0[22:16], DW0[3:0] and DW12[31:16] (Table 7-1, R40). -/
def descReserved : BitVec 512 := 0x007F000F#512 ||| (0xFFFF0000#512 <<< 384)

/-- A descriptor image as a descriptor register holds it: its reserved bits ignore writes and read zero (R3, R129). -/
def cleanDesc (w : BitVec 512) : BitVec 512 := w &&& ~~~descReserved

/-- A core's descriptor. -/
def State.desc (s : State) (c : CoreId) (d : DReg) : Desc := Desc.ofBits s.cores[c].d[d]

/-- The control field of a descriptor. -/
def Desc.ctl (d : Desc) : CCtl := CCtl.ofBits d.cc

/-- The format of a descriptor; a reserved code reads as FP32 and is stopped before use. -/
def Desc.fmt (d : Desc) : Fmt := (fmtOf d.ctl.dst).getD (.flt .fp32)

/-- Rows of the extent (R130). -/
def Desc.rows (d : Desc) : Nat := d.n1 * d.n2 * d.n3

/-- Byte address of row r (R130). -/
def Desc.rowAddr (d : Desc) (r : Nat) : Nat :=
  let n1 := max 1 d.n1
  d.base + r % n1 * d.s1 + r / n1 % d.n2 * d.s2 + r / n1 / d.n2 * d.s3

/-- Blocks of a row (R48). -/
def Desc.blocks (d : Desc) : Nat := let b := blockSize d.ctl.scale; (d.n0 + b - 1) / b

/-- Whether the tensor has fine scales. -/
def Desc.scaled (d : Desc) : Bool := d.ctl.scale != 0#3

/-- Whether the tensor has zero points (R56). -/
def Desc.zeroed (d : Desc) : Bool := d.expand == 2

/-- Whether an element lies in the extent (R130). -/
def Desc.inExtent (d : Desc) (r c : Int) : Bool :=
  decide (0 ≤ r ∧ r < (d.rows : Int) ∧ 0 ≤ c ∧ c < (d.n0 : Int))

/-- The logical index of an element, modulo 2^64 (R130). -/
def Desc.logical (d : Desc) (r c : Int) : Nat :=
  ((((d.rowOrg : Int) + r) * (d.rowLen : Int) + (d.colOrg : Int) + c) % ((2 ^ 64 : Nat) : Int)).toNat

/-- The bytes a die buffer offers below its pipe-end reserve (R131, R254). -/
def State.dieLimit (s : State) (d : Fin 4) : Nat := 2 ^ 26 - s.cfgAt (ek 0x2108 (d.val + 1)) * 2 ^ 20

/-- The first byte of a range outside a location for a core's vat (R131). -/
def State.outside (s : State) (c : CoreId) (loc a n : Nat) : Option Nat :=
  if n = 0 then none
  else match loc with
    | 0 => s.firstOutside (s.vatOf c).val 9 a (a + n)
    | 1 => let lim := s.dieLimit (coreDie c); if a + n ≤ lim then none else some (max a lim)
    | 2 => if a + n ≤ 2 ^ 24 then none else some (max a (2 ^ 24))
    | _ => none

/-- The first offending address of a descriptor's extent, its scale and zero-point tensors included (R131). -/
def State.descOutside (s : State) (c : CoreId) (d : Desc) : Option Nat :=
  if d.loc = 3 then (if d.base / 1024 = 0 then none else some d.base)
  else if d.n0 = 0 then none
  else
    let rs := List.range d.rows
    let side (base : Nat) : Option Nat := s.outside c d.loc base (d.rows * d.blocks)
    firstSome (rs.findSome? fun r => s.outside c d.loc (d.rowAddr r) (d.fmt.rowBytes d.n0))
      (firstSome (if d.scaled then side d.scaleBase else none) (if d.zeroed then side d.zpBase else none))
where
  firstSome (a b : Option Nat) : Option Nat := match a with
    | some x => some x
    | none => b

/-- The first-use check of a descriptor (R131): enumerated fields, the format rules of R5, R41 and R47, and the extent,
whose first offending address is `out`; skipped where the descriptor has passed since it was last written. Then the
locations the class accepts (R134). -/
def State.descStopAt (s : State) (c : CoreId) (cls op : Nat) (r : DReg) (locs : List Nat) (out : Option Nat) : Option Stop :=
  let d := s.desc c r
  let w := s.wordOf c
  let first : Option Stop :=
    if s.cores[c].checked.getLsbD r then none
    else firstStop [
      stopIf (3 < d.loc) (illegal w cls op (atDesc 0 28)),
      stopIf (d.expand == 3) (illegal w cls op (atDesc 0 26)),
      stopIf (fmtOf d.ctl.dst).isNone (badFormat w cls (atDesc 0 12) d.ctl.dst.toNat),
      stopIf (d.ctl.dst == 0xC#4) (badFormat w cls (atDesc 0 12) d.ctl.dst.toNat),
      stopIf (4 < d.ctl.scale.toNat) (badFormat w cls (atDesc 0 9) d.ctl.dst.toNat),
      stopIf (d.ctl.rnd == 3#2) (badFormat w cls (atDesc 0 7) d.ctl.dst.toNat),
      stopIf (!d.ctl.legal) (badFormat w cls (atDesc 0 9) d.ctl.dst.toNat),
      stopIf (!coarseOk d.coarse) (badFormat w cls (atDesc 10 0) d.ctl.dst.toNat),
      out.map fun a => outOfBounds w r.val a]
  firstStop [first, stopIf (!locs.contains d.loc) (illegal w cls op (atDesc 0 28))]

/-- The first-use check over the descriptor's own extent (R131). -/
def State.descStop (s : State) (c : CoreId) (cls op : Nat) (r : DReg) (locs : List Nat) : Option Stop :=
  s.descStopAt c cls op r locs (s.descOutside c (s.desc c r))

/-- A descriptor has passed its first-use check. -/
def State.markChecked (s : State) (c : CoreId) (r : DReg) : State :=
  s.updCore c fun k => { k with checked := k.checked ||| BitVec.twoPow 64 r }

/-! ### Reading -/

/-- The memory a location names for a core. -/
def placeOf (c : CoreId) (loc : Nat) : Place := if loc = 0 then .hbm else if loc = 1 then .die (coreDie c) else .core c

/-- The key of the 64-byte granule of an address in a location shared by cores: HBM by die and offset, die buffers
above (R144). -/
def State.granule64 (s : State) (c : CoreId) (loc a : Nat) : Option Nat :=
  match loc with
  | 0 => (s.decodeAddr a).map fun k => k / 64
  | 1 => some (2 ^ 40 + (coreDie c).val * 2 ^ 20 + a / 64)
  | _ => none

/-- What a granule held before writes that no ordering covers yet, of any core (R144). -/
def State.oldViews (s : State) (g : Nat) : List (List (Byte × Bool)) :=
  s.cores.toList.flatMap fun k => Sparse.get [] k.unfenced g

/-- Byte ranges read in a location. -/
abbrev Spans := List (Nat × Nat)

/-- The ranges an element rectangle touches, its scale and zero-point bytes included (R130). -/
def Desc.spans (d : Desc) (r0 : Int) (rn : Nat) (c0 : Int) (cn : Nat) : Spans :=
  let lo := max c0 0
  let hi := min (c0 + cn) d.n0
  if hi ≤ lo then []
  else
    let l := lo.toNat
    let h := hi.toNat
    let w := d.fmt.width
    let b := blockSize d.ctl.scale
    (List.range rn).flatMap fun (i : Nat) =>
      let r : Int := r0 + (i : Int)
      if 0 ≤ r ∧ r < (d.rows : Int) then
        let rr := r.toNat
        [(d.rowAddr rr + l * w / 8, (h * w + 7) / 8 - l * w / 8)]
          ++ (if d.scaled then [(d.scaleBase + rr * d.blocks + l / b, (h - 1) / b - l / b + 1)] else [])
          ++ (if d.zeroed then [(d.zpBase + rr * d.blocks + l / b, (h - 1) / b - l / b + 1)] else [])
      else []

/-- Ranges that an instruction touches as one, from the lowest byte to past the highest (R143). -/
def Spans.hull : Spans → Option (Nat × Nat)
  | [] => none
  | r :: rs => match Spans.hull rs with
    | none => some (r.1, r.1 + r.2)
    | some q => some (min r.1 q.1, max (r.1 + r.2) q.2)

/-- Whether ranges of the core buffer that an instruction touches overlap those that an outstanding MOVE has still to write (Table 7-16). -/
def State.bufferWaits (s : State) (c : CoreId) (sp : Spans) : Bool :=
  match s.cores[c].moving with
  | none => false
  | some m =>
    let d := Desc.ofBits m.d[m.f.dd]
    if d.loc ≠ 2 then false
    else match sp.hull, (d.spans m.x[m.f.xdr].toInt m.f.rows m.x[m.f.xdc].toInt m.f.cols).hull with
      | some a, some b => decide (a.1 < b.2 ∧ b.1 < a.2)
      | _, _ => false

/-- An instruction that reads or writes ranges of the core buffer, held back while they overlap an outstanding MOVE's (R143). -/
def State.issueOver (s : State) (i : Instr) (c : CoreId) (h : Hdr) (cls : Nat) (sp : Spans) (body : State → State) : State :=
  if s.bufferWaits c sp && s.executes c h then s.holdBack c i else s.issue i c h cls false body

/-- The agent number of a core in `refuseAccess` (R242): each core is an agent of its own. -/
def coreAgent (c : CoreId) : Nat := 16 + c.val

/-- The locations made ready for a read of ranges (R235, R240, R248); a die that does not answer raises EV-0x0D02 (R249). -/
def State.openSpans (s : State) (c : CoreId) (loc : Nat) (sp : Spans) : State :=
  sp.foldl (fun s r =>
    if loc = 0 then
      let s := s.openHbm r.1 r.2
      if s.reachable r.1 r.2 then s else s.refuseInvalid r.1 r.2 (coreAgent c)
    else s.resolve (placeOf c loc) r.1 r.2) s

/-- For each granule of the ranges that an unordered write changed, the bytes the read returns: the new ones or an
older whole granule, a free choice (R144). -/
def State.pickViews (s : State) (c : CoreId) (loc : Nat) (sp : Spans) : Sparse (List (Byte × Bool)) × State :=
  if 2 ≤ loc then ([], s)
  else
    let gs := (sp.flatMap fun r => if r.2 = 0 then [] else
      (List.range ((r.1 + r.2 - 1) / 64 - r.1 / 64 + 1)).filterMap fun i => s.granule64 c loc ((r.1 / 64 + i) * 64)).eraseDups
    gs.foldl (fun (p : Sparse (List (Byte × Bool)) × State) g =>
      let vs := p.2.oldViews g
      if vs.isEmpty then p
      else
        let f := p.2.free
        let i := f.1 % (vs.length + 1)
        (if i = 0 then p.1 else Sparse.put p.1 g (vs.getD (i - 1) []), f.2)) ([], s)

/-- One byte as an instruction reads it. -/
def State.peek (s : State) (c : CoreId) (loc : Nat) (old : Sparse (List (Byte × Bool))) (a : Nat) : Byte × Bool :=
  let now : Byte × Bool := match loc with
    | 0 => match s.decodeAddr a with
      | some k => if s.dieAnswers k then s.hbm.read k else (0#8, true)
      | none => (0#8, true)
    | 1 => s.dieBuf[coreDie c].read a
    | _ => s.cores[c].buf.read a
  match s.granule64 c loc a with
  | some g => match Sparse.get [] old g with
    | [] => now
    | v => v.getD (a % 64) now
  | none => now

/-- A read element: its code, fine scale, zero point, whether it is poisoned, whether it lies in the extent. -/
structure Elem where
  code : Nat
  scale : FVal
  zp : Int
  poison : Bool
  real : Bool
  deriving DecidableEq, Repr

/-- Padding: the zero encoding, scale 1, zero point 0 (R130). -/
def Elem.pad : Elem := ⟨0, .fin false 1 0, 0, false, false⟩

/-- An element read through a byte reader (R39, R48, R130). -/
def readElem (rd : Nat → Byte × Bool) (d : Desc) (r c : Int) : Elem :=
  if !d.inExtent r c then Elem.pad
  else
    let rr := r.toNat
    let cc := c.toNat
    let w := d.fmt.width
    let o := cc * w
    let bs := (List.range ((o + w - 1) / 8 - o / 8 + 1)).map fun i => rd (d.rowAddr rr + o / 8 + i)
    let blk := rr * d.blocks + cc / blockSize d.ctl.scale
    let sc := if d.scaled then rd (d.scaleBase + blk) else (0#8, false)
    let zp := if d.zeroed then rd (d.zpBase + blk) else (0#8, false)
    { code := leNat (bs.map Prod.fst) / 2 ^ (o % 8) % 2 ^ w
      scale := scaleVal d.ctl.scale sc.1
      zp := zp.1.toInt
      poison := bs.any Prod.snd || sc.2 || zp.2
      real := true }

/-- The FP32 value of an element under its fine and coarse scales (R50). -/
def Desc.value (d : Desc) (e : Elem) : FVal := decodeFP32 (f32 d.coarse) e.scale (d.fmt.decode e.code)

/-- A rectangle of elements made ready: the state after the read's own effects, and the reader of its bytes. -/
def State.reader (s : State) (c : CoreId) (d : Desc) (r0 : Int) (rn : Nat) (c0 : Int) (cn : Nat) :
    State × Sparse (List (Byte × Bool)) :=
  let sp := d.spans r0 rn c0 cn
  let p := (s.openSpans c d.loc sp).pickViews c d.loc sp
  (p.2, p.1)

/-! ### Writing -/

/-- An element to write. -/
structure Wr where
  row : Nat
  col : Nat
  code : Nat
  poison : Bool
  deriving DecidableEq, Repr

/-- A scale byte to write: block index over the whole scale tensor. -/
structure WrScale where
  block : Nat
  byte : Byte
  poison : Bool
  deriving DecidableEq, Repr

/-- Cells with the bits of one code patched in at a bit offset from an address. -/
def patchCells (rd : Nat → Byte × Bool) (cells : Sparse Byte) (addr o w code : Nat) : Sparse Byte :=
  (List.range ((o + w - 1) / 8 - o / 8 + 1)).foldl (fun cells i =>
    let j := o / 8 + i
    let old := (Sparse.get (rd (addr + j)).1 cells (addr + j)).toNat
    let m := (((2 ^ w - 1) <<< o) >>> (8 * j)) % 256
    let v := (((code % 2 ^ w) <<< o) >>> (8 * j)) % 256
    Sparse.put cells (addr + j) (BitVec.ofNat 8 ((old - (old &&& m)) + v))) cells

/-- The bytes an element occupies. -/
def Desc.elemAddrs (d : Desc) (r c : Nat) : List Nat :=
  let w := d.fmt.width
  let o := c * w
  (List.range ((o + w - 1) / 8 - o / 8 + 1)).map fun i => d.rowAddr r + o / 8 + i

/-- The cells of element writes; the last element of a row also writes the row's padding as zero encodings (R39). -/
def writeCellsOf (rd : Nat → Byte × Bool) (d : Desc) (ws : List Wr) : Sparse Byte :=
  let w := d.fmt.width
  let full := d.fmt.rowBytes d.n0 * 8
  ws.foldl (fun cells e =>
    let cells := patchCells rd cells (d.rowAddr e.row) (e.col * w) w e.code
    if e.col + 1 = d.n0 ∧ d.n0 * w < full then patchCells rd cells (d.rowAddr e.row) (d.n0 * w) (full - d.n0 * w) 0
    else cells) []

/-- The granules of cells with what they held before the instruction's first write to each, noted as not yet ordered (R144). -/
def State.noteUnfenced (s : State) (c : CoreId) (loc : Nat) (addrs : List Nat) : State :=
  if 2 ≤ loc then s
  else
    let bases := (addrs.map fun a => a / 64 * 64).eraseDups
    let issued := s.volAt (ek (unitObj (coreUnit c) 8) 1)
    let seen := if s.cores[c].noted.1 = issued then s.cores[c].noted.2 else []
    let snaps := (bases.filterMap fun b => (s.granule64 c loc b).map fun g =>
      (g, (List.range 64).map fun i => s.peek c loc [] (b + i))).filter fun p => !seen.contains p.1
    s.updCore c fun k => { k with
      unfenced := snaps.foldl (fun m p => Sparse.put m p.1 (Sparse.get [] m p.1 ++ [p.2])) k.unfenced
      noted := (issued, seen ++ snaps.map Prod.fst) }

/-- The keys of device addresses whose dies answer. -/
def State.upKey (s : State) (a : Nat) : Option Nat := (s.decodeAddr a).bind fun k => if s.dieAnswers k then some k else none

/-- A location made ready for a store: uncleared and retiring HBM granules served first (R240, R248). -/
def State.readyStore (s : State) (loc : Nat) (addrs : List Nat) : State :=
  if loc = 0 then (addrs.filterMap s.upKey).foldl (fun s k => (s.clearFirst k 1).relocateFirst k 1) s else s

/-- Bytes written by an instruction of a core, then poison over the addresses of poisoned elements (R101, R236); a die that does
not answer discards them under EV-0x0D02 (R249). -/
def State.storeCells (s : State) (c : CoreId) (loc : Nat) (cells : List (Nat × Byte)) (bad : List Nat) : State :=
  let addrs := cells.map Prod.fst ++ bad
  let s := (s.readyStore loc addrs).noteUnfenced c loc addrs
  match loc with
  | 0 =>
    let ks := cells.filterMap fun p => (s.upKey p.1).map fun k => (k, p.2)
    let bs := bad.filterMap s.upKey
    let dead := addrs.find? fun a => (s.upKey a).isNone
    let s := s.writeMem .hbm ks
    let s := { s with hbm := s.hbm.poison bs }
    match dead with
    | some a => s.refuseAccess 0x0D02 (s.addrPath a) a (coreAgent c) 0
    | none => s
  | _ =>
    let p := placeOf c loc
    let s := s.writeMem p cells
    s.setMem p ((s.mem p).poison bad)

/-- Elements and scale bytes written through a descriptor in memory; elements outside the extent are no part of `ws`. A
poisoned element poisons the words it touches (R101). -/
def State.storeTensor (s : State) (c : CoreId) (d : Desc) (ws : List Wr) (ss : List WrScale) : State :=
  let s := s.readyStore d.loc (ws.flatMap fun e => d.elemAddrs e.row e.col)
  let rd := s.peek c d.loc []
  let cells := writeCellsOf rd d ws ++ ss.map fun b => (d.scaleBase + b.block, b.byte)
  let bad := (ws.filter fun e => e.poison).flatMap (fun e => d.elemAddrs e.row e.col)
    ++ ((ss.filter fun b => b.poison).map fun b => d.scaleBase + b.block)
  s.storeCells c d.loc cells bad

/-! ### Pipes (R253 to R258) -/

/-- Bytes of a packet (Table 14-1). -/
def Pipe.size (p : Pipe) : Nat := 512 * 2 ^ p.k

/-- Waiting bytes taken into the tail store while it has room, packets committing as they fill; with none left the
partial packet commits where the pipe allows short packets and its instruction has completed (R255, R256). -/
def Pipe.fill : Nat → Pipe → Pipe
  | 0, p => p
  | fuel + 1, p =>
    let open_ := match p.tail.getLast? with
      | some k => !k.committed
      | none => false
    if p.waiting.isEmpty then
      if p.flushEnd then
        { p with flushEnd := false
                 tail := if p.short then p.tail.map fun k => { k with committed := true } else p.tail }
      else p
    else if open_ then
      match p.tail.getLast? with
      | some k =>
        let n := p.size - k.data.length
        let k := { k with data := k.data ++ p.waiting.take n }
        let k := { k with committed := decide (k.data.length = p.size) }
        Pipe.fill fuel { p with tail := p.tail.dropLast ++ [k], waiting := p.waiting.drop n }
      | none => p
    else if p.tail.length < 2 then
      Pipe.fill fuel { p with tail := p.tail ++ [⟨[], 0, false, false⟩] }
    else p

/-- Bytes a writing instruction gives a pipe, in row order, then its completion (R256). -/
def State.pipeWrite (s : State) (c : CoreId) (n : Fin 1024) (bs : List (Byte × Bool)) : State :=
  let w := s.wordOf c
  s.updPipe n fun p => Pipe.fill (bs.length + p.waiting.length + 4) { p with waiting := p.waiting ++ bs, flushEnd := true, word := w }

/-- The readable bytes of the head store, in order (R257). -/
def Pipe.readable (p : Pipe) : List (Byte × Bool) := p.head.flatMap fun k => k.data.drop k.read

/-- Bytes consumed from the head store; a packet read to its end frees its slot (R257). -/
def takeBytes : Nat → List Packet → List Packet
  | _, [] => []
  | n, k :: ks =>
    let have_ := k.data.length - k.read
    if have_ ≤ n then takeBytes (n - have_) ks else { k with read := k.read + n } :: ks

/-- Packets leave the head store, which becomes `head`; a notice that has not been signalled stays owed (R258). -/
def Pipe.leave (p : Pipe) (head : List Packet) : Pipe :=
  let gone := p.head.take (p.head.length - head.length)
  { p with head := head, owed := p.owed + (if p.noticeOn then (gone.filter fun k => !k.noticed).length else 0) }

/-- The pipe fault of an instruction that names a pipe (R256, R259): 1 not the named end, 2 not open, 3 faulted, 4 the other end
lost while it reads (DEDUCED, assumption 92). -/
def State.pipeStop (s : State) (c : CoreId) (n : Nat) (writing : Bool) : Option Stop :=
  let p := vget Pipe.reset s.pipes n
  let e (r : Nat) : Stop := (0x0E00, [(s.wordOf c, 2), (n, 2), (r, 1)])
  let named := p.vat == s.vatOf c &&
    (if writing then !p.prodHub && p.prod == s.lq c else !p.consHub && p.cons == s.lq c)
  firstStop [
    stopIf (p.state == 0) (e 2),
    stopIf (p.state == 3) (e (if !writing && s.cores[c].moving.isSome then 4 else 3)),
    stopIf (!named) (e 1),
    stopIf (p.state == 2 && writing) (e 2)]

/-- Whether an instruction that writes a pipe waits for the bytes of an earlier one to leave its core's hands (R256): it
is not predicated off and meets no pipe fault. -/
def State.tailWaits (s : State) (c : CoreId) (h : Hdr) (n : Fin 1024) : Bool :=
  !s.pipes[n].waiting.isEmpty && s.executes c h && (s.pipeStop c n.val true).isNone

/-- The pipe a pipe descriptor names (R130). -/
def Desc.pipe (d : Desc) : Fin 1024 := ⟨d.base % 1024, Nat.mod_lt _ (by decide)⟩

/-- Bytes of one row of a tensor in a pipe: its packed elements, then its scale bytes, then its zero-point bytes
(DESIGN CHOICE, assumption 12). -/
def Desc.pipeRow (d : Desc) : Nat :=
  d.fmt.rowBytes d.n0 + (if d.scaled then d.blocks else 0) + (if d.zeroed then d.blocks else 0)

/-- Readable bytes moved from a pipe to the reading instruction's own hand, up to `need` (R257). -/
def State.pipeTake (s : State) (c : CoreId) (n : Fin 1024) (need : Nat) : State :=
  let p := s.pipes[n]
  let got := s.cores[c].pipeIn
  let k := min (need - got.length) p.readable.length
  let s := s.updCore c fun q => { q with pipeIn := got ++ p.readable.take k }
  s.updPipe n fun p => p.leave (takeBytes k p.head)

/-- One row given to a pipe: the packed elements, unwritten ones as zero encodings, then the block bytes; a poisoned
element poisons its bytes (R101, DESIGN CHOICE, assumption 12). -/
def packRow (f : Fmt) (n : Nat) (elems : List (Nat × Bool)) (scales : List (Byte × Bool)) : List (Byte × Bool) :=
  let w := f.width
  let v := elems.zipIdx.foldl (fun acc p => acc + (p.1.1 % 2 ^ w) * 2 ^ (p.2 * w)) 0
  let bad (i : Nat) : Bool := elems.zipIdx.any fun p => p.1.2 && decide (p.2 * w < 8 * i + 8 ∧ 8 * i < p.2 * w + w)
  ((List.range (f.rowBytes n)).map fun i => (BitVec.ofNat 8 (v / 2 ^ (8 * i)), bad i)) ++ scales

end Sys2Proof.Machine
end

