-- ==== Sys2Proof/Machine/Tiles.lean ====
section
/-! DEFINITION. Logical tiles: binding, spill and reload (R73 to R76), the operand feeders (R53 to R56), the sweep itself
(R58 to R63, R67, R69, R135, R158) and the element-wise operations (R71, R72). -/
namespace Sys2Proof.Machine

/-! ### Binding and spill -/

/-- The slots that hold a bound tile. -/
def Core.usedSlots (k : Core) : List (Fin 8) :=
  k.tiles.toList.filterMap fun t => match t with
    | .bound n => some n
    | _ => none

/-- The spill frames that hold a spilled tile (R75). -/
def Core.usedFrames (k : Core) : List Nat :=
  k.tiles.toList.flatMap fun t => match t with
    | .spilled f _ _ _ _ => [f, f + 1, f + 2, f + 3]
    | _ => []

/-- The number of frames in the spill area (Table 4-5). -/
def Core.spillCount (k : Core) : Nat := k.spillWord.toNat / 2 ^ 8 % 2 ^ 8

/-- The lowest run of four free frames of the spill area (R75). -/
def Core.freeRun (k : Core) : Option Nat :=
  let base := k.spillWord.toNat % 2 ^ 8
  let top := min (base + k.spillCount) 256
  let used := k.usedFrames
  (List.range 256).find? fun f =>
    decide (base ≤ f ∧ f + 4 ≤ top) && (List.range 4).all fun i => !used.contains (f + i)

/-- A tile as it stands in its slot; a tile that is not bound reads as a free slot starts. -/
def State.tileOf (s : State) (c : CoreId) (t : TileNo) : Tile :=
  match s.cores[c].tiles[t] with
  | .bound n => s.cores[c].slots[n]
  | _ => Tile.zero

/-- A bound tile's slot replaced. -/
def State.setTile (s : State) (c : CoreId) (t : TileNo) (v : Tile) : State :=
  match s.cores[c].tiles[t] with
  | .bound n => s.updCore c fun k => { k with slots := k.slots.set n v }
  | _ => s

/-- Where a tile is, changed. -/
def State.setLoc (s : State) (c : CoreId) (t : TileNo) (l : TileLoc) : State :=
  s.updCore c fun k => { k with tiles := k.tiles.set t l }

/-- A tile used: last in recency (R73). -/
def State.touch (s : State) (c : CoreId) (t : TileNo) : State :=
  s.updCore c fun k => { k with recency := k.recency.erase t ++ [t] }

/-- A tile unbound, its content discarded (R73). -/
def State.releaseTile (s : State) (c : CoreId) (t : TileNo) : State :=
  s.updCore c fun k => { k with tiles := k.tiles.set t .unbound, recency := k.recency.erase t }

/-- The four bits a function of the arrays gives. -/
def arrayBits (f : Fin 4 → Bool) : BitVec 4 :=
  (BitVec.iunfoldr (fun (i : Fin 4) (_ : Unit) => ((), f i)) ()).2

/-- A statistic of Table 4-7 raised (R77). -/
def State.countTile (s : State) (c : CoreId) (sub : Nat) : State :=
  s.count (ek (0x8100 + c.val) sub) 1 0x0406 (corePath c) [(sub, 2)]

/-- The bytes of one array's part of a tile in a spill frame: FP32, row by row, rounded as a drain rounds (R64, R74). -/
def TileArr.frameBytes (t : TileArr) : List Byte := t.vals.toList.flatMap fun w => leBytes (drainA38 w).1.toNat 4

/-- A bound tile spilled to four frames (R74, R75): arrays in service write theirs, poison marking a poisoned part. -/
def State.spill (s : State) (c : CoreId) (t : TileNo) (frame : Nat) : State :=
  let v := s.tileOf c t
  let s := (List.finRange 4).foldl (fun s a =>
    if !s.arrayUp c a then s
    else
      let at_ := (frame + a.val) * 65536
      let m := s.cores[c].buf.write (cellsAt at_ v.arr[a].frameBytes)
      let m := if v.arr[a].poison then m.poison ((List.range 4096).map fun i => at_ + 16 * i) else m
      s.updCore c fun k => { k with buf := m }) s
  let s := s.setLoc c t (.spilled frame (arrayBits fun a => v.arr[a].poison) (arrayBits fun a => v.arr[a].ovf) v.ca v.cw)
  let s := s.updCore c fun k => { k with recency := k.recency.erase t }
  s.countTile c 1

/-- One array's part of a tile read back from its frame, widened exactly (R74). -/
def reloadArr (m : Mem) (frame : Nat) (poison ovf : Bool) : TileArr where
  vals := Vector.ofFn fun i => (toA38 (f32 (BitVec.ofNat 32 (leNat ((List.range 4).map fun b =>
    (m.read (frame * 65536 + 4 * i.val + b)).1))))).1
  poison := poison || (List.range 4096).any fun i => (m.read (frame * 65536 + 16 * i)).2
  ovf := ovf

/-- A spilled tile reloaded into a slot, its frames freed (R74, R75). -/
def State.reload (s : State) (c : CoreId) (t : TileNo) (slot : Fin 8) (frame : Nat) (p o : BitVec 4) (ca cw : Word) : State :=
  let s := s.resolve (.core c) (frame * 65536) (4 * 65536)
  let m := s.cores[c].buf
  let v : Tile := ⟨Vector.ofFn fun a => if s.arrayUp c a then reloadArr m (frame + a.val) (p.getLsbD a) (o.getLsbD a)
    else { TileArr.zero with poison := p.getLsbD a, ovf := o.getLsbD a }, ca, cw⟩
  let s := s.updCore c fun k => { k with slots := k.slots.set slot v, tiles := k.tiles.set t (.bound slot) }
  s.countTile c 2

/-- A tile put into a slot: reloaded if it was spilled, otherwise +0 (R73). -/
def State.intoSlot (s : State) (c : CoreId) (t : TileNo) (slot : Fin 8) : State :=
  match s.cores[c].tiles[t] with
  | .spilled f p o ca cw => s.reload c t slot f p o ca cw
  | _ => s.updCore c fun k => { k with slots := k.slots.set slot Tile.zero, tiles := k.tiles.set t (.bound slot) }

/-- One tile bound for an instruction that names `named`, or the tile whose binding the spill area has no room for (R73, R76): the
event's logical tile is the tile to be bound, not the one its binding would spill (DESIGN CHOICE, assumption 99). -/
def State.bindTile (s : State) (c : CoreId) (named : List TileNo) (t : TileNo) : Except TileNo State :=
  let k := s.cores[c]
  match k.tiles[t] with
  | .bound _ => .ok (s.touch c t)
  | _ =>
    match (List.finRange 8).find? fun n => !k.usedSlots.contains n with
    | some n => .ok ((s.intoSlot c t n).touch c t)
    | none =>
      match k.recency.find? fun v => !named.contains v with
      | none => .ok s
      | some v =>
        match k.freeRun, k.tiles[v] with
        | some f, .bound n => .ok (((s.spill c v f).intoSlot c t n).touch c t)
        | _, _ => .error t

/-- The tiles of an instruction bound in operand order. -/
def State.bindTiles (s : State) (c : CoreId) (named : List TileNo) : List TileNo → Except TileNo State
  | [] => .ok s
  | t :: ts => match s.bindTile c named t with
    | .ok s' => s'.bindTiles c named ts
    | .error e => .error e

/-- The exhaustion fault of an instruction, found before anything changes: the frames in use are those before any spill of it
(R76). -/
def State.bindStop (s : State) (c : CoreId) (named : List TileNo) : Option Stop :=
  match s.bindTiles c named named with
  | .ok _ => none
  | .error t => some (0x0401, [(t.val, 1), (s.cores[c].usedFrames.length, 4), (s.cores[c].spillCount, 4)])

/-- The state with an instruction's tiles bound. -/
def State.bound (s : State) (c : CoreId) (named : List TileNo) : State :=
  match s.bindTiles c named named with
  | .ok s' => s'
  | .error _ => s

/-! ### Arrays -/

/-- The array-unavailable fault (R65): the mask names an array that is not READY or RUNNING. -/
def State.arrayStop (s : State) (c : CoreId) (enable : BitVec 4) : Option Stop :=
  let up := (List.finRange 4).filter fun a => s.arrayUp c a
  stopIf ((List.finRange 4).any fun a => enable.getLsbD a && !s.arrayUp c a)
    (0x0404, [(enable.toNat, 1), (up.length, 1)])

/-- The arrays an enable mask names. -/
def enabled (enable : BitVec 4) : List (Fin 4) := (List.finRange 4).filter fun a => enable.getLsbD a

/-- The physical row of logical row m of an array (R79): the (m + 1)-th lowest that is not retired. The rows
retired are those the array last passed LOADING with. -/
def State.physRow (s : State) (c : CoreId) (a : Fin 4) (m : Nat) : Nat :=
  boundRow s.units[arrayUnit c a].rows m

/-- The frames of a spilled tile poisoned (R86). -/
def State.poisonFrames (s : State) (c : CoreId) (t : TileNo) : State :=
  match s.cores[c].tiles[t] with
  | .spilled f _ _ _ _ =>
    s.updCore c fun k => { k with buf := k.buf.poison ((List.range 16384).map fun i => f * 65536 + 16 * i) }
  | _ => s

/-- A tile poisoned in every array and its content discarded (R85). -/
def State.poisonTile (s : State) (c : CoreId) (t : TileNo) : State :=
  s.setTile c t { s.tileOf c t with arr := Vector.replicate 4 { TileArr.zero with poison := true } }

/-- An array's error statistic raised (R77, Table 4-8). -/
def State.countArray (s : State) (c : CoreId) (a : Fin 4) (sub : Nat) : State :=
  s.count (ek (unitObj (arrayUnit c a) 7) sub) 1 0x0406 (corePath c) [(sub, 2)]

/-- A tile program stopped by poison that arrived with the data (R85): the arrays reached counted, the event with the core's
path. -/
def State.poisonArrived (s : State) (c : CoreId) (t : TileNo) (k row : Nat) (reached : List (Fin 4)) : State :=
  let word := s.wordOf c
  let s := reached.foldl (fun s a => s.countArray c a 2) s
  (s.raise 0x0400 (corePath c) [(t.val, 1), (k, 4), (row, 1), (1, 1)]).haltCore c 0x0400 word

/-- An instruction that writes a tile stopped by poison that arrived with the data (R85): the tile poisoned. -/
def State.operandFault (s : State) (c : CoreId) (t : TileNo) (k row : Nat) (reached : List (Fin 4)) : State :=
  (s.poisonTile c t).poisonArrived c t k row reached

/-! ### Operand feeders -/

/-- How a descriptor's elements are expanded (Table 7-1). -/
def Desc.expansion (d : Desc) : Expand :=
  match d.expand with
  | 1 => .table d.table
  | 2 => .zero
  | _ => .none

/-- A fed element: its value and what its expansion counts (R54); a padded element is a zero whatever its table's entry 0 (R157). -/
def feed (k : Core) (fd : Feed) (d : Desc) (e : Elem) : FVal × Counts :=
  let q := d.fmt.decode e.code
  let into (goal : BitVec 4) (x : FVal) : FVal × Counts :=
    let f := (fmtOf goal).getD (.flt .fp32)
    let r := (f.convert .rne true false x).flushFrom x f
    (f.decode r.code, if e.real then { Counts.none with sats := b2n r.sat, flushes := b2n r.flush } else Counts.none)
  match fd with
  | .native => (underScale e.scale q, Counts.none)
  | .widen goal => into goal (underScale e.scale q)
  | .table t goal =>
    if !e.real then (.zero, Counts.none)
    else
    let f := (fmtOf goal).getD (.flt .fp32)
    let v := (vget 0#16 k.exps[t].entries (e.code % 16)).toNat % 2 ^ f.width
    (underScale e.scale (f.decode v), Counts.none)
  | .zeroPoint goal => into goal (underScale e.scale (q.sub (.ofInt e.zp)))

/-- What a sweep multiplies by: an outer product at a rate, or a semiring. -/
inductive SweepOp where
  | product (r : Rate)
  | semiring (r : Semiring)
  deriving DecidableEq, Repr

/-- The exact addend of step k (R58, R59, R67): the product, or in rank-2 mode the sum of two, an odd last step paired
with a zero product. -/
def addendOf (r : Rate) (K : Nat) (av wv : Nat → FVal) (k : Nat) : FVal :=
  match r with
  | .rank1 => (av k).mul (wv k)
  | .rank2 => ((av k).mul (wv k)).add (if k + 1 < K then (av (k + 1)).mul (wv (k + 1)) else .zero)
  | .split3 => split3 (av k) (wv k)

/-- The steps a sweep takes, by their first reduction index (R60). -/
def SweepOp.steps (o : SweepOp) (K : Nat) : List Nat :=
  match o with
  | .product .rank2 => (List.range ((K + 1) / 2)).map fun i => 2 * i
  | _ => List.range K

/-- One update of a slot element, and whether R61 clamped it. -/
def SweepOp.update (o : SweepOp) (K : Nat) (av wv : Nat → FVal) (k : Nat) (c : FVal) : FVal × Bool :=
  match o with
  | .product r => a38Add c (addendOf r K av wv k)
  | .semiring r => r.update c (av k) (wv k)

/-- A slot element after a whole sweep, in the order of R60. -/
def SweepOp.element (o : SweepOp) (K : Nat) (av wv : Nat → FVal) (c : FVal) : FVal × Bool :=
  (o.steps K).foldl (fun p k => let r := o.update K av wv k p.1; (r.1, p.2 || r.2)) (c, false)

/-- The starting value INIT gives (R135). -/
def SweepOp.start : SweepOp → FVal
  | .product _ => .zero
  | .semiring r => r.start

/-- The format an operand has as it is multiplied: its own, or the one it is widened or expanded into (R54 to R56). -/
def Feed.goal (fd : Feed) (own : BitVec 4) : BitVec 4 :=
  match fd with
  | .native => own
  | .widen g => g
  | .table _ g => g
  | .zeroPoint g => g

/-- ACLK cycles of K steps of a pair whose activations are multiplied in format `a` (R66, Table 4-2, Table 4-6). -/
def SweepOp.cycles (o : SweepOp) (K : Nat) (a : BitVec 4) : Nat :=
  match o with
  | .product .rank2 => (K + 1) / 2
  | .product .split3 => 6 * K
  | .semiring _ => 2 * K
  | .product .rank1 => if a = 0x1#4 ∨ a = 0x2#4 then 2 * K else K

/-- The steps a sweep of K steps that stops at step k has performed: the pair of a rank-2 step stops whole (R59, R85, R158). -/
def SweepOp.performed (o : SweepOp) (K k : Nat) : Nat :=
  if K ≤ k then K
  else match o with
    | .product .rank2 => k / 2 * 2
    | _ => k

/-- One array's part of a tile after a sweep: rows of activations `av`, columns of weights `wv` (R58 to R63, R135). -/
def sweepArr (o : SweepOp) (K : Nat) (init : Bool) (old : TileArr) (av wv : Nat → Nat → FVal) : TileArr × Bool :=
  let r : Vector (BitVec 40 × Bool) 16384 := Vector.ofFn fun n =>
    let p := o.element K (av (n.val / 128)) (wv (n.val % 128)) (if init then o.start else ofA38 old.vals[n])
    ((toA38 p.1).1, p.2)
  let clamped := r.toList.any fun p => p.2
  (⟨r.map Prod.fst, old.poison && !init, (old.ovf && !init) || clamped⟩, clamped)

/-! ### Counters of sweeps (R158) -/

/-- A counter of object 10 raised. -/
def State.countTiling (s : State) (c : CoreId) (sub n : Nat) : State :=
  s.count (ek (unitObj (coreUnit c) 10) sub) n 0x0800 (corePath c) [(sub, 2)]

/-- Steps of rows `rows` from `r0` that lie outside a descriptor, over the first `kk` steps (R158). -/
def paddedSteps (d : Desc) (rows : List Int) (xk : Int) (kk : Nat) : Nat :=
  sumNat (rows.map fun r => ((List.range kk).filter fun (k : Nat) => !d.inExtent r (xk + (k : Int))).length)

/-! ### Element-wise operations (R71) -/

/-- The rows of arrays an operation reads for tile row i of array a: the vector lane of a per-row operand. -/
def Core.rowLane (k : Core) (b : Nat) (a : Fin 4) (i : Nat) : Lane := k.lane (b + a.val) i

/-- A part computed element by element from a source part, with what else poisons it and its destination's sticky flag
(R63, R71, R72). -/
def elementwise (src old : TileArr) (bad : Bool) (f : Nat → FVal → FVal × Bool) : TileArr × Bool :=
  let r : Vector (BitVec 40 × Bool) 16384 := Vector.ofFn fun n =>
    let p := f n.val (ofA38 src.vals[n])
    let q := toA38 p.1
    (q.1, p.2 || q.2)
  let clamped := r.toList.any fun p => p.2
  (⟨r.map Prod.fst, src.poison || bad, old.ovf || clamped⟩, clamped)

/-- The new parts of a destination tile written where arrays are enabled, its coarse scales, and 0x8100+n:04 once if
anything clamped (R63, R71). -/
def State.writeTile (s : State) (c : CoreId) (enable : BitVec 4) (td : TileNo) (ca cw : Word)
    (g : Fin 4 → TileArr × Bool) : State :=
  let old := s.tileOf c td
  let hot := (enabled enable).any fun a => (g a).2
  let s := s.setTile c td ⟨Vector.ofFn fun a => if enable.getLsbD a then (g a).1 else old.arr[a], ca, cw⟩
  if hot then s.countTile c 4 else s

end Sys2Proof.Machine
end

