-- ==== Sys2Proof/Machine/Culture.lean ====
section
/-! DEFINITION. The Culture generator: the cipher (R205), draws by logical index (R206, R207), the normal distribution
(R208), and the linear-feedback fallback (R211, R212). -/
namespace Sys2Proof.Machine

/-- The four output words of the cipher for one counter (R205). -/
def cipherRounds : Nat → (w0 w1 w2 w3 a b : Word) → Word × Word × Word × Word
  | 0, w0, w1, w2, w3, _, _ => (w0, w1, w2, w3)
  | n + 1, w0, w1, w2, w3, a, b =>
    let p : DWord := BitVec.ofNat 64 (0xD2B74407 * w0.toNat)
    let q : DWord := BitVec.ofNat 64 (0xCB1AB31F * w2.toNat)
    cipherRounds n ((q >>> 32).truncate 32 ^^^ w1 ^^^ a) (q.truncate 32) ((p >>> 32).truncate 32 ^^^ w3 ^^^ b)
      (p.truncate 32) (a + 0x9E3779B9#32) (b + 0x6A09E667#32)

/-- Word n of a key. -/
def keyWord (key : BitVec 128) (n : Nat) : Word := key.extractLsb' (32 * n) 32

/-- The cipher (R205): the ten rounds between the two key mixings. -/
def cipher (key : BitVec 128) (c0 c1 c2 c3 : Word) : Word × Word × Word × Word :=
  let k2 := keyWord key 2
  let k3 := keyWord key 3
  let o := cipherRounds 10 (c0 ^^^ k2) c1 (c2 ^^^ k3) c3 (keyWord key 0) (keyWord key 1)
  (o.1 ^^^ k3, o.2.1, o.2.2.1 ^^^ k2, o.2.2.2)

/-- Output word n of a counter. -/
def outWord (o : Word × Word × Word × Word) (n : Nat) : Word :=
  match n with
  | 0 => o.1
  | 1 => o.2.1
  | 2 => o.2.2.1
  | _ => o.2.2.2

/-- The output of the counter n of a stream and draw (R206). -/
def counterOut (key : BitVec 128) (stream draw : Word) (n : Nat) : Word × Word × Word × Word :=
  cipher key (BitVec.ofNat 32 n) (BitVec.ofNat 32 (n / 2 ^ 32)) stream draw

/-- The 16-bit draw of an element (Table 11-2). -/
def draw16 (key : BitVec 128) (stream draw : Word) (i : Nat) : Nat :=
  let w := (outWord (counterOut key stream draw (i / 8)) (i % 8 / 2)).toNat
  if i % 2 = 0 then w % 2 ^ 16 else w / 2 ^ 16

/-- The 32-bit draw of an element (Table 11-2). -/
def draw32 (key : BitVec 128) (stream draw : Word) (i : Nat) : Nat :=
  (outWord (counterOut key stream draw (i / 4)) (i % 4)).toNat

/-- Words o0 and o1 of a normal draw (Table 11-2). -/
def drawPair (key : BitVec 128) (stream draw : Word) (i : Nat) : Nat × Nat :=
  let o := counterOut key stream draw (i / 2)
  (o.1.toNat, o.2.1.toNat)

/-- The value of a uniform draw (R207). -/
def uniformOf (u : Nat) : FVal := .fin false (u / 2 ^ 8) (-24)

/-- The normal value of an element from its two words: even or odd (R208, Table 11-3). -/
def normalOf (o0 o1 : Nat) (odd : Bool) : FVal :=
  let u1 : FVal := .fin false (o0 / 2 ^ 8 + 1) (-24)
  let f : FVal := .fin false (o1 / 2 ^ 8) (-24)
  let rho := rne32v (((FVal.fin true 2 0).mul (logOf true u1)).sqrt)
  let qd := rni (f.mul (.fin false 4 0))
  let t := f.sub ((FVal.ofInt qd).mul (.fin false 1 (-2)))
  let z := rne32v (t.mul t)
  let sn := rne32v (t.mul (fma32 (fma32 (fma32 (k32 0xC2996966) z (k32 0x42A335E3)) z (k32 0xC2255DE7)) z (k32 0x40C90FDB)))
  let cs := fma32 (fma32 (fma32 (fma32 (k32 0x4270FA83) z (k32 0xC2AAE9E4)) z (k32 0x4281E0F8)) z (k32 0xC19DE9E6)) z one
  let cv := match (qd % 4).toNat with
    | 0 => cs
    | 1 => sn.negate
    | 2 => cs.negate
    | _ => sn
  let sv := match (qd % 4).toNat with
    | 0 => sn
    | 1 => cs
    | 2 => sn.negate
    | _ => cs.negate
  rne32v (rho.mul (if odd then sv else cv))

/-! ### The linear-feedback fallback (R211) -/

/-- Low words of the polynomials of lanes 0 to 31 (R211). -/
def lfsrPoly0 : List DWord := [
  0x1B, 0x1D, 0x1A1, 0x251, 0x425, 0x807, 0xA11, 0x1083, 0x1281, 0x2821, 0x400D, 0x12009, 0x28021, 0x48003,
  0x48009, 0x90003, 0x200281, 0x201401, 0x204801, 0x280011, 0x408041, 0x801021, 0x840801, 0x860001, 0x10000A1,
  0x1000241, 0x1200009, 0x2000083, 0x2001005, 0x2002081, 0x2010009, 0x2080009]

/-- Low words of the polynomials of lanes 32 to 63 (R211). -/
def lfsrPoly1 : List DWord := [
  0x2100041, 0x2100801, 0x2800005, 0x4008021, 0x6000009, 0x8000805, 0x8400401, 0xA100001, 0x1000000D,
  0x10200801, 0x10A00001, 0x18040001, 0x20008003, 0x2000A001, 0x20040003, 0x20040401, 0x20080201, 0x20100009,
  0x20180001, 0x20404001, 0x20800003, 0x40000409, 0x40000803, 0x40004021, 0x40080003, 0x40102001, 0x40200081,
  0x44000081, 0x60000021, 0x60800001, 0x80000403, 0x80000411]

/-- Low words of the polynomials of lanes 64 to 95 (R211). -/
def lfsrPoly2 : List DWord := [
  0x80000441, 0x80080201, 0x80104001, 0x82001001, 0x83000001, 0xA1000001, 0xC0080001, 0x1000A0001,
  0x108002001, 0x200000241, 0x200004101, 0x200500001, 0x200C00001, 0x202000005, 0x202080001, 0x208000011,
  0x208000201, 0x240000041, 0x240200001, 0x280000201, 0x280000801, 0x400002003, 0x400008041, 0x400008401,
  0x400020005, 0x400020801, 0x400040801, 0x400081001, 0x402000401, 0x410000003, 0x800000103, 0x800000141]

/-- Low words of the polynomials of lanes 96 to 127 (R211). -/
def lfsrPoly3 : List DWord := [
  0x800000841, 0x800002801, 0x800004201, 0x80000A001, 0x800010201, 0x800040011, 0x800200011, 0x800800003,
  0x820400001, 0x840000401, 0x840004001, 0x840020001, 0xA00000801, 0xA00080001, 0xA00400001, 0xC00000801,
  0x1002000401, 0x1800000005, 0x1802000001, 0x2000000019, 0x2000000045, 0x2000000205, 0x2000000805,
  0x2000004101, 0x2020800001, 0x2040000005, 0x2800000101, 0x2801000001, 0x4000000221, 0x4000028001,
  0x4003000001, 0x4800000401]

/-- The low word of a lane's polynomial (R211). -/
def lfsrPoly (lane : Nat) : DWord := (lfsrPoly0 ++ lfsrPoly1 ++ lfsrPoly2 ++ lfsrPoly3).getD (lane % 128) 0#64

/-- One step of a generator: its output bit and its next state (R211). -/
def lfsrStep (poly st : DWord) : Bool × DWord :=
  (st.getLsbD 63, if st.getLsbD 63 then (st <<< 1) ^^^ poly else st <<< 1)

/-- `n` bits of a generator, the first in the most significant bit (R211). -/
def lfsrBits (poly : DWord) : Nat → Nat → DWord → Nat × DWord
  | 0, acc, st => (acc, st)
  | n + 1, acc, st => let r := lfsrStep poly st; lfsrBits poly n (2 * acc + b2n r.1) r.2

/-- The initial state of a lane's generator under a key (R211). -/
def lfsrStart (key : BitVec 128) (lane : Nat) : DWord :=
  let v := (key.extractLsb' 0 64) ^^^ BitVec.ofNat 64 ((lane + 1) * 0x9E3779B97F4A7C15)
  if v = 0#64 then 1#64 else v

/-! ### Draws by a core -/

/-- The key of the launch a core runs (R204); zero where it runs none. -/
def State.keyOf (s : State) (c : CoreId) : BitVec 128 :=
  match s.cores[c].launch.bind s.launchAt with
  | some l => l.key
  | none => 0#128

/-- Whether the core's Culture unit is retired: U+12:01 reads 1 (R213). -/
def State.fallback (s : State) (c : CoreId) : Bool := s.volAt (ek (unitObj (coreUnit c) 12) 1) == 1

/-- The count of draws, U+12:05 or U+12:06 (R213). -/
def State.countDraws (s : State) (c : CoreId) (sub n : Nat) : State :=
  s.count (ek (unitObj (coreUnit c) 12) sub) n 0x0B02 (corePath c) [(sub, 2)]

/-- Bits from a lane of the fallback. -/
def State.lfsrTake (s : State) (c : CoreId) (lane n : Nat) : Nat × State :=
  let r := lfsrBits (lfsrPoly lane) n 0 (vget 0#64 s.cores[c].lfsr (lane % 128))
  (r.1, s.updCore c fun k => { k with lfsr := vset k.lfsr (lane % 128) r.2 })

/-- Draws of `n` bits for elements, each its logical index and its lane, in the order the core produces them: from the
cipher by index, or from the fallback by lane, which sets FALLBACK (R206, R211, R212). -/
def State.draws (s : State) (c : CoreId) (n : Nat) (cipherDraw : Nat → Nat) (es : List (Nat × Nat)) : List Nat × State :=
  if s.fallback c then
    let r := es.foldl (fun (p : List Nat × State) e => let t := p.2.lfsrTake c e.2 n; (t.1 :: p.1, t.2)) ([], s)
    (r.1.reverse, (if es.isEmpty then r.2 else r.2.updCore c fun k => k.orStat 8#32).countDraws c 5 es.length)
  else (es.map fun e => cipherDraw e.1, s.countDraws c 6 es.length)

/-- 16-bit draws. -/
def State.draw16s (s : State) (c : CoreId) (stream draw : Word) (es : List (Nat × Nat)) : List Nat × State :=
  s.draws c 16 (draw16 (s.keyOf c) stream draw) es

/-- 32-bit draws. -/
def State.draw32s (s : State) (c : CoreId) (stream draw : Word) (es : List (Nat × Nat)) : List Nat × State :=
  s.draws c 32 (draw32 (s.keyOf c) stream draw) es

/-- The two words of normal draws: one draw of 64 bits of the fallback is two of 32 (R211). -/
def State.drawPairs (s : State) (c : CoreId) (stream draw : Word) (es : List (Nat × Nat)) : List (Nat × Nat) × State :=
  let r := s.draws c 64 (fun i => let p := drawPair (s.keyOf c) stream draw i; p.1 * 2 ^ 32 + p.2) es
  (r.1.map fun v => (v / 2 ^ 32, v % 2 ^ 32), r.2)

/-- The stop of a stream outside the vat's range (R272). -/
def State.streamStop (s : State) (c : CoreId) (stream : Word) : Option Stop :=
  let v := (s.vatOf c).val
  let lo := s.cfgAt (ek 0x2044 (v + 1))
  stopIf (!decide (lo ≤ stream.toNat ∧ stream.toNat < lo + s.cfgAt (ek 0x2045 (v + 1)))) (0x0E08, [(s.wordOf c, 2), (stream.toNat, 4)])

end Sys2Proof.Machine
end

