-- ==== Sys2Proof/Machine/Flags.lean ====
section
/-! DEFINITION. Flag computations and the values they depend on: INT32 arithmetic that saturates or wraps with VSTAT WRAP
(R91), comparisons (Table 7-8, Table 7-14), the reduction tree (R95) and the reductions over it (R96 to R98). -/
namespace Sys2Proof.Machine

/-- An exact INT32 result saturated, or wrapped modulo 2^32 with whether it wrapped (R91). -/
def int32Result (sat : Bool) (x : Int) : Word × Bool :=
  let f : IFmt := ⟨32, true⟩
  if f.least ≤ x ∧ x ≤ f.greatest then (BitVec.ofNat 32 (f.code x), false)
  else if sat then (BitVec.ofNat 32 (f.code (if x < f.least then f.least else f.greatest)), false)
  else (BitVec.ofNat 32 (f.code x), true)

/-- FCMP predicates on FP32 (Table 7-8): a NaN makes every one false except unordered; 7 is reserved. -/
def fcmp (pred : Nat) (x y : FVal) : Bool :=
  let un := x == .nan || y == .nan
  match pred with
  | 0 => !un && x.eqv y
  | 1 => !un && !x.eqv y
  | 2 => !un && x.lt y
  | 3 => !un && (x.lt y || x.eqv y)
  | 4 => !un && y.lt x
  | 5 => !un && (y.lt x || x.eqv y)
  | 6 => un
  | _ => false

/-- BRC comparisons (Table 7-14); 6 and 7 are reserved. -/
def xcmp (pred : Nat) (a b : DWord) : Bool :=
  match pred with
  | 0 => a == b
  | 1 => a != b
  | 2 => a.slt b
  | 3 => !a.slt b
  | 4 => a.ult b
  | 5 => !a.ult b
  | _ => false

/-- One level of the reduction tree: neighbours combined and rounded (R95). -/
def treeLevel (op : FVal → FVal → FVal) : List FVal → List FVal
  | a :: b :: l => rne32v (op a b) :: treeLevel op l
  | l => l

/-- The fixed binary tree over 128 lanes, seven levels (R95). -/
def treeOf (op : FVal → FVal → FVal) (l : List FVal) : FVal :=
  ((treeLevel op (treeLevel op (treeLevel op (treeLevel op (treeLevel op (treeLevel op (treeLevel op l))))))).head?).getD .zero

/-- The tree sum of 128 lane values (R95). -/
def treeSum (l : List FVal) : FVal := treeOf FVal.add l

end Sys2Proof.Machine
end

