-- ==== Sys2Proof/Machine/Control.lean ====
section
/-! DEFINITION. CONTROL and PREEMPT (R141, R146, R147). -/
namespace Sys2Proof.Machine

/-- The stop of a reserved field value of a CONTROL operation (R134). -/
def ctlIllegal (s : State) (c : CoreId) (op field : Nat) : Stop := illegal (s.wordOf c) clsControl op field

/-- NOP: one issue cycle (R141). -/
def execNop (c : CoreId) (h : Hdr) (f : CtlF) (s : State) : Host.Outcome State Fault Refusal :=
  s.clocked (s.issue (.nop c h f) c h clsControl false fun s => s.advance c)

/-- A pre-emption interval ends at a point or at END (R147): its measured length, which no clock of the model gives, is a
free value, within 8,192 where EV-0x0703 has not been raised for it; U+8:03 keeps the longest. -/
def State.closeInterval (s : State) (c : CoreId) : State :=
  let f := s.free
  let k := s.cores[c]
  let n := if k.intervalRaised then k.interval + f.1 % (2 ^ 32 - min (2 ^ 32 - 1) k.interval) else f.1 % 8193
  let key := ek (unitObj (coreUnit c) 8) 3
  let s := f.2.setVol key (max (s.volAt key) (min n (2 ^ 32 - 1)))
  s.updCore c fun k => { k with interval := 0, intervalRaised := false, lastPoint := k.pc }

/-- The census summary of slot 15 (R220): bit 3 non-finite, 2 saturation, 1 empty row, 0 variance clamp. -/
def Census.summary (z : Census) : BitVec 4 :=
  let on (i : Fin 9) : Bool := z.q[i] != 0#64
  BitVec.ofNat 4 (b2n (on 2 || on 4) * 8 + b2n (on 3) * 4 + b2n (on 6) * 2 + b2n (on 7))

/-- END's effect: the summary of slot 15 into the launch, the core's part of it ended (R141, R220, R289). -/
def State.endCore (s : State) (c : CoreId) : State :=
  match s.cores[c].launch with
  | none => s
  | some slot =>
    let z := s.cores[c].census[15]
    ((s.closeInterval c).partOver c .ended fun l => { l with summary := l.summary ||| z.summary }).finishIfOver slot

/-- END: after every earlier instruction, tiles are released and the core's part of the launch ends (R141). -/
def execEndProgram (c : CoreId) (h : Hdr) (f : CtlF) (s : State) : Host.Outcome State Fault Refusal :=
  s.clocked (s.issue (.endProgram c h f) c h clsControl true fun s => s.endCore c)

/-- The stop of a branch taken beyond the last word loaded (R141). -/
def State.branchStop (s : State) (c : CoreId) (taken : Bool) (target : BitVec 13) : Option Stop :=
  stopIf (taken && decide (s.cores[c].loaded ≤ target.toNat)) (0x0702, [(s.wordOf c, 2), (target.toNat, 2)])

/-- The next word: the target of a taken branch, the following word otherwise. -/
def State.goto (s : State) (c : CoreId) (taken : Bool) (target : BitVec 13) : State :=
  s.updCore c fun k => { k with pc := if taken then target.toNat else k.pc + 1 }

/-- A branch: its checks, what else it writes, the next word. -/
def State.branch (s : State) (c : CoreId) (stops : List (Option Stop)) (taken : Bool) (target : BitVec 13)
    (eff : State → State) : State :=
  match firstStop (stops ++ [s.branchStop c taken target]) with
  | some e => s.stopProgram c e.1 e.2
  | none => (eff s).goto c taken target

/-- BR (R141). -/
def execBr (c : CoreId) (h : Hdr) (f : CtlF) (s : State) : Host.Outcome State Fault Refusal :=
  s.clocked (s.issue (.br c h f) c h clsControl false fun s => s.branch c [] true f.target id)

/-- The second operand of BRC and XALU: Xb, or the immediate where IMM is set (Table 7-14). -/
def State.second (s : State) (c : CoreId) (f : CtlF) : DWord := if f.useImm then f.imm else s.xr c f.xb

/-- BRC: branches when Xa compare Xb holds (R141). -/
def execBrc (c : CoreId) (h : Hdr) (f : CtlF) (s : State) : Host.Outcome State Fault Refusal :=
  s.clocked (s.issue (.brc c h f) c h clsControl false fun s =>
    s.branch c [stopIf (decide (5 < f.cmp.toNat)) (ctlIllegal s c 3 (atWord 1 9))]
      (xcmp f.cmp.toNat (s.xr c f.xa) (s.second c f)) f.target id)

/-- LOOP: Xa decremented, a branch while it is not zero (R141). -/
def execLoopX (c : CoreId) (h : Hdr) (f : CtlF) (s : State) : Host.Outcome State Fault Refusal :=
  s.clocked (s.issue (.loopX c h f) c h clsControl false fun s =>
    let v := s.xr c f.xa - 1#64
    s.branch c [] (v != 0#64) f.target fun s => s.setX c f.xa v)

/-- XALU operations (Table 7-14); a shift by 64 or more shifts every bit out. -/
def aluOp (op : Nat) (a b : DWord) : DWord :=
  match op with
  | 0 => a + b
  | 1 => a - b
  | 2 => a * b
  | 3 => a &&& b
  | 4 => a ||| b
  | 5 => a ^^^ b
  | 6 => if b.toNat < 64 then a <<< b.toNat else Config.wideShift 6 a b
  | 7 => if b.toNat < 64 then a >>> b.toNat else Config.wideShift 7 a b
  | 8 => if b.toNat < 64 then a.sshiftRight b.toNat else Config.wideShift 8 a b
  | 9 => if a.slt b then a else b
  | _ => if a.slt b then b else a

/-- XALU (R141). -/
def execXalu (c : CoreId) (h : Hdr) (f : CtlF) (s : State) : Host.Outcome State Fault Refusal :=
  s.clocked (s.issue (.xalu c h f) c h clsControl false fun s =>
    s.checked c [stopIf (decide (10 < f.alu.toNat)) (ctlIllegal s c 5 (atWord 1 13))] fun s =>
      s.setX c f.xd (aluOp f.alu.toNat (s.xr c f.xa) (s.second c f)))

/-- XIMM (R141). -/
def execXimm (c : CoreId) (h : Hdr) (f : CtlF) (s : State) : Host.Outcome State Fault Refusal :=
  s.clocked (s.issue (.ximm c h f) c h clsControl false fun s => (s.setX c f.xd f.imm).advance c)

/-- A descriptor image with word n replaced. -/
def setDWord (d : BitVec 512) (n : Fin 16) (w : Word) : BitVec 512 :=
  (d &&& ~~~((0xFFFFFFFF#512) <<< (32 * n.val))) ||| ((w.zeroExtend 512) <<< (32 * n.val))

/-- DSET: the low 32 bits of Xa into a descriptor word; the descriptor is checked again at its next use (R131, R141). -/
def execDset (c : CoreId) (h : Hdr) (f : CtlF) (s : State) : Host.Outcome State Fault Refusal :=
  s.clocked (s.issue (.dset c h f) c h clsControl false fun s =>
    (s.updCore c fun k => { k with
      d := k.d.set f.d (cleanDesc (setDWord k.d[f.d] f.word ((k.x[f.xa]).truncate 32)))
      checked := k.checked &&& ~~~(BitVec.twoPow 64 f.d) }).advance c)

/-- Whether a tile of a core is spilled. -/
def Core.spilledAny (k : Core) : Bool := k.tiles.toList.any fun t => match t with
  | .spilled .. => true
  | _ => false

/-- SPILLAREA: the low 16 bits of the immediate, once every earlier instruction has completed and no tile is spilled
(R141, Table 4-5). -/
def execSpillarea (c : CoreId) (h : Hdr) (f : CtlF) (s : State) : Host.Outcome State Fault Refusal :=
  s.clocked (s.issue (.spillarea c h f) c h clsControl true fun s =>
    s.checked c [stopIf s.cores[c].spilledAny (ctlIllegal s c 8 (atWord 3 0))] fun s =>
      s.updCore c fun k => { k with spillWord := f.imm.truncate 32 &&& 0xFFFF#32 })

/-- The beat stamp of the launch a core runs. -/
def State.stampOf (s : State) (c : CoreId) : Nat :=
  match s.cores[c].launch.bind s.launchAt with
  | some l => l.stamp
  | none => 0

/-- The value an XGET selector reads (Table 7-14): the logical core number, the launch's beat stamp, VSTAT, the lane mode
multiplier of U+9:04. -/
def State.xgetValue (s : State) (c : CoreId) (sel : Nat) : Nat :=
  match sel with
  | 0 => s.lq c
  | 1 => s.stampOf c
  | 2 => s.cores[c].vstat.toNat
  | _ => s.volAt (ek (unitObj (coreUnit c) 9) 4)

/-- XGET (R141); selectors above 3 are reserved. VSTAT is read once every earlier writer of it has completed (R143). -/
def execXget (c : CoreId) (h : Hdr) (f : CtlF) (s : State) : Host.Outcome State Fault Refusal :=
  s.clocked (if f.sel.toNat = 2 && s.writing c && s.executes c h then s.holdBack c (.xget c h f)
    else s.issue (.xget c h f) c h clsControl false fun s => s.checked c [stopIf (decide (3 < f.sel.toNat)) (ctlIllegal s c 9 (atWord 5 0))] fun s =>
      s.setX c f.xd (BitVec.ofNat 64 (s.xgetValue c f.sel.toNat)))

/-- PREEMPT: a pre-emption point (R146): with a request pending it waits for every earlier instruction, then the context
is saved with the next word. -/
def execPreempt (c : CoreId) (h : Hdr) (s : State) : Host.Outcome State Fault Refusal :=
  s.clocked (if s.cores[c].preReq && !s.quiet c && s.executes c h then s.holdBack c (.preempt c h)
    else s.issue (.preempt c h) c h clsPreempt false fun s =>
      let s := (s.closeInterval c).advance c
      s.reachPoint c s.cores[c].pc)

/-- The run-time interval count passes 8,192 without a point: EV-0x0703 and U+8:02 once for the interval (R147). -/
def execPreemptIntervalExceeded (c : CoreId) (cycles : Nat) (s : State) : Host.Outcome State Fault Refusal :=
  s.clocked (if cycles ≤ 8192 ∨ s.cores[c].run ≠ .running ∨ s.cores[c].intervalRaised then s
    else
      let u := unitObj (coreUnit c) 8
      let s := (s.updCore c fun k => { k with intervalRaised := true, interval := cycles }).count (ek u 2) 1 0x0406 (corePath c) [(2, 2)]
      s.raise 0x0703 (corePath c) [(s.cores[c].lastPoint, 2), (cycles, 4)])

end Sys2Proof.Machine
end

