-- ==== Sys2Proof/Machine/Sync.lean ====
section
/-! DEFINITION. SYNC (R144, R261, R262, R264): local and remote signals, retries, waits and fences. -/
namespace Sys2Proof.Machine

/-- A statistic of 0x8400 raised (R277). -/
def State.countStat (s : State) (sub : Nat) : State := s.count (ek 0x8400 sub) 1 0x0E07 0x6000 [(sub, 2)]

/-- The illegal fields of SIGNAL and WAIT (R134): a reserved target, a count of zero. -/
def State.syncStops (s : State) (c : CoreId) (op : Nat) (f : SyncF) : List (Option Stop) :=
  let w := s.wordOf c
  [ stopIf (f.target == 3#2) (illegal w clsSync op (atWord 1 13)),
    stopIf (f.count == 0#32) (illegal w clsSync op (atWord 2 0)) ]

/-- The rennet fault (R261): reasons in the order 2, 1, 3. -/
def State.rennetStop (s : State) (c : CoreId) (f : SyncF) : Option Stop :=
  let n := f.rennet.toNat
  let r := s.rennet n
  let e (why : Nat) : Stop := (0x0E03, [(s.wordOf c, 2), (n, 2), (why, 1)])
  firstStop [
    stopIf (!s.rennetIn (s.vatOf c) n) (e 2),
    stopIf (r.max == 0) (e 1),
    stopIf (decide (r.max < f.count.toNat)) (e 3)]

/-- Every earlier write of a core is visible (R144, R221). -/
def State.fenceCore (s : State) (c : CoreId) : State :=
  (s.applyFolds c).updCore c fun k => { k with unfenced := [] }

/-- The first refusal of a local signal reported: EV-0x0E01 and 0x8400:01 (R261). -/
def State.signalRefused (s : State) (path n : Nat) : State :=
  (s.raise 0x0E01 path [(n, 2), ((s.rennet n).count, 4), ((s.rennet n).max, 4), (0, 4)]).countStat 1

/-- A local signal of a source: tokens added where they fit, otherwise refused and kept for its retries, with EV-0x0E01 and
0x8400:01 once (R261); while the rennet's die is HELD or LOADING it waits and is not refused (Table 22-7). -/
def State.signalLocal (s : State) (src : SignalFrom) (path n k : Nat) : State :=
  let r := s.rennet n
  if s.rennetAway n then { s with retries := s.retries ++ [(⟨n, k, src, false⟩ : Retry)] }
  else if r.accepts k then s.addTokens n k
  else ({ s with retries := s.retries ++ [(⟨n, k, src, true⟩ : Retry)] } : State).signalRefused path n

/-- The peer a SIGNAL names. -/
def syncPeer (f : SyncF) : Peer := if f.target = 1#2 then .twin else .fabric f.peer

/-- What is kept for a peer, if it is bound. -/
def State.peer (s : State) (p : Peer) : Option PeerRec := s.peers.find? fun r => r.peer == p

/-- What is kept for a peer, changed. -/
def State.updPeer (s : State) (p : Peer) (f : PeerRec → PeerRec) : State :=
  { s with peers := s.peers.map fun r => if r.peer = p then f r else r }

/-- The number of a peer in messages sent: 0 the twin, otherwise its package identifier and one. -/
def peerCode : Peer → Nat
  | .twin => 0
  | .fabric w => w.toNat + 1

/-- The bound binding of a local vat to a fabric peer (R264, R343). -/
def State.bindFor (s : State) (pkg : Word) (v : VatNo) : Option Nat :=
  (s.bindingsIn 1).find? fun b => s.bindPeer b == pkg.toNat && s.bindVat b == v.val

/-- The binding that carries a local vat's signals to a fabric peer, bound or reconciling: what is sent on one that reconciles leaves once it is
bound again (R266). -/
def State.carrier (s : State) (pkg : Word) (v : VatNo) : Option Nat :=
  (s.bindingsIn 1 ++ s.bindingsIn 2).find? fun b => s.bindPeer b == pkg.toNat && s.bindVat b == v.val

/-- A signal's payload in a type-4 segment: its own sequence, vat and rennet, count (R345, DESIGN CHOICE, assumption 25). -/
def signalPayload (seq count : Word) (v : VatNo) (rennet : Nat) : List Byte :=
  wordsLE [seq, BitVec.ofNat 32 (v.val * 2 ^ 16 + rennet), count]

/-- A remote signal message sent with its source package (R264): on the twin link while it is up, or in a type-4 segment of the vat's binding; one
that cannot leave stays in transit until the peers reconcile (R266). -/
def State.sendSignal (s : State) (p : Peer) (g : SentSignal) : State :=
  match p with
  | .twin => if s.volAt (ek 0xC010 3) = 2 then s.sendTwin 2 ⟨.twin, 4, [s.cfgAt (ek 0xC000 1), g.seq.toNat, g.vat.val, g.rennet, g.count], []⟩ else s
  | .fabric w =>
    match s.carrier w g.vat with
    | some b => s.psigerSend b 4 2 0 0 (signalPayload g.seq (BitVec.ofNat 32 g.count) g.vat g.rennet)
    | none => s

/-- A remote signal takes the next sequence of its peer, is held in transit and sent (R264). -/
def State.signalRemote (s : State) (p : Peer) (v : VatNo) (n k : Nat) : State :=
  match s.peer p with
  | none => s
  | some r =>
    let g : SentSignal := ⟨r.nextSeq, n, k, v, false, false⟩
    ((s.updPeer p fun r => { r with nextSeq := r.nextSeq + 1, sent := r.sent ++ [g], free := r.free - 1 }).sendSignal p g).countStat 2

/-- Whether a remote signal of a vat can be queued: its peer is bound, not reconciling, and has room among the 1,024 it can leave
unacknowledged, less those lost (R264, R266, R267). -/
def State.peerRoom (s : State) (p : Peer) (v : VatNo) : Bool :=
  let bound := match p with
    | .twin => true
    | .fabric w => (s.bindFor w v).isSome
  match s.peer p with
  | some r => bound && !r.reconciling && decide (0 < r.free)
  | none => false

/-- A remote signal of the hub: sent, or behind those that wait for room (R264). -/
def State.hubSignal (s : State) (p : Peer) (v : VatNo) (n k : Nat) : State :=
  match s.peer p with
  | none => s
  | some r =>
    if r.queued.isEmpty && s.peerRoom p v then s.signalRemote p v n k
    else s.updPeer p fun r => { r with queued := r.queued ++ [(v, n, k)] }

/-- The hub's signals to a peer that wait for room, sent as far as there is room. -/
def State.sendQueued (s : State) (p : Peer) : State :=
  let q := ((s.peer p).map PeerRec.queued).getD []
  (q.foldl (fun (a : State × Bool) g =>
    if a.2 && a.1.peerRoom p g.1 then
      (((a.1.updPeer p fun r => { r with queued := r.queued.drop 1 }).signalRemote p g.1 g.2.1 g.2.2), true)
    else (a.1, false)) (s, true)).1

/-- Whether a SIGNAL is to a peer. -/
def remoteSync (f : SyncF) : Bool := f.target == 1#2 || f.target == 2#2

/-- The effect of a SIGNAL (R144, R261, R264): with F set after every earlier write. -/
def State.signalEffect (s : State) (c : CoreId) (f : SyncF) : State :=
  let s := if f.f then s.fenceCore c else s
  if remoteSync f then s.signalRemote (syncPeer f) (s.vatOf c) f.rennet.toNat f.count.toNat
  else s.signalLocal (.core c) (corePath c) f.rennet.toNat f.count.toNat

/-- A WAIT starts: it joins its rennet's queue (R262). With P set it is a pre-emption point while it waits (R146), which closes the
interval at its word (R147). -/
def State.startWait (s : State) (c : CoreId) (f : SyncF) (word : Nat) : State :=
  let n := f.rennet.toNat
  let s := { s with waitQ := s.waitQ ++ [(n, c)] }
  let s := s.updCore c fun k => { k with wait := some ⟨n, f.count.toNat, f.f, f.p, word⟩ }
  if s.waitsAtPoint c then (((s.closeInterval c).updCore c fun k => { k with lastPoint := word })).recheckPoint c else s

/-- Whether the synchronisation unit of a core can start a SYNC (R144, R264, Table 7-17): no WAIT is outstanding and no signal retried;
FENCE and a SIGNAL with F start once earlier writes are complete; a SIGNAL to a peer starts with room for it. -/
def State.syncStarts (s : State) (c : CoreId) (op : Fin 3) (f : SyncF) : Bool :=
  s.cores[c].wait.isNone && !s.retrying c && match op with
    | 0 => (!f.f || !s.writing c) && (!remoteSync f || s.peerRoom (syncPeer f) (s.vatOf c))
    | 1 => true
    | 2 => !s.writing c

/-- What a SYNC does once its unit starts it. -/
def State.syncDo (s : State) (c : CoreId) (q : SyncItem) : State :=
  match q.op with
  | 0 => s.signalEffect c q.f
  | 1 => s.startWait c q.f q.word
  | 2 => s.fenceCore c

/-- The queue of the synchronisation unit served in order while its head can start (R142, Table 7-17). -/
def State.serveSync (s : State) (c : CoreId) : Nat → State
  | 0 => s
  | fuel + 1 => match s.cores[c].syncQ with
    | [] => s
    | q :: rest =>
      if s.syncStarts c q.op q.f then ((s.updCore c fun k => { k with syncQ := rest }).syncDo c q).serveSync c fuel else s

/-- A SYNC that issues at a word: its effect now where its unit is free and can start it, else it joins the unit's queue (Table 7-17). -/
def State.syncOrQueue (s : State) (c : CoreId) (op : Fin 3) (f : SyncF) (word : Nat) : State :=
  if s.cores[c].syncQ.isEmpty && s.syncStarts c op f then s.syncDo c ⟨op, f, word⟩
  else s.updCore c fun k => { k with syncQ := k.syncQ ++ [⟨op, f, word⟩] }

/-- SIGNAL (R144, R261, R264). -/
def execSignalRennet (c : CoreId) (h : Hdr) (f : SyncF) (s : State) : Host.Outcome State Fault Refusal :=
  s.clocked (s.issue (.signalRennet c h f) c h clsSync false fun s =>
    s.checked c (s.syncStops c 0 f ++ [if remoteSync f then none else s.rennetStop c f]) fun s => s.syncOrQueue c 0 f (s.wordOf c))

/-- The path of a source's signals. -/
def State.sourcePath (s : State) : SignalFrom → Nat
  | .core c => corePath c
  | .codec e => 0x300C + e.val / 2
  | .pipe n =>
    let p := s.pipes[n]
    if p.consHub then 0x3000 + p.cons
    else if h : p.cons < 48 then match s.physOf ⟨p.cons, h⟩ with
      | some c => corePath c
      | none => 0x6000
    else 0x6000

/-- A waiting signal of a source tried again (R261); one that waited for its rennet's die and is refused for the first time is reported. -/
def State.retry (s : State) (src : SignalFrom) : State :=
  match s.retries.find? fun r => r.src == src with
  | some r =>
    if s.rennetAway r.rennet then s
    else if (s.rennet r.rennet).accepts r.count then
      ({ s with retries := s.retries.erase r } : State).addTokens r.rennet r.count
    else if r.told then s
    else ({ s with retries := s.retries.map fun q => if q = r then { q with told := true } else q } : State).signalRefused
      (s.sourcePath src) r.rennet
  | none => s

/-- SIGNAL_RETRY: every 64 cycles until accepted (R261). -/
def execSignalRetry (c : CoreId) (s : State) : Host.Outcome State Fault Refusal := s.clocked (s.retry (.core c))

/-- WAIT (R261, R262): the next word issues behind it. -/
def execWaitRennet (c : CoreId) (h : Hdr) (f : SyncF) (s : State) : Host.Outcome State Fault Refusal :=
  s.clocked (s.issue (.waitRennet c h f) c h clsSync false fun s =>
      match firstStop (s.syncStops c 1 f ++ [s.rennetStop c f]) with
      | some e => s.stopProgram c e.1 e.2
      | none => (s.advance c).syncOrQueue c 1 f (s.wordOf c))

/-- WAIT_SATISFIED: the head waiter consumes its threshold while the count covers it, and so the next (R262). -/
def execWaitSatisfied (n : Fin 65536) (s : State) : Host.Outcome State Fault Refusal :=
  s.clocked (State.serveQueue (s.waitQ.length + 1) s n)

/-- FENCE (R144): once every pipe byte has left the core's hands, every earlier write is visible. -/
def execFence (c : CoreId) (h : Hdr) (f : SyncF) (s : State) : Host.Outcome State Fault Refusal :=
  s.clocked (s.issue (.fence c h f) c h clsSync false fun s => (s.syncOrQueue c 2 f (s.wordOf c)).advance c)

end Sys2Proof.Machine
end

