-- ==== Sys2Proof/Machine/Intake.lean ====
section
/-! DEFINITION. The command apertures (R282 to R284): TLPs and IDE (R333), assembly buffers, taking, dropping and refusing
commands. -/
namespace Sys2Proof.Machine

/-- Whether a TLP of a function is accepted (R333): it came in a stream in the secure state, or outside IDE where IDE is not required; the TLPs of a
stream that an integrity failure took out of the secure state are not. -/
def State.ideOk (s : State) (fn : FnNo) (secure : Bool) : Bool :=
  if secure then s.funcs[fn].secure || (s.cfgAt (ek 0x1100 6) == 0 && !s.funcs[fn].ideHold) else s.cfgAt (ek 0x1100 6) == 0

/-- A TLP discarded: where IDE is required, EV-0x1103 once per function per beat (R333). -/
def State.discardTlp (s : State) (fn : FnNo) (bar : Nat) : State :=
  if s.cfgAt (ek 0x1100 6) = 0 ∨ s.host.tlpBeat.contains fn.val then s
  else ({ s with host := { s.host with tlpBeat := s.host.tlpBeat ++ [fn.val] } } : State).raise 0x1103 0x3000 [(fn.val, 1), (bar, 1)]

/-- A host port statistic raised (R335). -/
def State.countHost (s : State) (sub n : Nat) : State := s.count (ek 0x8700 sub) n 0x1105 0x3000 [(sub, 2)]

/-- Whether a BAR of a function has its place on the bus (R324, R334): 0, 1 and 2 for BAR0, BAR2 and BAR4. -/
def State.barOn (s : State) (fn : FnNo) (k : Fin 3) : Bool := (if fn = 0 then s.host.bars else s.host.vfBars)[k].isSome

/-- Where a frame write's bytes lie in its function's assembly buffers. -/
def frameKey (w : FrameWrite) : Nat := w.vat.val * 2 ^ 22 + w.frame * 512

/-- Whether a frame write, of at most one payload, lies in an aperture of an existing function whose BAR2 is assigned (R324, Table 17-1). -/
def State.frameOk (s : State) (w : FrameWrite) : Bool :=
  s.fnExists w.fn && s.barOn w.fn 1 && (w.fn == 0 || w.fn.val == w.vat.val + 1)
    && decide (w.off < 512 ∧ w.data.length ≤ 512 ∧ w.frame * 512 + w.off + w.data.length ≤ 2 ^ 22)

/-- Whether a write crosses a frame boundary; it is split there (R327). -/
def crosses (w : FrameWrite) : Bool := decide (512 < w.off + w.data.length)

/-- The part of a write in its own frame. -/
def firstPart (w : FrameWrite) : FrameWrite := { w with data := w.data.take (512 - w.off) }

/-- The last part of a write: the one in the next frame where it crosses a boundary, else the whole. A part before it never covers
bytes 0 to 3 of its frame. -/
def lastPart (w : FrameWrite) : FrameWrite :=
  if crosses w then { w with frame := w.frame + 1, off := 0, data := w.data.drop (512 - w.off) } else w

/-- Whether a write covers bytes 0 to 3 of its frame (R282). -/
def frameCovers (w : FrameWrite) : Bool := w.off == 0 && decide (4 ≤ w.data.length)

/-- Bytes accumulated in a frame's assembly buffer (R282). -/
def State.frameStore (s : State) (w : FrameWrite) : State :=
  s.updFunc w.fn fun g => { g with
    frames := w.data.zipIdx.foldl (fun m p => Sparse.set 0#8 m (frameKey w + w.off + p.2) p.1) g.frames }

/-- The parts of a write before its last, accumulated (R327). -/
def State.frameBody (s : State) (w : FrameWrite) : State := if crosses w then s.frameStore (firstPart w) else s

/-- A frame's assembly buffer cleared (R282). -/
def State.frameClear (s : State) (w : FrameWrite) : State :=
  s.updFunc w.fn fun g => { g with
    frames := g.frames.filter fun p => decide (p.1 < frameKey w ∨ frameKey w + 512 ≤ p.1) }

/-- Word n of a command. -/
def Cmd.word (c : Cmd) (n : Nat) : Nat := leNat ((c.bytes.drop (4 * n)).take 4)

/-- A field of a word of a command. -/
def Cmd.field (c : Cmd) (n hi lo : Nat) : Nat := c.word n / 2 ^ lo % 2 ^ (hi - lo + 1)

/-- A 64-bit value in words n and n + 1, low word first. -/
def Cmd.pair (c : Cmd) (n : Nat) : Nat := c.word n + 2 ^ 32 * c.word (n + 1)

/-- The command code and the result slot (R284). -/
def Cmd.code (c : Cmd) : Nat := c.field 0 31 24
/-- The result slot of a command. -/
def Cmd.slot (c : Cmd) : Nat := c.field 0 23 12

/-- Why a command is refused: the reason of Table 15-5 and the event of the target's own rule, if it has one. -/
structure Refused where
  reason : Nat
  own : Option (Nat × Nat × List (Nat × Nat))
  deriving DecidableEq, Repr

/-- A refusal by reason alone. -/
def refuse {α : Type} (reason : Nat) : Except Refused α := .error ⟨reason, none⟩

/-- The first refusal of a list of checks, otherwise the effect. -/
def checkAll {α : Type} (l : List (Bool × Nat)) (k : Except Refused α) : Except Refused α :=
  match l.find? fun p => p.1 with
  | some p => refuse p.2
  | none => k

/-- Whether a result slot lies in a vat's range (R279). -/
def State.slotIn (s : State) (v : VatNo) (r : Nat) : Bool :=
  let lo := s.cfgAt (ek 0x2024 (v.val + 1))
  decide (lo ≤ r ∧ r < lo + s.cfgAt (ek 0x2025 (v.val + 1)))

/-- Whether a vat is running (R281). -/
def State.vatRunning (s : State) (v : VatNo) : Bool := s.volAt (ek 0x2029 (v.val + 1)) == 1

/-- The commands a stopped vat takes (R281). -/
def whileStopped (code : Nat) : Bool := [0x03, 0x06, 0x08, 0x09, 0x0A, 0x0B, 0x0C].contains code

/-- A taken command refused: the target's own event, EV-0x0F01, its slot REFUSED (R284). -/
def State.refuseCmd (s : State) (c : Cmd) (r : Refused) : State :=
  let s := match r.own with
    | some e => s.raise e.1 e.2.1 e.2.2
    | none => s
  let s := (s.raiseVat c.vat 0x0F01 0x5000 [(c.vat.val, 1), (c.frame, 2), (c.code, 1), (r.reason, 1)]).countVat c.vat 2
  s.slotFinal c.fn c.slot { Final.plain 7 c.code r.reason with event := match r.own with | some e => e.1 | none => 0x0F01 }

/-- A whole command at the hub: dropped where its slot is not the vat's or not RELEASED, otherwise taken, checked, and
its effect run (R284, R292). -/
def State.takeCmd (s : State) (c : Cmd) (eff : State → Cmd → Except Refused State) : State :=
  if !s.slotIn c.vat c.slot || (s.rslot c.slot).state != 0 then
    (s.raiseVat c.vat 0x0F02 0x5000 [(c.vat.val, 1), (c.frame, 2), (c.code, 1), (c.slot, 2)]).countVat c.vat 3
  else
    let s := (s.countVat c.vat 1).slotPending c.slot c.code
    if !s.vatRunning c.vat && !whileStopped c.code then s.refuseCmd c ⟨7, none⟩
    else match eff s c with
      | .ok s' => s'
      | .error r => s.refuseCmd c r

/-- Whether the package takes no command: its host port or hub die is HELD or LOADING (Table 22-7). -/
def State.takesNone (s : State) : Bool := s.away 260 || s.away 280

/-- A command of one row: a frame write whose last part completes a command the row's test names. Other frame writes are other rows'
and leave the state as it is (DESIGN CHOICE, assumption 5). A whole command that arrives while none is taken waits, and those behind it
(Table 22-7). -/
def State.command (s : State) (w : FrameWrite) (mine : Cmd → Bool) (eff : State → Cmd → Except Refused State) : State :=
  if !s.frameOk w then s
  else if !s.ideOk w.fn w.secure then s.discardTlp w.fn 2
  else if !frameCovers (lastPart w) then s
  else
    let t := (s.frameBody w).frameStore (lastPart w)
    let c : Cmd := ⟨w.fn, w.vat, (lastPart w).frame,
      (List.range 512).map fun i => Sparse.get 0#8 (t.funcs[w.fn]).frames (frameKey (lastPart w) + i)⟩
    if !mine c then s
    else
      let t := t.frameClear (lastPart w)
      if t.takesNone || !t.host.waiting.isEmpty then { t with host := { t.host with waiting := t.host.waiting ++ [c] } }
      else t.takeCmd c eff

/-- A command completed DONE at once. -/
def State.doneCmd (s : State) (c : Cmd) : State := s.slotFinal c.fn c.slot (Final.plain 2 c.code 0)

end Sys2Proof.Machine
end

