-- ==== Sys2Proof/Machine/Context.lean ====
section
/-! DEFINITION. Context images (Tables 15-7, 15-8, 15-12): what a saved core leaves in HBM and what a restore takes. -/
namespace Sys2Proof.Machine

/-- Bytes of a context image. -/
abbrev imageSize : Nat := 0x12C8000

/-- Zero bytes. -/
def zeros (n : Nat) : List Byte := List.replicate n 0#8

/-- Bytes padded with zeros to a length. -/
def padTo (n : Nat) (l : List Byte) : List Byte := (l ++ zeros (n - l.length)).take n

/-- The image of an expansion table (R140). -/
def ExpTable.image (t : ExpTable) : List Byte := t.entries.toList.flatMap (fun e => leBytes e.toNat 2) ++ [t.target] ++ zeros 31

/-- The image of a custom table (R117). -/
def customImage (t : CustomTable) : List Byte :=
  leBytes t.lo.toNat 4 ++ leBytes t.hi.toNat 4 ++ t.knots.toList.flatMap (fun k => leBytes k.toNat 4) ++ zeros 4

/-- The record of a logical tile (Table 15-12). -/
def Core.tileRecord (k : Core) (t : TileNo) : List Byte :=
  let w := match k.tiles[t] with
    | .unbound => 0xFF * 2 ^ 8
    | .bound n =>
      let v := k.slots[n]
      (arrayBits fun a => v.arr[a].ovf).toNat * 2 ^ 28 + (arrayBits fun a => v.arr[a].poison).toNat * 2 ^ 24
        + k.recency.idxOf t % 256 * 2 ^ 8 + 1
    | .spilled f p o _ _ => o.toNat * 2 ^ 28 + p.toNat * 2 ^ 24 + f % 256 * 2 ^ 16 + 0xFF * 2 ^ 8 + 2
  leBytes w 4 ++ zeros 12

/-- A bound tile's accumulators, array by array, row by row, five bytes each (R84). -/
def Tile.image (t : Tile) : List Byte := t.arr.toList.flatMap fun p => p.vals.toList.flatMap fun v => leBytes v.toNat 5

/-- The bound tiles in increasing number, zero after the last. -/
def Core.tileArea (k : Core) : List Byte :=
  padTo 2621440 ((List.finRange 16).flatMap fun t => match k.tiles[t] with
    | .bound n => k.slots[n].image
    | _ => [])

/-- A census slot's record as an image holds it: Q10 names the saving core and the slot (R217). -/
def Census.image (z : Census) (core slot : Nat) : List Byte :=
  z.q.toList.flatMap (fun w => leBytes w.toNat 8) ++ leBytes z.cenMax.toNat 4 ++ leBytes z.convMax.toNat 4
    ++ leBytes (core * 2 ^ 32 + slot) 8 ++ zeros 40

/-- Bytes 4,096 to 0x3FFF of an image. -/
def Core.imageSmall (k : Core) (q : Nat) : List Byte :=
  padTo 0x100 (k.x.toList.flatMap fun x => leBytes x.toNat 8)
    ++ padTo 0x1000 (k.d.toList.flatMap fun d => leBytes d.toNat 64)
    ++ padTo 0x80 ((List.finRange 8).flatMap fun m => leBytes (k.mask m).toNat 16)
    ++ padTo 0x200 (k.v.toList.flatMap fun v => leBytes (bitsOf fun i => (vget Lane.zero v i).poison).toNat 16)
    ++ padTo 0x200 (k.exps.toList.flatMap ExpTable.image)
    ++ padTo 0x880 (k.custs.toList.flatMap customImage)
    ++ padTo 0x20 (k.expVer.toList.flatMap (fun v => leBytes v.toNat 2) ++ k.custVer.toList.flatMap (fun v => leBytes v.toNat 2))
    ++ padTo 0x1E0 (k.attach.toList.map fun a => match a with
        | some z => BitVec.ofNat 8 (128 + z.val)
        | none => 0#8)
    ++ padTo 0x800 ((List.finRange 16).flatMap fun z => k.census[z].image q z)
    ++ padTo 0x400 (k.lfsr.toList.flatMap fun w => leBytes w.toNat 8)
    ++ padTo 0x400 ((List.finRange 16).flatMap k.tileRecord)

/-- Bytes 4,096 onward of an image (Table 15-7). -/
def Core.imageBody (k : Core) (q : Nat) : List Byte :=
  k.imageSmall q
    ++ padTo 0x4000 (k.v.toList.flatMap fun v => v.toList.flatMap fun l => leBytes l.val.toNat 4)
    ++ padTo 0x40000 ((List.range 8192).flatMap fun w => leBytes (Sparse.get 0#256 k.prog w).toNat 32)
    ++ k.tileArea
    ++ (List.range (2 ^ 24)).map fun a => (k.buf.read a).1

/-- The header of an image (Table 15-8). -/
def imageHeader (pipe : Bool) (vat q : Nat) (l : Launch) (k : Core) (cycles tag : Nat) (body : List Byte) : List Byte :=
  padTo 4096 (leBytes 0x4B435458 4 ++ leBytes 1 4 ++ leBytes imageSize 4
    ++ leBytes (b2n pipe * 2 ^ 31 + vat * 2 ^ 16 + q * 2 ^ 8 + 0xB0) 4
    ++ leBytes l.seed.toNat 8 ++ leBytes l.stamp 8 ++ leBytes (k.pc % 8192) 4 ++ leBytes k.vstat.toNat 4
    ++ leBytes k.spillWord.toNat 4 ++ leBytes cycles 6 ++ zeros 2 ++ leBytes tag 4 ++ zeros 8 ++ sha512 body)

/-- The program tag of a core, U+13:01. -/
def State.tagOf (s : State) (c : CoreId) : Nat := s.volAt (ek (unitObj (coreUnit c) 13) 1)

/-- Whether a core is a named end of an open pipe. -/
def State.pipeEnd (s : State) (v : VatNo) (q : Nat) : Bool :=
  s.pipes.toList.any fun p => p.state == 1 && p.vat == v && ((!p.prodHub && p.prod == q) || (!p.consHub && p.cons == q))

/-- A core's image written to HBM for its launch's vat, poisoned words of the buffer as poison (R299, R235). -/
def State.writeImage (s : State) (l : Launch) (c : CoreId) (idx : Nat) : State :=
  let k := s.cores[c]
  let q := l.qOf c
  let cyc := match l.cores.find? fun e => e.phys == some c with
    | some e => e.cycles
    | none => 0
  let body := k.imageBody q
  let base := l.ctxBase + idx * imageSize
  let s := s.agentWrite l.vat base (imageHeader (s.pipeEnd l.vat q) l.vat q l k cyc (s.tagOf c) body ++ body) 2
  if s.inRegions l.vat base imageSize then
    let s := k.progBad.foldl (fun s w => s.poisonHbm (base + 0x8000 + 32 * w) 32) s
    (k.buf.marks.filter fun m => decide (2 ≤ m.2)).foldl (fun s m => s.poisonHbm (base + 0x2C8000 + 16 * m.1) 16) s
  else s

/-- A number at an offset of an image. -/
def imageNat (rd : Nat → Byte × Bool) (o n : Nat) : Nat := leNat ((List.range n).map fun i => (rd (o + i)).1)

/-- The reason a header is refused, 0 none (R300). -/
def headerReason (rd : Nat → Byte × Bool) (vat q : Nat) : Nat :=
  let h (i : Nat) : Nat := imageNat rd (4 * i) 4
  if h 1 % 2 ^ 16 ≠ 1 then 8
  else if h 0 ≠ 0x4B435458 ∨ h 2 ≠ imageSize then 9
  else if h 3 / 2 ^ 31 = 1 ∧ (h 3 / 2 ^ 8 % 2 ^ 8 ≠ q ∨ h 3 / 2 ^ 16 % 16 ≠ vat) then 11
  else 0

/-- Whether an image's digest holds: the stored bytes match it, and nothing outside the core buffer is poisoned (R300). -/
def digestOk (rd : Nat → Byte × Bool) : Bool :=
  sha512 ((List.range (imageSize - 4096)).map fun i => (rd (4096 + i)).1) == (List.range 64).map (fun i => (rd (64 + i)).1)
    && !(List.range 0x2C8000).any fun i => (rd i).2

/-- The tile records of an image in recency order: each bound tile with its rank. -/
def imageRecency (rd : Nat → Byte × Bool) : List TileNo :=
  let rec_ (t : TileNo) : Nat := imageNat rd (0x3C00 + 16 * t.val) 4
  let bound := (List.finRange 16).filter fun t => rec_ t % 256 == 1
  (List.range 256).flatMap fun r => bound.filter fun t => rec_ t / 2 ^ 8 % 256 == r

/-- The slots a restore gives bound tiles: increasing numbers take slots from 0. -/
def boundSlot (rd : Nat → Byte × Bool) (t : TileNo) : Nat :=
  ((List.finRange 16).filter fun u => decide (u < t) && imageNat rd (0x3C00 + 16 * u.val) 4 % 256 == 1).length

/-- The coarse scales of a restored tile: no part of an image, so each is taken from a free value (DESIGN CHOICE, assumption 16). -/
def imageScale (free : Nat) (t : TileNo) (w : Nat) : Word := BitVec.ofNat 32 (free / 2 ^ (64 * t.val + 32 * w))

/-- Where a tile is after a restore. -/
def imageTile (free : Nat) (rd : Nat → Byte × Bool) (t : TileNo) : TileLoc :=
  let w := imageNat rd (0x3C00 + 16 * t.val) 4
  match w % 256 with
  | 1 => .bound ⟨boundSlot rd t % 8, Nat.mod_lt _ (by decide)⟩
  | 2 => .spilled (w / 2 ^ 16 % 256) (BitVec.ofNat 4 (w / 2 ^ 24)) (BitVec.ofNat 4 (w / 2 ^ 28))
      (imageScale free t 0) (imageScale free t 1)
  | _ => .unbound

/-- The slot contents of an image. -/
def imageSlot (free : Nat) (rd : Nat → Byte × Bool) (n : Fin 8) : Tile :=
  match (List.finRange 16).find? fun t => imageTile free rd t == .bound n with
  | none => Tile.zero
  | some t =>
    let w := BitVec.ofNat 32 (imageNat rd (0x3C00 + 16 * t.val) 4)
    let base := 0x48000 + n.val * 327680
    ⟨Vector.ofFn fun a => ⟨Vector.ofFn fun i => BitVec.ofNat 40 (imageNat rd (base + a.val * 81920 + 5 * i.val) 5 % 2 ^ 39),
      w.getLsbD (24 + a.val), w.getLsbD (28 + a.val)⟩, imageScale free t 0, imageScale free t 1⟩

/-- A census slot of an image: counts and maxima only (R217). -/
def imageCensus (rd : Nat → Byte × Bool) (z : Fin 16) : Census where
  q := Vector.ofFn fun i => BitVec.ofNat 64 (imageNat rd (0x3000 + 128 * z.val + 8 * i.val) 8)
  cenMax := BitVec.ofNat 32 (imageNat rd (0x3000 + 128 * z.val + 72) 4)
  convMax := BitVec.ofNat 32 (imageNat rd (0x3000 + 128 * z.val + 76) 4)

/-- The core buffer of an image, its poison kept (R235). -/
def imageBuffer (rd : Nat → Byte × Bool) : Mem where
  bytes := (List.range (2 ^ 24)).filterMap fun a => let b := (rd (0x2C8000 + a)).1; if b = 0#8 then none else some (a, b)
  marks := (List.range (2 ^ 20)).filterMap fun w => if (rd (0x2C8000 + 16 * w)).2 then some (w, 3) else none

/-- A core loaded from its image (Table 15-7), reserved bits of registers and program words zero (R3); a restored descriptor is checked at its first use (R300). -/
def Core.load (k : Core) (free : Nat) (rd : Nat → Byte × Bool) : Core :=
  { k with
    prog := (List.range 8192).filterMap fun w =>
      let v := cleanWord (BitVec.ofNat 256 (imageNat rd (0x8000 + 32 * w) 32))
      if v = 0#256 then none else some (w, v)
    progBad := []
    loaded := 8192
    pc := imageNat rd 32 4 % 8192
    x := Vector.ofFn fun i => BitVec.ofNat 64 (imageNat rd (0x1000 + 8 * i.val) 8)
    d := Vector.ofFn fun i => cleanDesc (BitVec.ofNat 512 (imageNat rd (0x1100 + 64 * i.val) 64))
    checked := 0#64
    m := Vector.ofFn fun i => BitVec.ofNat 128 (imageNat rd (0x2100 + 16 * i.val) 16)
    v := Vector.ofFn fun i => Vector.ofFn fun j =>
      ⟨BitVec.ofNat 32 (imageNat rd (0x4000 + 512 * i.val + 4 * j.val) 4),
        (BitVec.ofNat 128 (imageNat rd (0x2180 + 16 * i.val) 16)).getLsbD j⟩
    exps := Vector.ofFn fun i =>
      ⟨Vector.ofFn fun j => BitVec.ofNat 16 (imageNat rd (0x2380 + 64 * i.val + 2 * j.val) 2), (rd (0x2380 + 64 * i.val + 32)).1⟩
    expShadow := Vector.replicate 8 none
    custs := Vector.ofFn fun i =>
      let o := 0x2580 + 272 * i.val
      let lo := BitVec.ofNat 32 (imageNat rd o 4)
      let hi := BitVec.ofNat 32 (imageNat rd (o + 4) 4)
      ⟨lo, hi, rne32 ((FVal.fin false 64 0).div ((f32 hi).sub (f32 lo))),
        Vector.ofFn fun j => BitVec.ofNat 32 (imageNat rd (o + 8 + 4 * j.val) 4)⟩
    custShadow := Vector.replicate 8 none
    expVer := Vector.ofFn fun i => BitVec.ofNat 16 (imageNat rd (0x2E00 + 2 * i.val) 2)
    custVer := Vector.ofFn fun i => BitVec.ofNat 16 (imageNat rd (0x2E10 + 2 * i.val) 2)
    attach := Vector.ofFn fun i =>
      let b := (rd (0x2E20 + i.val)).1
      if b.getLsbD 7 then some ⟨b.toNat % 16, Nat.mod_lt _ (by decide)⟩ else none
    census := Vector.ofFn (imageCensus rd)
    lfsr := Vector.ofFn fun i => BitVec.ofNat 64 (imageNat rd (0x3800 + 8 * i.val) 8)
    tiles := Vector.ofFn (imageTile free rd)
    slots := Vector.ofFn (imageSlot free rd)
    recency := imageRecency rd
    vstat := BitVec.ofNat 32 (imageNat rd 36 4 % 16)
    spillWord := BitVec.ofNat 32 (imageNat rd 40 4 % 2 ^ 16)
    buf := imageBuffer rd
    unfenced := []
    folds := []
    wait := none
    pipeIn := []
    moving := none
    syncQ := []
    held := []
    interval := 0
    intervalRaised := false
    lastPoint := imageNat rd 32 4 % 8192 }

end Sys2Proof.Machine
end

