-- ==== Sys2Proof/Machine/Launches.lean ====
section
/-! DEFINITION. Launches (R285 to R290, R299 to R301): LAUNCH, PREEMPT, CANCEL and SEED commands, eligibility, loads,
restores, saves and overruns. -/
namespace Sys2Proof.Machine

/-- The Culture key of a seed (R203). -/
def cultureKey (seed : DWord) : BitVec 128 :=
  BitVec.ofNat 128 (leNat ((sha512 ([0x4B#8, 0x43#8, 0x55#8, 0x4C#8, 0x54#8, 0x30#8, 0x30#8, 0x31#8]
    ++ leBytes seed.toNat 8)).take 16))

/-- The seed a record written now uses: the latest one written (R204). -/
def State.seedOf (s : State) (v : VatNo) : DWord :=
  match s.seeds[v].pend.getLast? with
  | some r => r.seed
  | none => s.seeds[v].seed

/-- The key of a vat's seed in force: of that seed, or zero once an unlock has zeroed it (R203, R406). -/
def State.seedKey (s : State) (v : VatNo) : BitVec 128 := if s.seeds[v].zeroed then 0#128 else cultureKey s.seeds[v].seed

/-- The key a record written now uses (R204). -/
def State.keyFor (s : State) (v : VatNo) : BitVec 128 :=
  match s.seeds[v].pend.getLast? with
  | some r => cultureKey r.seed
  | none => s.seedKey v

/-! ### LAUNCH -/

/-- The kind of a LAUNCH (Table 15-3). -/
def Cmd.kind (c : Cmd) : Nat := c.field 1 31 30

/-- The cores a LAUNCH names, lowest first. -/
def Cmd.coreList (c : Cmd) : List (Fin 48) :=
  let m := c.word 2 + 2 ^ 32 * c.field 3 15 0
  (List.finRange 48).filter fun q => m.testBit q.val

/-- The declared bound. -/
def Cmd.bound (c : Cmd) : Nat := c.word 6 + 2 ^ 32 * c.field 7 15 0
/-- The context base. -/
def Cmd.ctxBase (c : Cmd) : Nat := c.word 16 + 2 ^ 32 * c.field 17 7 0
/-- The image address. -/
def Cmd.image (c : Cmd) : Nat := c.word 18 + 2 ^ 32 * c.field 19 7 0

/-- The enabled preconditions of a LAUNCH: rennet and threshold. -/
def Cmd.preconditions (c : Cmd) : List (Nat × Nat) :=
  ((List.range 4).filter fun i => (c.field 1 27 24).testBit i).map fun i => (c.field (8 + 2 * i) 31 16, c.word (9 + 2 * i))

/-- Whether a precondition is one R286 refuses. -/
def State.preBad (s : State) (v : VatNo) (p : Nat × Nat) : Bool :=
  (s.rennet p.1).max == 0 || !s.rennetIn v p.1 || p.2 == 0 || decide ((s.rennet p.1).max < p.2)

/-- The checks of a LAUNCH in the order of R286, each with its reason. -/
def State.launchChecks (s : State) (c : Cmd) : List (Bool × Nat) := [
  (c.kind == 3, 1),
  (c.coreList.isEmpty || c.coreList.any (fun q => !(s.cfgAt (ek 0x2021 (c.vat.val + 1))).testBit q.val), 2),
  (decide (s.cfgAt (ek 0x2023 (c.vat.val + 1)) ≤ (s.launches.filter fun l => l.vat == c.vat).length), 3),
  (c.preconditions.any (s.preBad c.vat), 4),
  (c.bound == 0, 1),
  ((c.word 1).testBit 29 && !s.inOneRegion c.vat c.ctxBase (c.coreList.length * imageSize) (some 3), 5),
  (c.kind == 1 && !s.inRegions c.vat c.image (32 * c.field 19 31 16), 5),
  (c.kind == 1 && (c.field 19 31 16 == 0 || decide (8192 < c.field 20 28 16 + c.field 19 31 16)), 1)]

/-- The launch a record describes. -/
def State.newLaunch (s : State) (c : Cmd) : Launch where
  vat := c.vat
  fn := c.fn
  slot := c.slot
  kind := ⟨c.kind % 3, Nat.mod_lt _ (by decide)⟩
  ctx := (c.word 1).testBit 29
  preEn := BitVec.ofNat 4 (c.field 1 27 24)
  start := c.field 1 12 0
  cores := c.coreList.map fun q => ⟨q, none, .waiting, 0, false⟩
  stamp := c.pair 4
  bound := c.bound
  rennets := Vector.ofFn fun i => c.field (8 + 2 * i.val) 31 16
  thresholds := Vector.ofFn fun i => c.word (9 + 2 * i.val)
  ctxBase := c.ctxBase
  image := c.image
  count := c.field 19 31 16
  loadStart := c.field 20 28 16
  pace := if c.field 20 9 0 = 0 then 512 else c.field 20 9 0
  tag := BitVec.ofNat 32 (c.word 21)
  xs := Vector.ofFn fun i => BitVec.ofNat 64 (c.pair (32 + 2 * i.val))
  started := false
  preReq := false
  overrun := false
  fallback := false
  poison := false
  summary := 0#4
  reason := 0
  fault := none
  seed := s.seedOf c.vat
  key := s.keyFor c.vat
  keyWait := s.seeds[c.vat].pend.length
  frame := c.frame
  preSlots := []

/-- A LAUNCH taken: refused under R286, otherwise it waits with its dispatch slot. -/
def State.takeLaunch (s : State) (c : Cmd) : Except Refused State :=
  checkAll (s.launchChecks c) (.ok { s with launches := s.launches ++ [s.newLaunch c] })

/-- LAUNCH of kind RUN; the reserved kind is refused here with reason 1 (R286, R288). -/
def execLaunchRun (w : FrameWrite) (s : State) : Host.Outcome State Fault Refusal :=
  s.clocked (s.command w (fun c => c.code == 1 && (c.kind == 0 || c.kind == 3)) State.takeLaunch)

/-- LAUNCH of kind LOAD (R286, R288). -/
def execLaunchLoad (w : FrameWrite) (s : State) : Host.Outcome State Fault Refusal :=
  s.clocked (s.command w (fun c => c.code == 1 && c.kind == 1) State.takeLaunch)

/-- LAUNCH of kind RESTORE (R286, R300). -/
def execLaunchRestore (w : FrameWrite) (s : State) : Host.Outcome State Fault Refusal :=
  s.clocked (s.command w (fun c => c.code == 1 && c.kind == 2) State.takeLaunch)

/-! ### Eligibility (R13, R287) -/

/-- A launch's enabled preconditions. -/
def Launch.preconditions (l : Launch) : List (Nat × Nat) :=
  ((List.finRange 4).filter fun i => l.preEn.getLsbD i.val).map fun i => (l.rennets[i], l.thresholds[i])

/-- What a launch takes from a rennet. -/
def Launch.takes (l : Launch) (n : Nat) : Nat := sumNat ((l.preconditions.filter fun p => p.1 == n).map Prod.snd)

/-- Whether every rennet covers what the launch takes from it. -/
def State.preHold (s : State) (l : Launch) : Bool :=
  l.preconditions.all fun p => !s.rennetAway p.1 && decide (l.takes p.1 ≤ (s.rennet p.1).count)

/-- Whether no earlier record that names a core has its part unfinished (R287). -/
def State.coreNext (s : State) (l : Launch) (q : Fin 48) : Bool :=
  (s.launches.takeWhile fun k => k.slot != l.slot).all fun k => k.cores.all fun e => e.q != q || e.fin.past

/-- Whether a named core can start: bound, READY with no hold cause as the data path, which dispatches, sees it, and idle; a core in
divergence is HELD (R31, R32, R287). -/
def State.coreReady (s : State) (q : Fin 48) : Bool :=
  match s.physOf q with
  | none => false
  | some c =>
    let v := s.units[coreUnit c].dp
    v.state == stReady && v.causes == 0#8 && s.cores[c].launch.isNone

/-- Whether the hub die, which holds the dispatch tables and the page keeper, works (R16). -/
def State.hubWorks (s : State) : Bool := s.ust uHub == stReady || s.ust uHub == stRunning

/-- Whether a launch may start now as far as the dispatch tables, beats, keys, page work and cores tell (R13, R16, R181, R204,
R287). -/
def State.mayStart (s : State) (l : Launch) : Bool :=
  s.hubWorks && !l.started && s.vatRunning l.vat && l.keyWait == 0 && decide (l.stamp ≤ s.beat) &&
  s.work[l.vat].due.all (fun n => decide (l.stamp < n)) &&
  (match s.work[l.vat].now with | some n => decide (l.stamp < n) | none => true) &&
  l.cores.all fun k => s.coreReady k.q && s.coreNext l k.q

/-- A core at the start of a launch (R128, R211, R217): tables, their tags, program memory and the core buffer stay; until its first point the
word of the last point is the start word, or a restored launch's saved pc (DESIGN CHOICE, assumption 15). -/
def Core.startRun (k : Core) (l : Launch) : Core :=
  { k with
    pc := l.start, x := l.xs, v := Vector.replicate 32 (Vector.replicate 128 Lane.zero), m := Vector.replicate 8 0#128
    d := Vector.replicate 64 0#512, checked := 0#64, vstat := 0#32, spillWord := 0#32
    tiles := Vector.replicate 16 .unbound, recency := [], census := Vector.replicate 16 Census.zero
    attach := Vector.replicate 64 none, lfsr := Vector.ofFn fun i => lfsrStart l.key i.val
    unfenced := [], wait := none, pipeIn := [], moving := none, syncQ := [], held := [], run := .running, launch := some l.slot, preReq := false, interval := 0
    intervalRaised := false, lastPoint := l.start, folds := [] }

/-- A core's part of a launch starts: bound to its physical core, U+13:02 written, its units running (R23, R288). -/
def State.startPart (s : State) (l : Launch) (q : Fin 48) (c : CoreId) : State :=
  let run (k : Core) : Core :=
    if l.kind = 0 then k.startRun l
    else { k.startRun l with run := if l.kind = 1 then .loading else .restoring }
  let part (e : LCore) : LCore := if e.q = q then { e with phys := some c, fin := .running } else e
  let s := (s.updCore c run).updLaunch l.slot fun l => { l with cores := l.cores.map part }
  (s.setVol (ek (unitObj (coreUnit c) 13) 2) l.slot).unitsRun c

/-- A core whose program tag is not the one required issues nothing; the launch is to end FAULTED with reason 12 (R288). -/
def State.tagFails (s : State) (l : Launch) (q : Fin 48) (c : CoreId) : State :=
  s.updLaunch l.slot fun l => { l with
    reason := 12, cores := l.cores.map fun e => if e.q = q then { e with phys := some c, fin := .faulted } else e }

/-- The launch's cores started, in order. -/
def State.startCores (s : State) (l : Launch) : State :=
  l.cores.foldl (fun s e => match s.physOf e.q with
    | none => s
    | some c => if l.kind = 0 ∧ l.tag ≠ 0#32 ∧ s.tagOf c ≠ l.tag.toNat then s.tagFails l e.q c else s.startPart l e.q c) s

/-- The first reason a RESTORE's headers are refused for, every header read before any core is written (R300). -/
def State.restoreRefusal (s : State) (l : Launch) : Nat × State :=
  l.cores.zipIdx.foldl (fun p e =>
    let r := p.2.agentRead l.vat (l.ctxBase + e.2 * imageSize) 4096 2
    let rd (o : Nat) : Byte × Bool := r.1.getD o (0#8, true)
    let bad := if r.1.any Prod.snd then 9 else headerReason rd l.vat.val e.1.q.val
    (if p.1 = 0 then bad else p.1, r.2)) (0, s)

/-- A started launch refused: its dispatch slot free, its result REFUSED (R300). -/
def State.refuseLaunch (s : State) (l : Launch) (reason : Nat) : State :=
  let s := { s with launches := s.launches.filter fun k => k.slot != l.slot }
  let s := (s.raiseVat l.vat 0x0F01 0x5000 [(l.vat.val, 1), (l.frame, 2), (1, 1), (reason, 1)]).countVat l.vat 2
  s.slotFinal l.fn l.slot { Final.plain 7 1 reason with event := 0x0F01 }

/-- An eligible launch starts: its tokens consumed, a RESTORE's headers read, its cores started (R262, R288, R300). -/
def State.startLaunch (s : State) (l : Launch) : State :=
  let s := l.preconditions.foldl (fun s p => s.takeTokens p.1 p.2) s
  let r := if l.kind = 2 then s.restoreRefusal l else (0, s)
  if r.1 ≠ 0 then r.2.refuseLaunch l r.1
  else
    let s := (r.2.updLaunch l.slot fun l => { l with started := true }).startCores l
    if (s.launchAt l.slot).any fun l => l.reason != 0 then (s.stopOthers l.slot).finishIfOver l.slot else s

/-- The waiters of a launch's rennets that can be satisfied come first (R262). -/
def State.serveFor (s : State) (l : Launch) : State :=
  l.preconditions.foldl (fun s p => State.serveQueue s.waitQ.length s p.1) s

/-- Whether a launch is eligible (R13). -/
def State.eligible (s : State) (l : Launch) : Bool := s.mayStart l && (s.serveFor l).preHold l

/-- A launch started if it is eligible. -/
def State.tryStart (s : State) (l : Launch) : State := if s.eligible l then (s.serveFor l).startLaunch l else s

/-- A launch's eligibility (R13, R181, R204, R262, R287): nothing where it does not hold yet (DESIGN CHOICE, assumption 5). The launches
of earlier records that are eligible with it start before it (R13). -/
def execLaunchEligible (slot : Fin 4096) (s : State) : Host.Outcome State Fault Refusal :=
  s.clocked (match s.launchAt slot with
    | none => s
    | some l =>
      if !s.eligible l then s
      else ((s.launches.takeWhile fun k => k.slot != l.slot).foldl State.tryStart s).tryStart l)

/-! ### LOAD and RESTORE -/

/-- A program word written, its reserved fields zero (R3), poisoned where a byte of it is (R127, R236). -/
def Core.putWord (k : Core) (w : Nat) (bs : List (Byte × Bool)) : Core :=
  { k with
    prog := Sparse.set 0#256 k.prog w (cleanWord (BitVec.ofNat 256 (leNat (bs.map Prod.fst))))
    progBad := if bs.any Prod.snd then w :: k.progBad.erase w else k.progBad.erase w }

/-- A core's program memory after a copy: the words, how many a program may reach, the tag. -/
def State.loadWords (s : State) (l : Launch) (bs : List (Byte × Bool)) (c : CoreId) : State :=
  let s := s.updCore c fun k =>
    let k := (List.range l.count).foldl (fun k i => k.putWord (l.loadStart + i) ((bs.drop (32 * i)).take 32)) k
    { k with loaded := max k.loaded (l.loadStart + l.count) }
  s.setVol (ek (unitObj (coreUnit c) 13) 1) l.tag.toNat

/-- The physical cores of a launch that do one thing. -/
def State.coresDoing (s : State) (l : Launch) (r : CoreRun) : List CoreId :=
  (l.cores.filterMap fun e => e.phys).filter fun c => s.cores[c].launch == some l.slot && s.cores[c].run == r

/-- How a core's part ends when its transfer is complete: it stops where the launch is stopping it. -/
def Launch.transferEnd (l : Launch) (c : CoreId) : CoreEnd :=
  if l.cores.any fun e => e.phys == some c && e.fin == .stopping then .stopped else .ended

/-- A LOAD's copy completes: the words and the tag in every core, the launch over (R288). -/
def execLoadCopyComplete (slot : Fin 4096) (s : State) : Host.Outcome State Fault Refusal :=
  s.clocked (match s.launchAt slot with
    | none => s
    | some l =>
      let cs := s.coresDoing l .loading
      if cs.isEmpty then s
      else
        let r := s.agentRead l.vat l.image (32 * l.count) 2
        let s := cs.foldl (fun s c =>
          let s := if l.transferEnd c = .ended then s.loadWords l r.1 c else s
          s.partOver c (l.transferEnd c) id) r.2
        s.finishIfOver slot)

/-- One core of a RESTORE at the end of its transfer: stopped, failed on its digest with its tag zero, or issuing from its
saved word with the seed and tag of its image (R204, R300). -/
def State.restoreCore (s : State) (l : Launch) (c : CoreId) : State :=
  let idx := l.cores.findIdx fun e => e.phys == some c
  let r := s.agentRead l.vat (l.ctxBase + idx * imageSize) imageSize 2
  let s := r.2
  let a := r.1.toArray
  let rd (o : Nat) : Byte × Bool := a.getD o (0#8, true)
  if l.transferEnd c = .stopped then s.partOver c .stopped id
  else if !digestOk rd then
    (s.setVol (ek (unitObj (coreUnit c) 13) 1) 0).partOver c .faulted fun l => { l with reason := 9 }
  else
    let seed : DWord := BitVec.ofNat 64 (imageNat rd 16 8)
    let s := s.updLaunch l.slot fun l => { l with seed := seed, key := cultureKey seed }
    let f := s.free
    let s := f.2.updCore c fun k => { k.load f.1 rd with run := .running, preReq := l.preReq }
    s.setVol (ek (unitObj (coreUnit c) 13) 1) (imageNat rd 52 4)

/-- A RESTORE's images are loaded and their digests checked (R300). -/
def execRestoreLoadComplete (slot : Fin 4096) (s : State) : Host.Outcome State Fault Refusal :=
  s.clocked (match s.launchAt slot with
    | none => s
    | some l =>
      let cs := s.coresDoing l .restoring
      if cs.isEmpty then s
      else
        let s := cs.foldl (fun s c => s.restoreCore l c) s
        if (s.launchAt slot).any fun l => l.reason != 0 then (s.stopOthers slot).finishIfOver slot else s.finishIfOver slot)

/-! ### Saves, overruns -/

/-- A core's image visible: its cycles measured, the image written, its part over (R299). -/
def State.savePart (s : State) (slot : Nat) (c : CoreId) : State :=
  let s := s.measure slot c
  match s.launchAt slot with
  | none => s
  | some l =>
    let s := s.writeImage l c (l.cores.findIdx fun e => e.phys == some c)
    let vs := s.cores[c].vstat
    ((s.applyFolds c).updLaunch slot fun l => (l.setEnd c .saved).takeFlags vs).freeCore c

/-- Every context image of a launch is visible: each saving core with its earlier instructions complete writes its image
to its place, and the launch ends PREEMPTED (R299). -/
def execContextSaveComplete (slot : Fin 4096) (s : State) : Host.Outcome State Fault Refusal :=
  s.clocked (match s.launchAt slot with
    | none => s
    | some l =>
      let cs := s.coresDoing l .saving
      if cs.isEmpty || !l.cores.all (fun e => e.fin.past || e.fin == .saving) || !cs.all s.quiet then s
      else (cs.foldl (fun s c => s.savePart slot c) s).finishIfOver slot)

/-- A core's cycles pass the launch's bound: OVERRUN, EV-0x0F00 with the core's path, 0x8500+v:05, the overrun cause, once a
launch (R290, R329). -/
def execLaunchOverrun (c : CoreId) (s : State) : Host.Outcome State Fault Refusal :=
  s.clocked (match s.cores[c].launch.bind s.launchAt with
    | none => s
    | some l =>
      let past (e : LCore) : LCore := if e.phys = some c then { e with past := true } else e
      let s := s.updLaunch l.slot fun l => { l with overrun := true, cores := l.cores.map past }
      if l.overrun then s
      else ((s.raiseVat l.vat 0x0F00 (corePath c) [(l.vat.val, 1), (l.slot, 2), (l.bound, 6)]).countVat l.vat 5).vatCause l.vat 5 4)

/-! ### PREEMPT, CANCEL, SEED -/

/-- PREEMPT taken (R298, Table 15-2). -/
def State.takePreempt (s : State) (c : Cmd) : Except Refused State :=
  let r := c.field 1 11 0
  match s.launchAt r with
  | none => refuse (if s.slotIn c.vat r then 6 else 2)
  | some l => checkAll [(!s.slotIn c.vat r, 2), (!l.started || l.vat != c.vat, 6)]
      (.ok ((s.updLaunch r fun l => { l with preSlots := l.preSlots ++ [c.slot] }).requestPreempt r))

/-- PREEMPT: the launch of a result slot asked to save; completes when it ends (R298, Table 15-2). -/
def execPreemptCommand (w : FrameWrite) (s : State) : Host.Outcome State Fault Refusal :=
  s.clocked (s.command w (fun c => c.code == 2) State.takePreempt)

/-- A waiting launch CANCELLED with a reason: its dispatch slot returns (R281, R289). -/
def State.cancelLaunch (s : State) (l : Launch) (reason : Nat) : State :=
  let s := { s with launches := s.launches.filter fun k => k.slot != l.slot }
  (s.slotFinal l.fn l.slot (Final.plain 6 1 reason)).countVat l.vat 4

/-- A pending join CANCELLED with a reason (R281, R297). -/
def State.cancelJoin (s : State) (j : JoinRec) (reason : Nat) : State :=
  let s := { s with joins := s.joins.filter fun k => k.slot != j.slot }
  s.slotFinal j.fn j.slot (Final.plain 6 5 reason)

/-- CANCEL taken (Table 15-2, R301). -/
def State.takeCancel (s : State) (c : Cmd) : Except Refused State :=
  let r := c.field 1 11 0
  let l := s.launches.find? fun l => l.slot == r && l.vat == c.vat && !l.started
  let j := s.joins.find? fun j => j.slot == r && j.vat == c.vat
  checkAll [(!s.slotIn c.vat r, 2)] (match l, j with
    | some l, _ => .ok ((s.cancelLaunch l 0).doneCmd c)
    | none, some j => .ok ((s.cancelJoin j 0).doneCmd c)
    | none, none => refuse 6)

/-- CANCEL: a waiting launch or a pending join ends CANCELLED, reason 0 (Table 15-2, R301). -/
def execCancelCommand (w : FrameWrite) (s : State) : Host.Outcome State Fault Refusal :=
  s.clocked (s.command w (fun c => c.code == 3) State.takeCancel)

/-- SEED taken (R203). -/
def State.takeSeed (s : State) (c : Cmd) : Except Refused State :=
  let r : SeedReq := ⟨c.fn, c.slot, BitVec.ofNat 64 (c.pair 1)⟩
  .ok { s with seeds := s.seeds.set c.vat { s.seeds[c.vat] with pend := s.seeds[c.vat].pend ++ [r] } }

/-- SEED: the vat's next seed, its key being formed (R203). -/
def execSeedCommand (w : FrameWrite) (s : State) : Host.Outcome State Fault Refusal :=
  s.clocked (s.command w (fun c => c.code == 4) State.takeSeed)

/-- The oldest key being formed for a vat is ready: the seed is in force, its command DONE, and the launches written after
it wait for one key less (R203, R204). -/
def execSeedKeyReady (v : VatNo) (s : State) : Host.Outcome State Fault Refusal :=
  s.clocked (match s.seeds[v].pend with
    | [] => s
    | r :: rest =>
      let f (l : Launch) : Launch := if l.vat = v then { l with keyWait := l.keyWait - 1 } else l
      let s := { s with seeds := s.seeds.set v ⟨r.seed, rest, false⟩, launches := s.launches.map f }
      s.slotFinal r.fn r.slot (Final.plain 2 4 0))

end Sys2Proof.Machine
end

