-- ==== Sys2Proof/Machine/Pages.lean ====
section
/-! DEFINITION. The page keeper's operations: layouts (R169 to R171), page tables and records (R172, R173), the frame table
(R180), the prefix tree (R176 to R179), host frames and swaps (R184 to R186), flushes (R175). -/
namespace Sys2Proof.Machine

/-! ### Layouts -/

/-- A layout record in its fields (Table 9-4). -/
structure PageLayout where
  lyr : Nat
  heads : Nat
  hd : Nat
  kf : BitVec 4
  vf : BitVec 4
  mode : BitVec 3
  ts : Nat
  deriving DecidableEq, Repr

/-- The fields of a 64-bit record. -/
def PageLayout.ofNat (w : Nat) : PageLayout :=
  ⟨w / 2 ^ 24 % 256, w / 2 ^ 16 % 256, w / 2 ^ 14 % 4, BitVec.ofNat 4 (w / 2 ^ 10), BitVec.ofNat 4 (w / 2 ^ 6),
    BitVec.ofNat 3 (w / 2 ^ 3), w / 2 ^ 32 % 65536⟩

/-- The head dimension. -/
def PageLayout.dh (l : PageLayout) : Nat := 64 * 2 ^ l.hd

/-- Bits of an element of a format. -/
def elemBits (f : BitVec 4) : Nat :=
  match fmtOf f with
  | some g => g.width
  | none => 0

/-- A quotient rounded up. -/
def ceilDiv (a b : Nat) : Nat := if b = 0 then 0 else (a + b - 1) / b

/-- The block size B. -/
def PageLayout.block (l : PageLayout) : Nat := blockSize l.mode
/-- Bytes per head per block of keys or of values (Table 9-5). -/
def PageLayout.headBytes (l : PageLayout) (f : BitVec 4) : Nat := 16 * l.dh * elemBits f
/-- Heads per page. -/
def PageLayout.headsPage (l : PageLayout) (f : BitVec 4) : Nat := 65536 / max 1 (l.headBytes f)
/-- Data pages per block. -/
def PageLayout.pages (l : PageLayout) (f : BitVec 4) : Nat := ceilDiv l.heads (l.headsPage f)
/-- Scale bytes per tensor per block. -/
def PageLayout.sigma (l : PageLayout) : Nat := if l.mode = 0#3 then 0 else l.heads * l.dh * 128 / l.block
/-- The scale slot size. -/
def PageLayout.z (l : PageLayout) : Nat := ceilDiv (2 * l.sigma) 64 * 64
/-- Slots per scale page. -/
def PageLayout.slots (l : PageLayout) : Nat := min 8 (65536 / max 1 l.z)
/-- Whether the layout is scaled. -/
def PageLayout.scaled (l : PageLayout) : Bool := l.mode != 0#3
/-- Entries per block per layer, E. -/
def PageLayout.entries (l : PageLayout) : Nat := l.pages l.kf + l.pages l.vf + (if l.scaled then 1 else 0)
/-- Entries per block. -/
def PageLayout.blockEntries (l : PageLayout) : Nat := l.lyr * l.entries
/-- Whether block t opens a scale group (R172). -/
def PageLayout.opens (l : PageLayout) (t : Nat) : Bool := l.scaled && t % max 1 l.slots == 0
/-- Pages a new block t needs. -/
def PageLayout.newPages (l : PageLayout) (t : Nat) : Nat :=
  l.lyr * (l.pages l.kf + l.pages l.vf) + (if l.opens t then l.lyr else 0)

/-- The formats a layout may name (Table 9-4). -/
def layoutFormat (f : BitVec 4) : Bool := [0x1, 0x2, 0x3, 0x4, 0x5, 0x6, 0x7].contains f.toNat

/-- Whether R169 refuses a layout's fields. -/
def PageLayout.bad (l : PageLayout) : Bool :=
  l.lyr == 0 || l.heads == 0 || l.hd == 3 || decide (4 < l.mode.toNat) || !layoutFormat l.kf || !layoutFormat l.vf
    || (l.scaled && [l.kf, l.vf].any fun f => f == 0x1#4 || f == 0x2#4)
    || (l.scaled && decide (65536 < l.z)) || l.ts % l.block != 0

/-- A vat's layout by number; undefined ones read zero (R169). -/
def State.layoutWord (s : State) (v : VatNo) (n : Nat) : Nat := Sparse.get 0 s.layouts (v.val * 16 + n)

/-- A vat's layout in its fields. -/
def State.layout (s : State) (v : VatNo) (n : Nat) : PageLayout := PageLayout.ofNat (s.layoutWord v n)

/-! ### The keeper's accesses -/

/-- A statistic of Table 9-10 raised (R188). -/
def State.countPage (s : State) (sub n : Nat) : State := s.count (ek 0x8300 sub) n 0x0909 0x5000 [(sub, 2)]

/-- A read by the keeper for a vat; a poisoned byte gives a free value, since the spec states none. -/
def State.kRead (s : State) (v : VatNo) (a n : Nat) : List Byte × State :=
  let r := s.agentRead v a n 3
  let p := r.1.foldl (fun (p : List Byte × State) b =>
    if b.2 then (BitVec.ofNat 8 p.2.free.1 :: p.1, p.2.free.2) else (b.1 :: p.1, p.2)) ([], r.2)
  (p.1.reverse, p.2)

/-- A write by the keeper for a vat. -/
def State.kWrite (s : State) (v : VatNo) (a : Nat) (bs : List Byte) : State := s.agentWrite v a bs 3

/-- Bytes as 32-bit words. -/
def wordsOf (bs : List Byte) : List Nat := (List.range (bs.length / 4)).map fun i => leNat ((bs.drop (4 * i)).take 4)

/-- Words as bytes. -/
def bytesOf (ws : List Nat) : List Byte := ws.flatMap fun w => leBytes w 4

/-! ### The frame table (R180) -/

/-- A frame's record. -/
def State.frame (s : State) (f : Nat) : Frame := Sparse.get Frame.free s.frames f

/-- A frame's record replaced. -/
def State.setFrame (s : State) (f : Nat) (r : Frame) : State := { s with frames := Sparse.set Frame.free s.frames f r }

/-- The frames of a vat's pool (R168). -/
def State.pool (s : State) (v : VatNo) : List Nat :=
  (List.range (s.cfgAt (ek 0xD801 (v.val + 1)))).map fun i => s.cfgAt (ek 0xD800 (v.val + 1)) + i

/-- The free frames of a vat's pool. -/
def State.freeFrames (s : State) (v : VatNo) : List Nat := (s.pool v).filter fun f => (s.frame f).state == 0

/-- The frames of a vat in a state. -/
def State.framesIn (s : State) (v : VatNo) (st : Nat) : List Nat :=
  (s.frames.filter fun p => p.2.vat == v.val && p.2.state == st).map Prod.fst

/-- One element of a list taken out: the spec states no choice, so it is free. -/
def State.pick (s : State) (l : List Nat) : Nat × List Nat × State :=
  let i := s.free.1 % max 1 l.length
  (l.getD i 0, l.eraseIdx i, s.free.2)

/-- `n` elements of a list, freely chosen. -/
def State.pickMany (s : State) : Nat → List Nat → List Nat × State
  | 0, _ => ([], s)
  | n + 1, l =>
    let p := s.pick l
    let q := p.2.2.pickMany n p.2.1
    (p.1 :: q.1, q.2)

/-- Free frames allocated in a state with no reference yet. -/
def State.allocFrames (s : State) (v : VatNo) (n st : Nat) : List Nat × State :=
  let p := s.pickMany n (s.freeFrames v)
  (p.1, p.1.foldl (fun s f => s.setFrame f ⟨st, v.val, 0⟩) p.2)

/-- A reference taken on a held frame of the vat. -/
def State.takeRef (s : State) (v : VatNo) (f : Nat) : State :=
  let r := s.frame f
  if r.state = 1 ∧ r.vat = v.val then s.setFrame f { r with refs := r.refs + 1 } else s

/-- A reference released; the frame is free at count zero (R180). -/
def State.dropRef (s : State) (v : VatNo) (f : Nat) : State :=
  let r := s.frame f
  if r.state = 1 ∧ r.vat = v.val then s.setFrame f (if r.refs ≤ 1 then Frame.free else { r with refs := r.refs - 1 }) else s

/-! ### Page tables (Table 9-6) -/

/-- Whether an entry is valid and its page resident. -/
def entryHere (w : Nat) : Bool := w.testBit 31 && !w.testBit 30
/-- Whether an entry's page is swapped. -/
def entryHost (w : Nat) : Bool := w.testBit 31 && w.testBit 30
/-- The frame number of an entry. -/
def entryFrame (w : Nat) : Nat := w % 2 ^ 23
/-- A valid entry of a frame in a scale slot. -/
def mkEntry (slot f : Nat) : Nat := 2 ^ 31 + slot % 8 * 2 ^ 27 + f % 2 ^ 23

/-- Blocks a sequence holds: those of its tokens and those opened for a flush still to come (R181 step 4). -/
def SeqRec.blocks (q : SeqRec) : Nat := max (ceilDiv q.n 128) q.opened

/-- The address of block t's first entry (R172). -/
def SeqRec.blockAddr (q : SeqRec) (l : PageLayout) (t : Nat) : Nat := q.base + 4 * (t * l.blockEntries)

/-- The layout of a sequence. -/
def State.seqLayout (s : State) (q : SeqRec) : PageLayout := s.layout q.vat q.layout

/-- The entries of block t. -/
def State.readBlock (s : State) (q : SeqRec) (t : Nat) : List Nat × State :=
  let l := s.seqLayout q
  let r := s.kRead q.vat (q.blockAddr l t) (4 * l.blockEntries)
  (wordsOf r.1, r.2)

/-- The entries of block t written. -/
def State.writeBlock (s : State) (q : SeqRec) (t : Nat) (ws : List Nat) : State :=
  s.kWrite q.vat (q.blockAddr (s.seqLayout q) t) (bytesOf ws)

/-- The entries of blocks `a` to `b - 1`. -/
def State.readBlocks (s : State) (q : SeqRec) (a b : Nat) : List (List Nat) × State :=
  let p := (List.range (b - a)).foldl (fun (p : List (List Nat) × State) i =>
    let r := p.2.readBlock q (a + i)
    (r.1 :: p.1, r.2)) ([], s)
  (p.1.reverse, p.2)

/-- Every entry a sequence holds, in entry order. -/
def State.heldEntries (s : State) (q : SeqRec) : List Nat × State :=
  let r := s.readBlocks q 0 q.blocks
  (r.1.flatten, r.2)

/-- The private frames among entries: every reference is one of them (Table 9-7, W7). -/
def State.privateFrames (s : State) (ws : List Nat) : List Nat :=
  let fs := (ws.filter entryHere).map entryFrame
  fs.eraseDups.filter fun f => (s.frame f).refs == fs.count f

/-- A batch slot's record replaced. -/
def State.setSeq (s : State) (b : Fin 64) (q : SeqRec) : State := { s with seqs := s.seqs.set b q }

/-- A batch slot's private-page count brought up to date. -/
def State.refreshPriv (s : State) (b : Fin 64) : State :=
  let q := s.seqs[b]
  if q.state = 0 then s
  else
    let r := s.heldEntries q
    r.2.setSeq b { q with priv := (r.2.privateFrames r.1).length }

/-- A page record's 64 bytes (Table 9-7), W7 with the pages only this sequence names in whichever state it is; W9 is set when a swap-out has completed (R184). -/
def SeqRec.bytes (q : SeqRec) : List Byte :=
  bytesOf [q.state * 2 ^ 28 + q.layout * 2 ^ 24 + q.vat.val * 2 ^ 20 + q.staged, q.n, q.cap, q.base % 2 ^ 32, q.base / 2 ^ 32,
    q.hit, q.lastNode, q.priv, q.growth, if q.state = 2 then 0 else q.hostFrames.length] ++ zeros 24

/-! ### New blocks -/

/-- Frames for the new blocks `a` to `b - 1` put into the page table: data pages of their own, a scale page for each layer
of a block that opens a group, and a further reference on the group's page for one that does not (R172). -/
def State.addBlock (s : State) (q : SeqRec) (t : Nat) : State :=
  let l := s.seqLayout q
  let np := l.pages l.kf + l.pages l.vf
  let prev := if l.scaled && !l.opens t then s.readBlock q (t - 1) else ([], s)
  let p := (List.range l.lyr).foldl (fun (p : List Nat × State) i =>
    let a := p.2.allocFrames q.vat np 1
    let s := a.1.foldl (fun s f => s.takeRef q.vat f) a.2
    let ws := a.1.map (mkEntry 0)
    if !l.scaled then (p.1 ++ ws, s)
    else if l.opens t then
      let g := s.allocFrames q.vat 1 1
      (p.1 ++ ws ++ g.1.map (mkEntry 0), g.1.foldl (fun s f => s.takeRef q.vat f) g.2)
    else
      let f := entryFrame (prev.1.getD (i * l.entries + np) 0)
      (p.1 ++ ws ++ [mkEntry (t % max 1 l.slots) f], s.takeRef q.vat f)) ([], prev.2)
  p.2.writeBlock q t p.1

/-- Blocks `a` to `b - 1` added. -/
def State.addBlocks (s : State) (q : SeqRec) (a b : Nat) : State :=
  (List.range (b - a)).foldl (fun s i => s.addBlock q (a + i)) s

/-- Pages that blocks `a` to `b - 1` need. -/
def PageLayout.needs (l : PageLayout) (a b : Nat) : Nat := sumNat ((List.range (b - a)).map fun i => l.newPages (a + i))

/-! ### The prefix tree (R176 to R179) -/

/-- A node record's header (Table 9-8). -/
structure Node where
  idx : Nat
  state : Nat
  layout : Nat
  parent : Nat
  hash : Nat
  last : Nat
  depth : Nat
  users : Nat
  deriving DecidableEq, Repr

/-- The address of a node record. -/
def State.nodeAddr (s : State) (v : VatNo) (i : Nat) : Nat := s.cfgAt (ek 0xD802 (v.val + 1)) + i * 0x2000

/-- A node record read. -/
def State.readNode (s : State) (v : VatNo) (i : Nat) : Node × State :=
  let r := s.kRead v (s.nodeAddr v i) 32
  let w (n : Nat) : Nat := (wordsOf r.1).getD n 0
  (⟨i, w 0 / 2 ^ 30, w 0 / 2 ^ 26 % 16, w 1, w 2 + 2 ^ 32 * w 3, w 4 + 2 ^ 32 * w 5, w 6, w 7⟩, r.2)

/-- A node record's header written, its reserved words zero. -/
def State.writeNode (s : State) (v : VatNo) (n : Node) : State :=
  s.kWrite v (s.nodeAddr v n.idx) (bytesOf [n.state * 2 ^ 30 + n.layout * 2 ^ 26, n.parent, n.hash % 2 ^ 32, n.hash / 2 ^ 32,
    n.last % 2 ^ 32, n.last / 2 ^ 32, n.depth, n.users] ++ zeros 32)

/-- Every node of a vat's table. -/
def State.nodes (s : State) (v : VatNo) : List Node × State :=
  let p := (List.range (s.cfgAt (ek 0xD803 (v.val + 1)))).foldl (fun (p : List Node × State) i =>
    let r := p.2.readNode v i
    (r.1 :: p.1, r.2)) ([], s)
  (p.1.reverse, p.2)

/-- The live nodes of a vat. -/
def State.liveNodes (s : State) (v : VatNo) : List Node × State :=
  let r := s.nodes v
  (r.1.filter fun n => n.state == 1, r.2)

/-- The token identifiers of a node as bytes. -/
def State.nodeTokens (s : State) (v : VatNo) (i : Nat) : List Byte × State := s.kRead v (s.nodeAddr v i + 64) 512

/-- The entries of a node. -/
def State.nodeEntries (s : State) (v : VatNo) (n : Node) : List Nat × State :=
  let r := s.kRead v (s.nodeAddr v n.idx + 576) (4 * (s.layout v n.layout).blockEntries)
  (wordsOf r.1, r.2)

/-- The identity of a block: its tokens' bytes folded over its parent's hash (R176). -/
def blockHash (parent : Nat) (tokens : List Byte) : Nat :=
  let h : DWord := tokens.foldl (fun h b => (h ^^^ b.setWidth 64) * 0x100000001B3#64) (BitVec.ofNat 64 parent)
  (h ^^^ (h >>> 29)).toNat

/-- The hash above a sequence's first block (R176). -/
def rootHash (salt : DWord) : Nat := (0xCBF29CE484222325#64 ^^^ salt).toNat

/-- The parent index of the root. -/
abbrev noNode : Nat := 0xFFFFFFFF

/-- The users of a node and of its ancestors changed; each also takes a last-use beat where one is given. -/
def State.chainUsers (s : State) (v : VatNo) (f : Nat → Nat) : Nat → Nat → State
  | 0, _ => s
  | fuel + 1, i =>
    if i = noNode then s
    else
      let r := s.readNode v i
      (r.2.writeNode v { r.1 with users := f r.1.users }).chainUsers v f fuel r.1.parent

/-- The leaf to evict next: live, no live child, no user; least recent use first, then the lower index (R179). -/
def evictable (l : List Node) : Option Node :=
  (l.filter fun n => n.users == 0 && !l.any fun m => m.parent == n.idx).foldl (fun best n =>
    match best with
    | none => some n
    | some b => if n.last < b.last then some n else some b) none

/-- A node evicted: its tree references released, the node free (R179). -/
def State.evictNode (s : State) (v : VatNo) (n : Node) : State :=
  let r := s.nodeEntries v n
  let s := (r.1.filter entryHere).foldl (fun s w => s.dropRef v (entryFrame w)) r.2
  (s.writeNode v { n with state := 0 }).countPage 5 1

/-- Leaves evicted until `need` frames beyond the reserved ones are free or none is left (R179). -/
def State.evictFor (s : State) (v : VatNo) (need : Nat) : Nat → State
  | 0 => s
  | fuel + 1 =>
    if need ≤ (s.freeFrames v).length then s
    else
      let r := s.liveNodes v
      match evictable r.1 with
      | none => r.2
      | some n => (r.2.evictNode v n).evictFor v need fuel

/-- Frames made free for a need. -/
def State.makeRoom (s : State) (v : VatNo) (need : Nat) : State := s.evictFor v need (s.cfgAt (ek 0xD803 (v.val + 1)) + 1)

/-- What a walk of the tree has found: blocks matched, the deepest node, the hash above the next block. -/
structure Walk where
  blocks : Nat
  node : Nat
  hash : Nat
  deriving DecidableEq, Repr

/-- The live node that is a block's, and the collisions: every live node of its hash and other tokens (R177). -/
def State.findNode (s : State) (v : VatNo) (layout : Nat) (w : Walk) (tokens : List Byte) (note : Bool) : Option Node × State :=
  let h := blockHash w.hash tokens
  let r := s.liveNodes v
  (r.1.filter fun n => n.hash == h).foldl
    (fun (p : Option Node × State) n =>
      let t := p.2.nodeTokens v n.idx
      if t.1 = tokens then
        (if p.1.isNone && n.parent == w.node && n.layout == layout && n.depth == w.blocks then some n else p.1, t.2)
      else (p.1, if note then (t.2.countPage 0x0B 1).raise 0x0904 0x5000 [(n.idx, 4), (h % 2 ^ 32, 4)] else t.2)) (none, r.2)

/-- A join's walk (R177): each matching block's entries copied, a reference taken on every page, the node used. -/
def State.walk (s : State) (q : SeqRec) (beat : Nat) : Nat → Walk → Walk × State
  | 0, w => (w, s)
  | fuel + 1, w =>
    let t := s.kRead q.vat (q.tokens + 512 * w.blocks) 512
    let f := t.2.findNode q.vat q.layout w t.1 true
    match f.1 with
    | none => (w, f.2.countPage 2 1)
    | some n =>
      let e := f.2.nodeEntries q.vat n
      let s := (e.1.filter entryHere).foldl (fun s x => s.takeRef q.vat (entryFrame x)) (e.2.writeBlock q w.blocks e.1)
      let s := (s.writeNode q.vat { n with users := n.users + 1, last := beat }).countPage 1 1
      s.walk q beat fuel ⟨w.blocks + 1, n.idx, n.hash⟩

/-- What a deferred join took is released (R181 step 3). -/
def State.unwalk (s : State) (q : SeqRec) (w : Walk) : State :=
  let r := s.readBlocks q 0 w.blocks
  let s := (r.1.flatten.filter entryHere).foldl (fun s x => s.dropRef q.vat (entryFrame x)) r.2
  s.chainUsers q.vat (· - 1) w.blocks w.node

/-- Whether a block's pages hold poison: the bytes its heads and its scale slot cover (R178). -/
def State.blockPoison (s : State) (q : SeqRec) (t : Nat) (ws : List Nat) : Bool × State :=
  let l := s.seqLayout q
  let span (e : Nat) : Nat × Nat :=
    let kp := l.pages l.kf
    if e < kp then (0, min (l.headsPage l.kf) (l.heads - e * l.headsPage l.kf) * l.headBytes l.kf)
    else if e < kp + l.pages l.vf then
      (0, min (l.headsPage l.vf) (l.heads - (e - kp) * l.headsPage l.vf) * l.headBytes l.vf)
    else (t % max 1 l.slots * l.z, 2 * l.sigma)
  ws.zipIdx.foldl (fun (p : Bool × State) x =>
    let sp := span (x.2 % max 1 l.entries)
    let r := p.2.agentRead q.vat (entryFrame x.1 * 65536 + sp.1) sp.2 3
    (p.1 || r.1.any Prod.snd, r.2)) (false, s)

/-- An insertion skipped (R178). -/
def State.skipInsert (s : State) (b : Fin 64) (t reason : Nat) : State :=
  (s.countPage 4 1).raise 0x0905 0x5000 [(b.val, 1), (t, 4), (reason, 1)]

/-- A block's node written: users 1, a tree reference on every page (R178, Table 9-8). -/
def State.writeNew (s : State) (q : SeqRec) (w : Walk) (beat : Nat) (i : Nat) (tokens : List Byte) (ws : List Nat) : State :=
  let s := s.writeNode q.vat ⟨i, 1, q.layout, w.node, blockHash w.hash tokens, beat, w.blocks, 1⟩
  let s := (s.kWrite q.vat (s.nodeAddr q.vat i + 64) tokens).kWrite q.vat (s.nodeAddr q.vat i + 576) (bytesOf ws)
  ((ws.filter entryHere).foldl (fun s x => s.takeRef q.vat (entryFrame x)) s).countPage 3 1

/-- The nodes from one up to, not including, another: each takes a user (DEDUCED, assumption 49). -/
def State.useAbove (s : State) (v : VatNo) (top : Nat) : Nat → Nat → State
  | 0, _ => s
  | fuel + 1, i =>
    if i = top ∨ i = noNode then s
    else
      let r := s.readNode v i
      (r.2.writeNode v { r.1 with users := r.1.users + 1 }).useAbove v top fuel r.1.parent

/-- The insertion of a sequence's blocks in order (R178). A block below a duplicate goes under the live node, one below a block that
was not inserted for another reason under the deepest node above it (DEDUCED, assumption 49). -/
def State.insertBlocks (s : State) (b : Fin 64) (beat : Nat) : Nat → Walk → State
  | 0, _ => s
  | fuel + 1, w =>
    let q := s.seqs[b]
    let t := s.kRead q.vat (q.tokens + 512 * w.blocks) 512
    let next : Walk := ⟨w.blocks + 1, w.node, blockHash w.hash t.1⟩
    if 1904 < (s.seqLayout q).blockEntries then (t.2.skipInsert b w.blocks 4).insertBlocks b beat fuel next
    else
      let f := t.2.findNode q.vat q.layout w t.1 false
      match f.1 with
      | some n => (f.2.skipInsert b w.blocks 1).insertBlocks b beat fuel { next with node := n.idx }
      | none =>
        let e := f.2.readBlock q w.blocks
        let p := e.2.blockPoison q w.blocks e.1
        if p.1 then (p.2.skipInsert b w.blocks 3).insertBlocks b beat fuel next
        else
          let all := p.2.nodes q.vat
          let free := (all.1.filter fun n => n.state != 1).map Node.idx
          if free.isEmpty then (all.2.skipInsert b w.blocks 2).insertBlocks b beat fuel next
          else
            let i := all.2.pick free
            let s := (i.2.2.writeNew q w beat i.1 t.1 e.1).useAbove q.vat q.lastNode (w.blocks + 1) w.node
            (s.setSeq b { s.seqs[b] with lastNode := i.1 }).insertBlocks b beat fuel { next with node := i.1 }

/-! ### Host frames and swaps (R184 to R186) -/

/-- The host frames of a vat in use. -/
def State.hostUsed (s : State) (v : VatNo) : List Nat :=
  (s.seqs.toList.filter fun q => q.state != 0 && q.vat == v).flatMap SeqRec.hostFrames

/-- The free host frames of a vat's swap area. -/
def State.hostFree (s : State) (v : VatNo) : List Nat :=
  (List.range (s.volAt (ek 0xD807 (v.val + 1)))).filter fun f => !(s.hostUsed v).contains f

/-- Host frames for a sequence's page record and table, and for its staging area (R184). -/
def State.fixedFrames (s : State) (q : SeqRec) : Nat × Nat :=
  (ceilDiv (64 + 4 * q.cap * (s.seqLayout q).blockEntries) 65536, ceilDiv (s.cfgAt (ek 0xD805 (q.vat.val + 1))) 65536)

/-- A batch slot's staging area (R174). -/
def State.stagingAt (s : State) (v : VatNo) (b : Fin 64) : Nat :=
  s.cfgAt (ek 0xD804 (v.val + 1)) + b.val * s.cfgAt (ek 0xD805 (v.val + 1))

/-- Bytes with their poison written to host frames in order, 64 KiB each, poisoned words named. -/
def State.toHostFrames (s : State) (v : VatNo) : List Nat → List (Byte × Bool) → State
  | [], _ => s
  | f :: fs, bs =>
    let page := bs.take 65536
    let bad := (List.range 4096).filter fun i => ((page.drop (16 * i)).take 16).any Prod.snd
    let s := s.postHost 4 v (s.volAt (ek 0xD806 (v.val + 1)) + f * 65536) (page.map Prod.fst) (bad.map (16 * ·))
    s.toHostFrames v fs (bs.drop 65536)

/-- A swap-out begins: host frames taken, private frames outbound, everything written to the host in order and a
zero-length read sent to the last frame (R184). -/
def State.swapOut (s : State) (b : Fin 64) : State :=
  let q := s.seqs[b]
  let e := s.heldEntries q
  let s := e.2
  let priv := s.privateFrames e.1
  let k := s.fixedFrames q
  let h := s.pickMany (k.1 + k.2 + priv.length) (s.hostFree q.vat)
  let s := priv.foldl (fun s f => s.setFrame f { s.frame f with state := 3 }) h.2
  let q := { q with state := 2, priv := priv.length }
  let s := s.setSeq b { q with hostFrames := h.1, moving := priv }
  let tab := s.agentRead q.vat q.base (4 * q.cap * (s.seqLayout q).blockEntries) 3
  let stg := tab.2.agentRead q.vat (tab.2.stagingAt q.vat b) (tab.2.cfgAt (ek 0xD805 (q.vat.val + 1))) 3
  let s := stg.2.toHostFrames q.vat (h.1.take k.1) ((q.bytes.map fun x => (x, false)) ++ tab.1)
  let s := s.toHostFrames q.vat ((h.1.drop k.1).take k.2) stg.1
  let s := (priv.zip (h.1.drop (k.1 + k.2))).foldl (fun s p =>
    let r := s.agentRead q.vat (p.1 * 65536) 65536 3
    r.2.toHostFrames q.vat [p.2] r.1) s
  s.askHost q.vat (s.volAt (ek 0xD806 (q.vat.val + 1)) + h.1.getLastD 0 * 65536) 0

/-- A sequence parked (R182, R186). -/
def State.park (s : State) (b : Fin 64) (demanded : Nat) : State :=
  let q := s.seqs[b]
  ((s.setSeq b { q with state := 5 }).countPage 0x0C 1).raise 0x0903 0x5000
    [(b.val, 1), (demanded, 4), ((s.hostFree q.vat).length, 4)]

/-- Whether the swap area can hold a sequence besides `used` further frames, and how many frames it takes. -/
def State.swapNeed (s : State) (b : Fin 64) : Nat × Nat × State :=
  let q := s.seqs[b]
  let e := s.heldEntries q
  let k := e.2.fixedFrames q
  let n := (e.2.privateFrames e.1).length
  (k.1 + k.2 + n, n, e.2)

/-- A sequence pre-empted for pages: swapped out under EV-0x0900, or parked where the swap area cannot hold it; one that is
parked already stays so (R182). -/
def State.evictSeq (s : State) (b : Fin 64) (demanded : Nat) : State :=
  let v := s.seqs[b].vat
  let n := s.swapNeed b
  let s := n.2.2
  if n.1 ≤ (s.hostFree v).length then
    (s.raiseVat v 0x0900 0x5000 [(v.val, 1), (b.val, 1), (demanded, 4), ((s.freeFrames v).length, 4)]).swapOut b
  else if s.seqs[b].state = 5 then s
  else s.park b demanded

/-- A swap-out's read-back completes (R184): private entries HOST, private frames free, state swapped. -/
def State.swapOutDone (s : State) (b : Fin 64) : State :=
  let q := s.seqs[b]
  let k := s.fixedFrames q
  let at_ := q.moving.zip (q.hostFrames.drop (k.1 + k.2))
  let fix (w : Nat) : Nat :=
    if entryHere w then
      match at_.find? fun p => p.1 == entryFrame w with
      | some p => w / 2 ^ 23 * 2 ^ 23 % 2 ^ 30 + 2 ^ 31 + 2 ^ 30 + p.2 % 2 ^ 23
      | none => w
    else w
  let s := (List.range q.blocks).foldl (fun s t => let r := s.readBlock q t; r.2.writeBlock q t (r.1.map fix)) s
  let s := q.moving.foldl (fun s f => s.setFrame f Frame.free) s
  let s := (s.setSeq b { q with state := 3, moving := [] }).refreshPriv b
  (s.countPage 6 q.moving.length).raise 0x0901 0x5000
    [(b.val, 1), (q.moving.length, 4), (q.hostFrames.length, 4)]

/-- The host frames a sequence's swapped pages lie in, in entry order. -/
def hostPages (ws : List Nat) : List Nat := ((ws.filter entryHost).map entryFrame).eraseDups

/-- A swap-in begins with its pages allocated (R185): the frames inbound, the host frames asked for in order. -/
def State.swapIn (s : State) (b : Fin 64) : State :=
  let q := s.seqs[b]
  let e := s.heldEntries q
  let f := e.2.allocFrames q.vat (hostPages e.1).length 2
  let s := (f.2.setSeq b { q with state := 4, moving := f.1 }).refreshPriv b
  q.hostFrames.foldl (fun s h => s.askHost q.vat (s.volAt (ek 0xD806 (q.vat.val + 1)) + h * 65536) 65536) s

/-- A swap-in's data is back (R185): staging and pages written, entries rewritten with the new frames, host frames
returned. -/
def State.swapInDone (s : State) (b : Fin 64) (data : List Byte) : State :=
  let q := s.seqs[b]
  let k := s.fixedFrames q
  let page (i : Nat) : List Byte := (data.drop (65536 * i)).take 65536
  let e := s.heldEntries q
  let at_ := (hostPages e.1).zip q.moving
  let stride := s.cfgAt (ek 0xD805 (q.vat.val + 1))
  let s := e.2.kWrite q.vat (s.stagingAt q.vat b) ((data.drop (65536 * k.1)).take stride)
  let s := at_.foldl (fun s p =>
    s.kWrite q.vat (p.2 * 65536) (page (q.hostFrames.idxOf p.1))) s
  let fix (w : Nat) : Nat :=
    if entryHost w then
      match at_.find? fun p => p.1 == entryFrame w with
      | some p => w / 2 ^ 23 * 2 ^ 23 % 2 ^ 30 + 2 ^ 31 + p.2 % 2 ^ 23
      | none => w
    else w
  let s := q.moving.foldl (fun s f => s.setFrame f ⟨1, q.vat.val, 0⟩) s
  let s := (e.1.filter entryHost).foldl (fun s w => s.takeRef q.vat (entryFrame (fix w))) s
  let s := (List.range q.blocks).foldl (fun s t => let r := s.readBlock q t; r.2.writeBlock q t (r.1.map fix)) s
  let s := (s.setSeq b { q with state := 1, moving := [], hostFrames := [] }).refreshPriv b
  (s.countPage 7 q.moving.length).raise 0x0902 0x5000 [(b.val, 1), (q.moving.length, 4)]

/-! ### Flushes (R175) -/

/-- A staged BF16 value and its poison. -/
def State.staged (s : State) (v : VatNo) (a : Nat) : (FVal × Bool) × State :=
  let r := s.agentRead v a 2 3
  ((FFmt.bf16.decode (leNat (r.1.map Prod.fst)), r.1.any Prod.snd), r.2)

/-- Values read one after another. -/
def State.stagedMany (s : State) (v : VatNo) (as : List Nat) : List (FVal × Bool) × State :=
  let p := as.foldl (fun (p : List (FVal × Bool) × State) a => let r := p.2.staged v a; (r.1 :: p.1, r.2)) ([], s)
  (p.1.reverse, p.2)

/-- Codes of `w` bits put into memory at a bit offset from an address, the bits around them kept. -/
def State.putBits (s : State) (v : VatNo) (a off w : Nat) (codes : List Nat) : State :=
  let lo := a + off / 8
  let sh := off % 8
  let nb := w * codes.length
  let len := (sh + nb + 7) / 8
  let r := s.agentRead v lo len 3
  let old := leNat (r.1.map Prod.fst)
  let new := codes.zipIdx.foldl (fun n p => n + p.1 % 2 ^ w * 2 ^ (w * p.2)) 0
  r.2.kWrite v lo (leBytes (old % 2 ^ sh + new * 2 ^ sh + old / 2 ^ (sh + nb) * 2 ^ (sh + nb)) len)

/-- Poison put over a range for a vat. -/
def State.putPoison (s : State) (v : VatNo) (a n : Nat) : State := if s.inRegions v a n then s.poisonHbm a n else s

/-- One block of staged values converted and put into its place, with its scale byte (R175, R101); poisoned where a value
is. -/
def State.flushBlock (s : State) (v : VatNo) (f : BitVec 4) (mode : BitVec 3) (vals : List (FVal × Bool)) (a off sa : Nat) :
    Bool × State :=
  let g := (fmtOf f).getD (.flt .bf16)
  let ctl : CCtl := ⟨f, mode, 0#2, true, false, false⟩
  let c := convertBlock ctl g (.fin false 1 0) (fun _ => 0) (vals.map Prod.fst)
  let hot := vals.any Prod.snd
  let s := s.putBits v a off g.width (c.elems.map Conv.code)
  let s := match c.scale with
    | some byte => s.kWrite v sa [byte]
    | none => s
  let n := (c.elems.filter Conv.sat).length
  let s := if hot then s else ((s.countPage 8 n).countPage 9 (c.elems.filter Conv.nonfin).length).countPage 0x0A
    (c.elems.filter Conv.flush).length
  if hot then
    let s := s.putPoison v (a + off / 8) ((off % 8 + g.width * vals.length + 7) / 8)
    (true, if c.scale.isSome then s.putPoison v sa 1 else s)
  else (false, s)

/-- The staging address of a token's element (R174). -/
def PageLayout.stageAddr (l : PageLayout) (area layer x tau head d : Nat) : Nat :=
  area + ((layer * 2 + x) * l.ts + tau % max 1 l.ts) * (l.heads * l.dh * 2) + (head * l.dh + d) * 2

/-- A list of steps run one after another, each saying whether it met poison. -/
def runSteps (s : State) (l : List (State → Bool × State)) : Bool × State :=
  l.foldl (fun p f => let r := f p.2; (p.1 || r.1, r.2)) (false, s)

/-- The tokens `t0` to `t1 - 1` of one layer flushed; all lie in one block of 128 (R171, R175). -/
def State.flushLayer (s : State) (b : Fin 64) (q : SeqRec) (t0 t1 layer : Nat) : State :=
  let l := s.seqLayout q
  let v := q.vat
  let area := s.stagingAt v b
  let blk := t0 / 128
  let e := s.readBlock q blk
  let ent (i : Nat) : Nat := entryFrame (e.1.getD (layer * l.entries + i) 0) * 65536
  let kp := l.pages l.kf
  let vp := l.pages l.vf
  let slot := e.1.getD (layer * l.entries + kp + vp) 0 / 2 ^ 27 % 8
  let sc := ent (kp + vp) + slot * l.z
  let B := l.block
  let keys : List (State → Bool × State) := (List.range (t1 - t0)).flatMap fun i =>
    (List.range l.heads).flatMap fun h => (List.range (l.dh / B)).map fun k s =>
      let u := (t0 + i) % 128
      let r := s.stagedMany v ((List.range B).map fun j => l.stageAddr area layer 0 (t0 + i) h (k * B + j))
      r.2.flushBlock v l.kf l.mode r.1
        (ent (h / max 1 (l.headsPage l.kf)) + h % max 1 (l.headsPage l.kf) * l.headBytes l.kf) ((u * l.dh + k * B) * elemBits l.kf)
        (sc + (h * 128 + u) * (l.dh / B) + k)
  let values : List (State → Bool × State) := (List.range l.heads).flatMap fun h =>
    (List.range l.dh).flatMap fun d => (List.range ((t1 - t0) / B)).map fun k s =>
      let tau := t0 + k * B
      let u := tau % 128
      let r := s.stagedMany v ((List.range B).map fun j => l.stageAddr area layer 1 (tau + j) h d)
      r.2.flushBlock v l.vf l.mode r.1
        (ent (kp + h / max 1 (l.headsPage l.vf)) + h % max 1 (l.headsPage l.vf) * l.headBytes l.vf)
        ((d * 128 + u) * elemBits l.vf) (sc + l.sigma + (h * l.dh + d) * (128 / B) + u / B)
  let r := runSteps e.2 (keys ++ values)
  if r.1 then r.2.raise 0x0906 0x5000 [(b.val, 1), (layer, 1), (blk, 4)] else r.2

/-- The pieces of a token range by blocks of 128. -/
def blockPieces (a b : Nat) : List (Nat × Nat) :=
  (List.range (ceilDiv b 128 - a / 128)).map fun i => (max a ((a / 128 + i) * 128), min b ((a / 128 + i + 1) * 128))

/-- The tokens a sequence flushes once `g` are added to its staging: whole blocks, within its page table (R175). -/
def State.flushCount (s : State) (q : SeqRec) (g : Nat) : Nat :=
  let l := s.seqLayout q
  min ((q.staged + g) / l.block * l.block) (q.cap * 128 - q.n)

/-- A sequence's growth added and its whole blocks flushed (R175). -/
def State.flush (s : State) (b : Fin 64) (g : Nat) : State :=
  let q := s.seqs[b]
  let k := s.flushCount q g
  let l := s.seqLayout q
  let s := (blockPieces q.n (q.n + k)).foldl (fun s p =>
    (List.range l.lyr).foldl (fun s layer => s.flushLayer b q p.1 p.2 layer) s) s
  s.setSeq b { s.seqs[b] with n := q.n + k, staged := q.staged + g - k, growth := g }

end Sys2Proof.Machine
end

