-- ==== Sys2Proof/Machine/Batch.lean ====
section
/-! DEFINITION. Batching at the step boundary (R294 to R297), the LAYOUT, SWAPAREA and GROWTH commands, the page work of a
beat (R181, R182) and the outcomes of swaps (R184 to R186). -/
namespace Sys2Proof.Machine

/-! ### Commands -/

/-- Whether a batch slot lies in a vat's range (R279). -/
def State.batchIn (s : State) (v : VatNo) (b : Nat) : Bool :=
  let lo := s.cfgAt (ek 0x2026 (v.val + 1))
  decide (lo ≤ b ∧ b < lo + s.cfgAt (ek 0x2027 (v.val + 1)))

/-- The batch slot of a JOIN or LEAVE. -/
def Cmd.batch (c : Cmd) : Fin 64 := ⟨c.field 1 5 0, Nat.mod_lt _ (by decide)⟩

/-- The record of a JOIN (Table 15-6). -/
def State.newJoin (s : State) (c : Cmd) : JoinRec where
  vat := c.vat
  fn := c.fn
  slot := c.slot
  batch := c.batch.val
  resume := (c.word 1).testBit 31
  layout := c.field 1 19 16
  prio := c.field 1 15 8
  stamp := c.pair 2
  taken := s.beat
  base := c.word 4 + 2 ^ 32 * c.field 5 7 0
  cap := c.word 6
  prefill := c.word 7
  share := c.word 8
  salt := BitVec.ofNat 64 (c.pair 9)
  tokens := c.word 11 + 2 ^ 32 * c.field 12 7 0
  deferred := false

/-- The checks of a JOIN in the order of R295. -/
def State.joinChecks (s : State) (j : JoinRec) (b : Fin 64) : List (Bool × Nat) :=
  let l := s.layout j.vat j.layout
  [(!s.batchIn j.vat j.batch, 2),
   ((!j.resume && s.seqs[b].state != 0) || s.joins.any (fun k => k.batch == j.batch), 3),
   (j.resume && s.seqs[b].state != 3, 6),
   (s.layoutWord j.vat j.layout == 0, 1),
   (!j.resume && (j.prefill % l.block != 0 || decide (j.prefill < j.share)
      || decide (j.cap < ceilDiv j.prefill 128)), 1),
   (!j.resume && (!s.inRegions j.vat j.base (j.cap * l.blockEntries * 4) || !s.inRegions j.vat j.tokens (4 * j.prefill)), 5)]

/-- JOIN taken (R295). -/
def State.takeJoin (s : State) (c : Cmd) : Except Refused State :=
  checkAll (s.joinChecks (s.newJoin c) c.batch) (.ok { s with joins := s.joins ++ [s.newJoin c] })

/-- JOIN (R295): accepted, it waits for a page work at or after its stamp. -/
def execJoinCommand (w : FrameWrite) (s : State) : Host.Outcome State Fault Refusal :=
  s.clocked (s.command w (fun c => c.code == 5) State.takeJoin)

/-- The pending join of a batch slot. -/
def State.pendingJoin (s : State) (v : VatNo) (b : Nat) : Option JoinRec := s.joins.find? fun j => j.batch == b && j.vat == v

/-- LEAVE taken (R296, R297). -/
def State.takeLeave (s : State) (c : Cmd) : Except Refused State :=
  let b := c.batch
  checkAll [(!s.batchIn c.vat b.val, 2), (s.seqs[b].state == 0 && (s.pendingJoin c.vat b.val).isNone, 6)]
    (.ok { s with leaves := s.leaves ++ [⟨c.vat, c.fn, c.slot, c.frame, b.val, c.pair 2, s.beat⟩] })

/-- LEAVE (R296, R297): it waits for the page work it counts at; of an empty slot that no join claims it is refused. -/
def execLeaveCommand (w : FrameWrite) (s : State) : Host.Outcome State Fault Refusal :=
  s.clocked (s.command w (fun c => c.code == 6) State.takeLeave)

/-- The growth of slot b in a GROWTH command (Table 15-2). -/
def Cmd.growth (c : Cmd) (b : Nat) : Nat := c.field (8 + b / 2) (15 + 16 * (b % 2)) (16 * (b % 2))

/-- GROWTH taken (Table 15-2). -/
def State.takeGrowth (s : State) (c : Cmd) : Except Refused State :=
  let gs := (List.range 64).map c.growth
  checkAll [((List.range 64).any fun b => !s.batchIn c.vat b && c.growth b != 0, 2),
    (decide (c.pair 2 ≤ s.work[c.vat].begun ∧ 0 < s.work[c.vat].begun), 6)]
    (.ok { s with growths := s.growths ++ [⟨c.vat, c.fn, c.slot, c.frame, c.pair 2, gs⟩] })

/-- GROWTH (Table 15-2): refused for a slot outside the vat's range or once the page work of its beat has begun. -/
def execGrowthCommand (w : FrameWrite) (s : State) : Host.Outcome State Fault Refusal :=
  s.clocked (s.command w (fun c => c.code == 7) State.takeGrowth)

/-- LAYOUT taken (R169). -/
def State.takeLayout (s : State) (c : Cmd) : Except Refused State :=
  let n := c.field 1 3 0
  let named := s.seqs.toList.any fun q => q.state != 0 && q.vat == c.vat && q.layout == n
  if (PageLayout.ofNat (c.pair 2)).bad || named then
    .error ⟨16, some (0x0908, 0x5000, [(n, 2), (s.free.1, 1)])⟩
  else .ok ({ s with layouts := Sparse.set 0 s.layouts (c.vat.val * 16 + n) (c.pair 2) }.doneCmd c)

/-- LAYOUT (R169): defined, or refused under EV-0x0908 with reason 16; the event's reason value is not stated, so free. -/
def execLayoutCommand (w : FrameWrite) (s : State) : Host.Outcome State Fault Refusal :=
  s.clocked (s.command w (fun c => c.code == 8) State.takeLayout)

/-- SWAPAREA taken (R188). -/
def State.takeSwapArea (s : State) (c : Cmd) : Except Refused State :=
  let busy := s.seqs.toList.any fun q => q.vat == c.vat && (q.state == 2 || q.state == 3 || q.state == 4)
  checkAll [(busy, 6)] (.ok (((s.setVol (ek 0xD806 (c.vat.val + 1)) (c.pair 1)).setVol (ek 0xD807 (c.vat.val + 1)) (c.word 3)).doneCmd c))

/-- SWAPAREA (R188): only while the vat holds no swapped sequence. -/
def execSwapAreaCommand (w : FrameWrite) (s : State) : Host.Outcome State Fault Refusal :=
  s.clocked (s.command w (fun c => c.code == 9) State.takeSwapArea)

/-! ### Page work (R181) -/

/-- A vat's page work changed. -/
def State.updWork (s : State) (v : VatNo) (f : PageWork → PageWork) : State := { s with work := s.work.set v (f s.work[v]) }

/-- A leave applied to its slot (R181 step 1). -/
def State.applyLeave (s : State) (b : Fin 64) : State :=
  let q := s.seqs[b]
  let e := s.heldEntries q
  let s := (e.1.filter entryHere).foldl (fun s w => s.dropRef q.vat (entryFrame w)) e.2
  let s := s.chainUsers q.vat (· - 1) (q.blocks + 1) q.lastNode
  s.setSeq b SeqRec.empty

/-- The leaves of a vat that count at a beat, in slot order (R296, R297): one of a slot in transit waits for a later beat; a pending
join of the slot ends CANCELLED; one of a slot emptied before it is refused. -/
def State.runLeaves (s : State) (v : VatNo) (n : Nat) : State :=
  (List.finRange 64).foldl (fun s b =>
    (s.leaves.filter fun l => l.vat == v && l.batch == b.val && decide (l.stamp ≤ n ∧ l.taken < n)).foldl (fun s l =>
      let st := s.seqs[b].state
      if st = 2 ∨ st = 4 then s
      else
        let s := { s with leaves := s.leaves.erase l }
        let j := s.pendingJoin v b.val
        let s := match j with
          | some j => s.cancelJoin j 0
          | none => s
        if st = 0 ∧ j.isSome then s.slotFinal l.fn l.slot (Final.plain 2 6 0)
        else if st = 0 then
          ((s.raiseVat v 0x0F01 0x5000 [(v.val, 1), (l.frame, 2), (6, 1), (6, 1)]).countVat v 2).slotFinal l.fn l.slot
            { Final.plain 7 6 6 with event := 0x0F01 }
        else (s.applyLeave b).slotFinal l.fn l.slot (Final.plain 2 6 0)) s) s

/-- The insertions due at a beat, in slot order (R178). -/
def State.runInserts (s : State) (v : VatNo) (n : Nat) : State :=
  (List.finRange 64).foldl (fun s b =>
    let q := s.seqs[b]
    if q.state = 0 ∨ q.vat ≠ v ∨ !q.insertDue ∨ n ≤ q.joinBeat then s
    else
      let s := s.setSeq b { q with insertDue := false }
      if q.state ≠ 1 ∧ q.state ≠ 5 then s
      else
        let k := q.hit / 128
        let r := if q.lastNode = noNode then (⟨0, 0, 0, noNode, rootHash q.salt, 0, 0, 0⟩, s) else s.readNode v q.lastNode
        r.2.insertBlocks b n (q.share / 128 - k) ⟨k, q.lastNode, r.1.hash⟩) s

/-- A join is deferred: counted, EV-0x0F06 at its first deferral, its place kept (R296). -/
def State.deferJoin (s : State) (j : JoinRec) (short : Nat) : State :=
  let s := s.countVat j.vat 8
  let mark (k : JoinRec) : JoinRec := if k.slot = j.slot then { k with deferred := true } else k
  let s := { s with joins := s.joins.map mark }
  if j.deferred then s
  else s.raiseVat j.vat 0x0F06 0x5000 [(j.vat.val, 1), (j.batch, 1), (j.prio, 1), (short, 4)]

/-- A new join's admission (R177, R181 step 3, R296): the walk, then its remaining pages all at once, or its deferral. -/
def State.admitJoin (s : State) (j : JoinRec) (b : Fin 64) (n : Nat) : State :=
  let q : SeqRec := { SeqRec.empty with
    state := 1, layout := j.layout, vat := j.vat, n := j.prefill, cap := j.cap, base := j.base, prio := j.prio, joinBeat := n
    share := j.share, salt := j.salt, tokens := j.tokens }
  let r := s.walk q n (j.share / 128) ⟨0, noNode, rootHash j.salt⟩
  let need := (s.seqLayout q).needs r.1.blocks (ceilDiv j.prefill 128)
  let s := r.2.makeRoom j.vat need
  let free := (s.freeFrames j.vat).length
  if free < need then (s.unwalk q r.1).deferJoin j (need - free)
  else
    let q := { q with hit := 128 * r.1.blocks, lastNode := r.1.node, insertDue := decide (r.1.blocks < j.share / 128) }
    let s := (s.addBlocks q r.1.blocks (ceilDiv j.prefill 128)).setSeq b q
    let s := { s with joins := s.joins.filter fun k => k.slot != j.slot }
    s.slotFinal j.fn j.slot { Final.plain 2 5 0 with value := 128 * r.1.blocks + 2 ^ 32 * b.val }

/-- A RESUME join (R185): its private pages allocated all at once and its swap-in begun, or its deferral. -/
def State.resume (s : State) (j : JoinRec) (b : Fin 64) (n : Nat) : State :=
  let q := s.seqs[b]
  if q.state ≠ 3 then s
  else
    let e := s.heldEntries q
    let need := (hostPages e.1).length
    let s := e.2.makeRoom j.vat need
    let free := (s.freeFrames j.vat).length
    if free < need then s.deferJoin j (need - free)
    else
      let s := (s.setSeq b { q with prio := j.prio, joinBeat := n }).swapIn b
      { s with joins := s.joins.filter (fun k => k.slot != j.slot), resumes := s.resumes ++ [j] }

/-- The joins of a vat that count at a beat, by decreasing priority and then in the order taken (R296). -/
def State.runJoins (s : State) (v : VatNo) (n : Nat) : State :=
  let l := s.joins.filter fun j => j.vat == v && decide (j.stamp ≤ n ∧ j.taken < n)
  ((List.range 256).reverse.flatMap fun p => l.filter fun j => j.prio == p).foldl (fun s j =>
    let b : Fin 64 := ⟨j.batch % 64, Nat.mod_lt _ (by decide)⟩
    if j.resume then s.resume j b n else s.admitJoin j b n) s

/-- A slot's growth at a beat: that of the last GROWTH for it, none where staging would overflow (R174). -/
def State.growthOf (s : State) (v : VatNo) (n : Nat) (b : Fin 64) : Nat × Bool :=
  match (s.growths.filter fun g => g.vat == v && g.beat == n).getLast? with
  | none => (0, false)
  | some g =>
    let k := g.growth.getD b.val 0
    let past := decide ((s.seqLayout s.seqs[b]).ts < s.seqs[b].staged + k)
    if k = 0 then (0, false) else if past then (0, true) else (k, false)

/-- The pages a slot's flush needs at a beat (R181 step 4). -/
def State.demandOf (s : State) (v : VatNo) (n : Nat) (b : Fin 64) : Nat × Nat × Nat :=
  let q := s.seqs[b]
  let k := s.flushCount q (s.growthOf v n b).1
  let hi := ceilDiv (q.n + k) 128
  ((s.seqLayout q).needs q.blocks hi, q.blocks, hi)

/-- Slots of a vat by priority and slot: `up` highest priority first and slots in order, otherwise the victims' order:
lowest priority, latest join, highest slot (R181, R182). -/
def victimBefore (s : State) (a b : Fin 64) : Bool :=
  let x := s.seqs[a]
  let y := s.seqs[b]
  if x.prio ≠ y.prio then decide (x.prio < y.prio)
  else if x.joinBeat ≠ y.joinBeat then decide (y.joinBeat < x.joinBeat)
  else decide (b < a)

/-- A slot put into a list in victims' order. -/
def insertVictim (s : State) (a : Fin 64) : List (Fin 64) → List (Fin 64)
  | [] => [a]
  | b :: l => if victimBefore s a b then a :: b :: l else b :: insertVictim s a l

/-- The running sequences of strictly lower priority than a slot's, in victims' order (R182). -/
def State.victims (s : State) (b : Fin 64) : List (Fin 64) :=
  ((List.finRange 64).filter fun a =>
    s.seqs[a].state == 1 && s.seqs[a].vat == s.seqs[b].vat && decide (s.seqs[a].prio < s.seqs[b].prio)).foldl
      (fun l a => insertVictim s a l) []

/-- The victims a demand takes until their pages cover a shortage, none where all together do not; each counts only where the
swap area still holds it. -/
def State.cover (s : State) (short : Nat) : List (Fin 64) → Nat → Option (List (Fin 64))
  | l, host =>
    let rec go : List (Fin 64) → Nat → Nat → List (Fin 64) → Option (List (Fin 64))
      | vs, got, host, acc =>
        if short ≤ got then some acc.reverse
        else match vs with
          | [] => none
          | a :: rest =>
            let n := s.swapNeed a
            if n.1 ≤ host then go rest (got + n.2.1) (host - n.1) (a :: acc) else go rest got host (a :: acc)
    go l 0 host []

/-- The demands of page work under way (R181 step 4): slots in turn; `held` frames are kept for demands before them that wait
for swap-outs; the slots still unmet, the slots waited for, the victims taken, whose own demands are unmet until a later beat (R182), and
the state. -/
def State.runDemands (v : VatNo) (n : Nat) : List (Fin 64) → Nat → List Nat → List Nat → List (Fin 64) → State → State
  | [], _, unmet, waits, _, s => s.updWork v fun w => { w with demanded := true, demands := unmet, waitFor := waits }
  | b :: rest, held, unmet, waits, out, s =>
    let q := s.seqs[b]
    if (q.state ≠ 1 ∧ q.state ≠ 5) ∨ out.contains b then State.runDemands v n rest held unmet waits out s
    else
      let d := s.demandOf v n b
      let s := s.makeRoom v (d.1 + held)
      let free := (s.freeFrames v).length - held
      if d.1 ≤ free then
        let s := s.addBlocks q d.2.1 d.2.2
        State.runDemands v n rest held unmet waits out
          (s.setSeq b { s.seqs[b] with state := 1, opened := max d.2.1 d.2.2 })
      else
        match s.cover (d.1 - free) (s.victims b) (s.hostFree v).length with
        | none => State.runDemands v n rest held unmet waits out (s.evictSeq b d.1)
        | some vs =>
          let s := vs.foldl (fun s a => s.evictSeq a d.1) s
          let gain := sumNat (vs.map fun (a : Fin 64) => s.seqs[a].moving.length)
          State.runDemands v n rest (held + (d.1 - gain)) (unmet ++ [b.val]) (waits ++ vs.map Fin.val) (out ++ vs) s

/-- The slots of a vat by decreasing priority, ties in slot order. -/
def State.byPriority (s : State) (v : VatNo) : List (Fin 64) :=
  (List.range 256).reverse.flatMap fun p => (List.finRange 64).filter fun b =>
    s.seqs[b].vat == v && (s.seqs[b].state == 1 || s.seqs[b].state == 5) && s.seqs[b].prio == p

/-- Step 4 of page work once no swap-in of step 3 is under way. -/
def State.demandStep (s : State) (v : VatNo) : State :=
  match s.work[v].now with
  | none => s
  | some n =>
    if s.work[v].demanded || s.resumes.any (fun j => j.vat == v) then s
    else State.runDemands v n (s.byPriority v) 0 [] [] [] s

/-- Whether a launch of a vat stamped before a beat is running or waiting (R181). -/
def State.earlierLaunch (s : State) (v : VatNo) (n : Nat) : Bool := s.launches.any fun l => l.vat == v && decide (l.stamp < n)

/-- PAGE_WORK (R181): the page work of the vat's oldest due beat begins once no earlier-stamped launch remains: leaves,
insertions, joins, and the demands unless a swap-in has to end first. -/
def execPageWork (v : VatNo) (s : State) : Host.Outcome State Fault Refusal :=
  s.clocked (match s.work[v].due, s.work[v].now with
    | n :: rest, none =>
      if !s.hubWorks || s.earlierLaunch v n then s
      else
        let s := s.updWork v fun w => { w with due := rest, now := some n, begun := n, demanded := false, demands := [], waitFor := [] }
        (((s.runLeaves v n).runInserts v n).runJoins v n).demandStep v
    | _, _ => s)

/-- The GROWTH commands of a beat complete: REFUSED with reason 16 where a growth of the one in force was refused (R174). -/
def State.endGrowths (s : State) (v : VatNo) (n : Nat) (bad : Bool) : State :=
  let mine := s.growths.filter fun g => g.vat == v && g.beat == n
  let s := { s with growths := s.growths.filter fun g => !(g.vat == v && decide (g.beat ≤ n)) }
  mine.zipIdx.foldl (fun s p =>
    if bad && p.2 + 1 == mine.length then
      ((s.raiseVat v 0x0F01 0x5000 [(v.val, 1), (p.1.frame, 2), (7, 1), (16, 1)]).countVat v 2).slotFinal p.1.fn p.1.slot
        { Final.plain 7 7 16 with event := 0x0908 }
    else s.slotFinal p.1.fn p.1.slot (Final.plain 2 7 0)) s

/-- Step 5: the flushes in slot order, refused growths under EV-0x0908 (R174, R175). -/
def State.runFlushes (s : State) (v : VatNo) (n : Nat) : State × Bool :=
  (List.finRange 64).foldl (fun (p : State × Bool) b =>
    let s := p.1
    if s.seqs[b].state ≠ 1 ∨ s.seqs[b].vat ≠ v then p
    else
      let g := s.growthOf v n b
      let s := if g.2 then s.free.2.raise 0x0908 0x5000 [(b.val, 1), (s.free.1, 1)] else s
      (s.flush b g.1, p.2 || g.2)) (s, false)

/-- The step mask: bit s where slot s is resident and runs this step (R181 step 6). -/
def State.stepMask (s : State) (v : VatNo) : Nat :=
  sumNat ((List.finRange 64).map fun b => if s.seqs[b].vat = v ∧ s.seqs[b].state = 1 then 2 ^ b.val else 0)

/-- Steps 5 and 6 and the end of a vat's page work: records brought up to date, the keeper's cause (R173, R181, R329). -/
def State.endWork (s : State) (v : VatNo) (n : Nat) : State :=
  let f := s.runFlushes v n
  let s := f.1.kWrite v (f.1.cfgAt (ek 0xD808 (v.val + 1))) (leBytes (f.1.stepMask v) 8)
  let s := (List.finRange 64).foldl (fun s b =>
    if s.seqs[b].vat ≠ v then s
    else (if s.seqs[b].state = 1 then s else s.setSeq b { s.seqs[b] with growth := 0 }).refreshPriv b) s
  let s := (s.endGrowths v n f.2).updWork v fun w => { w with now := none, demanded := false, demands := [], waitFor := [] }
  s.vatCause v 4 3

/-- PAGE_WORK_END (R181): demands still unmet are tried again once the swap-outs they wait for have ended; with none left the
flushes and the step mask follow and the page work ends. -/
def execPageWorkEnd (v : VatNo) (s : State) : Host.Outcome State Fault Refusal :=
  s.clocked (match s.work[v].now with
    | none => s
    | some n =>
      let w := s.work[v]
      let outbound (i : Nat) : Bool := if h : i < 64 then s.seqs[i].state == 2 else false
      if !s.hubWorks || !w.demanded || w.waitFor.any outbound then s
      else
        let s := State.runDemands v n (w.demands.filterMap fun i => if h : i < 64 then some ⟨i, h⟩ else none) 0 [] [] [] s
        if s.work[v].demands.isEmpty then s.endWork v n else s)

/-! ### Swap outcomes -/

/-- Whether a vat's traffic is still held in the host-bound queue: reads that only wait for a tag go out as earlier ones are answered. -/
def State.hostHeld (s : State) (v : VatNo) : Bool :=
  s.host.held.any fun h => h.fn == s.vatFn v && (!h.isRead || !s.hostSends || s.funcs[h.fn].ideHold)

/-- Whether an address lies in a host frame of a sequence: what its swap reads (R184, R185). -/
def State.inHostFrames (s : State) (q : SeqRec) (a : Nat) : Bool :=
  let lo := s.volAt (ek 0xD806 (q.vat.val + 1))
  q.hostFrames.any fun f => decide (lo + 65536 * f ≤ a ∧ a < lo + 65536 * f + 65536)

/-- The reads of a sequence's swap answered. -/
def State.swapReads (s : State) (b : Fin 64) : State := s.readsBack s.seqs[b].vat (s.inHostFrames s.seqs[b])

/-- SWAP_OUT_COMPLETE (R184). -/
def execSwapOutComplete (b : Fin 64) (s : State) : Host.Outcome State Fault Refusal :=
  s.clocked (if s.seqs[b].state != 2 || s.hostHeld s.seqs[b].vat then s else (s.swapReads b).swapOutDone b)

/-- The RESUME join of a slot completed: DONE with its prefix hit tokens, or FAULTED with reason 13 (R296). -/
def State.endResume (s : State) (b : Fin 64) (ok : Bool) : State :=
  let v := s.seqs[b].vat
  let s := match s.resumes.find? fun j => j.batch == b.val with
    | none => s
    | some j =>
      let s := { s with resumes := s.resumes.filter fun k => k.batch != b.val }
      s.slotFinal j.fn j.slot (if ok then { Final.plain 2 5 0 with value := s.seqs[b].hit + 2 ^ 32 * b.val } else { Final.plain 3 5 13 with event := 0x0907 })
  s.demandStep v

/-- SWAP_IN_COMPLETE (R185): the data are the sequence's host frames in order, 64 KiB each. -/
def execSwapInComplete (b : Fin 64) (data : List Byte) (s : State) : Host.Outcome State Fault Refusal :=
  s.clocked (if s.seqs[b].state != 4 || s.hostHeld s.seqs[b].vat || data.length != 65536 * s.seqs[b].hostFrames.length then s
    else ((s.swapReads b).swapInDone b data).endResume b true)

/-- A swap ends in an error (R186): EV-0x0907; outbound frames held again and the sequence parked, or inbound frames free, the
sequence swapped and its join failed. -/
def State.swapFail (s : State) (b : Fin 64) (status : Nat) : State :=
  let q := s.seqs[b]
  let s := s.readsEnd q.vat (s.inHostFrames q)
  if q.state = 2 then
    let s := s.raise 0x0907 0x5000 [(b.val, 1), (0, 1), (status, 1)]
    let s := q.moving.foldl (fun s f => s.setFrame f { s.frame f with state := 1 }) s
    (s.setSeq b { q with state := 1, moving := [], hostFrames := [] }).park b 0
  else if q.state = 4 then
    let s := s.raise 0x0907 0x5000 [(b.val, 1), (1, 1), (status, 1)]
    let s := q.moving.foldl (fun s f => s.setFrame f Frame.free) s
    (s.setSeq b { q with state := 3, moving := [] }).endResume b false
  else s

/-- SWAP_TRANSFER_FAILED (R186). -/
def execSwapTransferFailed (b : Fin 64) (status : Nat) (s : State) : Host.Outcome State Fault Refusal := s.clocked (s.swapFail b status)

end Sys2Proof.Machine
end

