-- ==== Sys2Proof/Machine/Store.lean ====
section
/-! DEFINITION. Values leaving an instruction for a tensor: conversion of rows with their block scales, masks, poison and
counts (R46, R51, R90, R101, R454), for CHAIN, MOVE, RANDOM and VSPLIT. -/
namespace Sys2Proof.Machine

/-- A value on its way to a destination element: its FP32 value, its poison, and which counts it has already added to
(R46: at most one to each). -/
structure Cell where
  x : FVal
  poison : Bool
  nf : Bool
  sat : Bool
  pz : Bool
  deriving DecidableEq, Repr

/-- A value that has counted nothing. -/
def Cell.of (x : FVal) (poison : Bool) : Cell := ⟨x, poison, false, false, false⟩

/-- What one row of values becomes: elements, scale bytes, elements of a poisoned block that are not written, counts. -/
structure RowOut where
  ws : List Wr
  ss : List WrScale
  bad : List Nat
  counts : Counts
  deriving DecidableEq, Repr

/-- Nothing written. -/
def RowOut.none : RowOut := ⟨[], [], [], Counts.none⟩

/-- Two parts of a row together. -/
def RowOut.add (a b : RowOut) : RowOut := ⟨a.ws ++ b.ws, a.ss ++ b.ss, a.bad ++ b.bad, a.counts.add b.counts⟩

/-- The counts of a converted element (R46, R52, R218): those it has not already added, and the running maximum; an element
written poisoned, its own poison or its block's (`hot`), adds to the count of poisoned elements. A poisoned element adds to no other
count and not to the maximum: R46 does not say whether it does (DESIGN CHOICE, assumption 94). -/
def Cell.counts (p : Cell) (hot amax : Bool) (r : Conv) : Counts :=
  let n : Counts := if p.poison then Counts.none else { Counts.none with
    sats := b2n (r.sat && !p.sat), nonfinConv := b2n (r.nonfin && !p.nf), flushes := b2n r.flush
    convMax := if amax && !p.x.nonFinite then p.x.abs else .zero }
  { n with poisons := b2n ((p.poison || hot) && !p.pz) }

/-- One block of a row: the active values converted together, the inactive ones of the instruction's window kept or
made zero, a poisoned value poisoning the block (R51, R90, R101). `cs` are columns with their values, `none` inactive;
`draw` is the draw of a column. -/
def convPart (d : Desc) (ctl : CCtl) (zero : Bool) (r : Nat) (draw : Nat → Nat) (cs : List (Nat × Option Cell)) : RowOut :=
  let act := cs.filterMap fun p => p.2.map fun v => (p.1, v)
  let scaled := ctl.scale != 0#3
  let quiet : List Wr := if zero then (cs.filter fun p => p.2.isNone).map fun p => ⟨r, p.1, 0, false⟩ else []
  if act.isEmpty then (if scaled then RowOut.none else { RowOut.none with ws := quiet })
  else
    let cols := act.map Prod.fst
    let hot := scaled && act.any fun p => p.2.poison
    let b := convertBlock ctl d.fmt (f32 d.coarse) (fun i => draw (cols.getD i 0)) (act.map fun p => p.2.x)
    let outs := act.zip b.elems
    let B := blockSize ctl.scale
    let blk := cols.headD 0 / B
    { ws := (outs.map fun o => ⟨r, o.1.1, o.2.code, o.1.2.poison || hot⟩) ++ quiet
      ss := match b.scale with
        | some byte => [⟨r * d.blocks + blk, byte, hot⟩]
        | none => []
      bad := if hot then ((List.range B).map fun i => blk * B + i).filter fun col => decide (col < d.n0) else []
      counts := outs.foldl (fun n o => n.add (o.1.2.counts hot ctl.amax o.2)) Counts.none }

/-- The part of a row a conversion treats together: a block, or one element where there are no fine scales. -/
def groupCols (B : Nat) (cs : List (Nat × Option Cell)) : List (List (Nat × Option Cell)) :=
  ((cs.map fun p => p.1 / B).eraseDups).map fun b => cs.filter fun p => p.1 / B == b

/-- A row of values for columns `c0` onward converted for a tensor; what lies outside the extent is discarded (R130). -/
def convRow (d : Desc) (ctl : CCtl) (zero : Bool) (r c0 : Int) (cells : List (Option Cell)) (draw : Nat → Nat) : RowOut :=
  let cs := cells.zipIdx.filterMap fun p =>
    let col := c0 + (p.2 : Int)
    if d.inExtent r col then some (col.toNat, p.1) else none
  (groupCols (blockSize ctl.scale) cs).foldl (fun o g => o.add (convPart d ctl zero r.toNat draw g)) RowOut.none

/-- The draws of a row's active elements within the extent: by logical index, lane by column (R100, R206, R211). -/
def State.rowDraws (s : State) (c : CoreId) (d : Desc) (ctl : CCtl) (stream draw : Word) (r c0 : Int)
    (cells : List (Option Cell)) : (Nat → Nat) × State :=
  if ctl.rnd != 1#2 then (fun _ => 0, s)
  else
    let cols : List Nat := cells.zipIdx.filterMap fun p =>
      let col := c0 + (p.2 : Int)
      if p.1.isSome && d.inExtent r col then some col.toNat else none
    let t := s.draw16s c stream draw (cols.map fun (col : Nat) => (d.logical r (col : Int), col % 128))
    (fun col => ((cols.zip t.1).find? fun p => p.1 == col).elim 0 Prod.snd, t.2)

/-- POISON set when a write carried poison (R101). -/
def State.markPoison (s : State) (c : CoreId) (hot : Bool) : State :=
  if hot then s.updCore c fun k => k.orStat 4#32 else s

/-- A row of values converted and stored through a descriptor in memory, counted in a census slot (R51, R90, R101, R218). -/
def State.storeRow (s : State) (c : CoreId) (slot : Fin 16) (d : Desc) (ctl : CCtl) (zero : Bool) (stream draw : Word)
    (r c0 : Int) (cells : List (Option Cell)) : State :=
  let t := s.rowDraws c d ctl stream draw r c0 cells
  let o := convRow d ctl zero r c0 cells t.1
  let s := t.2.storeTensor c d o.ws o.ss
  let s := if o.bad.isEmpty then s
    else s.storeCells c d.loc [] (o.bad.flatMap fun col => d.elemAddrs r.toNat col)
  (s.addCensus c slot o.counts).markPoison c ((o.ws.any fun w => w.poison) || (o.ss.any fun b => b.poison))

end Sys2Proof.Machine
end

