-- ==== Sys2Proof/Machine/Chain.lean ====
section
/-! DEFINITION. CHAIN: the stages in their order (R92), row statistics (R94), the soft-maximum and normalisation row steps
(R119 to R124), the register-only codes, and the meanings of the rows of class 4. -/
namespace Sys2Proof.Machine

/-! ### The fields of a chain -/

end Sys2Proof.Machine

namespace Sys2Proof
open Sys2Proof.Machine

/-- The function code in use: 0 where FN is disabled (R109). -/
def ChainF.code (f : ChainF) : Nat := if f.fn then f.fnCode.toNat % 32 else 0

/-- Whether profile 1 is selected (R109). -/
def ChainF.p1 (f : ChainF) : Bool := f.fnCode.getLsbD 5

/-- Whether the code is register-only (R111). -/
def ChainF.regOnly (f : ChainF) : Bool := decide (0x18 ≤ f.code ∧ f.code ≤ 0x1C)

end Sys2Proof

namespace Sys2Proof.Machine

/-- The largest statistics base a code admits (R119 to R124). -/
def baseLimit (code : Nat) : Nat :=
  match code with
  | 0x07 => 20
  | 0x16 => 16
  | 0x17 => 20
  | 0x18 => 16
  | 0x19 => 20
  | 0x1A => 16
  | 0x1B => 20
  | 0x1C => 16
  | _ => 31

end Sys2Proof.Machine

namespace Sys2Proof
open Sys2Proof.Machine

/-- The last register the ROW stage writes, past its base (R94). -/
def ChainF.statSpan (f : ChainF) : Nat := if f.statSq then 11 else if f.statSum then 7 else if f.statMax then 3 else 0

/-- The illegal operands of a chain (R92, R109, R111): EV-0x0503. -/
def ChainF.operandStops (f : ChainF) : List (Option Stop) :=
  let code := f.code
  [ stopIf (f.srcKind == 3#2) (badChain (atWord 1 30)),
    stopIf (f.dstKind == 3#2) (badChain (atWord 3 12)),
    stopIf (decide (0x1D ≤ code)) (badChain (atWord 2 6)),
    stopIf (f.regOnly && f.srcKind != 2#2) (badChain (atWord 1 30)),
    stopIf (f.regOnly && f.dstKind != 1#2) (badChain (atWord 3 12)),
    stopIf (f.regOnly && (f.scl || f.res || f.aff || f.row || f.cen || f.cvt)) (badChain (atWord 1 16)),
    stopIf (!f.regOnly && f.srcKind == 0#2 && f.dstKind == 1#2) (badChain (atWord 3 12)),
    stopIf ((code == 0x07 || code == 0x16 || code == 0x17) && f.row) (badChain (atWord 1 18)),
    stopIf (code == 0x17 && f.scl) (badChain (atWord 1 22)),
    stopIf ((code == 0x07 || code == 0x16) && f.srcKind == 2#2) (badChain (atWord 1 30)),
    stopIf (f.scl && f.scaleRow && !f.noScale && decide (28 < f.scaleReg.val)) (badChain (atWord 2 27)),
    stopIf (f.scl && f.biasRow && !f.noBias && decide (28 < f.biasReg.val)) (badChain (atWord 2 20)),
    stopIf (f.aff && decide (24 < f.affBase.val)) (badChain (atWord 3 22)),
    stopIf (decide (baseLimit code < f.statBase.val)) (badChain (atWord 3 14)) ]

/-- The conversion control in force (R454): the descriptor's format under the instruction's field for a descriptor, the
instruction's field in full otherwise. -/
def ChainF.control (f : ChainF) (dd : Desc) : CCtl :=
  if f.dstKind = 0#2 then CCtl.ofBits (effectiveCC f.cc dd.cc) else CCtl.ofBits f.cc

/-- Whether the chain converts: to a descriptor always, elsewhere where CVT is enabled. -/
def ChainF.converts (f : ChainF) : Bool := f.dstKind == 0#2 || f.cvt

/-- The destination descriptor's number; meaningful for a descriptor destination. -/
def ChainF.dd (f : ChainF) : DReg := ⟨f.dst.toNat % 64, Nat.mod_lt _ (by decide)⟩
/-- The source descriptor's number. -/
def ChainF.ds (f : ChainF) : DReg := ⟨f.source.toNat % 64, Nat.mod_lt _ (by decide)⟩
/-- The source tile's number. -/
def ChainF.tile (f : ChainF) : TileNo := ⟨f.source.toNat % 16, Nat.mod_lt _ (by decide)⟩
/-- The destination pipe's number. -/
def ChainF.pipe (f : ChainF) : Fin 1024 := f.dst.toFin

end Sys2Proof

namespace Sys2Proof.Machine

/-- INT2 where it is neither a weight operand nor a conversion's destination (R5, Table 3-2). -/
def int2Stop (w cls : Nat) (d : Desc) : Option Stop := stopIf (d.ctl.dst == 0xB#4) (badFormat w cls (atDesc 0 12) 0xB)

/-- The checks of a chain's control field, whether or not CVT is enabled (R41, R454). -/
def State.chainCtlStops (s : State) (c : CoreId) (f : ChainF) : List (Option Stop) :=
  let w := s.wordOf c
  let ctl := f.control (s.desc c f.dd)
  let rndAt := if f.dstKind = 0#2 ∧ ctlBits f.cc = 0#16 then atDesc 0 7 else atWord 1 7
  [ stopIf (ctl.rnd == 3#2) (badFormat w clsChain rndAt ctl.dst.toNat),
    stopIf (f.dstKind != 0#2 && decide (4 < ctl.scale.toNat)) (badFormat w clsChain (atWord 1 9) ctl.dst.toNat),
    stopIf (!ctl.legal) (badFormat w clsChain (atWord 1 12) ctl.dst.toNat) ]

/-- The remaining checks of a chain that streams values: field ranges (R134), the row-statistics base (R94), descriptors
(R131), the control field (R41), the stream (R272), the pipe (R256), the tile (R76). -/
def State.chainStops (s : State) (c : CoreId) (f : ChainF) : List (Option Stop) :=
  let w := s.wordOf c
  let ill (p : Nat) : Stop := illegal w clsChain 0 p
  let ctl := f.control (s.desc c f.dd)
  [ stopIf (f.srcKind == 0#2 && decide (15 < f.source.toNat)) (ill (atWord 1 24)),
    stopIf (f.srcKind == 2#2 && decide (31 < f.source.toNat)) (ill (atWord 1 24)),
    stopIf (f.srcKind == 1#2 && (f.rows == 0 || decide (512 < f.rows))) (ill (atWord 7 0)),
    stopIf (f.dstKind == 0#2 && decide (63 < f.dst.toNat)) (ill (atWord 3 2)),
    stopIf (f.dstKind == 1#2 && decide (31 < f.dst.toNat)) (ill (atWord 3 2)),
    stopIf (f.row && decide (31 < f.statBase.val + f.statSpan)) (ill (atWord 3 14)),
    (if f.srcKind = 1#2 then firstStop [s.descStop c clsChain 0 f.ds [2], int2Stop w clsChain (s.desc c f.ds)] else none),
    (if f.res then firstStop [s.descStop c clsChain 0 f.resDesc [0, 1, 2], int2Stop w clsChain (s.desc c f.resDesc)] else none),
    (if f.dstKind = 0#2 then s.descStop c clsChain 0 f.dd [2] else none),
    firstStop (s.chainCtlStops c f),
    (if f.converts && ctl.rnd == 1#2 then s.streamStop c f.stream else none),
    (if f.dstKind = 2#2 then s.pipeStop c f.dst.toNat true else none),
    (if f.srcKind = 0#2 then s.bindStop c [f.tile] else none) ]

/-! ### Stages -/

/-- A lane of a register replaced. -/
def Core.setLane (k : Core) (v i : Nat) (l : Lane) : Core :=
  { k with v := vset k.v v (vset (vget (Vector.replicate 128 Lane.zero) k.v v) i l) }

/-- A row-state lane written, with its poison (R101). -/
def Core.setState (k : Core) (v i : Nat) (x : FVal) (poison : Bool) : Core :=
  let k := k.setLane v i ⟨rne32 x, poison⟩
  if poison then k.orStat 4#32 else k

/-- A scale or bias operand of column j in row i of array a: per row or per column (R92). -/
def operandLane (k : Core) (reg : Nat) (perRow off : Bool) (dflt : FVal) (a i j : Nat) : FVal × Bool :=
  if off then (dflt, false)
  else
    let l := if perRow then k.lane (reg + a) i else k.lane reg j
    (l.f, l.poison)

end Sys2Proof.Machine

namespace Sys2Proof
open Sys2Proof.Machine

/-- SCL (Table 5-1): `k0` is rne32(Ca × Cw); s is formed once an instruction, from the registers of `start`, the core as it begins; the
bias is read as its row passes (DESIGN CHOICE, assumption 121). -/
def ChainF.sclStage (f : ChainF) (start k : Core) (k0 : FVal) (a i : Nat) (row : List Cell) : List Cell :=
  if !f.scl then row
  else row.zipIdx.map fun p =>
    let v := operandLane start f.scaleReg f.scaleRow f.noScale one a i p.2
    let b := operandLane k f.biasReg f.biasRow f.noBias .zero a i p.2
    { p.1 with x := fma32 p.1.x (rne32v (k0.mul v.1)) b.1, poison := p.1.poison || v.2 || b.2 }

/-- RES (Table 5-1): the residual of column j. -/
def ChainF.resStage (f : ChainF) (res : Nat → FVal × Bool) (row : List Cell) : List Cell :=
  if !f.res then row
  else row.zipIdx.map fun p => { p.1 with x := rne32v (p.1.x.add (res p.2).1), poison := p.1.poison || (res p.2).2 }

/-- AFF (Table 5-1). -/
def ChainF.affStage (f : ChainF) (k : Core) (a i : Nat) (row : List Cell) : List Cell :=
  if !f.aff then row
  else
    let m := k.lane (f.affBase + a) i
    let b := k.lane (f.affBase + 4 + a) i
    row.map fun p => { p with x := fma32 p.x m.f b.f, poison := p.poison || m.poison || b.poison }

end Sys2Proof

namespace Sys2Proof.Machine

/-- The values of a row under a mask. -/
def activeCells (mask : BitVec 128) (row : List Cell) : List (Nat × Cell) :=
  (row.zipIdx.filter fun p => mask.getLsbD p.2).map fun p => (p.2, p.1)

/-- The 128 values of a row, inactive columns as a value. -/
def columnsOr (mask : BitVec 128) (dflt : FVal) (g : Cell → FVal) (row : List Cell) : List FVal :=
  row.zipIdx.map fun p => if mask.getLsbD p.2 then g p.1 else dflt

end Sys2Proof.Machine

namespace Sys2Proof
open Sys2Proof.Machine

/-- ROW (R94): the enabled statistics of a row folded into their lanes. -/
def ChainF.rowStage (f : ChainF) (k : Core) (mask : BitVec 128) (a i : Nat) (row : List Cell) : Core :=
  if !f.row then k
  else
    let hot := (activeCells mask row).any fun p => p.2.poison
    let fold (k : Core) (v : Nat) (g : FVal → FVal) : Core :=
      let l := k.lane v i
      k.setState v i (g l.f) (hot || l.poison)
    let b := f.statBase.val
    let k := if f.statMax then
        fold k (b + a) fun x => maxVal x ((activeCells mask row).foldl (fun m p => maxVal m p.2.x) (.inf true))
      else k
    let k := if f.statSum then
        fold k (b + 4 + a) fun x => rne32v (x.add (treeSum (columnsOr mask .zero (fun p => p.x) row)))
      else k
    if f.statSq then
      fold k (b + 8 + a) fun x => rne32v (x.add (treeSum (columnsOr mask .zero (fun p => rne32v (p.x.mul p.x)) row)))
    else k

end Sys2Proof

namespace Sys2Proof.Machine

/-- The least integer that is not below a value (R119); a zero has the positive sign, which R119 does not give (DESIGN CHOICE, assumption
122). -/
def ceilVal : FVal → FVal
  | .fin n m e =>
    if 0 ≤ e then .fin n m e
    else
      let q := m / 2 ^ (-e).toNat
      if n then .ofInt (-(q : Int)) else .ofInt (if m % 2 ^ (-e).toNat = 0 then q else q + 1)
  | x => x

/-- SMAX on one row (R119): the exponentials, the registers, and whether the row was non-finite. -/
def smaxRow (k : Core) (p1 : Bool) (b : Nat) (mask : BitVec 128) (a i : Nat) (row : List Cell) : List Cell × Core × Bool :=
  let act := activeCells mask row
  let ml := k.lane (b + a) i
  let ll := k.lane (b + 4 + a) i
  let hot := ml.poison || ll.poison || act.any fun p => p.2.poison
  let put (k : Core) (m l c : FVal) : Core :=
    ((k.setState (b + a) i m hot).setState (b + 4 + a) i l hot).setState (b + 8 + a) i c hot
  if ml.f == .nan || act.any fun p => p.2.x == .nan || p.2.x == .inf false then
    (row.map fun p => { p with x := .nan, poison := p.poison || hot }, put k .nan .nan .nan, true)
  else
    let fins := act.filter fun p => !p.2.x.nonFinite
    let mn := match fins with
      | [] => ml.f
      | q :: qs => maxVal ml.f (ceilVal (qs.foldl (fun m p => maxVal m p.2.x) q.2.x))
    let cf := if mn.eqv ml.f then one else if ml.f == .inf true then .zero else scale2 one (rni (ml.f.sub mn)) FFmt.fp32
    let out := row.map fun p =>
      { p with x := if p.x == .inf true then .zero else exp2bOf p1 (rne32v (p.x.sub mn)), poison := p.poison || hot }
    let sum := treeSum (columnsOr mask .zero (fun p => p.x) out)
    (out, put k mn (fma32 cf ll.f sum) cf, false)

/-- CENTRE on one row (R122). -/
def centreRow (k : Core) (b : Nat) (mask : BitVec 128) (a i : Nat) (row : List Cell) : List Cell × Core :=
  let mu := k.lane (b + a) i
  let q := k.lane (b + 4 + a) i
  let dr := k.lane (b + 8 + a) i
  let sp := k.lane (b + 12 + a) i
  let hot := mu.poison || q.poison || dr.poison || sp.poison || (activeCells mask row).any fun p => p.2.poison
  let out := row.map fun p => { p with x := rne32v (p.x.sub mu.f), poison := p.poison || mu.poison }
  let act := activeCells mask out
  let t := treeSum (columnsOr mask .zero (fun p => rne32v (p.x.mul p.x)) out)
  let ref := if dr.f == .nan then (match act with | p :: _ => p.2.x | [] => dr.f) else dr.f
  let spread := if act.any fun p => !p.2.x.eqv ref then one else sp.f
  (out, ((k.setState (b + 4 + a) i (rne32v (q.f.add t)) hot).setState (b + 8 + a) i ref hot).setState (b + 12 + a) i spread hot)

end Sys2Proof.Machine

namespace Sys2Proof
open Sys2Proof.Machine

/-- NORM_APPLY on one row (R124). -/
def ChainF.normRow (f : ChainF) (k : Core) (a i : Nat) (row : List Cell) : List Cell :=
  let m := k.lane (f.statBase + a) i
  let o := k.lane (f.statBase + 4 + a) i
  row.zipIdx.map fun p =>
    let g := operandLane k f.scaleReg false f.noScale one a i p.2
    let b := operandLane k f.biasReg false f.noBias .zero a i p.2
    { p.1 with x := fma32 (fma32 p.1.x m.f o.f) g.1 b.1, poison := p.1.poison || m.poison || o.poison || g.2 || b.2 }

/-- The cells of a row whose NaN inputs count as non-finite, once for an element, and how many did (R46, R112). -/
def countNaN (bad : Cell → Bool) (real : Nat → Bool) (row : List Cell) : List Cell × Nat :=
  let out := row.zipIdx.map fun p =>
    let n := bad p.1 && !p.1.nf && !p.1.poison && real p.2
    (({ p.1 with nf := p.1.nf || n } : Cell), n)
  (out.map Prod.fst, (out.filter fun p => p.2).length)

/-- An element function on one row (R109 to R117, R453), with the non-finite results it counts: a NaN input, or a NaN
bound of CLAMP, once for an element; `lo` and `hi` are the bounds as latched at issue. -/
def ChainF.elementRow (f : ChainF) (k : Core) (lo hi : Lane) (real : Nat → Bool) (row : List Cell) : List Cell × Nat :=
  let bounds := f.code == 0x04 && (lo.poison || hi.poison)
  let out := row.zipIdx.map fun p =>
    let y := applyFn f.code f.p1 k.custs[f.table] lo.f hi.f p.1.x
    let bad := p.1.x == .nan || (f.code == 0x04 && y == .nan)
    let n := bad && !p.1.nf && !p.1.poison && !bounds && real p.2
    (({ p.1 with x := y, poison := p.1.poison || bounds, nf := p.1.nf || n } : Cell), n)
  (out.map Prod.fst, (out.filter fun p => p.2).length)

/-- FN (Table 5-1): the row after it, the registers it wrote, the non-finite results it counts: a NaN input in every function
(R112); SMAX once a row beside what its NaN results count where they are converted (R119; DESIGN CHOICE, assumption 123). -/
def ChainF.fnStage (f : ChainF) (k : Core) (lo hi : Lane) (mask : BitVec 128) (real : Nat → Bool) (a i : Nat) (row : List Cell) :
    List Cell × Core × Nat :=
  let seen := countNaN (fun p => p.x == .nan) real row
  match f.code with
  | 0x00 => if f.fn then (seen.1, k, seen.2) else (row, k, 0)
  | 0x07 =>
    let r := smaxRow k f.p1 f.statBase mask a i row
    (r.1, r.2.1, if r.2.2 && (List.range 128).any real then 1 else 0)
  | 0x16 => let r := centreRow k f.statBase mask a i seen.1; (r.1, r.2, seen.2)
  | 0x17 => (f.normRow k a i seen.1, k, seen.2)
  | _ => let r := f.elementRow k lo hi real row; (r.1, k, r.2)

/-- A row through the stages up to CEN: its values, the registers, what it counts. `start` is the core as the instruction begins, `lo` and `hi` are the clamp bounds, `k0` is rne32(Ca × Cw), `res` the
residual of a column, `real` says which columns count (R90, R130). -/
def ChainF.stages (f : ChainF) (start k : Core) (lo hi : Lane) (k0 : FVal) (res : Nat → FVal × Bool) (real : Nat → Bool) (a i : Nat)
    (row : List Cell) : List Cell × Core × Counts :=
  let mask := k.mask f.mask
  let row := f.resStage res (f.sclStage start k k0 a i row)
  let r := f.fnStage k lo hi mask real a i row
  let row := f.affStage r.2.1 a i r.1
  let k := f.rowStage r.2.1 mask a i row
  let n : Counts := { Counts.none with nonfinConv := r.2.2 }
  if f.cen then
    let n := row.zipIdx.foldl (fun n p => if real p.2 then n.add (cenCounts p.1.x p.1.poison) else n) n
    (row.map fun p => { p with pz := p.poison }, k, n)
  else (row, k, n)

end Sys2Proof

namespace Sys2Proof.Machine

/-! ### Sources and destinations -/

/-- The rows a chain takes: their array and lane, and their values. -/
abbrev ChainRow := Nat × Nat × List Cell

/-- A drained row of an array, rounded under R64 (R63, R85): an overflowed part has counted its saturations already. -/
def drainRow (t : TileArr) (i : Nat) : List Cell :=
  (List.range 128).map fun j =>
    let w := if h : 128 * i + j < 16384 then t.vals[128 * i + j] else 0#40
    let r := drainA38 w
    ⟨f32 r.1, t.poison, r.2, t.ovf, false⟩

/-- The rows of a drain: every array in service, in order (R92). -/
def State.drainRows (s : State) (c : CoreId) (t : TileNo) : List ChainRow :=
  (List.finRange 4).flatMap fun a =>
    if s.arrayUp c a then (List.range 128).map fun i => (a.val, i, drainRow (s.tileOf c t).arr[a] i) else []

/-- The rows of a tensor source (R136). -/
def State.tensorRows (s : State) (c : CoreId) (d : Desc) (view : Sparse (List (Byte × Bool))) (r0 c0 : Int) (n : Nat) :
    List ChainRow :=
  (List.range n).map fun (r : Nat) => (r / 128, r % 128, (List.range 128).map fun (j : Nat) =>
    let e := readElem (s.peek c d.loc view) d (r0 + (r : Int)) (c0 + (j : Int))
    Cell.of (d.value e) e.poison)

/-- A register as a source row. -/
def Core.sourceRow (k : Core) (v : Nat) : List Cell := (List.range 128).map fun j => Cell.of (k.lane v j).f (k.lane v j).poison

/-- The 128 columns of a destination that has no descriptor, in the control field's format and with its block layout (R454): coarse
scale 1.0. -/
def bareDesc (cc : BitVec 16) : Desc :=
  { Desc.ofBits 0#512 with cc := cc, n0 := 128, n1 := 512, rowLen := 128, coarse := 0x3F800000#32 }

/-- The cells of a row under a mask, inactive columns none. -/
def maskedCells (mask : BitVec 128) (row : List Cell) : List (Option Cell) :=
  row.zipIdx.map fun p => if mask.getLsbD p.2 then some p.1 else none

/-- What a conversion counted, or the poisoned elements alone where the chain does not convert (R46, R218). -/
def chainCounts (f : ChainF) (n : Counts) : Counts := if f.cvt then n else { Counts.none with poisons := n.poisons }

/-- A row written to a vector register (Table 5-1 DST, R100), converted in the blocks of its scale mode (R51, R454): FP32 and INT32
are stored as encoded; a narrower format has no place in an unpacked lane that R89 gives, so its bits are a free value (DESIGN
CHOICE, assumption 20). An inactive lane keeps its poison bit or clears it, its block poisoned or not (R90). -/
def State.chainToReg (s : State) (c : CoreId) (f : ChainF) (ctl : CCtl) (row : List Cell) : State :=
  let mask := s.cores[c].mask f.mask
  let ctl := if f.cvt then ctl else CCtl.ofBits 0#16
  let d := bareDesc (if f.cvt then f.cc else 0#16)
  let act := (List.range 128).filter fun i => mask.getLsbD i
  let x0 := (s.xr c 0).toNat % 2 ^ 32
  let t : List Nat × State := if ctl.rnd == 1#2 then s.draw16s c f.stream f.draw (act.map fun i => (x0 + i, i)) else ([], s)
  let fr : Nat × State := if d.fmt.width = 32 then (0, t.2) else t.2.free
  let o := convRow d ctl false 0 0 (maskedCells mask row) fun i => ((act.zip t.1).find? fun p => p.1 == i).elim 0 Prod.snd
  let lane (i : Nat) : Lane := match o.ws.find? fun w => w.col == i with
    | some w => ⟨if d.fmt.width = 32 then BitVec.ofNat 32 w.code else BitVec.ofNat 32 (fr.1 / 2 ^ (32 * i)), w.poison⟩
    | none => Lane.zero
  (fr.2.writeV c f.dst.toNat mask f.maskZero lane).addCensus c 15 (chainCounts f o.counts)

/-- A row given to a pipe named directly (R256, R454): 128 columns in the control field's format, FP32 without CVT. A pipe holds no
old value, and R90 does not say what an inactive column gives it in keep-old mode: the zero encoding, as in zero mode (DESIGN
CHOICE, assumption 12). A poisoned block is poisoned whole (R101). -/
def State.chainToPipe (s : State) (c : CoreId) (f : ChainF) (ctl : CCtl) (ri : Nat) (row : List Cell) : State :=
  let mask := s.cores[c].mask f.mask
  let ctl := if f.cvt then ctl else CCtl.ofBits 0#16
  let d := bareDesc (if f.cvt then f.cc else 0#16)
  let cells := maskedCells mask row
  let t := s.rowDraws c d ctl f.stream f.draw ri 0 cells
  let o := convRow d ctl f.maskZero ri 0 cells t.1
  let at_ (j : Nat) : Nat × Bool := match o.ws.find? fun w => w.col == j with
    | some w => (w.code, w.poison || o.bad.contains j)
    | none => (0, o.bad.contains j)
  let sc (b : Nat) : Byte × Bool := match o.ss.find? fun w => w.block == ri * d.blocks + b with
    | some w => (w.byte, w.poison)
    | none => (0#8, false)
  let bytes := packRow d.fmt 128 ((List.range 128).map at_) (if d.scaled then (List.range d.blocks).map sc else [])
  let s := t.2.addCensus c 15 (chainCounts f o.counts)
  (s.updPipe f.pipe fun p => { p with waiting := p.waiting ++ bytes }).markPoison c (o.ws.any fun w => w.poison)

end Sys2Proof.Machine

namespace Sys2Proof
open Sys2Proof.Machine

/-- The state registers a chain writes in array `a`: those of SMAX and CENTRE, and the row statistics (R94, R119, R122). -/
def ChainF.stateRegs (f : ChainF) (a : Nat) : List Nat :=
  let fn : List Nat := match f.code with
    | 0x07 => [0, 4, 8]
    | 0x16 => [4, 8, 12]
    | _ => []
  let row : List Nat := if f.row then
      (if f.statMax then [0] else []) ++ (if f.statSum then [4] else []) ++ (if f.statSq then [8] else [])
    else []
  (fn ++ row).eraseDups.map fun o => f.statBase.val + o + a

end Sys2Proof

namespace Sys2Proof.Machine

/-- One row through the chain into its destination; state-register lanes written poisoned count in the launch census (R218, assumption
108). `start` is the core as the chain begins. -/
def State.chainRow (s : State) (c : CoreId) (f : ChainF) (dd : Desc) (ctl : CCtl) (start : Core) (lo hi : Lane) (k0 : FVal)
    (res : Int → Int → FVal × Bool) (xdr xdc : Int) (row : ChainRow) : State :=
  let ri : Nat := 128 * row.1 + row.2.1
  let r := xdr + (ri : Int)
  let mask := s.cores[c].mask f.mask
  let slot : Fin 16 := if f.dstKind = 0#2 then s.slotOf c f.dd else 15
  let real (j : Nat) : Bool := mask.getLsbD j && (f.dstKind != 0#2 || dd.inExtent r (xdc + (j : Int)))
  let src : Counts := { Counts.none with
    nonfinConv := (row.2.2.zipIdx.filter fun p => real p.2 && p.1.nf && !p.1.poison).length }
  let o := f.stages start s.cores[c] lo hi k0 (fun j => res r (xdc + (j : Int))) real row.1 row.2.1 row.2.2
  let s := s.updCore c fun _ => o.2.1
  let s := s.addCensus c slot (src.add o.2.2)
  let hot := ((f.stateRegs row.1).filter fun v => (o.2.1.lane v row.2.1).poison).length
  let s := if hot = 0 then s else s.addCensus c 15 { Counts.none with poisons := hot }
  match f.dstKind.toNat with
  | 0 => s.storeRow c slot dd ctl f.maskZero f.stream f.draw r xdc
      (maskedCells mask o.1)
  | 1 => s.chainToReg c f ctl o.1
  | _ => s.chainToPipe c f ctl ri o.1

/-- A chain that streams values, once its checks have passed (R92, R136): the source made ready, its rows in order through
the stages, the tile released if asked. -/
def State.chainRun (s : State) (c : CoreId) (f : ChainF) : State :=
  let dd := s.desc c f.dd
  let sd := s.desc c f.ds
  let rdd := s.desc c f.resDesc
  let ctl := f.control dd
  let xdr := s.xi c f.xdr
  let xdc := s.xi c f.xdc
  let s := if f.dstKind = 0#2 then s.markChecked c f.dd else s
  let s := if f.res then s.markChecked c f.resDesc else s
  let s := match f.srcKind.toNat with
    | 0 => s.bound c [f.tile]
    | 1 => s.markChecked c f.ds
    | _ => s
  let p := if f.srcKind = 1#2 then s.reader c sd (s.xi c f.xsr) f.rows (s.xi c f.xsc) 128 else (s, [])
  let q := if f.res then p.1.reader c rdd xdr 512 xdc 128 else (p.1, [])
  let s := q.1
  let start := s
  let core := s.cores[c]
  let lo := core.lane f.clampReg 0
  let hi := core.lane f.clampReg 1
  let res (r col : Int) : FVal × Bool :=
    let e := readElem (start.peek c rdd.loc q.2) rdd r col
    (rdd.value e, e.poison)
  let rows : List ChainRow := match f.srcKind.toNat with
    | 0 => s.drainRows c f.tile
    | 1 => s.tensorRows c sd p.2 (s.xi c f.xsr) (s.xi c f.xsc) f.rows
    | _ => [(0, 0, s.cores[c].sourceRow f.source.toNat)]
  let tile := s.tileOf c f.tile
  let k0 := if f.srcKind = 0#2 then rne32v ((f32 tile.ca).mul (f32 tile.cw)) else one
  let slot : Fin 16 := if f.dstKind = 0#2 then s.slotOf c f.dd else 15
  let up := (List.finRange 4).filter fun a => s.arrayUp c a
  let s := if f.srcKind = 0#2 then
      (s.addCensus c slot { Counts.none with sats := 16384 * (up.filter fun a => tile.arr[a].ovf).length }).markPoison c
        (up.any fun a => tile.arr[a].poison)
    else s
  let s := rows.foldl (fun s r => s.chainRow c f dd ctl core lo hi k0 res xdr xdc r) s
  let s := if f.dstKind = 2#2 then s.pipeWrite c f.pipe [] else s
  if f.srcKind = 0#2 && f.release then s.releaseTile c f.tile else s

/-! ### Register-only codes -/

/-- What a register-only code gives one lane: the registers it writes, past the base, with their values; an empty row, a
variance clamp, a count of zero, a NaN result. -/
structure RegOut where
  outs : List (Nat × FVal)
  empty : Bool
  clamp : Bool
  zero : Bool
  nan : Bool
  deriving DecidableEq, Repr

/-- A multiplier and an offset, with a clamp. -/
def RegOut.pair (m o : FVal) (clamp : Bool) : RegOut := ⟨[(0, m), (4, o)], false, clamp, false, m == .nan || o == .nan⟩

/-- The results of a count of zero (R121). -/
def RegOut.noCount : RegOut := ⟨[(0, .zero), (4, .zero)], false, false, true, false⟩

/-- SMAX_END on one lane (R120). -/
def smaxEndLane (p1 : Bool) (m l : FVal) : RegOut :=
  if m == .nan || l == .nan then ⟨[(8, .nan), (12, .nan)], false, false, false, true⟩
  else if l.isZero && !l.neg? then ⟨[(8, .zero), (12, .inf true)], true, false, false, false⟩
  else
    let v := rne32v (one.div l)
    let lam := rne32v ((m.mul cLn2).add (logOf p1 l))
    ⟨[(8, v), (12, lam)], false, false, false, v == .nan || lam == .nan⟩

/-- NSTAT_FAST on one lane (R121). -/
def nstatFastLane (s1 s2 n eps : FVal) : RegOut :=
  if n.isZero then RegOut.noCount
  else
    let mu := rne32v (s1.div n)
    let e2 := rne32v (s2.div n)
    let va := (a38Add (ofA38 (toA38 (mu.mul mu)).1).negate e2).1
    let low := va.lt .zero
    let v32 := f32 (drainA38 (toA38 (if low then .zero else va)).1).1
    let r := rsqrt32 (rne32v (v32.add eps))
    RegOut.pair r (rne32v (mu.negate.mul r)) low

/-- NSTAT_MEAN on one lane (R122). -/
def nstatMeanLane (s1 n : FVal) : RegOut :=
  let mu := if n.isZero then .zero else rne32v (s1.div n)
  ⟨[(0, mu), (4, .zero), (8, .nan), (12, .zero)], false, false, n.isZero, mu == .nan⟩

/-- NSTAT_STABLE on one lane (R122). -/
def nstatStableLane (q spread n eps : FVal) : RegOut :=
  if n.isZero then RegOut.noCount
  else if q == .nan then RegOut.pair .nan .nan false
  else
    let var := if spread.isZero && !spread.neg? then .zero else rne32v (q.div n)
    RegOut.pair (rsqrt32 (rne32v (var.add eps))) .zero false

/-- NSTAT_RMS on one lane (R123). -/
def nstatRmsLane (s2 n eps : FVal) : RegOut :=
  if n.isZero then RegOut.noCount
  else RegOut.pair (rsqrt32 (rne32v ((rne32v (s2.div n)).add eps))) .zero false

/-- The registers a register-only code reads, past the base. -/
def regInputs (code : Nat) : List Nat :=
  match code with
  | 0x18 => [0, 4]
  | 0x19 => [4, 8]
  | 0x1A => [4, 12]
  | 0x1B => [8]
  | _ => [4]

/-- A register-only code on one lane from its inputs. -/
def regLane (code : Nat) (p1 : Bool) (n eps : FVal) (g : List FVal) : RegOut :=
  let a := g.getD 0 .zero
  let b := g.getD 1 .zero
  match code with
  | 0x18 => smaxEndLane p1 a b
  | 0x19 => nstatFastLane a b n eps
  | 0x1A => nstatStableLane a b n eps
  | 0x1B => nstatRmsLane a n eps
  | _ => nstatMeanLane a n

/-- A register-only code (R111, R120 to R123): every lane of every array, under the mask, its counts in slot 15. -/
def State.regRun (s : State) (c : CoreId) (f : ChainF) : State :=
  let code := f.code
  let k0 := s.cores[c]
  let nl := k0.lane f.clampReg 0
  let el := k0.lane f.clampReg 1
  let hotN := (code != 0x18 && nl.poison) || (code != 0x18 && code != 0x1C && el.poison)
  let mask := k0.mask f.mask
  let zeroOut : List Nat := ((regLane code f.p1 nl.f el.f []).outs).map Prod.fst
  let lane (p : Core × Counts) (a i : Nat) : Core × Counts :=
    let at_ (o : Nat) : Nat := f.statBase.val + o + a
    if !mask.getLsbD i then
      (if f.maskZero then zeroOut.foldl (fun k o => k.setLane (at_ o) i Lane.zero) p.1 else p.1, p.2)
    else
      let ins := (regInputs code).map fun o => p.1.lane (at_ o) i
      let hot := hotN || ins.any fun l => l.poison
      let r := regLane code f.p1 nl.f el.f (ins.map Lane.f)
      let k := r.outs.foldl (fun k o => k.setState (at_ o.1) i o.2 hot) p.1
      let k := if r.zero then k.setEmpty true else k
      (k, p.2.add { Counts.none with empties := b2n r.empty, clamps := b2n r.clamp, nonfinConv := b2n (r.nan && !hot), poisons := if hot then r.outs.length else 0 })
  let r := (List.range 4).foldl (fun p a => (List.range 128).foldl (fun p i => lane p a i) p) (k0, Counts.none)
  (s.updCore c fun _ => r.1).addCensus c 15 r.2

/-! ### Meanings -/

/-- A chain at its issue: its checks, then a register-only code or the stream of rows. -/
def State.chain (s : State) (i : Instr) (c : CoreId) (h : Hdr) (f : ChainF) : State :=
  s.issue i c h clsChain false fun s =>
    if f.regOnly then s.checked c (f.operandStops ++ s.chainCtlStops c f) fun s => s.regRun c f
    else s.checked c (f.operandStops ++ s.chainStops c f) fun s => s.chainRun c f

/-- CHAIN with a drain source (R92, R136). -/
def execChainDrain (c : CoreId) (h : Hdr) (f : ChainF) (s : State) : Host.Outcome State Fault Refusal :=
  s.clocked (s.chain (.chainDrain c h f) c h f)

/-- CHAIN with a core-buffer tensor source (R92, R136). -/
def execChainTensor (c : CoreId) (h : Hdr) (f : ChainF) (s : State) : Host.Outcome State Fault Refusal :=
  s.clocked (s.chain (.chainTensor c h f) c h f)

/-- CHAIN with a vector-register source (R92). -/
def execChainRegister (c : CoreId) (h : Hdr) (f : ChainF) (s : State) : Host.Outcome State Fault Refusal :=
  s.clocked (s.chain (.chainRegister c h f) c h f)

/-- SMAX_END, function code 0x18 (R120). -/
def execSmaxEnd (c : CoreId) (h : Hdr) (f : ChainF) (s : State) : Host.Outcome State Fault Refusal :=
  s.clocked (s.chain (.smaxEnd c h f) c h { f with fn := true, fnCode := (f.fnCode &&& 0x20#6) ||| 0x18#6 })

/-- NSTAT_FAST, function code 0x19 (R121). -/
def execNstatFast (c : CoreId) (h : Hdr) (f : ChainF) (s : State) : Host.Outcome State Fault Refusal :=
  s.clocked (s.chain (.nstatFast c h f) c h { f with fn := true, fnCode := (f.fnCode &&& 0x20#6) ||| 0x19#6 })

/-- NSTAT_MEAN, function code 0x1C (R122). -/
def execNstatMean (c : CoreId) (h : Hdr) (f : ChainF) (s : State) : Host.Outcome State Fault Refusal :=
  s.clocked (s.chain (.nstatMean c h f) c h { f with fn := true, fnCode := (f.fnCode &&& 0x20#6) ||| 0x1C#6 })

/-- NSTAT_STABLE, function code 0x1A (R122). -/
def execNstatStable (c : CoreId) (h : Hdr) (f : ChainF) (s : State) : Host.Outcome State Fault Refusal :=
  s.clocked (s.chain (.nstatStable c h f) c h { f with fn := true, fnCode := (f.fnCode &&& 0x20#6) ||| 0x1A#6 })

/-- NSTAT_RMS, function code 0x1B (R123). -/
def execNstatRms (c : CoreId) (h : Hdr) (f : ChainF) (s : State) : Host.Outcome State Fault Refusal :=
  s.clocked (s.chain (.nstatRms c h f) c h { f with fn := true, fnCode := (f.fnCode &&& 0x20#6) ||| 0x1B#6 })

end Sys2Proof.Machine
end

