-- ==== Sys2Proof/Machine/Move.lean ====
section
/-! DEFINITION. MOVE (class 6) but for compression: tensors (R137, R454), single-register forms (R137, R139), conditional
stores (R227) and remainders (R228). -/
namespace Sys2Proof.Machine

/-! ### Source elements -/

/-- An element of a tensor as it is stored: its code, the scale and zero-point bytes of its block, its poison, whether
it lies in the extent. -/
structure Item where
  code : Nat
  scale : Byte
  zp : Byte
  poison : Bool
  real : Bool
  deriving DecidableEq, Repr

/-- The scale byte of value 1 of a scale mode (R48, R130). -/
def oneScale (mode : BitVec 3) : Byte := if modeE8M0 mode then 127#8 else 0x38#8

/-- Padding as it would be stored (R130). -/
def Item.pad (d : Desc) : Item := ⟨0, oneScale d.ctl.scale, 0#8, false, false⟩

/-- The element's value under its fine and coarse scales (R50). -/
def Item.value (d : Desc) (e : Item) : FVal :=
  decodeFP32 (f32 d.coarse) (if d.scaled then scaleVal d.ctl.scale e.scale else one) (d.fmt.decode e.code)

/-- The value a MOVE converts: an INT32 element between coarse scales 1.0 and without fine scales as it is (R45), any other decoded
to FP32 (R50). -/
def moveValue (sd dd : Desc) (ctl : CCtl) (e : Item) : FVal :=
  if sd.ctl.dst == 0xD#4 && sd.coarse == 0x3F800000#32 && dd.coarse == 0x3F800000#32 && ctl.scale == 0#3 then
    sd.fmt.decode e.code
  else e.value sd

/-- An element through a byte reader, its row, scale and zero-point bytes at given addresses (R39, R48). -/
def itemAt (rd : Nat → Byte × Bool) (d : Desc) (row sc zp : Nat) (col : Nat) : Item :=
  let w := d.fmt.width
  let o := col * w
  let bs := (List.range ((o + w - 1) / 8 - o / 8 + 1)).map fun i => rd (row + o / 8 + i)
  let b := col / blockSize d.ctl.scale
  let s := if d.scaled then rd (sc + b) else (oneScale d.ctl.scale, false)
  let z := if d.zeroed then rd (zp + b) else (0#8, false)
  ⟨leNat (bs.map Prod.fst) / 2 ^ (o % 8) % 2 ^ w, s.1, z.1, bs.any Prod.snd || s.2 || z.2, true⟩

/-- An element of a tensor in memory (R130). -/
def memItem (rd : Nat → Byte × Bool) (d : Desc) (r c : Int) : Item :=
  if !d.inExtent r c then Item.pad d
  else itemAt rd d (d.rowAddr r.toNat) (d.scaleBase + r.toNat * d.blocks) (d.zpBase + r.toNat * d.blocks) c.toNat

/-- Whether a row lies in the extent (R130). -/
def Desc.inRows (d : Desc) (r : Int) : Bool := decide (0 ≤ r ∧ r < (d.rows : Int))

/-- How many of `n` rows from `r0` lie in the extent: a pipe gives or takes those alone (R130). -/
def Desc.rowsIn (d : Desc) (r0 : Int) (n : Nat) : Nat := ((List.range n).filter fun (i : Nat) => d.inRows (r0 + (i : Int))).length

/-- An element of row `r` from the bytes taken from a pipe, `i` rows of the extent before it (DESIGN CHOICE, assumption 12); outside
the extent it is padding (R130). -/
def handItem (bs : List (Byte × Bool)) (d : Desc) (i : Nat) (r c : Int) : Item :=
  if !d.inExtent r c then Item.pad d
  else
    let row := i * d.pipeRow
    let sc := row + d.fmt.rowBytes d.n0
    itemAt (fun a => bs.getD a (0#8, false)) d row sc (sc + if d.scaled then d.blocks else 0) c.toNat

/-! ### Checks -/

/-- The ends a MOVE accepts (R137): different kinds, or the core buffer twice. -/
def moveEnds (ls ld : Nat) : Bool := ls != ld || ls == 2

/-- Whether a move copies stored bytes: the formats and the fine-scale layouts are equal (R137). -/
def rawMove (sd dd : Desc) : Bool := sd.ctl.dst == dd.ctl.dst && sd.ctl.scale == dd.ctl.scale

/-- The control field a MOVE converts under (R454). -/
def moveCtl (f : MoveF) (dd : Desc) : CCtl := CCtl.ofBits (effectiveCC f.cc dd.cc)

/-- The control-field checks of a destination (R41, R454). -/
def ctlStops (w : Nat) (cc : BitVec 16) (ctl : CCtl) : List (Option Stop) :=
  [ stopIf (ctl.rnd == 3#2) (badFormat w clsMove (if ctlBits cc = 0#16 then atDesc 0 7 else atWord 2 7) ctl.dst.toNat),
    stopIf (!ctl.legal) (badFormat w clsMove (atDesc 0 9) ctl.dst.toNat) ]

/-- Whether a tensor has block bytes, which a move takes with its blocks (R137). -/
def Desc.sided (d : Desc) : Bool := d.scaled || d.zeroed

/-- The checks of a tensor move (R131, R134, R137, R41). A copy from INT2 to INT2 converts nothing; Table 3-2 does not say whether
it is a use of INT2 for weights, and the model lets it run (DESIGN CHOICE, assumption 96). Each end that has block bytes takes its
column origin as a multiple of its own block size (DEDUCED, assumption 96). -/
def State.moveStops (s : State) (c : CoreId) (op : Nat) (f : MoveF) : List (Option Stop) :=
  let w := s.wordOf c
  let ill (p : Nat) : Stop := illegal w clsMove op p
  let sd := s.desc c f.ds
  let dd := s.desc c f.dd
  let ctl := moveCtl f dd
  let off (d : Desc) (x : Int) : Bool := d.sided && x % (blockSize d.ctl.scale : Int) != 0
  [ stopIf (f.rows == 0) (ill (atWord 2 16)),
    stopIf (f.cols == 0) (ill (atWord 3 0)),
    s.descStop c clsMove op f.ds [0, 1, 2, 3],
    s.descStop c clsMove op f.dd [0, 1, 2, 3],
    stopIf (!moveEnds sd.loc dd.loc) (ill (atDesc 0 28)),
    (if rawMove sd dd then none else int2Stop w clsMove sd),
    firstStop (ctlStops w f.cc ctl),
    stopIf (off sd (s.xi c f.xsc)) (ill (atWord 1 10)),
    stopIf (off dd (s.xi c f.xdc)) (ill (atWord 1 0)),
    (if sd.loc = 3 then s.pipeStop c sd.pipe.val false else none),
    (if dd.loc = 3 then s.pipeStop c dd.pipe.val true else none) ]

/-! ### Copies -/

/-- The elements of a row that land within the extent, from column `c0`, with their columns (R130). -/
def landed {α : Type} (d : Desc) (r c0 : Int) (items : List α) : List (Nat × α) :=
  items.zipIdx.filterMap fun p =>
    let col := c0 + (p.2 : Int)
    if d.inExtent r col then some (col.toNat, p.1) else none

/-- A row of stored elements placed at columns from `c0`: element and block writes, poison spreading over a scaled block
(R101, R137); the elements of a poisoned block, moved or not. -/
def rawRow (d : Desc) (r c0 : Int) (items : List Item) : List Wr × List WrScale × List WrScale × List Nat :=
  let cs := landed d r c0 items
  let B := blockSize d.ctl.scale
  let hot (b : Nat) : Bool := d.scaled && cs.any fun p => p.1 / B == b && p.2.poison
  let side (g : Item → Byte) : List WrScale :=
    (cs.map fun p => p.1 / B).eraseDups.filterMap fun b =>
      (cs.find? fun p => p.1 / B == b).map fun p => ⟨r.toNat * d.blocks + b, g p.2, hot b⟩
  (cs.map fun p => ⟨r.toNat, p.1, p.2.code, p.2.poison || hot (p.1 / B)⟩,
    if d.scaled then side Item.scale else [], if d.zeroed then side Item.zp else [],
    if d.scaled then (List.range d.n0).filter fun j => hot (j / B) else [])

/-- The bytes of a row for a pipe: elements, scale bytes, zero-point bytes (DESIGN CHOICE, assumption 12). -/
def pipeBytes (d : Desc) (ws : List Wr) (ss zs : List WrScale) (bad : List Nat) (r : Nat) : List (Byte × Bool) :=
  let at_ (j : Nat) : Nat × Bool := match ws.find? fun w => w.col == j with
    | some w => (w.code, w.poison || bad.contains j)
    | none => (0, bad.contains j)
  let side (l : List WrScale) (dflt : Byte) (b : Nat) : Byte × Bool := match l.find? fun w => w.block == r * d.blocks + b with
    | some w => (w.byte, w.poison)
    | none => (dflt, false)
  packRow d.fmt d.n0 ((List.range d.n0).map at_)
    ((if d.scaled then (List.range d.blocks).map (side ss (oneScale d.ctl.scale)) else [])
      ++ (if d.zeroed then (List.range d.blocks).map (side zs 0#8) else []))

/-- The draws of a stochastic MOVE conversion for elements by their destination columns: from the fallback by lane (R211), from the cipher free
values, as the instruction names no stream and no draw; counted and flagged like any draw (R212, R213). -/
def State.moveDraws (s : State) (c : CoreId) (ctl : CCtl) (cols : List Nat) : (Nat → Nat) × State :=
  if ctl.rnd ≠ 1#2 then (fun _ => 0, s)
  else
    let f := s.free
    let t := f.2.draws c 16 (fun col => f.1 / 2 ^ (16 * col) % 2 ^ 16) (cols.map fun col => (col, col % 128))
    (fun col => ((cols.zip t.1).find? fun p => p.1 == col).elim 0 Prod.snd, t.2)

/-- An element converted between formats of one scale layout (R137, DEDUCED, assumption 97): its scale byte moves with its block, and
the code is the value without the destination's coarse scale and that fine scale, rounded once. -/
def keptConv (sd dd : Desc) (ctl : CCtl) (draw : Nat) (e : Item) : Conv :=
  let s := if dd.scaled then scaleVal dd.ctl.scale e.scale else one
  let x := moveValue sd dd ctl e
  if s == .nan then ⟨0, false, true, false⟩
  else if s.isZero then Conv.plain 0
  else (dd.fmt.convert (ctl.rounding draw) ctl.sat ctl.ftz ((coarseRemoved (f32 dd.coarse) x).div s)).flushFrom x dd.fmt

/-- What one row of a tensor move writes, and its zero-point bytes (R137): a copy between equal formats and layouts; the codes
converted and the block bytes kept between formats of one layout; the blocks formed anew between layouts (R51), a zero point there
being that of the block of the first element that lands (DEDUCED, assumption 97). -/
def moveOut (sd dd : Desc) (ctl : CCtl) (r c0 : Int) (draws : Nat → Nat) (items : List Item) : RowOut × List WrScale :=
  let val (e : Item) : Cell := Cell.of (moveValue sd dd ctl e) e.poison
  if sd.ctl.scale == dd.ctl.scale then
    let raw := rawMove sd dd
    let cv : List (Item × Conv) := items.zipIdx.map fun p =>
      (p.1, if raw then Conv.plain p.1.code else keptConv sd dd ctl (draws (c0 + (p.2 : Int)).toNat) p.1)
    let o := rawRow dd r c0 (cv.map fun p => { p.1 with code := p.2.code })
    let counts := ((landed dd r c0 cv).zip o.1).foldl (fun n p =>
      n.add (if raw then { Counts.none with poisons := b2n p.2.poison } else (val p.1.2.1).counts p.2.poison ctl.amax p.1.2.2)) Counts.none
    (⟨o.1, o.2.1, o.2.2.2, counts⟩, o.2.2.1)
  else (convRow dd ctl true r c0 (items.map fun e => some (val e)) draws, (rawRow dd r c0 items).2.2.1)

/-- One row as a descriptor's memory or pipe takes it, counted in a census slot and marked (R101, R130, R218, R256): a row outside
the extent gives a pipe nothing. -/
def State.putRow (s : State) (c : CoreId) (slot : Fin 16) (d : Desc) (r : Int) (o : RowOut × List WrScale) : State :=
  let s :=
    if d.loc = 3 then
      if d.inRows r then
        s.updPipe d.pipe fun p => { p with waiting := p.waiting ++ pipeBytes d o.1.ws o.1.ss o.2 o.1.bad r.toNat }
      else s
    else
      let s := s.storeTensor c d o.1.ws o.1.ss
      let s := if o.1.bad.isEmpty then s else s.storeCells c d.loc [] (o.1.bad.flatMap fun col => d.elemAddrs r.toNat col)
      if o.2.isEmpty then s
      else s.storeCells c d.loc (o.2.map fun z => (d.zpBase + z.block, z.byte))
        ((o.2.filter fun z => z.poison).map fun z => d.zpBase + z.block)
  (s.addCensus c slot o.1.counts).markPoison c ((o.1.ws.any fun w => w.poison) || (o.1.ss.any fun b => b.poison))

/-- A row copied into a tensor in memory (R101, R137). -/
def State.copyRow (s : State) (c : CoreId) (slot : Fin 16) (d : Desc) (r c0 : Int) (items : List Item) : State :=
  s.putRow c slot d r (moveOut d d d.ctl r c0 (fun _ => 0) items)

/-- One row of a tensor move into its destination. -/
def State.moveRow (s : State) (c : CoreId) (f : MoveF) (sd dd : Desc) (ctl : CCtl) (xdr xdc : Int) (i : Nat)
    (items : List Item) : State :=
  let cols := (landed dd (xdr + (i : Int)) xdc items).map Prod.fst
  let t := if rawMove sd dd then (fun _ => 0, s) else s.moveDraws c ctl cols
  t.2.putRow c (s.slotOf c f.dd) dd (xdr + (i : Int)) (moveOut sd dd ctl (xdr + (i : Int)) xdc t.1 items)

/-- The rows a MOVE takes from its source, read before anything is written (R137); a pipe's from the bytes in hand. -/
def State.sourceRows (s : State) (c : CoreId) (f : MoveF) (sd : Desc) : List (List Item) × State :=
  let xsc := s.xi c f.xsc
  if sd.loc = 3 then
    let bs := s.cores[c].pipeIn
    let xsr := s.xi c f.xsr
    ((List.range f.rows).map fun (i : Nat) => (List.range f.cols).map fun (j : Nat) =>
        handItem bs sd (sd.rowsIn xsr i) (xsr + (i : Int)) (xsc + (j : Int)),
      s.updCore c fun k => { k with pipeIn := [] })
  else
    let xsr := s.xi c f.xsr
    let p := s.reader c sd xsr f.rows xsc f.cols
    let rd := p.1.peek c sd.loc p.2
    ((List.range f.rows).map fun (i : Nat) => (List.range f.cols).map fun (j : Nat) =>
      memItem rd sd (xsr + (i : Int)) (xsc + (j : Int)), p.1)

/-- A tensor move once its checks have passed (R137). -/
def State.moveRun (s : State) (c : CoreId) (f : MoveF) : State :=
  let sd := s.desc c f.ds
  let dd := s.desc c f.dd
  let xdr := s.xi c f.xdr
  let xdc := s.xi c f.xdc
  let ctl := moveCtl f dd
  let p := ((s.markChecked c f.ds).markChecked c f.dd).sourceRows c f sd
  let s := p.1.zipIdx.foldl (fun s r => s.moveRow c f sd dd ctl xdr xdc r.2 r.1) p.2
  if dd.loc = 3 then s.pipeWrite c dd.pipe [] else s

/-! ### Waiting for pipes -/

/-- The bytes a move takes from a pipe: those of its rows within the extent (R130, R257). -/
def State.pipeNeed (s : State) (c : CoreId) (f : MoveF) : Nat :=
  (s.desc c f.ds).rowsIn (s.xi c f.xsr) f.rows * (s.desc c f.ds).pipeRow

/-- Whether a move that reads a pipe still lacks bytes (R257). -/
def State.headShort (s : State) (c : CoreId) (f : MoveF) : Bool :=
  let sd := s.desc c f.ds
  sd.loc == 3 && decide (s.cores[c].pipeIn.length + (s.pipes[sd.pipe]).readable.length < s.pipeNeed c f)

/-- A move whose pipe lacks bytes takes those it finds and goes on waiting; the instructions behind it issue (R142, R257). -/
def State.moveWaits (s : State) (c : CoreId) (f : MoveF) : State :=
  let k := s.cores[c]
  (((s.markChecked c f.ds).markChecked c f.dd).pipeTake c (s.desc c f.ds).pipe (s.pipeNeed c f)).updCore c fun q =>
    { q with moving := some ⟨f, k.x, k.d, k.pc⟩ }

/-- A move's effect as it issues: a move from a pipe takes what is readable and, where that is not all, waits for the rest. -/
def State.moveStart (s : State) (c : CoreId) (f : MoveF) : State :=
  if s.headShort c f then s.moveWaits c f
  else
    let sd := s.desc c f.ds
    (if sd.loc = 3 then s.pipeTake c sd.pipe (s.pipeNeed c f) else s).moveRun c f

/-- The move that waits for a core's pipe goes on: it takes what has become readable, and with its last byte runs, under the registers it
read at issue (R142, R257); where its pipe has faulted it stops with the pipe fault (R259). -/
def State.tryMove (s : State) (c : CoreId) : State :=
  match s.cores[c].moving with
  | none => s
  | some m =>
    let k := s.cores[c]
    let s := s.updCore c fun q => { q with x := m.x, d := m.d, pc := m.word }
    let back (s : State) : State := s.updCore c fun q => { q with x := k.x, d := k.d, pc := k.pc, checked := k.checked }
    let sd := s.desc c m.f.ds
    match s.pipeStop c sd.pipe.val false with
    | some e => s.stopProgram c e.1 e.2
    | none =>
      let s := s.pipeTake c sd.pipe (s.pipeNeed c m.f)
      if s.cores[c].pipeIn.length < s.pipeNeed c m.f then back s
      else back ((s.updCore c fun q => { q with moving := none }).moveRun c m.f)

/-- TENSOR (R137, R454). -/
def execMoveTensor (c : CoreId) (h : Hdr) (f : MoveF) (s : State) : Host.Outcome State Fault Refusal :=
  s.clocked (s.issue (.moveTensor c h f) c h clsMove false fun s => s.checked c (s.moveStops c 0 f) fun s => s.moveStart c f)

/-! ### Conditional stores (R227, R228) -/

/-- The number of the vat's last sealed verdict, 0x8207. -/
def State.sealedSeq (s : State) (c : CoreId) : Word := s.verdicts[s.vatOf c].seq

/-- The mismatch of a conditional store's expected verdict (R227). -/
def State.verdictStop (s : State) (c : CoreId) (f : MoveF) : Option Stop :=
  stopIf (f.w5 != s.sealedSeq c) (0x0C03, [(s.wordOf c, 2), (f.w5.toNat, 4), ((s.sealedSeq c).toNat, 4)])

/-- VTENSOR: a TENSOR move under a GOOD verdict, nothing under a BAD one (R227). -/
def execVtensor (c : CoreId) (h : Hdr) (f : MoveF) (s : State) : Host.Outcome State Fault Refusal :=
  s.clocked (s.issue (.vtensor c h f) c h clsMove false fun s =>
    s.checked c (s.moveStops c 8 f ++ [s.verdictStop c f]) fun s =>
      if s.verdicts[s.vatOf c].bad then (s.markChecked c f.ds).markChecked c f.dd else s.moveStart c f)

/-- The remainder descriptor of VSPLIT, named in W4[21:16]. -/
def remReg (f : MoveF) : DReg := f.reg

/-- The checks of VSPLIT (R228): the source FP32 in the core buffer, scale modes 0, coarse scales 1.0, rounding to
nearest, a remainder format of 16 or 32 bits. -/
def State.splitStops (s : State) (c : CoreId) (f : MoveF) : List (Option Stop) :=
  let w := s.wordOf c
  let ill (p : Nat) : Stop := illegal w clsMove 9 p
  let sd := s.desc c f.ds
  let dd := s.desc c f.dd
  let rd := s.desc c (remReg f)
  let ctl := moveCtl f dd
  let bad (b : Bool) (p : Nat) (d : Desc) : Option Stop := stopIf b (badFormat w clsMove p d.ctl.dst.toNat)
  [ stopIf (f.rows == 0) (ill (atWord 2 16)),
    stopIf (f.cols == 0) (ill (atWord 3 0)),
    s.descStop c clsMove 9 f.ds [2],
    s.descStop c clsMove 9 f.dd [0, 1, 2, 3],
    s.descStop c clsMove 9 (remReg f) [0, 1, 2, 3],
    bad (sd.ctl.dst != 0x0#4) (atDesc 0 12) sd,
    bad sd.scaled (atDesc 0 9) sd,
    bad dd.scaled (atDesc 0 9) dd,
    bad (dd.coarse != 0x3F800000#32) (atDesc 10 0) dd,
    bad (ctl.rnd != 0#2) (if ctlBits f.cc = 0#16 then atDesc 0 7 else atWord 2 7) dd,
    bad (!ctl.legal) (atDesc 0 9) dd,
    bad (2 < rd.ctl.dst.toNat) (atDesc 0 12) rd,
    bad rd.scaled (atDesc 0 9) rd,
    bad (rd.coarse != 0x3F800000#32) (atDesc 10 0) rd,
    (if dd.loc = 3 then s.pipeStop c dd.pipe.val true else none),
    (if rd.loc = 3 then s.pipeStop c rd.pipe.val true else none),
    s.verdictStop c f ]

/-- A row of values converted and written through a descriptor to memory or to its pipe, counted in the descriptor's slot
(R228). -/
def State.splitRow (s : State) (c : CoreId) (d : DReg) (desc : Desc) (ctl : CCtl) (xdr xdc : Int) (i : Nat)
    (vals : List (Option Cell)) : State :=
  let r := xdr + (i : Int)
  s.putRow c (s.slotOf c d) desc r (convRow desc ctl true r xdc vals fun _ => 0, [])

/-- VSPLIT under a GOOD verdict (R228): q the rounded value, r the remainder of the exact difference. -/
def State.splitRun (s : State) (c : CoreId) (f : MoveF) : State :=
  let sd := s.desc c f.ds
  let dd := s.desc c f.dd
  let rd := s.desc c (remReg f)
  let xdr := s.xi c f.xdr
  let xdc := s.xi c f.xdc
  let ctl := moveCtl f dd
  let rctl := { CCtl.ofBits rd.cc with rnd := 0#2 }
  let p := (((s.markChecked c f.ds).markChecked c f.dd).markChecked c (remReg f)).sourceRows c f sd
  let s := p.1.zipIdx.foldl (fun s r =>
    let vals := r.1.map fun e => some (Cell.of (e.value sd) e.poison)
    let rems := r.1.map fun e =>
      let x := e.value sd
      let q := dd.fmt.decode ((dd.fmt.convert .rne ctl.sat ctl.ftz x).flushFrom x dd.fmt).code
      some (Cell.of (if q.nonFinite then .zero else x.sub q) e.poison)
    (s.splitRow c f.dd dd ctl xdr xdc r.2 vals).splitRow c (remReg f) rd rctl xdr xdc r.2 rems) p.2
  let s := if dd.loc = 3 then s.pipeWrite c dd.pipe [] else s
  if rd.loc = 3 then s.pipeWrite c rd.pipe [] else s

/-- VSPLIT (R227, R228). -/
def execVsplit (c : CoreId) (h : Hdr) (f : MoveF) (s : State) : Host.Outcome State Fault Refusal :=
  s.clocked (s.issue (.vsplit c h f) c h clsMove false fun s => s.checked c (s.splitStops c f) fun s =>
    if s.verdicts[s.vatOf c].bad then ((s.markChecked c f.ds).markChecked c f.dd).markChecked c (remReg f) else s.splitRun c f)

/-! ### Single-register forms (R137, R139) -/

/-- The address of a single-register form: the named descriptor's base plus Xsr plus the offset. -/
def State.regAddr (s : State) (c : CoreId) (d : DReg) (f : MoveF) : Int :=
  ((s.desc c d).base : Int) + s.xi c f.xsr + (f.w5.toNat : Int)

/-- The bounds check of a form's bytes in the core buffer (R131). -/
def State.regBounds (s : State) (c : CoreId) (d : DReg) (f : MoveF) (n : Nat) : Option Stop :=
  let a := s.regAddr c d f
  if 0 ≤ a ∧ a + (n : Int) ≤ ((2 ^ 24 : Nat) : Int) then none
  else some (outOfBounds (s.wordOf c) d.val (if a < 0 then (a % ((2 ^ 40 : Nat) : Int)).toNat else max a.toNat (2 ^ 24)))

/-- The checks the forms share: the descriptor in the core buffer, the register's number, the bytes' bounds. -/
def State.regStops (s : State) (c : CoreId) (op : Nat) (d : DReg) (f : MoveF) (last n : Nat) : List (Option Stop) :=
  [ s.descStop c clsMove op d [2],
    int2Stop (s.wordOf c) clsMove (s.desc c d),
    stopIf (decide (last < f.reg.val)) (illegal (s.wordOf c) clsMove op (atWord 4 16)),
    s.regBounds c d f n ]

/-- The bytes of a form read from the core buffer, each with its poison. -/
def State.regBytes (s : State) (c : CoreId) (d : DReg) (f : MoveF) (n : Nat) : List (Byte × Bool) :=
  (List.range n).map fun i => s.cores[c].buf.read ((s.regAddr c d f).toNat + i)

/-- The state with a form's words of the core buffer resolved and its descriptor passed. -/
def State.regOpen (s : State) (c : CoreId) (d : DReg) (f : MoveF) (n : Nat) : State :=
  (s.markChecked c d).resolve (.core c) (s.regAddr c d f).toNat n

/-- LDV: 512 bytes, lane i bytes 4i to 4i + 3; poisoned bytes poison their lanes (R89, R101, R137). -/
def execLdv (c : CoreId) (h : Hdr) (f : MoveF) (s : State) : Host.Outcome State Fault Refusal :=
  s.clocked (s.issue (.ldv c h f) c h clsMove false fun s => s.checked c (s.regStops c 1 f.ds f 31 512) fun s =>
    let s := s.regOpen c f.ds f 512
    let bs := s.regBytes c f.ds f 512
    s.putV c f.reg.val (BitVec.allOnes 128) false fun i =>
      let q := (bs.drop (4 * i)).take 4
      ⟨BitVec.ofNat 32 (leNat (q.map Prod.fst)), q.any Prod.snd⟩)

/-- Bytes stored into the core buffer at a form's address. -/
def State.regStore (s : State) (c : CoreId) (d : DReg) (f : MoveF) (bs : List Byte) (bad : List Nat) : State :=
  let a := (s.regAddr c d f).toNat
  (s.markChecked c d).storeCells c 2 (cellsAt a bs) (bad.map fun i => a + i)

/-- STV: the register's 512 bytes; a poisoned lane writes the poison marker (R101, R137). -/
def execStv (c : CoreId) (h : Hdr) (f : MoveF) (s : State) : Host.Outcome State Fault Refusal :=
  s.clocked (s.issue (.stv c h f) c h clsMove false fun s => s.checked c (s.regStops c 2 f.dd f 31 512) fun s =>
    let k := s.cores[c]
    let bad := (List.range 128).filter fun i => (k.lane f.reg.val i).poison
    ((s.regStore c f.dd f ((List.range 128).flatMap fun i => leBytes (k.lane f.reg.val i).val.toNat 4)
      (bad.flatMap fun i => [4 * i, 4 * i + 1, 4 * i + 2, 4 * i + 3])).addCensus c (s.slotOf c f.dd) { Counts.none with poisons := bad.length }).markPoison c
      (!bad.isEmpty))

/-- The stop of a form that reads poison into a register (R139). -/
def State.regPoison (s : State) (c : CoreId) (d : DReg) (f : MoveF) (n : Nat) : Option Stop :=
  stopIf ((s.regBytes c d f n).any Prod.snd) (poisonedX (s.wordOf c) f.reg.val)

/-- LDDESC: a 64-byte image into a descriptor register, to be checked again at its next use (R131, R137, R139). -/
def execLddesc (c : CoreId) (h : Hdr) (f : MoveF) (s : State) : Host.Outcome State Fault Refusal :=
  s.clocked (s.issue (.lddesc c h f) c h clsMove false fun s =>
    match firstStop (s.regStops c 3 f.ds f 63 64) with
    | some e => s.stopProgram c e.1 e.2
    | none =>
      let s := s.regOpen c f.ds f 64
      s.checked c [s.regPoison c f.ds f 64] fun s =>
        let v := cleanDesc (BitVec.ofNat 512 (leNat ((s.regBytes c f.ds f 64).map Prod.fst)))
        s.updCore c fun k => { k with
          d := k.d.set f.reg v, checked := k.checked &&& ~~~(BitVec.twoPow 64 f.reg.val) })

/-- LDX: 8 bytes into an index register (R137, R139). -/
def execLdx (c : CoreId) (h : Hdr) (f : MoveF) (s : State) : Host.Outcome State Fault Refusal :=
  s.clocked (s.issue (.ldx c h f) c h clsMove false fun s =>
    match firstStop (s.regStops c 4 f.ds f 31 8) with
    | some e => s.stopProgram c e.1 e.2
    | none =>
      let s := s.regOpen c f.ds f 8
      s.checked c [s.regPoison c f.ds f 8] fun s =>
        s.updCore c fun k => { k with x := vset k.x f.reg.val (BitVec.ofNat 64 (leNat ((s.regBytes c f.ds f 8).map Prod.fst))) })

/-- STX: an index register's 8 bytes (R137). -/
def execStx (c : CoreId) (h : Hdr) (f : MoveF) (s : State) : Host.Outcome State Fault Refusal :=
  s.clocked (s.issue (.stx c h f) c h clsMove false fun s => s.checked c (s.regStops c 5 f.dd f 31 8) fun s =>
    s.regStore c f.dd f (leBytes (vget 0#64 s.cores[c].x f.reg.val).toNat 8) [])

end Sys2Proof.Machine
end

