-- ==== Sys2Proof/Machine/Pipes.lean ====
section
/-! DEFINITION. Pipes and rennets as the driver commands them: PIPE and RENNET commands (R253, R254, R259, R260), the moves
of packets (R255, R258), closing. -/
namespace Sys2Proof.Machine

/-! ### Records -/

/-- A pipe's record as eight words (Table 14-1). -/
def Pipe.words (p : Pipe) : List Nat := [
  p.state.val * 2 ^ 28 + p.vat.val * 2 ^ 24 + p.k * 2 ^ 21 + b2n p.short * 2 ^ 20 + p.threshold,
  b2n p.prodHub * 2 ^ 28 + p.prod, b2n p.consHub * 2 ^ 28 + p.cons,
  p.wheyBase % 2 ^ 32, p.wheyBase / 2 ^ 32, p.whey, p.notice * 2 ^ 16 + b2n p.noticeOn * 2 ^ 15, 0]

/-- A rennet's record as four words (Table 14-2). -/
def Rennet.words (r : Rennet) : List Nat := [r.count, r.max, r.vat.val * 2 ^ 28 + b2n r.remote * 2 ^ 27, 0]

/-- The pipe a PIPE command names. -/
def Cmd.pipe (c : Cmd) : Fin 1024 := ⟨c.field 1 9 0, Nat.mod_lt _ (by decide)⟩

/-- The pipe a PIPE command describes, open and empty; words W0 to W6 of Table 14-1 are the command's W2 to W8. -/
def Cmd.newPipe (c : Cmd) : Pipe :=
  { Pipe.reset with
    state := 1, vat := c.vat, k := c.field 2 23 21, short := (c.word 2).testBit 20, threshold := c.field 2 15 0
    prodHub := c.field 3 31 28 == 1, prod := c.field 3 15 0, consHub := c.field 4 31 28 == 1, cons := c.field 4 15 0
    wheyBase := c.field 5 31 16 * 2 ^ 16 + c.field 6 7 0 * 2 ^ 32, whey := c.word 7, notice := c.field 8 31 16
    noticeOn := (c.word 8).testBit 15 }

/-! ### The checks of R254 -/

/-- The die of a pipe end: 4 the hub. -/
def endDie (hub : Bool) (n : Nat) : Nat := if hub then 4 else n / 12

/-- The end-store bytes a pipe takes on a die. -/
def Pipe.endBytes (p : Pipe) (d : Nat) : Nat :=
  (if endDie p.prodHub p.prod = d then 2 * p.size else 0) + (if endDie p.consHub p.cons = d then 2 * p.size else 0)

/-- The end-store bytes of the open pipes of a die, one left out. -/
def State.endStores (s : State) (but : Fin 1024) (d : Nat) : Nat :=
  sumNat ((List.finRange 1024).map fun i => if i = but ∨ s.pipes[i].state = 0 then 0 else s.pipes[i].endBytes d)

/-- Whether an end belongs to a vat: a logical core or a hub function (R254, R279). -/
def State.endIn (s : State) (v : VatNo) (hub : Bool) (n : Nat) : Bool :=
  if hub then decide (n < 16) && (s.cfgAt (ek 0x2028 (v.val + 1))).testBit n
  else decide (n < 48) && (s.cfgAt (ek 0x2021 (v.val + 1))).testBit n

/-- Whether R254 refuses a pipe. -/
def State.pipeBad (s : State) (n : Fin 1024) (p : Pipe) : Bool :=
  (List.range 5).any (fun d => decide (s.cfgAt (ek 0x2108 (d + 1)) * 2 ^ 20 < s.endStores n d + p.endBytes d))
    || (p.whey != 0 && !s.inOneRegion p.vat p.wheyBase (p.whey * p.size) (some 2))
    || p.wheyBase % p.size != 0 || !s.endIn p.vat p.prodHub p.prod || !s.endIn p.vat p.consHub p.cons

/-- The checks of an open or configure in order: reserved fields, another vat's pipe or rennet (R280), the state, R254. -/
def State.pipeChecks (s : State) (c : Cmd) (p : Pipe) (wrong : Bool) : List (Bool × Nat) := [
  (decide (2 ≤ c.field 3 31 28 ∨ 2 ≤ c.field 4 31 28 ∨ 2 ^ 20 < c.word 7), 1),
  ((s.pipes[c.pipe].state != 0 && s.pipes[c.pipe].vat != c.vat) || (p.noticeOn && !s.rennetIn c.vat p.notice), 2),
  (wrong, 6), (s.pipeBad c.pipe p, 16)]

/-- A pool's total changed by a difference (R273). -/
def State.poolChange (s : State) (pool : Fin 8) (minus plus : Nat) : State :=
  { s with poolTotal := s.poolTotal.set pool (s.poolTotal[pool] - minus + plus) }

/-- An accepted pipe or rennet command in the audit ring (R253, R260, R273). -/
def State.auditCmd (s : State) (v : VatNo) (idx sub : Nat) (old new : List Nat) : State :=
  s.auditRec { AuditEntry.plain 9 4 4 0 with idx := idx, sub := sub, vat := v.val, old := some (bytesOf old), new := some (bytesOf new) }

/-- The end-to-end credits of a pipe that count in pool 01: an outbound one's (R271, R346). -/
def State.linkSlots (s : State) (n : Nat) : Nat :=
  if s.outbound n then (Sparse.get PipeCredit.reset s.credits n).capacity else 0

/-- A pipe's record replaced: the totals of pools 01 and 02 follow (R273, R346). -/
def State.putPipe (s : State) (n : Fin 1024) (p : Pipe) : State :=
  let cap (q : Pipe) : Nat := if q.state = 0 then 0 else q.capacity
  let t := s.updPipe n fun _ => p
  (t.poolChange 1 (cap s.pipes[n]) (cap p)).poolChange 0 (s.linkSlots n.val) (t.linkSlots n.val)

/-- A pipe's record replaced by a command: the audit ring tells (R253, R273). -/
def State.pipeSet (s : State) (v : VatNo) (n : Fin 1024) (p : Pipe) : State :=
  let old := s.pipes[n]
  (s.putPipe n p).auditCmd v (0x2100 + n.val / 128) (n.val % 128 + 1) old.words p.words

/-- Whether a pipe holds nothing and nothing waits to enter it. -/
def Pipe.empty (p : Pipe) : Bool := p.tail.isEmpty && p.middle.isEmpty && p.head.isEmpty && p.waiting.isEmpty

/-- Whether an instruction still reads a pipe: a MOVE of its consumer core waits for more of its bytes (R259). -/
def State.pipeRead (s : State) (n : Fin 1024) : Bool :=
  let p := s.pipes[n]
  !p.consHub && (List.finRange 52).any fun c => s.lq c == p.cons && s.vatOf c == p.vat && match s.cores[c].moving with
    | some m => (Desc.ofBits m.d[m.f.ds]).pipe == n
    | none => false

/-- PIPE with operation 0, or the reserved 3, taken (R253, R254). -/
def State.takePipeOpen (s : State) (c : Cmd) : Except Refused State :=
  let p := c.newPipe
  checkAll ((c.field 1 11 10 == 3, 1) :: s.pipeChecks c p (s.pipes[c.pipe].state != 0))
    (.ok ((s.pipeSet c.vat c.pipe p).doneCmd c))

/-- PIPE with operation 0 (R253, R254): an unconfigured pipe opened; the reserved operation 3 is refused here. -/
def execPipeOpen (w : FrameWrite) (s : State) : Host.Outcome State Fault Refusal :=
  s.clocked (s.command w (fun c => c.code == 10 && (c.field 1 11 10 == 0 || c.field 1 11 10 == 3)) State.takePipeOpen)

/-- PIPE with operation 2 taken (R253, R254). -/
def State.takePipeConfigure (s : State) (c : Cmd) : Except Refused State :=
  let q := c.newPipe
  let p := s.pipes[c.pipe]
  let new := { p with
    k := q.k, short := q.short, threshold := q.threshold, prodHub := q.prodHub, prod := q.prod, consHub := q.consHub
    cons := q.cons, wheyBase := q.wheyBase, whey := q.whey, notice := q.notice, noticeOn := q.noticeOn
    head := if p.noticeOn then p.head else p.head.map fun k => { k with noticed := true } }
  let shape (p : Pipe) : Nat × Nat × Nat × Bool × Nat × Bool × Nat :=
    (p.k, p.wheyBase, p.whey, p.prodHub, p.prod, p.consHub, p.cons)
  let wrong := p.state != 1 || (!(p.empty && !s.pipeRead c.pipe) && shape p != shape q)
  checkAll (s.pipeChecks c q wrong) (.ok ((s.pipeSet c.vat c.pipe new).doneCmd c))

/-- PIPE with operation 2 (R253, R254): an open pipe takes a new record; its packets stay, so one that holds any keeps its
packet size, ring and ends. -/
def execPipeConfigure (w : FrameWrite) (s : State) : Host.Outcome State Fault Refusal :=
  s.clocked (s.command w (fun c => c.code == 10 && c.field 1 11 10 == 2) State.takePipeConfigure)

/-- Whether a FAULTED unit's frozen holdings name a pipe: slots of it are frozen (R259, R275). -/
def State.frozenNames (s : State) (n : Fin 1024) : Bool :=
  (List.finRange 284).any fun u =>
    let r : UnitRec := s.units[u]
    s.ust u == stFaulted && r.frozenPipes.any fun q => q.1 == n.val

/-- The instruction of the producer that waits on a pipe whose other end is lost stops with the pipe fault (R259); what it had
not yet put into the tail is discarded (DEDUCED, assumption 92). -/
def State.stopWriter (s : State) (n : Fin 1024) : State :=
  let p := s.pipes[n]
  if p.state ≠ 3 ∨ p.waiting.isEmpty then s
  else
    let s := s.updPipe n fun p => { p with waiting := [], flushEnd := false }
    if h : p.prodHub = false ∧ p.prod < 48 then match s.physOf ⟨p.prod, h.2⟩ with
      | some c => (s.raise 0x0E00 (corePath c) [(p.word, 2), (n.val, 2), (4, 1)]).haltCore c 0x0E00 p.word
      | none => s
    else s

/-- The notices a pipe still owes: those of packets that have left, and of whole packets in the head store (R258). -/
def Pipe.unsaid (p : Pipe) : Nat := p.owed + (if p.noticeOn then (p.head.filter fun k => !k.noticed).length else 0)

/-- A pipe becomes unconfigured: its slots leave the pool, notices still owed are retried, its close command completes (R258, R259). -/
def State.pipeGone (s : State) (n : Fin 1024) : State :=
  let p := s.pipes[n]
  let s := s.putPipe n Pipe.reset
  let s := { s with retries := s.retries ++ List.replicate p.unsaid (⟨p.notice, 1, .pipe n, false⟩ : Retry) }
  match p.slotDone with
  | some d => s.slotFinal d.1 d.2 (Final.plain 2 10 0)
  | none => s

/-- Whether a closing pipe may become unconfigured: empty and unused, or faulted with no frozen holding naming it (R259). -/
def State.pipeDone (s : State) (n : Fin 1024) : Bool :=
  let p := s.pipes[n]
  if p.state = 2 then p.empty && !s.pipeRead n
  else p.state == 3 && p.slotDone.isSome && !s.frozenNames n

/-- PIPE with operation 1 taken (R259). -/
def State.takePipeClose (s : State) (c : Cmd) : Except Refused State :=
  let p := s.pipes[c.pipe]
  checkAll [(p.state != 0 && p.vat != c.vat, 2), (p.state == 0 || p.state == 2 || p.slotDone.isSome, 6)]
    (.ok (s.pipeSet c.vat c.pipe { p with state := if p.state = 1 then 2 else p.state, slotDone := some (c.fn, c.slot) }))

/-- PIPE with operation 1 (R259): an open pipe closes, a faulted one is emptied; complete when the pipe is unconfigured. -/
def execPipeClose (w : FrameWrite) (s : State) : Host.Outcome State Fault Refusal :=
  s.clocked (s.command w (fun c => c.code == 10 && c.field 1 11 10 == 1) State.takePipeClose)

/-- PIPE_CLOSE_COMPLETE (R259). -/
def execPipeCloseComplete (n : Fin 1024) (s : State) : Host.Outcome State Fault Refusal :=
  s.clocked (if s.pipeDone n then (s.stopWriter n).pipeGone n else s)

/-! ### Moves (R255, R258) -/

/-- Bytes written for a vat, poisoned words as poison (R236). -/
def State.agentWriteP (s : State) (v a : Nat) (bs : List (Byte × Bool)) (agent : Nat) : State :=
  let s := s.agentWrite v a (bs.map Prod.fst) agent
  if s.inRegions v a bs.length then
    bs.zipIdx.foldl (fun s p => if p.1.2 then s.poisonHbm (a + p.2) 1 else s) s
  else s

/-- The oldest packet of the whey ring into the head store. -/
def State.wheyToHead (s : State) (n : Fin 1024) : State :=
  let p := s.pipes[n]
  match p.middle with
  | [] => s
  | w :: rest =>
    let r := s.agentRead p.vat (p.wheyBase + w.slot * p.size) w.len 2
    r.2.updPipe n fun p => { p with middle := rest, head := p.head ++ [⟨r.1, 0, true, false⟩] }

/-- The oldest committed packet of the tail store into the next slot of the whey ring, 0x8400:07. -/
def State.tailToWhey (s : State) (n : Fin 1024) (k : Packet) : State :=
  let p := s.pipes[n]
  let s := s.agentWriteP p.vat (p.wheyBase + p.wheyNext * p.size) k.data 2
  (s.updPipe n fun p => { p with
    tail := p.tail.tail, middle := p.middle ++ [⟨p.wheyNext, k.data.length⟩], wheyNext := (p.wheyNext + 1) % max 1 p.whey }).countStat 7

/-- A packet that moved directly from tail to head in a pipe that cuts through: whether it is read before it is whole, which
0x8400:08 counts, is a matter of timing and so free (R257, DESIGN CHOICE, assumption 78). -/
def State.countCut (s : State) (p : Pipe) (k : Packet) : State :=
  if 0 < p.threshold ∧ 512 * p.threshold < k.data.length then
    let f := s.free
    if f.1 % 2 = 0 then f.2 else f.2.countStat 8
  else s

/-- One move of R255: the ring's oldest packet to a free head slot, or a committed packet of the tail directly to the head
or into the ring. -/
def State.moveOne (s : State) (n : Fin 1024) : State :=
  let p := s.pipes[n]
  if !p.middle.isEmpty && decide (p.head.length < 2) then s.wheyToHead n
  else match p.tail with
    | k :: rest =>
      if !k.committed then s
      else if p.middle.isEmpty && decide (p.head.length < 2) then
        (s.countCut p k).updPipe n fun p => { p with tail := rest, head := p.head ++ [k] }
      else if p.middle.length < p.whey then s.tailToWhey n k
      else s
    | [] => s

/-- The notices of packets wholly in the head store, in packet order; a refused one is retried and later ones wait behind it
(R258). -/
def State.sendNotices (s : State) (n : Fin 1024) : Nat → State
  | 0 => s
  | fuel + 1 =>
    let p := s.pipes[n]
    if !p.noticeOn || s.retries.any (fun r => r.src == .pipe n) then s
    else if 0 < p.owed then
      ((s.updPipe n fun p => { p with owed := p.owed - 1 }).signalLocal (.pipe n) (s.sourcePath (.pipe n)) p.notice 1).sendNotices n fuel
    else match p.head.findIdx? fun k => !k.noticed with
      | none => s
      | some i =>
        let s := s.updPipe n fun p => { p with head := p.head.modify i fun k => { k with noticed := true } }
        (s.signalLocal (.pipe n) (s.sourcePath (.pipe n)) p.notice 1).sendNotices n fuel

/-! ### RENNET (R260) -/

/-- RENNET taken (R260, R280). -/
def State.takeRennet (s : State) (c : Cmd) : Except Refused State :=
  let n := c.field 1 15 0
  let r := s.rennet n
  let busy := r.count != 0 || s.waitQ.any (fun q => q.1 == n) || s.retries.any (fun q => q.rennet == n)
    || s.peers.any (fun p => p.early.any fun g => g.2.rennet.val == n)
  let new : Rennet := if c.word 2 = 0 then { Rennet.reset with vat := c.vat, remote := (c.word 3).testBit 0 }
    else ⟨0, c.word 2, c.vat, (c.word 3).testBit 0⟩
  checkAll [(!s.rennetIn c.vat n, 2), (busy, 16)]
    (.ok ((((s.setRennet n new).poolChange 2 r.max new.max).auditCmd c.vat (0x2200 + n / 128) (n % 128 + 1) r.words new.words).doneCmd c))

/-- RENNET: the maximum and the remote bit of a rennet that holds nothing and that nothing waits on (R260, R280). -/
def execRennetCommand (w : FrameWrite) (s : State) : Host.Outcome State Fault Refusal :=
  s.clocked (s.command w (fun c => c.code == 11) State.takeRennet)

end Sys2Proof.Machine
end

