-- ==== Sys2Proof/Machine/Requests.lean ====
section
/-! DEFINITION. Requests on units (R26 to R28, R417, R418), draining, loading and its end (R398, R404), holds by the package
and faults (R415, R416, R419). -/
namespace Sys2Proof.Machine

/-- The image kind of a unit (Table 21-1). -/
def kindOf (u : UnitNo) : Option Nat :=
  if u.val = 271 then some 1
  else if 276 ≤ u.val ∧ u.val < 280 then some 2
  else if 208 ≤ u.val ∧ u.val < 260 then some 3
  else if 261 ≤ u.val ∧ u.val < 269 then some 4
  else if u.val = 269 then some 5
  else if 272 ≤ u.val ∧ u.val < 276 then some 6
  else none

/-- The unit a well-formed path names (R6, R7, Table 2-2). -/
def unitOfPath (path : Nat) : Option UnitNo := (List.finRange 284).find? fun u => unitPath u == path

/-- The state of an image slot, 0xA050:k. -/
def State.slotState (s : State) (kind : Nat) : Nat := s.volAt (ek 0xA050 kind)

/-! ### The end of an operation -/

/-- A UNITOP slot refused after it was taken: reason 16 and the refusal's event (R26, R284, Table 15-2). -/
def State.opSlotRefused (s : State) (o : OpSlot) (ev : Nat) : State :=
  let s := (s.raiseVat o.vat 0x0F01 0x5000 [(o.vat.val, 1), (o.frame, 2), (12, 1), (16, 1)]).countVat o.vat 2
  s.slotFinal o.fn o.slot { Final.plain 7 12 16 with event := ev }

/-- U+2:04 of a unit takes a status; with 2 its UNITOP slot is done (Table 15-2). -/
def State.opStatus (s : State) (u : UnitNo) (status : Nat) : State := s.updUnit u fun r => { r with opStatus := status }

/-- An operation is done: U+2:04 becomes 2, the slot of the command that asked for it DONE. -/
def State.opDone (s : State) (u : UnitNo) (slot : Option OpSlot) : State :=
  let s := s.opStatus u 2
  match slot with
  | some o => s.slotFinal o.fn o.slot (Final.plain 2 12 0)
  | none => s

/-- The end of LOADING, whichever way: the pending operation is done. -/
def State.loadDone (s : State) (u : UnitNo) : State :=
  let o := s.units[u].opSlot
  let p := s.units[u].opStatus
  let s := s.updUnit u fun r => { r with opSlot := none, streaming := false, doomed := false }
  if p = 1 ∨ o.isSome then s.opDone u o else s

/-! ### Faults -/

/-- EV-0x1501 for a load that failed (R23, R398): reason 1 body hash, 2 self-test; kind 0 for a unit that has no image kind (DESIGN CHOICE,
assumption 127). -/
def State.loadFailed (s : State) (u : UnitNo) (why : Nat) : State :=
  (s.raise 0x1501 (unitPath u) [((kindOf u).getD 0, 1), (why, 1)]).updUnit u fun r => { r with image := [] }

/-- A unit's holdings frozen into U+3, with the pipes whose slots they are (R275). -/
def State.freeze (s : State) (u : UnitNo) : State :=
  let h := s.holdings u
  let q := (s.slotsOf u).map Prod.fst
  s.updUnit u fun r => { r with frozen := h, frozenPipes := q }

/-- A unit enters FAULTED: holdings frozen, a load or drain it was in ended with it, a program still running on a core
stopped (R23, R289, R419). `ev` is the event the launch's result names. -/
def State.faultUnit (s : State) (u : UnitNo) (ev : Nat) : State :=
  let st := s.ust u
  if st = stAbsent ∨ st = stFaulted then s
  else
    let s := if st = stLoading then s.loadFailed u 2 else s
    let s := (s.freeze u).updUnit u fun r => { r with drainTo := none }
    let s := s.moveTo u stFaulted (s.view u).causes
    let s := if st = stLoading then s.loadDone u else s
    if h : 208 ≤ u.val ∧ u.val < 260 then
      let c : CoreId := ⟨u.val - 208, by omega⟩
      s.haltCore c ev (s.wordOf c)
    else s

/-- An uncorrectable fault of a unit; one of the hub die is one of the package (R416). -/
def State.enterFaulted (s : State) (u : UnitNo) (ev : Nat) : State :=
  let s := s.faultUnit u ev
  if u = uHub then s.faultUnit uPackage ev else s

/-! ### Draining and holds -/

/-- Members that drain with a composite unit: RUNNING cores, dies and functions below it. -/
def runningBelow (s : State) (u : UnitNo) : List UnitNo :=
  (below u).filter fun m => decide (208 ≤ m.val) && s.ust m == stRunning

/-- A RUNNING unit starts to drain towards HELD or SHED, with the pre-emption requests of R298; towards HELD its RUNNING
members drain with it. -/
def State.startDrain (s : State) (u : UnitNo) (goal : Fin 9) (causes : Byte) : State :=
  let members := if goal = stHeld ∧ (260 ≤ u.val) then runningBelow s u else []
  let s := (s.updUnit u fun r => { r with drainTo := some goal }).transition u stDraining causes
  let s := members.foldl (fun s m =>
    (s.updUnit m fun r => { r with drainTo := some stHeld }).transition m stDraining ((s.view m).causes ||| 8#8)) s
  s.requestBelow u

/-- A hold of a unit takes effect (Table 2-6): READY is held, RUNNING drains, and elsewhere the cause is recorded. -/
def State.holdFor (s : State) (u : UnitNo) (cause : Byte) : State :=
  let c := (s.view u).causes ||| cause
  if s.ust u = stReady then (s.moveTo u stHeld c).requestBelow u
  else if s.ust u = stRunning then s.startDrain u stHeld c
  else if s.ust u = stAbsent then s
  else s.setCauses u c

/-- Whether a draining unit has stopped at its boundary (R23): an array with its core, a core once it runs nothing, a codec slice
once neither engine is within a frame (R368), a composite unit once no member drains or runs. -/
def State.atBoundary (s : State) (u : UnitNo) : Bool :=
  let idle (c : Nat) : Bool := if h : c < 52 then s.cores[c].launch.isNone else true
  if u.val < 208 then idle (u.val / 52 * 13 + u.val % 52 / 4)
  else if u.val < 260 then idle (u.val - 208)
  else if 272 ≤ u.val ∧ u.val < 276 then
    [2 * (u.val - 272), 2 * (u.val - 272) + 1].all fun e => (vget (⟨[], none, none⟩ : CodecEngine) s.codecs e).work.isNone
  else (s.members u).all fun m => s.ust m != stRunning && s.ust m != stDraining

/-! ### Loading -/

/-- A COLD unit without an image of its own that is loaded with a core: its arrays (DEDUCED, assumption 22). -/
def coldArrays (s : State) (u : UnitNo) : List UnitNo :=
  if 208 ≤ u.val ∧ u.val < 260 then (below u).filter fun m => s.ust m == stCold else []

/-- A unit enters LOADING (R398, R417, R436): streaming its kind's slot, or only calibrating and testing itself. -/
def State.startLoading (s : State) (u : UnitNo) (streaming : Bool) (slot : Option OpSlot) : State :=
  let die := unitOf (276 + (u.val - 208) / 13)
  let doomed := decide (208 ≤ u.val ∧ u.val < 260) && (s.ust die == stCold || s.ust die == stLoading)
  let arrays := coldArrays s u
  let one (s : State) (u : UnitNo) (streaming doomed : Bool) (slot : Option OpSlot) : State :=
    (s.updUnit u fun r => { r with
      streaming := streaming, doomed := doomed, opSlot := slot, drainTo := none, opStatus := 1 }).moveTo u stLoading
      ((s.view u).causes &&& 0xF0#8)
  arrays.foldl (fun s a => one s a false false none) (one s u (streaming && (kindOf u).isSome) doomed slot)

/-- Fused values of a unit's record take effect: the highest bank programmed governs (R377). -/
def State.takeFused (s : State) (first last : Nat) : State :=
  s.fuseBanks.foldl (fun s p =>
    if first * 256 ≤ p.1 ∧ p.1 < (last + 1) * 256 then
      match p.2.getLast? with
      | some v => { s with cfg := cfgSet s.cfg p.1 v }
      | none => s
    else s) s

/-- The measurement register extended (R404). -/
def State.extend (s : State) (path kind version : Nat) (hash : List Byte) : State :=
  let m := sha512 (s.measurement ++ leBytes path 2 ++ leBytes kind 1 ++ leBytes version 4 ++ hash)
  ({ s with measurement := m } : State).setVol (ek 0xA040 2) (s.volAt (ek 0xA040 2) + 1)

/-- The rows an array's record retires (R79). -/
def State.retiredRows (s : State) (u : UnitNo) : List Nat :=
  ([1, 2, 3, 4].map fun sub => s.cfgAt (ek (unitObj u 6) sub)).filter fun r => r != 0xFF

/-- The lane groups a core's record retires (R103). -/
def State.retiredGroups (s : State) (u : UnitNo) : BitVec 9 :=
  BitVec.ofNat 9 (s.cfgAt (ek (unitObj u 9) 1)) ||| BitVec.ofNat 9 (s.cfgAt (ek (unitObj u 9) 2))

/-- The groups of a core not in a set, lowest first. -/
def groupsNot (g : BitVec 9) : List Nat := (List.range 9).filter fun i => !g.getLsbD i

/-- The physical group of a logical lane (R104): of the groups not retired, lowest first, the one of the lane's number; in 64-lane mode lanes 64
to 127 run on the groups of lanes 0 to 63. -/
def boundGroup (dead : BitVec 9) (mode lane : Nat) : Option Nat :=
  if lane < 128 then (groupsNot dead)[lane % mode / 16]? else none

/-- An array's rows take effect, and the first bound row that fails its self-test is named (R79 to R82). -/
def State.loadArray (s : State) (u : UnitNo) (r : SelfTest) : State × Bool :=
  let dead := s.retiredRows u
  let n := dead.length
  let s := s.updUnit u fun k => { k with rows := dead }
  let s := (s.setVol (ek (unitObj u 6) 5) n).setVol (ek (unitObj u 6) 6) (if n = 0 then 24 else 25)
  let bound := (List.range 128).map (boundRow dead)
  match (r.rows.map Fin.val).find? fun x => bound.contains x with
  | some x => ((s.setVol (ek (unitObj u 6) 7) x).raise 0x0402 (unitPath u) [(x, 1), (n, 1), (if n = 2 then 1 else 0, 1)], false)
  | none => (s.setVol (ek (unitObj u 6) 7) 0xFF, true)

/-- A core's lane groups and Culture source take effect, with what their self-tests find (R103 to R106, R213). A group that fails its test is
left out as a retired one is, until the next load; where several fail, EV-0x0501 names each and U+9:05 keeps the highest (DESIGN
CHOICE, assumption 128). -/
def State.loadCore (s : State) (u : UnitNo) (r : SelfTest) : State × Bool :=
  let dead := s.retiredGroups u
  let free := (groupsNot dead).length
  let path := unitPath u
  let obj := unitObj u 9
  if free < 4 then (s.raise 0x0501 path [(0xFF, 1), (free, 1)], false)
  else
    let failed := (groupsNot dead).filter fun g => r.groups.getLsbD g
    let s := failed.foldl (fun s g => (s.setVol (ek obj 5) g).raise 0x0501 path [(g, 1), (free, 1)]) s
    let s := if failed.isEmpty then s.setVol (ek obj 5) 0xFF else s
    if free - failed.length < 4 then (s, false)
    else
      let mode := if 8 ≤ free - failed.length then 128 else 64
      let old := s.volAt (ek obj 3)
      let s := s.updUnit u fun k => { k with groups := failed.foldl (fun g i => g ||| BitVec.twoPow 9 i) dead }
      let s := if mode = old then s else s.raise 0x0502 path [(old, 1), (mode, 1)]
      let s := (s.setVol (ek obj 3) mode).setVol (ek obj 4) (if mode = 128 then 1 else 2)
      let cul := unitObj u 12
      if s.cfgAt (ek cul 2) = 1 then ((s.setVol (ek cul 1) 1).setVol (ek cul 4) 4, true)
      else
        match r.cipher with
        | some n => ((s.setVol (ek cul 3) n.val).raise 0x0B01 path [(n.val, 1)], false)
        | none => (((s.setVol (ek cul 1) 0).setVol (ek cul 4) 1).setVol (ek cul 3) 0xFF, true)

/-- ACLK reads 1,300 MHz once no compute die is still to calibrate: each has left COLD and LOADING, whichever way (R435). -/
def State.clockReading (s : State) : State :=
  let done := (List.range 4).all fun d =>
    let st := s.ust (unitOf (276 + d))
    st != stCold && st != stLoading
  if done then s.setVol (ek 0x1001 2) 1300 else s

/-- A load that has passed: the image's hash and version taken, the measurement extended, the unit READY; a die calibrates
the clocks, and a port, the twin link or the host link starts to train if its reference clock is good (R335, R398, R404, R435, R450,
Table 23-5). -/
def State.loadPassed (s : State) (u : UnitNo) (clock : Bool) : State :=
  let k := (kindOf u).getD 0
  let slot := vget ImageSlot.reset s.images (k - 1)
  let s := if s.units[u].streaming then
      s.updUnit u fun r => { r with image := slot.hash, version := slot.version }
    else s
  let r := s.units[u]
  let s := if k ≠ 0 ∧ ¬r.image.isEmpty then s.extend (unitPath u) k r.version r.image else s
  let s := s.moveTo u stReady 0#8
  let train (e : Nat) : State := if clock && s.volAt e == 0 then s.setVol e 1 else s
  if k = 4 then train (ek (0xC008 + (u.val - 261)) 5)
  else if k = 5 then train (ek 0xC010 3)
  else if u = unitOf 260 then train (ek 0x1100 3)
  else s

/-- A LOADING unit that fails its load enters FAULTED; a fault of the hub die is one of the package (R398, R416). -/
def State.failLoad (s : State) (u : UnitNo) (why : Nat) : State :=
  let s := (((s.loadFailed u why).freeze u).moveTo u stFaulted (s.view u).causes).loadDone u
  if u = uHub then s.faultUnit uPackage 0x1501 else s

/-- A LOADING unit ends its load with what its checks and self-test find (R79 to R82, R103 to R106, R213, R398, R436). -/
def State.endLoading (s : State) (u : UnitNo) (r : SelfTest) : State :=
  if s.ust u ≠ stLoading then s
  else
    let s := s.takeFused (0x4000 + u.val * 16) (0x4000 + u.val * 16 + 15)
    let badImage := s.units[u].streaming && !r.imageOk
    let a : State × Bool :=
      if badImage then (s, false)
      else if u.val < 208 then s.loadArray u r
      else if 208 ≤ u.val ∧ u.val < 260 then s.loadCore u r
      else (s, true)
    let s := a.1
    let s := if a.2 && r.passed && !s.units[u].doomed then (s.loadPassed u r.clock).loadDone u
      else s.failLoad u (if badImage then 1 else 2)
    if 276 ≤ u.val ∧ u.val < 280 then s.clockReading else s

/-! ### Requests (R26) -/

/-- The role's number in an audit record (Table 20-5). -/
def Role.number : Role → Nat
  | .package => 0
  | .operator => 1
  | .installer => 2
  | .maker => 3
  | .driver => 4

/-- The causes a role's re-admit clears (Table 2-8). -/
def Role.clears : Role → Byte
  | .installer => 0x67#8
  | .operator => 0x01#8
  | .driver => 0x22#8
  | _ => 0#8

/-- The cause a role's hold sets (Table 2-8). -/
def Role.holds : Role → Byte
  | .driver => 0x02#8
  | _ => 0x01#8

/-- Whether a unit is one of a vat's: a physical core bound to one of its logical cores, or one of its hub functions (R22, R279,
Table 15-1). -/
def State.vatOwns (s : State) (v : Nat) (u : UnitNo) : Bool :=
  match s.numberOf u with
  | some q => (s.cfgAt (ek 0x2021 (v + 1))).testBit q.val
  | none => decide (260 ≤ u.val ∧ u.val < 276) && (s.cfgAt (ek 0x2028 (v + 1))).testBit (u.val - 260)

/-- Whether a unit is one of an operator's vats (R22, R383). -/
def State.ownsUnit (s : State) (mask : BitVec 16) (u : UnitNo) : Bool :=
  (List.range 16).any fun v => mask.getLsbD v && s.vatOwns v u

/-- Whether a unit, or the core it is an array of, belongs to an enabled vat other than `v` (R280). -/
def State.foreign (s : State) (v : VatNo) (u : UnitNo) : Bool :=
  let u := if u.val < 208 then coreOfArray u else u
  !s.vatOwns v.val u && (List.finRange 16).any fun w => w != v && s.cfgAt (ek 0x2020 (w.val + 1)) != 0 && s.vatOwns w.val u

/-- Whether a role may ask for an operation on a unit (Table 2-7). -/
def State.roleMay (s : State) (role : Role) (mask : BitVec 16) (u : UnitNo) (op : Nat) : Bool :=
  let own := decide (op = 1) || (decide (op = 2) && s.ust u != stShed && s.ust u != stFaulted)
  match role with
  | .installer => true
  | .driver => own
  | .operator => own && s.ownsUnit mask u
  | _ => false

/-- Whether an operation applies to a unit's state (Table 2-7, R417). -/
def appliesTo (op : Nat) (v : UView) : Bool :=
  match op with
  | 1 => v.state == stReady || v.state == stRunning || v.state == stHeld
  | 2 => v.state == stHeld || v.state == stShed || v.state == stFaulted
  | 3 => v.state == stReady || v.state == stRunning || v.state == stHeld || v.state == stFaulted
  | 4 => v.state == stHeld && v.causes &&& 0x70#8 == 0#8
  | 5 => (v.state == stHeld && v.causes &&& 0x70#8 == 0#8) || v.state == stCold
  | 6 => v.state == stFaulted
  | _ => false

/-- Whether a tail-drop of a unit is refused whatever its state (Table 22-7). -/
def State.noDrop (s : State) (u : UnitNo) : Bool :=
  u == hubUnit 0 || u == hubUnit 10 || u == hubUnit 11 || u == uHub || u == uPackage ||
  (decide (276 ≤ u.val ∧ u.val < 280) &&
    ((s.cfgAt (ek 0xD000 1)).testBit (u.val - 276) ||
      (List.range 16).any fun v => (List.range 8).any fun k =>
        let r := s.regionOf v k
        r.2.2 != 0 && decide (2 ^ 39 ≤ r.1 ∧ r.1 / 2 ^ 37 % 4 = u.val - 276)))

/-- Whether an operation would stream an image from a slot that is not valid (R398). -/
def State.noImage (s : State) (u : UnitNo) (op : Nat) : Bool :=
  let loads := decide (op = 4) || (decide (op = 2) && s.ust u != stHeld)
  match kindOf u with
  | some k => loads && s.slotState k != 3
  | none => false

/-- Why a request is refused, the first reason that applies in the order 5, 1, 2, 4, 3 (R26); 6 stands for a slot that is
not valid (R398). -/
def State.whyRefused (s : State) (u : UnitNo) (op : Nat) (ver : BitVec 16) (role : Role) (mask : BitVec 16) : Option Nat :=
  let v := s.view u
  if op = 0 ∨ 6 < op then some 5
  else if !s.roleMay role mask u op then some 1
  else if !appliesTo op v || (decide (op = 3) && s.noDrop u) then some 2
  else if (op = 2 ∨ op = 3) ∧ v.state = stFaulted ∧ s.units[u].frozen.toList.any (fun n => n != 0) then some 4
  else if ver ≠ v.version then some 3
  else if s.noImage u op then some 6
  else none

/-- The audit record of a request (R390). -/
def State.auditReq (s : State) (q : UnitReq) (kind outcome : Nat) : State :=
  s.auditRec { AuditEntry.plain kind q.role.number q.source outcome with
    vat := (match q.slot with | some o => o.vat.val | none => 0xFF), keyId := q.keyId, path := unitPath q.unit }

/-- The event of a refusal: EV-0x1504 for a slot that is not valid, else EV-0x0202 (R26, R398). -/
def State.refusalEvent (s : State) (q : UnitReq) (why : Nat) : State :=
  if why = 6 then
    let k := (kindOf q.unit).getD 0
    s.raise 0x1504 0x5000 [(k, 1), (s.slotState k, 1)]
  else s.raise 0x0202 (unitPath q.unit) [(q.op.toNat, 1), (why, 1)]

/-- The code of a refusal's event. -/
def refusalCode (why : Nat) : Nat := if why = 6 then 0x1504 else 0x0202

/-- The pools of the hub die returned (R27, R275): dispatch and result slots free and their launches gone with what their cores did, batch slots
empty, frames and stream ranges unassigned (DEDUCED, assumption 107). -/
def State.reclaimHub (s : State) : State :=
  let s := (List.finRange 52).foldl (fun s c => if s.cores[c].launch.isSome then s.freeCore c else s) s
  { s with
    launches := []
    waitQ := []
    results := s.results.foldl (fun m r => Sparse.set RSlot.reset m r.1 ⟨RSlot.reset.w.set 0 r.2.w[0]⟩) []
    seqs := Vector.replicate 64 SeqRec.empty
    frames := []
    joins := []
    resumes := []
    leaves := []
    cfg := (List.range 16).foldl (fun m v => cfgSet m (ek 0x2045 (v + 1)) 0) s.cfg }

/-- A frozen slot emptied, its bytes discarded (R275). -/
def State.thaw (s : State) (q : Nat × Bool) : State :=
  if h : q.1 < 1024 then s.updPipe ⟨q.1, h⟩ fun p =>
    if q.2 then { p with head := p.head.filter fun k => k.read == 0 } else { p with tail := p.tail.filter fun k => k.committed }
  else s

/-- The frozen credits of a link back at their sender (R27, R275). -/
def State.thawLink (s : State) (u : UnitNo) : State :=
  let s := if u = hubUnit 9 then s.twinReturns s.twinPool.taken else s
  { s with credits := s.credits.map fun c =>
      if s.outbound c.1 && s.carrierOf c.1 == u.val - 260 then
        (c.1, { c.2 with free := c.2.free + c.2.transit, returned := c.2.taken })
      else c }

/-- Frozen holdings returned to their pools (R27, R275): frozen pipe slots emptied, frozen rennet counts zeroed, the credits of a link
back at the sender, EV-0x0205, an audit record. -/
def State.reclaim (s : State) (q : UnitReq) : State :=
  let u := q.unit
  let fz := s.units[u].frozen.toList
  let s := s.units[u].frozenPipes.foldl (fun s q => s.thaw q) s
  let s := if fz.getD 2 0 = 0 then s else
    { s with rennets := (s.rennets.map fun r =>
        if r.1 / 16384 = u.val - 276 then (r.1, { r.2 with count := 0 }) else r).filter fun r => r.2 != Rennet.reset }
  let s := if u = uHub then s.reclaimHub else s
  let s := if fz.getD 0 0 = 0 then s else s.thawLink u
  let s := s.updUnit u fun r => { r with frozen := Vector.replicate 8 0, frozenPipes := [] }
  let s := s.raise 0x0205 (unitPath u) ((sumNat fz, 4) :: fz.map fun n => (min n 0xFFFF, 2))
  s.auditReq q 10 0

/-- An accepted request takes effect (R26, Table 2-6, Table 2-7). -/
def State.effectReq (s : State) (q : UnitReq) : State :=
  let u := q.unit
  let v := s.view u
  match q.op.toNat with
  | 1 => (s.holdFor u q.role.holds).opDone u q.slot
  | 2 => if v.state = stHeld then (s.clearCauses u q.role.clears).opDone u q.slot else s.startLoading u true q.slot
  | 3 => if v.state = stRunning then (s.startDrain u stShed v.causes).opDone u q.slot
    else (s.moveTo u stShed v.causes).opDone u q.slot
  | 4 => s.startLoading u true q.slot
  | 5 => s.startLoading u false q.slot
  | _ => (s.reclaim q).opDone u q.slot

/-! ### The two paths (R31) -/

/-- A unit and those below it as one path sees them: both views that path's own. -/
def State.asSeen (s : State) (data : Bool) (us : List UnitNo) : State :=
  us.foldl (fun s u => s.updUnit u fun r => if data then { r with mg := r.dp } else { r with dp := r.mg }) s

/-- What a path has done to its own view, the other path's view as it was in `s`; the hold causes, which accumulate in one field, are
the same in both (R24, DEDUCED, assumption 106). -/
def State.rejoin (s t : State) (data : Bool) (us : List UnitNo) : State :=
  us.foldl (fun t u =>
    let old := s.units[u]
    t.updUnit u fun r => if data then { r with mg := { old.mg with causes := r.dp.causes } }
      else { r with dp := { old.dp with causes := r.mg.causes } }) t

/-- A request as its path applies it: a UNITOP command on the data path's view, any other on the management path's; the other view
follows at step 2 of a beat (R31, R32). -/
def State.onPath (s : State) (q : UnitReq) (f : State → State) : State :=
  let us := q.unit :: below q.unit
  s.rejoin (f (s.asSeen q.slot.isSome us)) q.slot.isSome us

/-- A request whose target beat has come: checked again against the state and version left before it, then taken (R28). -/
def State.applyReq (s : State) (q : UnitReq) : State := s.onPath q fun s =>
  match s.whyRefused q.unit q.op.toNat q.version q.role q.mask with
  | some why =>
    let s := (((s.opStatus q.unit 3).refusalEvent q why).auditReq q 8 why)
    match q.slot with
    | some o => s.opSlotRefused o (refusalCode why)
    | none => s
  | none => s.effectReq q

/-- A request of the pair goes to the twin as well, which applies it at the same beat (R30). -/
def State.sharePair (s : State) (q : UnitReq) : State :=
  if q.unit = uPair then s.sendTwin 3 ⟨.twin, 12, [q.op.toNat, q.target, q.version.toNat, q.role.number], []⟩ else s

/-- A request of the group kept for the symbol of the beat before its target (R310). -/
def State.queueGroup (s : State) (q : UnitReq) : State :=
  { s with croak := { s.croak with ops := s.croak.ops ++ [⟨q.op, q.target, q.role, q.slot⟩] } }

/-- A request as it arrives (R26, R30, R310): one for the group forwarded to the segment master; any other refused with its
event, or accepted with U+2:04 pending, in the audit ring, and taken at once where its target beat has passed. -/
def State.submitReq (s : State) (q : UnitReq) : State :=
  let u := q.unit
  let far := u == uPair || u == uGroup
  let q := if q.target = 0 then { q with target := s.beat + (if far then 2 else 1) } else q
  if u = uGroup ∧ s.cfgAt (ek 0xB000 1) = 1 ∧ s.ust uGroup ≠ stAbsent then
    (((s.opStatus u 1).auditReq q 8 0).queueGroup q).sendMgmt ⟨.mgmt, 3, [q.op.toNat, q.target, q.version.toNat, q.role.number], []⟩
  else
    match (s.asSeen q.slot.isSome [u]).whyRefused u q.op.toNat q.version q.role q.mask with
    | some why =>
      let s := ((s.opStatus u 3).refusalEvent q why).auditReq q 8 why
      match q.slot with
      | some o => s.opSlotRefused o (refusalCode why)
      | none => s
    | none =>
      let s := ((s.opStatus u 1).auditReq q 8 0).sharePair q
      if u = uGroup then s.queueGroup q
      else if q.target ≤ s.beat then s.applyReq q else { s with unitReqs := s.unitReqs ++ [q] }

/-- Requests whose target beat has come, in their order of arrival (R28, R33 step 1). -/
def State.dueReqs (s : State) : State :=
  let due := s.unitReqs.filter fun q => decide (q.target ≤ s.beat)
  due.foldl (fun s q => s.applyReq q) { s with unitReqs := s.unitReqs.filter fun q => !decide (q.target ≤ s.beat) }

end Sys2Proof.Machine
end

