-- ==== Sys2Proof/Machine/Sweep.lean ====
section
/-! DEFINITION. The meanings of SWEEP, of the semiring sweeps (class 2) and of ACCOP (class 3). -/
namespace Sys2Proof.Machine

/-- The mode of a SWEEP (R53 to R56, Table 3-6): its rate and how each operand is fed, or the illegal-format fault. The spec does
not say what a non-zero Expansion field does on an activation, or on a weight that is not a narrow integer: such a pair is none of
Table 3-6 and takes the illegal-format fault (DESIGN CHOICE, assumption 100). -/
def State.sweepMode (s : State) (c : CoreId) (da dw : Desc) : Except Stop (SweepOp × Feed × Feed) :=
  let w := s.wordOf c
  if da.expand != 0 then .error (badFormat w clsSweep (atDesc 0 26) da.ctl.dst.toNat)
  else match pairUp da.ctl.dst .none dw.ctl.dst dw.expansion with
    | none => .error (badFormat w clsSweep (atDesc 0 12) dw.ctl.dst.toNat)
    | some (r, fa, fw) =>
      match fw with
      | .table t goal =>
        if s.cores[c].exps[t].target.toNat = goal.toNat then .ok (.product r, fa, fw)
        else .error (badFormat w clsSweep (atDesc 0 23) s.cores[c].exps[t].target.toNat)
      | _ => .ok (.product r, fa, fw)

/-- The operands of a semiring sweep (R70): BF16 or FP16, scale mode 0, coarse scale 1.0. -/
def semiringStop (w : Nat) (d : Desc) : Option Stop :=
  firstStop [
    stopIf (d.ctl.dst != 0x1#4 && d.ctl.dst != 0x2#4) (badFormat w clsSemiring (atDesc 0 12) d.ctl.dst.toNat),
    stopIf (d.ctl.scale != 0#3) (badFormat w clsSemiring (atDesc 0 9) d.ctl.dst.toNat),
    stopIf (d.coarse != 0x3F800000#32) (badFormat w clsSemiring (atDesc 10 0) d.ctl.dst.toNat)]

/-- The mode of a semiring sweep, or the illegal-format fault (R70). -/
def State.semiringMode (s : State) (c : CoreId) (r : Semiring) (da dw : Desc) : Except Stop (SweepOp × Feed × Feed) :=
  match firstStop [semiringStop (s.wordOf c) da, semiringStop (s.wordOf c) dw] with
  | some e => .error e
  | none => .ok (.semiring r, .native, .native)

/-- Whether the reduction origin suits an operand's blocks (R135). -/
def Desc.aligned (d : Desc) (xk : Int) : Bool :=
  !(d.scaled || d.zeroed) || xk % (blockSize d.ctl.scale : Int) == 0

/-- The alignment conditions of R135. -/
def alignStop (w cls op : Nat) (o : SweepOp) (da dw : Desc) (xk : Int) : Option Stop :=
  stopIf (!da.aligned xk || !dw.aligned xk || (o == .product .rank2 && xk % 2 != 0)) (illegal w cls op (atWord 2 17))

/-- A sweep's whole counters over its first `kk` steps (R158). -/
def State.countSweep (s : State) (c : CoreId) (o : SweepOp) (fa : Feed) (f : SweepF) (da dw : Desc) (xa xw xk : Int) (kk : Nat) :
    State :=
  let en := enabled f.enable
  let occ := o.cycles kk (fa.goal da.ctl.dst)
  let rows (r0 : Int) (a : Fin 4) : List Int := (List.range 128).map fun (i : Nat) => r0 + (128 * a.val + i : Nat)
  let past (d : Desc) (k : Nat) : Bool := decide ((d.n0 : Int) ≤ xk + (k : Int))
  let s := s.countTiling c 1 occ
  let s := s.countTiling c 2 (occ * (4 - en.length))
  let s := s.countTiling c 3 (paddedSteps da (en.flatMap fun a => rows xa a) xk kk)
  let s := s.countTiling c 4 (paddedSteps dw (rows xw 0) xk kk)
  s.countTiling c 5 ((List.range kk).filter fun k => past da k || past dw k).length

/-- A sweep once its checks have passed (R58 to R63, R135): the tile bound, the operands read, poison in them an operand
fault (R85), otherwise every enabled array updated in order of k. In rank-2 mode the two steps of a pair enter in one cycle; the
fault names the lower poisoned k and counts the arrays poisoned at that k (DESIGN CHOICE, assumption 101). -/
def State.sweepRun (s : State) (c : CoreId) (f : SweepF) (o : SweepOp) (fa fw : Feed) : State :=
  let da := s.desc c f.da
  let dw := s.desc c f.dw
  let xa := s.xi c f.xa
  let xw := s.xi c f.xw
  let xk := s.xi c f.xk
  let K := f.k
  let en := enabled f.enable
  let s := (((s.bound c [f.tile]).markChecked c f.da).markChecked c f.dw)
  let s := en.foldl (fun s a => s.openSpans c 2 (da.spans (xa + (128 * a.val : Nat)) 128 xk K)) s
  let s := s.openSpans c 2 (dw.spans xw 128 xk K)
  let rd := s.peek c 2 []
  let core := s.cores[c]
  let ae (r k : Nat) : Elem := readElem rd da (xa + (r : Int)) (xk + (k : Int))
  let we (j k : Nat) : Elem := readElem rd dw (xw + (j : Int)) (xk + (k : Int))
  let badW (k : Nat) : Bool := (List.range 128).any fun j => (we j k).poison
  let badRow (a : Fin 4) (k : Nat) : Option Nat := (List.range 128).find? fun i => (ae (128 * a.val + i) k).poison
  match (List.range K).find? fun k => badW k || en.any fun a => (badRow a k).isSome with
  | some k =>
    let reached := if badW k then en else en.filter fun a => (badRow a k).isSome
    let row := if badW k then 0xFF else match reached with
      | a :: _ => s.physRow c a ((badRow a k).getD 0)
      | [] => 0xFF
    (s.countSweep c o fa f da dw xa xw xk (o.performed K k)).operandFault c f.tile k row reached
  | none =>
    let counts (d : DReg) (fd : Feed) (es : List Elem) (dd : Desc) (s : State) : State :=
      if fd == .native then s
      else s.addCensus c (s.slotOf c d) (es.foldl (fun n e => n.add (feed core fd dd e).2) Counts.none)
    let all (rows : List Nat) (e : Nat → Nat → Elem) : List Elem := rows.flatMap fun r => (List.range K).map fun k => e r k
    let s := counts f.da fa (all (en.flatMap fun a => (List.range 128).map fun i => 128 * a.val + i) ae) da s
    let s := counts f.dw fw (all (List.range 128) we) dw s
    let old := s.tileOf c f.tile
    let s := s.writeTile c f.enable f.tile da.coarse dw.coarse fun a =>
      sweepArr o K f.init old.arr[a] (fun i k => (feed core fa da (ae (128 * a.val + i) k)).1)
        (fun j k => (feed core fw dw (we j k)).1)
    (s.countSweep c o fa f da dw xa xw xk K).advance c

/-- A SWEEP (0) or a semiring sweep (1 to 4, in the order of R69) stopped by a fault at step k: the steps performed (R158). -/
def State.countStopped (s : State) (c : CoreId) (kind : Fin 5) (f : SweepF) (k : Nat) : State :=
  let da := s.desc c f.da
  let dw := s.desc c f.dw
  let mode := match kind.val with
    | 0 => s.sweepMode c da dw
    | 1 => s.semiringMode c .minPlus da dw
    | 2 => s.semiringMode c .maxPlus da dw
    | 3 => s.semiringMode c .l1 da dw
    | _ => s.semiringMode c .squaredL2 da dw
  match mode with
  | .ok (o, fa, _) => s.countSweep c o fa f da dw (s.xi c f.xa) (s.xi c f.xw) (s.xi c f.xk) (o.performed f.k k)
  | .error _ => s

/-- The ranges of the core buffer a sweep reads. -/
def State.sweepSpans (s : State) (c : CoreId) (f : SweepF) : Spans :=
  let xk := s.xi c f.xk
  ((enabled f.enable).flatMap fun a => (s.desc c f.da).spans (s.xi c f.xa + (128 * a.val : Nat)) 128 xk f.k)
    ++ (s.desc c f.dw).spans (s.xi c f.xw) 128 xk f.k

/-- A sweep of a class: its checks in order, then its run (R65, R70, R76, R131, R134, R135). -/
def State.sweepOf (s : State) (i : Instr) (c : CoreId) (h : Hdr) (cls op : Nat) (f : SweepF)
    (mode : State → Desc → Desc → Except Stop (SweepOp × Feed × Feed)) : State :=
  s.issueOver i c h cls (s.sweepSpans c f) fun s =>
    let w := s.wordOf c
    let da := s.desc c f.da
    let dw := s.desc c f.dw
    match firstStop [s.descStop c cls op f.da [2], s.descStop c cls op f.dw [2], stopIf (f.k == 0) (illegal w cls op (atWord 3 0))] with
    | some e => s.stopProgram c e.1 e.2
    | none =>
      match mode s da dw with
      | .error e => s.stopProgram c e.1 e.2
      | .ok (o, fa, fw) =>
        match firstStop [alignStop w cls op o da dw (s.xi c f.xk), s.arrayStop c f.enable, s.bindStop c [f.tile]] with
        | some e => s.stopProgram c e.1 e.2
        | none => s.sweepRun c f o fa fw

/-- SWEEP (R135). -/
def execSweep (c : CoreId) (h : Hdr) (f : SweepF) (s : State) : Host.Outcome State Fault Refusal :=
  s.clocked (s.sweepOf (.sweep c h f) c h clsSweep 0 f fun s da dw => s.sweepMode c da dw)

/-- SEMIRING min-plus (R69). -/
def execMinPlus (c : CoreId) (h : Hdr) (f : SweepF) (s : State) : Host.Outcome State Fault Refusal :=
  s.clocked (s.sweepOf (.minPlus c h f) c h clsSemiring 0 f fun s da dw => s.semiringMode c .minPlus da dw)

/-- SEMIRING max-plus (R69). -/
def execMaxPlus (c : CoreId) (h : Hdr) (f : SweepF) (s : State) : Host.Outcome State Fault Refusal :=
  s.clocked (s.sweepOf (.maxPlus c h f) c h clsSemiring 1 f fun s da dw => s.semiringMode c .maxPlus da dw)

/-- SEMIRING L1 (R69). -/
def execL1Sweep (c : CoreId) (h : Hdr) (f : SweepF) (s : State) : Host.Outcome State Fault Refusal :=
  s.clocked (s.sweepOf (.l1Sweep c h f) c h clsSemiring 2 f fun s da dw => s.semiringMode c .l1 da dw)

/-- SEMIRING squared L2 (R69). -/
def execSquaredL2 (c : CoreId) (h : Hdr) (f : SweepF) (s : State) : Host.Outcome State Fault Refusal :=
  s.clocked (s.sweepOf (.squaredL2 c h f) c h clsSemiring 3 f fun s da dw => s.semiringMode c .squaredL2 da dw)

/-! ### ACCOP -/

/-- An element-wise operation (R71): its own checks, R65 and R76, then the tiles `names` bound in operand order and each
enabled array's part of Td replaced. `scales` gives the result's coarse scales; `sp` the ranges of the core buffer it reads. -/
def State.accop (s : State) (i : Instr) (c : CoreId) (h : Hdr) (f : AccF) (names : List TileNo) (own : State → List (Option Stop))
    (pre : State → State) (scales : State → (Word × Word) × State) (g : State → Fin 4 → TileArr × Bool)
    (sp : State → Spans := fun _ => []) : State :=
  s.issueOver i c h clsAccop (sp s) fun s =>
    s.checked c (own s ++ [s.arrayStop c f.enable, s.bindStop c names]) fun s =>
      let p := scales (pre (s.bound c names))
      p.2.writeTile c f.enable f.td p.1.1 p.1.2 (g p.2)

/-- The coarse scales of a tile whose content no sweep into it has left: the spec states none, so they are free
(DESIGN CHOICE, assumption 16). -/
def freeScales (s : State) : (Word × Word) × State :=
  ((BitVec.ofNat 32 s.free.1, BitVec.ofNat 32 (s.free.1 / 2 ^ 32)), s.free.2)

/-- The coarse scales of a result: those of the tile when the operation is in place, free otherwise (DESIGN CHOICE, assumption 16). -/
def scalesOf (c : CoreId) (ta td : TileNo) (s : State) : (Word × Word) × State :=
  if ta = td then (((s.tileOf c td).ca, (s.tileOf c td).cw), s) else freeScales s

/-- A per-row base register above 28 (R71, R134). -/
def rowBaseStop (w op v : Nat) : Option Stop := stopIf (decide (28 < v)) (illegal w clsAccop op (atWord 1 11))

/-- An operation on two source tiles (Table 4-4). -/
def State.accop2 (s : State) (i : Instr) (c : CoreId) (h : Hdr) (f : AccF) (op : FVal → FVal → FVal × Bool) : State :=
  s.accop i c h f [f.ta, f.tb, f.td] (fun _ => []) id (scalesOf c f.ta f.td) fun s a =>
    let b := (s.tileOf c f.tb).arr[a]
    elementwise (s.tileOf c f.ta).arr[a] (s.tileOf c f.td).arr[a] b.poison
      fun n x => op x (if h : n < 16384 then ofA38 b.vals[n] else .zero)

/-- A product truncated toward zero to A38 once (R71); `elementwise` narrows it. -/
def accMul (x v : FVal) : FVal × Bool := (x.mul v, false)

/-- The scalar of an index register: its low 32 bits as FP32 (R71). -/
def State.scalar (s : State) (c : CoreId) (x : XReg) : FVal := f32 ((s.xr c x).truncate 32)

/-- ACCOP CLEAR (Table 4-4). -/
def execClearTile (c : CoreId) (h : Hdr) (f : AccF) (s : State) : Host.Outcome State Fault Refusal :=
  s.clocked (s.accop (.clearTile c h f) c h f [f.td] (fun _ => []) id freeScales fun _ _ => (TileArr.zero, false))

/-- ACCOP FILL (Table 4-4). -/
def execFillTile (c : CoreId) (h : Hdr) (f : AccF) (s : State) : Host.Outcome State Fault Refusal :=
  s.clocked (s.accop (.fillTile c h f) c h f [f.td] (fun _ => []) id freeScales fun s _ =>
    (⟨Vector.replicate 16384 (toA38 (s.scalar c f.xs)).1, false, false⟩, false))

/-- ACCOP COPY: values, poison and flag (Table 4-4). -/
def execCopyTile (c : CoreId) (h : Hdr) (f : AccF) (s : State) : Host.Outcome State Fault Refusal :=
  s.clocked (s.accop (.copyTile c h f) c h f [f.ta, f.td] (fun _ => []) id (scalesOf c f.ta f.td) fun s a => ((s.tileOf c f.ta).arr[a], false))

/-- ACCOP ADD (Table 4-4, R61). -/
def execAddTile (c : CoreId) (h : Hdr) (f : AccF) (s : State) : Host.Outcome State Fault Refusal :=
  s.clocked (s.accop2 (.addTile c h f) c h f a38Add)

/-- ACCOP SUB (Table 4-4, R61). -/
def execSubTile (c : CoreId) (h : Hdr) (f : AccF) (s : State) : Host.Outcome State Fault Refusal :=
  s.clocked (s.accop2 (.subTile c h f) c h f fun x y => a38Add x y.negate)

/-- ACCOP MAX (Table 4-4, R69). -/
def execAccopMax (c : CoreId) (h : Hdr) (f : AccF) (s : State) : Host.Outcome State Fault Refusal :=
  s.clocked (s.accop2 (.accopMax c h f) c h f fun x y => (maxVal x y, false))

/-- ACCOP MIN (Table 4-4, R69). -/
def execAccopMin (c : CoreId) (h : Hdr) (f : AccF) (s : State) : Host.Outcome State Fault Refusal :=
  s.clocked (s.accop2 (.accopMin c h f) c h f fun x y => (minVal x y, false))

/-- ACCOP SCALE by a scalar (Table 4-4). -/
def execScaleTile (c : CoreId) (h : Hdr) (f : AccF) (s : State) : Host.Outcome State Fault Refusal :=
  s.clocked (s.accop (.scaleTile c h f) c h f [f.ta, f.td] (fun _ => []) id (scalesOf c f.ta f.td) fun s a =>
    elementwise (s.tileOf c f.ta).arr[a] (s.tileOf c f.td).arr[a] false fun _ x => accMul x (s.scalar c f.xs))

/-- ACCOP SCALE_ROW by lane i of V(b + a) (Table 4-4). -/
def execScaleRow (c : CoreId) (h : Hdr) (f : AccF) (s : State) : Host.Outcome State Fault Refusal :=
  s.clocked (s.accop (.scaleRow c h f) c h f [f.ta, f.td] (fun s => [rowBaseStop (s.wordOf c) 8 f.v]) id (scalesOf c f.ta f.td) fun s a =>
    elementwise (s.tileOf c f.ta).arr[a] (s.tileOf c f.td).arr[a]
      ((List.range 128).any fun i => (s.cores[c].rowLane f.v a i).poison)
      fun n x => accMul x (s.cores[c].rowLane f.v a (n / 128)).f)

/-- ACCOP SCALE_COL by lane j of Vc (Table 4-4). -/
def execScaleCol (c : CoreId) (h : Hdr) (f : AccF) (s : State) : Host.Outcome State Fault Refusal :=
  s.clocked (s.accop (.scaleCol c h f) c h f [f.ta, f.td] (fun _ => []) id (scalesOf c f.ta f.td) fun s a =>
    elementwise (s.tileOf c f.ta).arr[a] (s.tileOf c f.td).arr[a]
      ((List.range 128).any fun j => (s.cores[c].lane f.v j).poison)
      fun n x => accMul x (s.cores[c].lane f.v (n % 128)).f)

/-- ACCOP ADD_COL of lane j of Vc (Table 4-4, R61). -/
def execAddCol (c : CoreId) (h : Hdr) (f : AccF) (s : State) : Host.Outcome State Fault Refusal :=
  s.clocked (s.accop (.addCol c h f) c h f [f.ta, f.td] (fun _ => []) id (scalesOf c f.ta f.td) fun s a =>
    elementwise (s.tileOf c f.ta).arr[a] (s.tileOf c f.td).arr[a]
      ((List.range 128).any fun j => (s.cores[c].lane f.v j).poison)
      fun n x => a38Add x (s.cores[c].lane f.v (n % 128)).f)

/-- The ranges of the core buffer that LOAD reads for one array. -/
def State.loadSpans (s : State) (c : CoreId) (f : AccF) (a : Fin 4) : Spans :=
  (s.desc c f.d).spans (s.xi c f.xr + (128 * a.val : Nat)) 128 (s.xi c f.xc) 128

/-- ACCOP LOAD: an FP32 tile from the core buffer, widened exactly, poison read marking the array it feeds (R71). -/
def execAccopLoad (c : CoreId) (h : Hdr) (f : AccF) (s : State) : Host.Outcome State Fault Refusal :=
  s.clocked (s.accop (.accopLoad c h f) c h f [f.td]
    (fun s => [s.descStop c clsAccop 11 f.d [2],
      stopIf ((s.desc c f.d).ctl.dst != 0x0#4)
        (badFormat (s.wordOf c) clsAccop (atDesc 0 12) (s.desc c f.d).ctl.dst.toNat)])
    (fun s => (enabled f.enable).foldl (fun s a =>
      s.openSpans c 2 (s.loadSpans c f a)) (s.markChecked c f.d))
    freeScales
    (fun s a =>
      let e (n : Nat) : Elem := readElem (s.peek c 2 []) (s.desc c f.d)
        (s.xi c f.xr + (128 * a.val + n / 128 : Nat)) (s.xi c f.xc + (n % 128 : Nat))
      (⟨Vector.ofFn fun n => (toA38 (f32 (BitVec.ofNat 32 (e n.val).code))).1,
        (List.range 16384).any fun n => (e n).poison, false⟩, false))
    fun s => (enabled f.enable).flatMap fun a => s.loadSpans c f a)

end Sys2Proof.Machine
end

