-- ==== Sys2Proof/Machine/Faults.lean ====
section
/-! DEFINITION. Draining, loading, aggregation and faults of units (R23, R25, R29, R85, R106, R214, R398, R414 to R416). -/
namespace Sys2Proof.Machine

/-- UNIT_DRAIN_COMPLETE: a DRAINING unit at its boundary enters HELD or SHED (R23). -/
def execUnitDrainComplete (u : UnitNo) (s : State) : Host.Outcome State Fault Refusal :=
  s.clocked (if s.ust u = stDraining ∧ s.atBoundary u then s.drained u else s)

/-- DRAIN_LIMIT_PASSED: a unit that drains longer than U+1:07 enters FAULTED under EV-0x0206; a program still running on it
stops (R23, R289). -/
def execDrainLimitPassed (u : UnitNo) (micros : Nat) (s : State) : Host.Outcome State Fault Refusal :=
  s.clocked (if s.ust u = stDraining ∧ s.cfgAt (ek (unitObj u 1) 7) ≤ micros then
      (s.raise 0x0206 (unitPath u) [(micros, 4)]).enterFaulted u 0x0206
    else s)

/-- LOADING_COMPLETE (R398): a LOADING unit enters READY or FAULTED. -/
def execLoadingComplete (u : UnitNo) (r : SelfTest) (s : State) : Host.Outcome State Fault Refusal :=
  s.clocked (s.endLoading u r)

/-- AGGREGATE_REEVALUATE (R25, R29). -/
def execAggregateReevaluate (u : UnitNo) (s : State) : Host.Outcome State Fault Refusal := s.clocked (s.reevaluate u)

/-! ### Destinations left unwritten (R101, R106, R214) -/

/-- The active lanes or columns of a destination (R90). -/
def State.activeOf (s : State) (c : CoreId) (mask : Option MReg) : BitVec 128 :=
  match mask with
  | some m => s.cores[c].mask m
  | none => BitVec.allOnes 128

/-- One row of a destination, its active elements poisoned, with the whole of every scaled block that holds one (R101). -/
def poisonRow (d : Desc) (r c0 : Int) (mask : BitVec 128) (n : Nat) : RowOut × List WrScale :=
  let cs := (landed d r c0 (List.range n)).filter fun p => decide (128 ≤ p.2) || mask.getLsbD p.2
  let B := blockSize d.ctl.scale
  let bs := if d.scaled then (cs.map fun p => p.1 / B).eraseDups else []
  let bad := (List.range d.n0).filter fun j => bs.contains (j / B)
  (⟨cs.map fun p => ⟨r.toNat, p.1, 0, true⟩, bs.map fun b => ⟨r.toNat * d.blocks + b, oneScale d.ctl.scale, true⟩, bad,
    { Counts.none with poisons := cs.length }⟩, [])

/-- What an instruction stopped by a fault has not yet written, poisoned (R101, R106, R214), and counted (R218); an inactive lane or
column is left as it is in zero mode too (DESIGN CHOICE, assumption 124). A mask register
holds no poison: the active bits it would have taken are free (DESIGN CHOICE, assumption 23). -/
def State.poisonDest (s : State) (c : CoreId) (d : UnitDest) : State :=
  match d with
  | .vreg v first m =>
    let act := s.activeOf c m
    let hit (i : Nat) : Bool := decide (first.val ≤ i) && act.getLsbD i
    s.putV c v.val (bitsOf hit) false fun i => { s.cores[c].lane v.val i with poison := true }
  | .mreg m k =>
    let act := s.activeOf c k
    let f := s.free
    f.2.updCore c fun q => { q with m := q.m.set m (maskedBits q.m[m] act false (BitVec.ofNat 128 f.1).getLsbD) }
  | .rows d row count col cols m =>
    let ds := s.desc c d
    let act := s.activeOf c m
    let s := (List.range count).foldl (fun s (i : Nat) =>
      s.putRow c (s.slotOf c d) ds (row + (i : Int)) (poisonRow ds (row + (i : Int)) col act cols)) s
    if ds.loc = 3 then s.pipeWrite c ds.pipe [] else s
  | .pipe n cc rows m =>
    let ds := { bareDesc cc with loc := 3, base := n.val }
    let act := s.activeOf c m
    let s := (List.range rows).foldl (fun s (i : Nat) => s.putRow c 15 ds i (poisonRow ds i 0 act 128)) s
    s.pipeWrite c n []

/-- Every destination of an instruction poisoned where it is not yet written. -/
def State.poisonDests (s : State) (c : CoreId) (ds : List UnitDest) : State := ds.foldl (fun s d => s.poisonDest c d) s

/-! ### Faults at the arrays (R85, R86) -/

end Sys2Proof.Machine

namespace Sys2Proof

/-- The tiles an instruction at the arrays names, in operand order. -/
def ArrayWork.names : ArrayWork → List TileNo
  | .sweep _ f => [f.tile]
  | .accop sources td _ => sources ++ [td]
  | .drain t _ => [t]

/-- The tile an instruction at the arrays writes, or drains. -/
def ArrayWork.tile : ArrayWork → TileNo
  | .sweep _ f => f.tile
  | .accop _ td _ => td
  | .drain t _ => t

/-- The arrays an instruction enables; a drain takes all four. -/
def ArrayWork.enable : ArrayWork → BitVec 4
  | .sweep _ f => f.enable
  | .accop _ _ e => e
  | .drain _ _ => 15#4

end Sys2Proof

namespace Sys2Proof.Machine

/-- The instruction a fault finds at the arrays, stopped: its tiles bound as at its issue, the frames of a spill the fault met
poisoned, the steps of a sweep counted, and what it was writing poisoned: its tile, or the destinations of a drain (R85, R86,
R158). -/
def State.stopWork (s : State) (c : CoreId) (f : OperandFault) : State :=
  let s := s.bound c f.work.names
  let s := match f.spilling with
    | some v => s.poisonFrames c v
    | none => s
  match f.work with
  | .sweep kind g => (s.countStopped c kind g f.k).poisonTile c g.tile
  | .accop _ td _ => s.poisonTile c td
  | .drain _ ds => s.poisonDests c ds

/-- ARRAY_OPERAND_FAULT (R85, R86): the instruction in progress stops, what it writes is poisoned, EV-0x0400 names the
array or the core, U+7:02 counts in every array reached. A fault that arises in an array takes it to FAULTED, and its core
follows R25; the launch keeps the fault. -/
def execArrayOperandFault (c : CoreId) (f : OperandFault) (s : State) : Host.Outcome State Fault Refusal :=
  s.clocked (
    if s.cores[c].run != .running then s
    else
      let t := s.stopWork c f
      match f.origin with
      | .weightPoison => t.poisonArrived c f.work.tile f.k 0xFF (enabled f.work.enable)
      | .activationPoison a row => t.poisonArrived c f.work.tile f.k row.toNat [a]
      | .array a row cause =>
        let word := t.wordOf c
        let u := arrayUnit c a
        let t := (t.countArray c a 2).raise 0x0400 (unitPath u)
          [(f.work.tile.val, 1), (f.k, 4), (row.toNat, 1), (cause.val, 1)]
        let t := (t.enterFaulted u 0x0400).aggregate (coreUnit c)
        t.haltCore c 0x0400 word)

/-- A core held by a fault in one of its own units: HELD with cause [2] at once, no context saved, its program stopped
(Table 2-6, R106, R214); one that drained for a tail-drop enters FAULTED instead (R419). -/
def State.holdFaulty (s : State) (c : CoreId) (ev : Nat) : State :=
  let u := coreUnit c
  let word := s.wordOf c
  if s.ust u = stDraining ∧ s.units[u].drainTo = some stShed then s.enterFaulted u ev
  else
  let s := if s.ust u = stReady ∨ s.ust u = stRunning ∨ s.ust u = stDraining then
      (s.updUnit u fun r => { r with drainTo := none }).enterHeld u 4#8
    else s.setCauses u ((s.view u).causes ||| 4#8)
  s.haltCore c ev word

/-- LANE_GROUP_FAULT (R104, R106): a fault in the group that a lane is bound to; while the core loads it is a self-test failure of a group
under test (R419). -/
def execLaneGroupFault (c : CoreId) (group : Fin 9) (f : UnitFault) (s : State) : Host.Outcome State Fault Refusal :=
  s.clocked (
    let u := coreUnit c
    let dead := s.retiredGroups u
    if s.ust u = stAbsent then s
    else if s.ust u = stLoading then
      if dead.getLsbD group.val then s
      else ((s.setVol (ek (unitObj u 9) 5) group.val).raise 0x0501 (corePath c) [(group.val, 1), ((groupsNot dead).length, 1)]).failLoad u 2
    else if boundGroup s.units[u].groups (s.volAt (ek (unitObj u 9) 3)) f.lane ≠ some group.val then s
    else
      let kind := s.free
      let s := (kind.2.poisonDests c f.dests).setVol (ek (unitObj (coreUnit c) 9) 5) group.val
      (s.raise 0x0500 (corePath c) [(group.val, 1), (kind.1, 1), (f.lane, 1)]).holdFaulty c 0x0500)

/-- CULTURE_FAULT (R214): while the core loads it is a self-test failure (R419), whose known answer is a free value. -/
def execCultureFault (c : CoreId) (f : UnitFault) (s : State) : Host.Outcome State Fault Refusal :=
  s.clocked (
    let u := coreUnit c
    if s.ust u = stAbsent then s
    else if s.ust u = stLoading then
      let n := s.free
      ((n.2.setVol (ek (unitObj u 12) 3) (n.1 % 64)).raise 0x0B01 (corePath c) [(n.1 % 64, 1)]).failLoad u 2
    else
      let s := (s.poisonDests c f.dests).raise 0x0B00 (corePath c) [(s.wordOf c, 2), (f.counter.toNat % 2 ^ 32, 4), (f.lane, 1)]
      s.holdFaulty c 0x0B00)

/-- A hard fault: EV-0x1602 with the unit's path, the unit FAULTED (R414, Table 22-5). -/
def State.hardFault (s : State) (u : UnitNo) (structure_ offset : Nat) : State :=
  (s.raise 0x1602 (unitPath u) [(structure_, 1), (offset, 5)]).enterFaulted u 0x1602

/-- An audit record of the ring rewritten with its sequence and a zero body (Table 22-4). -/
def State.blankAudit (s : State) (slot : Nat) : State :=
  { s with audit := s.audit.map fun r =>
      if (leNat (r.take 4) + 2 ^ 32 - 1) % 4096 = slot then r.take 4 ++ List.replicate 252 0#8 else r }

/-- An event record of the ring rewritten with a zero body (Table 22-4). -/
def State.blankEvent (s : State) (slot : Nat) : State :=
  let first := s.evCount - s.events.length
  { s with events := s.events.zipIdx.map fun p =>
      if (first + p.2) % 2048 = slot then (⟨0, 0, 0, List.replicate 20 0#8⟩ : EventRec) else p.1 }

/-- The 16-byte word of a store's bytes at an offset poisoned, packet after packet (R235, R259). -/
def poisonBytes (offset : Nat) (l : List Packet) : List Packet :=
  (l.foldl (fun (a : Nat × List Packet) k =>
    (a.1 + k.data.length, a.2 ++ [{ k with
      data := k.data.zipIdx.map fun b => (b.1.1, b.1.2 || (a.1 + b.2) / 16 == offset / 16) }])) (0, [])).2

/-- An uncorrectable word of a pipe's head or tail store. -/
def State.poisonEnd (s : State) (n : Fin 1024) (head : Bool) (offset : Nat) : State :=
  s.updPipe n fun p => if head then { p with head := poisonBytes offset p.head } else { p with tail := poisonBytes offset p.tail }

/-- ONCHIP_UNCORRECTABLE (R414): poison where the word is read, its counter, EV-0x1600, and on a hard fault the owner
FAULTED under EV-0x1602. A hard fault meets a word that was last written whole: a word of a buffer as its memory knows, a program word once
it is loaded, a record of a ring always; of an image slot or a pipe's end store, whose writes the model does not keep word by word, the
command says it. -/
def execOnchipUncorrectable (f : ChipError) (s : State) : Host.Outcome State Fault Refusal :=
  s.clocked <|
  let mark (s : State) (p : Place) : State := s.setMem p ((s.mem p).poison [f.offset])
  let report (s : State) (u : UnitNo) (obj sub st word : Nat) : State :=
    (s.countErr u obj sub).raise 0x1600 (unitPath u) [(st, 1), (f.offset, 5), (word, 2)]
  let faulted (whole : Bool) (s : State) (u : UnitNo) (st : Nat) : State := if whole then s.hardFault u st f.offset else s
  let hard := faulted f.hard
  let written (p : Place) := faulted ((s.mem p).hard f.offset)
  let hubOf (whole : Bool) (s : State) : State := faulted whole (report s uHub 6 2 4 0xFFFF) uHub 4
  (match f.mem with
    | .core c => written (.core c) (report (mark s (.core c)) (coreUnit c) 14 2 1 0xFFFF) (coreUnit c) 1
    | .program c =>
      let w := f.offset / 32
      let s := s.updCore c fun k => { k with progBad := if k.progBad.contains w then k.progBad else k.progBad ++ [w] }
      let s := report s (coreUnit c) 14 4 2 w
      faulted (decide (w < s.cores[c].loaded)) (s.haltCore c 0x1600 w) (coreUnit c) 2
    | .die d => written (.die d) (report (mark s (.die d)) (dieUnit ⟨d.val, by omega⟩) 6 2 3 0xFFFF) (dieUnit ⟨d.val, by omega⟩) 3
    | .hub => hubOf (s.hubBuf.hard f.offset) (mark s .hub)
    | .hubImage k => hubOf f.hard (s.setVol (ek 0xA050 (k.val + 1)) 4)
    | .hubAudit slot => hubOf true (s.blankAudit slot.val)
    | .hubEvent slot => hubOf true (s.blankEvent slot.val)
    | .pipeEnd n head =>
      let p := s.pipes[n]
      let d := if head then endDie p.consHub p.cons else endDie p.prodHub p.prod
      let s := s.poisonEnd n head f.offset
      if h : d < 4 then hard (report s (dieUnit ⟨d, by omega⟩) 6 2 3 0xFFFF) (dieUnit ⟨d, by omega⟩) 3 else hubOf f.hard s)

/-- Poison delivered where a flit was bound (R414): a memory granule of 64 bytes. -/
def State.poisonTarget (s : State) (t : ChipMem × Nat) : State :=
  let words := (List.range 4).map fun i => t.2 / 64 * 64 + 16 * i
  match t.1 with
  | .core c => s.setMem (.core c) ((s.mem (.core c)).poison words)
  | .die d => s.setMem (.die d) ((s.mem (.die d)).poison words)
  | .hub => s.setMem .hub ((s.mem .hub).poison words)
  | .program c => s.updCore c fun k => { k with progBad := (k.progBad ++ [t.2 / 64 * 2, t.2 / 64 * 2 + 1]).eraseDups }
  | .pipeEnd n head => (List.range 4).foldl (fun s i => s.poisonEnd n head (t.2 / 64 * 64 + 16 * i)) s
  | _ => s

/-- LINK_FLIT_UNCORRECTABLE (R414): U+6:04 of the sending die and EV-0x1600; the flit is resent once, and a second failure
delivers poison; more than sixteen on one link in a beat hold the die under EV-0x1604. -/
def execLinkFlitUncorrectable (f : LinkError) (s : State) : Host.Outcome State Fault Refusal :=
  s.clocked <|
  let u := dieUnit f.die
  let a := s.free
  let addr := match f.target with | some t => t.2 | none => a.1
  let s := (a.2.countErr u 6 4).raise 0x1600 (unitPath u) [(5, 1), (addr, 5), (0xFFFF, 2)]
  let s := match f.second, f.target with
    | true, some t => s.poisonTarget t
    | _, _ => s
  let k := f.die.val * 4 + f.link % 4
  let n := Sparse.get 0 s.linkBeat k + 1
  let s := { s with linkBeat := Sparse.set 0 s.linkBeat k n }
  (if n = 17 then (s.raise 0x1604 (unitPath u) [(f.link, 1), (n, 4)]).holdFor u 4#8 else s)

/-- The corrected errors of a unit's own record (R415). -/
def State.correctedSum (s : State) (u : UnitNo) : Nat :=
  let v (obj sub : Nat) : Nat := s.volAt (ek (unitObj u obj) sub) % 2 ^ 48
  if u.val < 208 then v 7 1
  else if u.val < 260 then v 9 6 + v 14 1 + v 14 3
  else if 276 ≤ u.val ∧ u.val < 281 then v 6 1 + v 6 3
  else 0

/-- Corrected errors counted in a structure of a unit (Table 4-8, Table 5-6, Table 22-4); a structure the unit does not have
counts none. -/
def State.countCorrected (s : State) (u : UnitNo) (place : CorrectedIn) (n : Nat) : State :=
  let err (obj sub : Nat) : State := s.count (ek (unitObj u obj) sub) n 0x1605 0x5000 [(unitObj u obj, 2), (sub, 2)]
  if u.val < 208 then
    (if place = .lanes then s.count (ek (unitObj u 7) 1) n 0x0406 (unitPath (coreOfArray u)) [(1, 2)] else s)
  else if u.val < 260 then
    match place with
    | .lanes => err 9 6
    | .buffer => err 14 1
    | .program => err 14 3
    | .links => s
  else if 276 ≤ u.val ∧ u.val < 281 then
    match place with
    | .buffer => err 6 1
    | .links => err 6 3
    | _ => s
  else s

/-- The beats of a window (R415). -/
def State.windowBeats (s : State) : Nat := max 1 (s.cfgAt (ek 0x2060 2))

/-- The corrected errors of a unit at the start of its window: none while fewer beats than a window's have passed since the first (R415). -/
def State.windowStart (s : State) (u : UnitNo) : Nat :=
  let l := s.units[u].corrWindow
  if l.length < s.windowBeats then 0 else l.headD 0

/-- CORRECTED_ERROR_THRESHOLD (R81, R105, R415): corrected errors of a structure counted; once the rise over the window passes
0x2060:01, EV-0x1601, again only once that window is over (DEDUCED, assumption 129), and with 0x2060:03 a hold at the next beat. -/
def execCorrectedErrorThreshold (e : CorrectedErrors) (s : State) : Host.Outcome State Fault Refusal :=
  s.clocked <|
  let u := e.unit
  let s := s.countCorrected u e.place e.count
  let now := s.correctedSum u
  let n := now - s.windowStart u
  (if n ≤ s.cfgAt (ek 0x2060 1) ∨ 0 < s.units[u].corrTold then s
    else
      let s := s.raise 0x1601 (unitPath u) [(n, 4), (s.cfgAt (ek 0x2060 2), 8)]
      s.updUnit u fun r => { r with corrTold := s.windowBeats, corrHold := s.cfgAt (ek 0x2060 3) == 1 })

/-- The corrected-error windows moved on at a beat, and the holds they left due (R415). -/
def State.beatWindows (s : State) : State :=
  (List.finRange 284).foldl (fun s u =>
    let sum := s.correctedSum u
    let r := s.units[u]
    let n := s.windowBeats
    if sum = 0 ∧ r.corrWindow = [] ∧ ¬r.corrHold then s
    else
      let s := s.updUnit u fun r => { r with
        corrWindow := (r.corrWindow ++ [sum]).drop (r.corrWindow.length + 1 - n), corrTold := r.corrTold - 1, corrHold := false }
      if r.corrHold then s.holdFor u 4#8 else s) s

/-- A fault of a router or of the hub's logic: EV-0x1602 and the unit FAULTED (Table 22-5). Neither is a structure of Table 22-4, so what
the event gives for one is free (DESIGN CHOICE, assumption 102). -/
def State.logicFaulted (s : State) (u : UnitNo) : State :=
  s.free.2.hardFault u (s.free.1 % 256) (s.free.1 / 256 % 2 ^ 40)

/-- DIE_FAULT (R416): a router fault or a hard fault of the die buffer, which meets a word last written whole (R414). -/
def execDieFault (d : DieError) (s : State) : Host.Outcome State Fault Refusal :=
  s.clocked (match d.buffer with
    | some o => if (s.mem (.die d.die)).hard o then s.hardFault (dieUnit ⟨d.die.val, by omega⟩) 3 o else s
    | none => s.logicFaulted (dieUnit ⟨d.die.val, by omega⟩))

/-- HUB_FAULT (R416, R354): the hub die and the package FAULTED, and fault notices sent. -/
def execHubFault (s : State) : Host.Outcome State Fault Refusal :=
  s.clocked (s.logicFaulted uHub)

end Sys2Proof.Machine
end

