-- ==== Sys2Proof/Machine/Croak.lean ====
section
/-! DEFINITION. The Croak interface (R304 to R318, R437): beat symbols, lines, group requests, missed beats, IEEE 1588. -/
namespace Sys2Proof.Machine

/-! ### The symbol (R306) -/

/-- The ITU-T CRC-16 of R306 over bits, most significant first. -/
def crc16 (bits : List Bool) : BitVec 16 :=
  bits.foldl (fun c b => if c.msb != b then (c <<< 1) ^^^ 0x1021#16 else c <<< 1) 0xFFFF#16

/-- The CRC of a symbol: over bits [175:16]. -/
def symbolCrc (y : BitVec 192) : BitVec 16 := crc16 ((List.range 160).map fun i => y.getLsbD (175 - i))

/-- A field of a symbol (Table 16-2). -/
def symField (y : BitVec 192) (lo n : Nat) : Nat := (y.extractLsb' lo n).toNat

/-- What a symbol says. -/
structure Symbol where
  beat : Nat
  period : Nat
  version : Nat
  state : Nat
  causes : Nat
  op : Nat
  echo : Nat
  jump : Bool
  stop : Bool
  ieee : Bool
  stretched : Bool
  members : Nat
  deriving DecidableEq, Repr

/-- A symbol's fields (Table 16-2). -/
def Symbol.of (y : BitVec 192) : Symbol where
  beat := symField y 112 64
  period := symField y 80 32
  version := symField y 64 16
  state := symField y 60 4
  causes := symField y 48 8
  op := symField y 40 8
  echo := symField y 32 8
  jump := y.getLsbD 31
  stop := y.getLsbD 30
  ieee := y.getLsbD 29
  stretched := y.getLsbD 28
  members := symField y 16 8

/-- The bits of a symbol, its CRC included. -/
def Symbol.bits (y : Symbol) : BitVec 192 :=
  let n := 0xC3A5 * 2 ^ 176 + y.beat % 2 ^ 64 * 2 ^ 112 + y.period % 2 ^ 32 * 2 ^ 80 + y.version % 2 ^ 16 * 2 ^ 64
    + y.state % 16 * 2 ^ 60 + y.causes % 256 * 2 ^ 48 + y.op % 256 * 2 ^ 40 + y.echo % 256 * 2 ^ 32
    + b2n y.jump * 2 ^ 31 + b2n y.stop * 2 ^ 30 + b2n y.ieee * 2 ^ 29 + b2n y.stretched * 2 ^ 28 + y.members % 256 * 2 ^ 16
  let w := BitVec.ofNat 192 n
  w ||| (symbolCrc w).zeroExtend 192

/-! ### The interface -/

/-- The source mode in force (Table 16-3). -/
def State.croakMode (s : State) : Nat := s.cfgAt (ek 0xB000 1)

/-- Whether the package is its segment's master. -/
def State.isMaster (s : State) : Bool := s.croakMode == 2 || s.croakMode == 3

/-- The interface changed. -/
def State.updCroak (s : State) (f : Croak → Croak) : State := { s with croak := f s.croak }

/-- A Croak statistic raised (R320). -/
def State.countCroak (s : State) (sub n : Nat) : State := s.count (ek 0x8600 sub) n 0x1008 0x300A [(sub, 2)]

/-- A signed 32-bit entry. -/
def signed32 (n : Nat) : Int := if 2 ^ 31 ≤ n then (n : Int) - 2 ^ 32 else n

/-- The member offset in ns (0xB000:04). -/
def State.croakOffset (s : State) : Int := signed32 (s.cfgAt (ek 0xB000 4))

/-- The beat period in ns. -/
def State.periodNs (s : State) : Nat := 1000 * s.cfgAt (ek 0xB000 3)

/-- The instant of the current beat (0xB010:02). -/
def State.beatInstant (s : State) : Nat := s.volAt (ek 0xB010 2)

/-- Whether the interface runs, LOADING too (Table 22-7): past COLD and neither SHED nor FAULTED, in a package that has not faulted (R315). -/
def State.croakRuns (s : State) : Bool :=
  let st := s.ust (hubUnit 10)
  decide (2 ≤ st.val) && st != stShed && st != stFaulted && s.ust uPackage != stFaulted

/-- Whether the package releases CROAK_RDY (R304, R308): no launch stamped at or before the current beat is unfinished in a
vat of the ready gate. Between commands the audit and the steps of a beat are complete. -/
def State.ownReady (s : State) : Bool :=
  s.croakMode == 0 || s.croakMode == 4 ||
    !(s.launches.any fun l => (s.cfgAt (ek 0xB000 12)).testBit l.vat.val && decide (l.stamp ≤ s.beat))

/-! ### The group record (R310) -/

/-- The group unit's record replaced by a symbol's, with what a change of its state does (R23, R24, R310). -/
def State.takeGroup (s : State) (st : Fin 9) (causes : Byte) (version : BitVec 16) : State :=
  s.adopt uGroup ⟨st, causes, version⟩

/-- The state a symbol's code names (Table 2-5). -/
def stateOf (n : Nat) : Fin 9 := if h : n < 9 then ⟨n, h⟩ else 0

/-- The group unit of a package that has left mode 0, at its first beat: ABSENT, COLD, READY (R437, Table 2-6). -/
def State.admitGroup (s : State) : State :=
  if s.ust uGroup = stAbsent then (s.transition uGroup stCold 0#8).transition uGroup stReady 0#8 else s

/-! ### Symbols received (R307, R310, R317, R318) -/

/-- How R318 takes beat `m`: the beat begins, with or without a jump, or it is refused with a reason. -/
inductive BeatStep where
  | next
  | jump
  | refused (reason : Nat)
  deriving DecidableEq, Repr

/-- The rule of R318; the first symbol after mode 0 is taken as announced (R437). -/
def State.beatStep (s : State) (m : Nat) (announced : Bool) : BeatStep :=
  let c := s.beat
  if s.croak.fresh then .jump
  else if m = c + 1 then .next
  else if m ≤ c then .refused 1
  else if announced || decide (m - c - 1 ≤ s.croak.missed) then .jump
  else .refused 2

/-- A symbol discarded: counted, EV-0x1004 once per beat period (R307). -/
def State.discardSymbol (s : State) (reason : Nat) : State :=
  let s := s.countCroak 2 1
  if s.croak.discarded then s
  else (s.updCroak fun k => { k with discarded := true }).raise 0x1004 0x300A [(reason, 1)]

/-- A member answers an echo: CROAK_RDY low for the one bus cycle that follows the mark (R316). -/
def State.answerEcho (s : State) (node : Nat) : State :=
  if node = s.cfgAt (ek 0xB000 2) then s.send ⟨.croak, 2, [], []⟩ else s

/-- A symbol accepted by a member: the group record in any case (R310), and its beat scheduled or refused (R318). -/
def State.acceptSymbol (s : State) (bits : BitVec 192) (markNs : Nat) : State :=
  let y := Symbol.of bits
  let s := ((s.countCroak 1 1).answerEcho y.echo).updCroak fun k => { k with members := y.members }
  let s := if s.ust uGroup = stAbsent then s
    else s.takeGroup (stateOf y.state) (BitVec.ofNat 8 y.causes) (BitVec.ofNat 16 y.version)
  match s.beatStep y.beat y.jump with
  | .refused why => s.raise 0x1002 0x300A [(s.beat, 8), (y.beat, 8), (why, 1)]
  | _ =>
    let at_ := ((markNs : Int) + 2000 + s.croakOffset).toNat
    let asked := s.croak.ops.find? fun o => o.op.toNat == y.op
    let op : Option GroupOp := if y.op = 0 then none
      else some (asked.getD ⟨BitVec.ofNat 8 y.op, y.beat + 1, .installer, none⟩)
    s.updCroak fun k => { k with
      symbol := some (bits, at_), stopSeen := y.stop, carried := op
      ops := match asked with | some o => k.ops.erase o | none => k.ops }

/-- BEAT_SYMBOL_RECEIVE (R307, R311, R316, R318): a symbol on the bus with its CRC and its mark, checked in modes 1, 2 and 3; a
master that hears another's stops driving the bus. -/
def execBeatSymbolReceive (sym : BitVec 192) (mark : Bool) (markNs : Nat) (s : State) : Host.Outcome State Fault Refusal :=
  s.clocked <|
  let good := symField sym 0 16 == (symbolCrc sym).toNat
  let mine := match s.croak.symbol with
    | some p => p.1 == sym
    | none => false
  (if !s.croakRuns ∨ s.croakMode = 0 ∨ s.croakMode = 4 ∨ symField sym 176 16 ≠ 0xC3A5 then s
    else if !good then s.discardSymbol 1
    else if !mark then s.discardSymbol 2
    else if s.isMaster then
      let s := s.countCroak 1 1
      if mine then s
      else
        let s := s.raise 0x1002 0x300A [(s.beat, 8), ((Symbol.of sym).beat, 8), (3, 1)]
        (s.updCroak fun k => { k with yields := true, symbol := none, waiting := none }).setVol (ek 0xB010 5) 2
    else s.acceptSymbol sym markNs)

/-- BEAT_MISSED (R317): `now` is past the instant by which the next symbol was expected; EV-0x1001 once as the count reaches the limit. -/
def execBeatMissed (now : Nat) (s : State) : Host.Outcome State Fault Refusal :=
  s.clocked <|
  let p := s.periodNs
  let due := s.beatInstant + p + max 10000 (p / 64) + s.croak.missed * p
  (if s.croakMode ≠ 1 ∨ !s.croakRuns ∨ !s.croak.begun ∨ s.croak.stopSeen ∨ s.croak.symbol.isSome ∨ now < due then s
    else
      let n := s.croak.missed + 1
      let lim := s.cfgAt (ek 0xB000 8)
      let told := s.croak.stopTold
      let ends := told || decide (lim ≤ n)
      let s := (s.updCroak fun k => { k with missed := n, discarded := false, stopTold := ends }).countCroak 3 1
      let s := (s.setVol (ek 0xB010 5) (if ends then 2 else 1)).raise 0x1000 0x300A [(s.beat, 8), (n, 4)]
      if ends && !told then s.raise 0x1001 0x300A [(s.beat, 8)] else s)

/-! ### The beats of a master (R312, R314) -/

/-- The instant of beat n in IEEE 1588 time (R312). -/
def State.ieeeInstant (s : State) (n : Nat) : Int :=
  (s.cfgAt (ek 0xB000 5) : Int) + s.periodNs * n + s.croakOffset

/-- The least beat whose instant lies at or after a time (R312). -/
def State.ieeeBeat (s : State) (at_ : Int) : Nat :=
  let d := at_ - (s.cfgAt (ek 0xB000 5) : Int) - s.croakOffset
  let p : Int := max 1 s.periodNs
  ((d + p - 1) / p).toNat

/-- The next beat a master sends: its number, its instant, whether it carries JUMP (R312, R314, Table 16-3); the first lies at least
3,920 ns after the source mode took effect. -/
def State.nextBeat (s : State) : Nat × Nat × Bool :=
  let c := s.beat
  let i := s.beatInstant
  let p := max 1 s.periodNs
  let lead := s.croak.since + 3920
  if s.croak.first then
    if s.croakMode = 2 then
      if s.croak.begun then
        let k := max 1 ((lead - i + p - 1) / p)
        (c + k, i + k * p, decide (1 < k))
      else (1, lead, true)
    else
      let n := s.ieeeBeat lead
      (n, (s.ieeeInstant n).toNat, true)
  else if s.croakMode = 2 ∨ s.croak.holdover then (c + 1, i + p, false)
  else (c + 1, (s.ieeeInstant (c + 1)).toNat, false)

/-! ### The hold line and the notices (R309, R350) -/

/-- CROAK_HOLD_N as the master samples it: high empties the set of standing notices; low recounts by the set (R309). -/
def State.sampleHold (s : State) (high : Bool) : State :=
  let s := s.updCroak fun k => { k with holdHigh := high, countedOut := [] }
  if high then { s with holdStanding := [] } else s

/-- The line returns high between symbols: the set is emptied, and the count stays as it was until the next symbol (R309). -/
def State.releaseHold (s : State) : State :=
  ({ s with holdStanding := [] } : State).updCroak fun k => { k with countedOut := k.countedOut ++ s.holdStanding }

/-- CROAK_HOLD_N_CHANGE (R309): low, the master recounts the group; high, it empties the set and restores the count at the next
symbol. -/
def execCroakHoldNChange (high : Bool) (s : State) : Host.Outcome State Fault Refusal :=
  s.clocked (if !s.isMaster then s
    else if high then s.releaseHold
    else (s.sampleHold false).reevaluate uGroup)

/-- HOLD_NOTICE (R309). -/
def execHoldNotice (node : Fin 32) (s : State) : Host.Outcome State Fault Refusal :=
  s.clocked (if !s.mgmtUp ∨ !s.isMaster then s
    else if s.holdStanding.contains node.val then s
    else ({ s with holdStanding := s.holdStanding ++ [node.val] } : State).reevaluate uGroup)

/-- RELEASE_NOTICE (R309). -/
def execReleaseNotice (node : Fin 32) (s : State) : Host.Outcome State Fault Refusal :=
  s.clocked (if !s.mgmtUp ∨ !s.isMaster then s
    else ({ s with holdStanding := s.holdStanding.filter fun n => n != node.val } : State).reevaluate uGroup)

/-- MEMBER_LOSS_NOTICE (R350). -/
def execMemberLossNotice (node : Fin 32) (s : State) : Host.Outcome State Fault Refusal :=
  s.clocked (if !s.mgmtUp ∨ !s.isMaster ∨ s.lostMembers.contains node.val then s
    else ({ s with lostMembers := s.lostMembers ++ [node.val] } : State).reevaluate uGroup)

/-- A role by its number (Table 20-5). -/
def roleOf (n : Nat) : Role :=
  match n with
  | 1 => .operator
  | 2 => .installer
  | 3 => .maker
  | 4 => .driver
  | _ => .package

/-- GROUP_REQUEST_FORWARD (R310): a member's request, checked against the master's record under R26. -/
def execGroupRequestForward (r : GroupRequest) (s : State) : Host.Outcome State Fault Refusal :=
  s.clocked (if !s.mgmtUp ∨ !s.isMaster then s
    else s.submitReq ⟨uGroup, r.op, r.target.toNat, r.version, roleOf r.role.val, 0#16, List.replicate 8 0#8, 1, none⟩)

/-! ### IEEE 1588 (R312, R313, R340) -/

/-- The offset as the servo measures it, in eighths of a nanosecond: (t2 − t1) − (t4 − t3) in quarters is twice the offset (R340). -/
def ptpOffset (t1 t2 t3 t4 : Nat) : Int := ((t2 : Int) - t1) - ((t4 : Int) - t3)

/-- A measured offset disciplines the local time counter (R312, R313): while locked the servo takes a free part of it out of the counter, and
while it slews after a holdover no more than 100 ppm of the time since it last measured; in a holdover nothing (assumption 132). -/
def State.discipline (s : State) (d : Int) (lost : Bool) (at_ : Nat) : State :=
  let v := s.croak.servo
  let slewing := (v.slewing || s.croak.holdover) && decide (160 < d.natAbs)
  let (n, s) := s.free
  let most := if slewing then min (d.natAbs / 2) ((at_ - v.seen) / 10000) else d.natAbs / 2
  let step : Int := if lost then 0 else if d < 0 then -((n % (most + 1) : Nat) : Int) else ((n % (most + 1) : Nat) : Int)
  s.updCroak fun k => { k with
    holdover := lost, servo := { v with sync := none, seen := at_, slewing := slewing && !lost, correction := v.correction - step } }

/-- The servo's measured offset: 0xB010:03 takes it in ns, and in modes 3 and 4 beyond 1 µs lock is lost, with EV-0x1005, and beats go on
from the local counter (R313). -/
def State.measured (s : State) (d : Int) (at_ : Nat) : State :=
  let lost := decide (8000 < d.natAbs)
  let word := (d / 8 % 2 ^ 64).toNat
  let s := (s.setVol (ek 0xB010 3) word).updCroak fun k => { k with servo := { k.servo with sync := none } }
  if s.croakMode ≠ 3 ∧ s.croakMode ≠ 4 then s
  else
    let s := if lost && !s.croak.holdover then s.raise 0x1005 0x300A [(word, 8)] else s
    let st := s.volAt (ek 0xB010 5)
    let s := if st = 0 ∧ lost then s.setVol (ek 0xB010 5) 3 else if st = 3 ∧ !lost then s.setVol (ek 0xB010 5) 0 else s
    s.discipline d lost at_

/-- PTP_MESSAGE (R339, R340): on the timing port while its link is up, in the clock's domain: a Sync is kept and a delay request sent; a
delay response to it gives an offset. -/
def execPtpMessage (m : PtpMessage) (s : State) : Host.Outcome State Fault Refusal :=
  s.clocked <|
  let port := s.cfgAt (ek 0xC000 4)
  let p : Fin 8 := Fin.ofNat 8 port
  (if 8 ≤ port ∨ s.volAt (ek (0xC008 + port) 5) ≠ 2 then s
    else if !s.macsecOk p m.sa then s.macsecDiscard p
    else if m.domain.toNat ≠ s.cfgAt (ek 0xC000 5) then s
    else match m.body, s.croak.servo.sync with
    | .sync t1 t2, _ =>
      (s.updCroak fun k => { k with servo := { k.servo with sync := some (t1, t2) } }).send ⟨.fabric, 2, [p.val, m.domain.toNat, s.txSa p], []⟩
    | .response t3 t4, some (t1, t2) => s.measured (ptpOffset t1 t2 t3 t4) t2
    | .response _ _, none => s)

/-! ### Changes of the source mode (R311, R314, R315, R437) -/

/-- What a generation that changes the Croak entries from `old` at an instant does: beats stop with the old mode; a master's first
beat is still to come; in modes 0 and 4 the package belongs to no group and drives no line (R304); holdover is a state of modes 3 and 4 (R313);
lost members the installer has removed are forgotten. -/
def State.commitCroak (s old : State) (since : Nat) : State :=
  let a := old.croakMode
  let b := s.croakMode
  let s := { s with lostMembers := s.lostMembers.filter fun n => s.expectedMembers.contains n }
  if a = b then s
  else
    let s := s.updCroak fun k => { k with
      symbol := none, waiting := none, yields := false, ops := [], op := none, carried := none, echoed := none
      first := decide (2 ≤ b), since := since, fresh := a == 0 && b == 1, holdover := k.holdover && decide (3 ≤ a ∧ 3 ≤ b)
      stopSeen := k.stopSeen || a == 2 || a == 3 }
    let s := if b = 0 ∨ a = 2 ∨ a = 3 ∨ a = 4 then s.setVol (ek 0xB010 5) 2 else s
    let holds (mode : Nat) : Bool := decide (1 ≤ mode ∧ mode ≤ 3) && !s.inService uPackage
    let s := s.driveHold (holds a) (holds b)
    if (b = 0 ∨ b = 4) ∧ s.ust uGroup ≠ stAbsent then (s.transition uGroup stAbsent 0#8).releaseBelow uGroup else s

end Sys2Proof.Machine
end

