-- ==== Sys2Proof/Machine/Dictionary.lean ====
section
/-! DEFINITION. The object dictionary (R374 to R377): the value of every entry, what is in use, and the ranges of the
entries that have one. -/
namespace Sys2Proof.Machine

/-- Whether a row holds an index, whatever the subindex. -/
def EntryRow.holds (r : EntryRow) (idx : Nat) : Bool := r.covers idx r.subLo

/-- Whether an index is in use (R374). -/
def indexUsed (idx : Nat) : Bool := entryRows.any fun r => r.holds idx

/-- The highest subindex in use of an index (R374). -/
def highestSub (idx : Nat) : Nat := ((entryRows.filter fun r => r.holds idx).map fun r => r.subHi).foldl max 0

/-- The bits of an entry's value that a write keeps; reserved and read-only fields of a record read zero or their own value
(Tables 2-11, 13-5, 18-3, 21-6). -/
def writeMask (idx : Nat) : Nat :=
  if idx = 0x2010 then 2 ^ 48 - 1
  else if 0xD010 ≤ idx ∧ idx < 0xD020 then 0xF * 2 ^ 96 + 0xFFFFFFFF * 2 ^ 64 + 0xFF * 2 ^ 32 + 0xFFFF0000
  else if 0xC100 ≤ idx ∧ idx < 0xC120 then (2 ^ 160 - 1) * 2 ^ 32 + 0x0FFFFFFF
  else if idx = 0xA020 then 2 ^ 528 - 1
  else if 0xC200 ≤ idx ∧ idx < 0xC208 then 0xFFFF03FF
  else 2 ^ (8 * 2048) - 1

/-- A value as it is kept. -/
def keepBits (idx v : Nat) : Nat := v &&& writeMask idx

/-- An audit record by its slot (R391). -/
def State.auditSlot (s : State) (slot : Nat) : List Byte :=
  (s.audit.find? fun r => (leNat (r.take 4) + 2 ^ 32 - 1) % 4096 == slot).getD (zeros 256)

/-- An event record by its slot (R411). -/
def State.eventSlot (s : State) (slot : Nat) : List Byte :=
  let first := s.evCount - s.events.length
  match s.events.zipIdx.find? fun p => (first + p.2) % 2048 == slot with
  | some p => p.1.bytes
  | none => zeros 32

/-- A binding record as it reads, its read-only fields included (Table 18-3). -/
def State.bindingBytes (s : State) (b : Nat) : List Byte :=
  let r := s.binding b
  bytesOf ((s.bindWord b 0 % 2 ^ 28 + r.state * 2 ^ 28) :: ((List.range 5).map fun i => s.bindWord b (i + 1)) ++
    [r.next.toNat, r.last.toNat])

/-- The logical number a core's unit record shows (U+0:02): its number on its die, 0xFF where it has none. -/
def State.logicalShown (s : State) (u : Nat) : Nat :=
  if h : 208 ≤ u ∧ u < 260 then
    match s.boundTo ⟨u - 208, by omega⟩ with
    | some q => q.val % 12
    | none => 0xFF
  else 0xFF

/-- An entry of a unit record that is not kept in the dictionary's own store (Tables 2-4, 6-11). -/
def State.unitEntry (s : State) (n k sub : Nat) : Option (List Byte) :=
  if h : n < 284 then
    let u : UnitNo := ⟨n, h⟩
    let r := s.units[u]
    match k, sub with
    | 0, 1 => some (leBytes (unitPath u) 2)
    | 0, 2 => some (leBytes (s.logicalShown n) 1)
    | 1, 1 => some (leBytes r.mg.state.val 1)
    | 1, 2 => some (leBytes r.mg.version.toNat 2)
    | 1, 3 => some [r.mg.causes]
    | 1, 4 => some (leBytes r.lastBeat 8)
    | 1, 5 => some (leBytes (s.membersIn u) 2)
    | 2, 4 => some (leBytes r.opStatus 1)
    | 3, j => if 1 ≤ j ∧ j ≤ 8 then some (leBytes (r.frozen.toList.getD (j - 1) 0) 4) else none
    | 5, 1 => some ((r.image ++ zeros 64).take 64)
    | 15, j =>
      if 208 ≤ n ∧ n < 260 ∧ 1 ≤ j ∧ j ≤ 16 then
        let c : Core := vget Core.reset s.cores (n - 208)
        let w := if j ≤ 8 then vget 0#16 c.expVer (j - 1) else vget 0#16 c.custVer (j - 9)
        some (leBytes w.toNat 2)
      else none
    | _, _ => none
  else none

/-- An entry of a vat that its other state holds (Tables 11-2, 12-4, 9-10). -/
def State.vatEntry (s : State) (v : VatNo) (idx : Nat) : Option (List Byte) :=
  match idx with
  | 0x2040 => some (leBytes s.seeds[v].seed.toNat 8)
  | 0x2041 =>
    some (leBytes (cipher (s.seedKey v) 0#32 0#32 0#32 0#32).1.toNat 4)
  | 0x8206 => some (leBytes s.verdicts[v].scale.toNat 4)
  | 0x8207 => some (leBytes s.verdicts[v].seq.toNat 4)
  | 0x8208 => some (leBytes (b2n s.verdicts[v].bad) 1)
  | 0xD810 => some (leBytes (s.freeFrames v).length 4)
  | 0xD811 => some (leBytes (s.framesIn v 1).length 4)
  | 0xD812 => some (leBytes ((s.framesIn v 2).length + (s.framesIn v 3).length) 4)
  | 0xD813 => some (leBytes (s.hostUsed v).length 4)
  | 0xD814 => some (leBytes (s.liveNodes v).1.length 4)
  | _ => none

/-- An entry that other state holds, by index ranges; 0xD000:06 is the limit L (R238). -/
def State.otherEntry (s : State) (idx sub : Nat) : Option (List Byte) :=
  let at_ (base : Nat) : Nat := (idx - base) * 128 + sub - 1
  if idx = 0x1000 ∧ sub = 1 then some [0x4E#8, 0x56#8, 0x58#8, 0x2D#8, 0x31#8, 0x32#8, 0x34#8, 0x38#8]
  else if idx = 0x1010 ∧ sub = 7 then
    some (leBytes (s.sessions.filter fun x => !x.half && x.id != 0).length 1)
  else if 0x2100 ≤ idx ∧ idx < 0x2108 then some (bytesOf (vget Pipe.reset s.pipes (at_ 0x2100)).words)
  else if 0x2200 ≤ idx ∧ idx < 0x2400 then some (bytesOf (s.rennet (at_ 0x2200)).words)
  else if idx = 0x9010 ∧ sub = 1 then some (leBytes s.evCount 8)
  else if 0x9100 ≤ idx ∧ idx < 0x9120 then some (s.auditSlot (at_ 0x9100))
  else if 0x9120 ≤ idx ∧ idx < 0x9140 then some ((Sparse.get [] s.twinAudit (at_ 0x9120) ++ zeros 256).take 256)
  else if 0x9200 ≤ idx ∧ idx < 0x9210 then some (s.eventSlot (at_ 0x9200))
  else if idx = 0xA040 ∧ sub = 1 then some ((s.measurement ++ zeros 64).take 64)
  else if idx = 0xA051 then
    some (((if s.slotState sub = 3 then (vget ImageSlot.reset s.images (sub - 1)).hash else []) ++ zeros 64).take 64)
  else if 0xC100 ≤ idx ∧ idx < 0xC120 then some (s.bindingBytes (at_ 0xC100))
  else if idx = 0xD000 ∧ sub = 6 then some (leBytes s.limitL 8)
  else if idx = 0xD820 then some ((vget SeqRec.empty s.seqs (sub - 1)).bytes)
  else if h : 1 ≤ sub ∧ sub ≤ 16 then s.vatEntry ⟨sub - 1, by omega⟩ idx
  else none

/-- The value of an entry in use (R375): a view of other state, or the entry's own store, in its encoding. -/
def State.entryValue (s : State) (idx sub : Nat) (r : EntryRow) : List Byte :=
  let view := match unitIndex idx with
    | some p => s.unitEntry p.1 p.2 sub
    | none => s.otherEntry idx sub
  match view with
  | some b => b
  | none =>
    match r.pers with
    | .volatile => leBytes (s.volAt (ek idx sub)) r.bytes
    | _ => leBytes (s.cfgAt (ek idx sub)) r.bytes

/-- Whether a number is a power of two from 64 to 65,536. -/
def ringSize (v : Nat) : Bool := (List.range 11).any fun i => v == 2 ^ (i + 6)

/-- The members of a unit with a service minimum of its own (R16). -/
def memberLimit (u : Nat) : Nat :=
  if u < 208 then 0 else if u < 260 then 4 else if u < 276 then 0 else if u < 280 then 12 else if u = 280 then 16
  else if u = 281 then 5 else if u = 282 then 2 else 32

/-- Whether a value lies in the range its entry's own row or rule gives it (R384); entries without one take any value of
their type. -/
def inRange (idx sub v : Nat) : Bool :=
  match unitIndex idx with
  | some (u, 1) => sub != 6 || decide (v ≤ memberLimit u) || (u == 283 && v == 0xFFFF)
  | some (_, 12) => sub != 2 || decide (v ≤ 1)
  | some _ => true
  | none =>
    match idx, sub with
    | 0x1010, 3 => decide (v ≤ 31)
    | 0x1010, 4 => decide (1 ≤ v ∧ v ≤ 32)
    | 0x2029, _ => decide (v ≤ 1)
    | 0x202A, _ => decide (1 ≤ v ∧ v ≤ 1023)
    | 0x2060, 2 => decide (1 ≤ v)
    | 0x9000, 3 => ringSize v
    | 0x9010, 5 => ringSize v
    | 0xB000, 1 => decide (v ≤ 4)
    | 0xB000, 2 => decide (v ≤ 31)
    | 0xB000, 3 => decide (50 ≤ v ∧ v ≤ 60000000)
    | 0xB000, 4 => decide (v ≤ 1000 ∨ 2 ^ 32 - 1000 ≤ v)
    | 0xB000, 6 => decide (v ≤ 1)
    | 0xB000, 8 => decide (1 ≤ v)
    | 0xB000, 10 => decide (v ≤ 31 ∨ v = 0xFF)
    | 0xC000, 4 => decide (v ≤ 7 ∨ v = 0xFF)
    | 0xC310, 1 => decide (v ≤ 4095 ∨ v = 0xFFFF)
    | 0xD000, 1 => decide (1 ≤ v ∧ v ≤ 15)
    | 0xD000, 2 => decide (v ≤ 32)
    | 0xD000, 3 => decide (v ≤ 64)
    | 0xD000, 4 => decide (16 ≤ v ∧ v ≤ 86400)
    | 0xD802, _ => v % 0x2000 == 0
    | i, 2 => !decide (0xD040 ≤ i ∧ i < 0xD044) || decide (v ≤ 31 ∨ v = 0xFF)
    | i, 3 => !decide (0xD040 ≤ i ∧ i < 0xD044) || decide (v ≤ 1)
    | _, _ => true

end Sys2Proof.Machine
end

