-- ==== Sys2Proof/Machine/Kop.lean ====
section
/-! DEFINITION. The Kypel Object Protocol (R378 to R383): messages, sessions, access, pieces and answers. -/
namespace Sys2Proof.Machine

/-! ### Messages -/

/-- The header of a message (Table 20-3). -/
def kopHeader (magic typ status session seq idx sub : Nat) (staged : Bool) (len offset : Nat) : List Byte :=
  bytesOf [magic * 2 ^ 16 + typ * 2 ^ 8 + status, session, seq, idx * 2 ^ 16 + sub * 2 ^ 8 + b2n staged, len * 2 ^ 16, offset, 0, 0]

/-- The message a mailbox submission of some bytes spells (Table 20-3): header, as many data bytes as the header counts, and the rest the
authenticator. -/
def msgOf (via : KopVia) (secure : Bool) (b : List Byte) : KopMsg :=
  let w (n : Nat) : Nat := leNat ((b.drop (4 * n)).take 4)
  let len := w 4 / 2 ^ 16
  { via := via, magic := BitVec.ofNat 32 (w 0 / 2 ^ 16), typ := BitVec.ofNat 8 (w 0 / 2 ^ 8), session := w 1, seq := BitVec.ofNat 32 (w 2)
    index := BitVec.ofNat 16 (w 3 / 2 ^ 16), sub := BitVec.ofNat 8 (w 3 / 2 ^ 8), staged := (w 3).testBit 0, offset := w 5
    data := (b.drop 32).take len, auth := b.drop (32 + len), secure := secure }

/-- A request's header and data, which its authenticator covers (R379). -/
def msgBytes (m : KopMsg) : List Byte :=
  kopHeader m.magic.toNat m.typ.toNat 0 m.session m.seq.toNat m.index.toNat m.sub.toNat m.staged m.data.length m.offset ++ m.data

/-- The authenticator under a session key (R379). -/
def authOf (key body : List Byte) : List Byte := (hmac512 key body).take 32

/-- The index of a message. -/
def idxOf (m : KopMsg) : Nat := m.index.toNat
/-- The subindex of a message. -/
def subOf (m : KopMsg) : Nat := m.sub.toNat

/-- The function of a mailbox. -/
def viaFn : KopVia → Option FnNo
  | .port => none
  | .pf => some 0
  | .vf n => some ⟨n.val + 1, by omega⟩

/-- The vat a virtual function's mailbox serves (R383). -/
def viaVat : KopVia → Option VatNo
  | .vf n => some n
  | _ => none

/-- The source number of an audit record (Table 20-5). -/
def viaSource : KopVia → Nat
  | .port => 1
  | .pf => 2
  | .vf _ => 3

/-- Bytes the spec leaves to the security engine, as many as asked for. -/
def State.engineBytes (s : State) (n : Nat) : List Byte × State :=
  ((Config.randomBytes s.freeIx n ++ zeros n).take n, { s with freeIx := s.freeIx + 1 })

/-! ### Sessions -/

/-- A session by identifier. -/
def State.session (s : State) (id : Nat) : Option Session := s.sessions.find? fun x => x.id == id

/-- A session changed. -/
def State.updSession (s : State) (id : Nat) (f : Session → Session) : State :=
  { s with sessions := s.sessions.map fun x => if x.id = id then f x else x }

/-- A session closed (R403): its staging goes with it, its pending commit stands (R385). -/
def State.dropSession (s : State) (id : Nat) : State := { s with sessions := s.sessions.filter fun x => x.id != id }

/-- The key identifier of an audit record (Table 20-5). -/
def Session.keyId (x : Session) : List Byte := if x.modulus = [] then zeros 8 else (sha512 x.modulus).take 8

/-- A dictionary statistic raised (R394). -/
def State.countDict (s : State) (sub : Nat) : State := s.count (ek 0x8A00 sub) 1 0x1404 0x5000 [(sub, 2)]

/-- A security statistic raised (R407). -/
def State.countSecure (s : State) (sub : Nat) : State := s.count (ek 0x8B00 sub) 1 0x1505 0x5000 [(sub, 2)]

/-- A message dropped without a response (R381): counted, EV-0x1402 once per beat for each source; a
mailbox is no longer Busy, since nothing is being served (Table 17-4). -/
def State.dropMsg (s : State) (via : KopVia) (reason : Nat) : State :=
  let s := s.countDict 1
  let s := match viaFn via with
    | some f => s.updFunc f fun g => { g with busy := false }
    | none => s
  let key := viaSource via * 256 + (match via with | .vf n => n.val | _ => 0)
  if s.dropBeat.contains key then s
  else ({ s with dropBeat := s.dropBeat ++ [key] } : State).raise 0x1402 (if via = .port then 0x300B else 0x3000)
    [(viaSource via, 1), (reason, 1)]

/-- An audit record made for a message's session (R390). -/
def Session.audit (x : Session) (via : KopVia) (kind outcome idx sub vat : Nat) : AuditEntry :=
  { AuditEntry.plain kind x.role.number (viaSource via) outcome with idx := idx, sub := sub, vat := vat, keyId := x.keyId }

/-! ### What a message may reach -/

/-- Entries with a subindex v + 1 for vat v. -/
def perVat (idx : Nat) : Bool :=
  decide ((0x2020 ≤ idx ∧ idx ≤ 0x202A) ∨ idx = 0x2040 ∨ idx = 0x2041 ∨ idx = 0x2044 ∨ idx = 0x2045 ∨ idx = 0x2050 ∨ idx = 0x2051
    ∨ (0x8200 ≤ idx ∧ idx ≤ 0x8209) ∨ (0xD800 ≤ idx ∧ idx ≤ 0xD808) ∨ (0xD810 ≤ idx ∧ idx ≤ 0xD814)
    ∨ (0xD030 ≤ idx ∧ idx ≤ 0xD033) ∨ idx = 0xE000 ∨ idx = 0xE001)

/-- The vat an entry belongs to, by its subindex or index (Table 20-5). -/
def entryVat (idx sub : Nat) : Option VatNo :=
  if perVat idx then (if h : 1 ≤ sub ∧ sub ≤ 16 then some ⟨sub - 1, by omega⟩ else none)
  else if h : 0xD010 ≤ idx ∧ idx < 0xD020 then some ⟨idx - 0xD010, by omega⟩
  else if h : 0x8500 ≤ idx ∧ idx < 0x8510 then some ⟨idx - 0x8500, by omega⟩
  else none

/-- The vat field of an audit record about an entry. -/
def auditVat (idx sub : Nat) : Nat := match entryVat idx sub with | some v => v.val | none => 0xFF

/-- The unit path of an entry of a unit record, zero for others. -/
def entryPath (key : Nat) : Nat :=
  match unitIndex (key / 256) with
  | some (u, _) => if h : u < 284 then unitPath ⟨u, h⟩ else 0
  | none => 0

/-- What a request through a virtual function's mailbox reaches (R383). -/
def State.vfReaches (s : State) (v : VatNo) (write : Bool) (idx sub : Nat) : Bool :=
  if perVat idx && sub == v.val + 1 then true
  else if write then false
  else if 0x1000 ≤ idx ∧ idx < 0x2000 then true
  else if idx = 0x8500 + v.val then true
  else if 0x9100 ≤ idx ∧ idx < 0x9120 then
    decide (1 ≤ sub) && (s.auditSlot ((idx - 0x9100) * 128 + sub - 1)).getD 20 0#8 == BitVec.ofNat 8 v.val
  else match unitIndex idx with
    | some (u, _) => if h : 208 ≤ u ∧ u < 260 then s.ownsUnit (BitVec.twoPow 16 v.val) ⟨u, by omega⟩ else false
    | none => false

/-- What session 0 accepts (R402). -/
def zeroAccepts (m : KopMsg) : Bool :=
  match m.typ.toNat with
  | 0x01 => decide ((0x1000 ≤ idxOf m ∧ idxOf m < 0x2000) ∨ idxOf m = 0xA000)
  | 0x10 | 0x11 | 0x13 | 0x14 => true
  | _ => false

/-- The access a role has to an entry (R376); session 0, which carries no role, reads what is readable. -/
def EntryRow.access (r : EntryRow) : Role → Access
  | .installer => r.i
  | .maker => r.m
  | _ => r.o

/-- Whether an operator's key covers an entry: its vat is in the key's mask, or it has no vat subindex (R401). -/
def Session.covers (x : Session) (idx sub : Nat) : Bool :=
  x.role != .operator || !perVat idx || !decide (1 ≤ sub ∧ sub ≤ 16) || x.mask.getLsbD (sub - 1)

/-! ### Serving -/

/-- Answers delivered: on the management port, or in the mailbox's response buffer with Busy cleared (Table 17-4). -/
def State.deliver (s : State) (via : KopVia) (b : List Byte) : State :=
  match viaFn via with
  | none => s.send ⟨.kop, 0, [], b⟩
  | some f => s.updFunc f fun g => { g with
      resp := b.zipIdx.foldl (fun m p => Sparse.set 0#8 m p.2 p.1) g.resp, respLen := b.length, busy := false }

/-- The answer to a message (R379, R381): the request's session, sequence, index and subindex, its type plus 0x80, the status
and the data, kept as the stored response of its sequence; a handshake without an open session keeps none. -/
def State.answer (s : State) (x : Session) (m : KopMsg) (status : Nat) (data : List Byte) : State :=
  let body := kopHeader 0x4B4F (m.typ.toNat + 0x80) status m.session m.seq.toNat (idxOf m) (subOf m) m.staged data.length m.offset ++ data
  let a := if x.id = 0 then s.engineBytes 32 else (authOf x.key body, s)
  let b := body ++ a.1
  let kept := !x.half && (x.id != 0 || m.via == .pf)
  let s := if kept then a.2.updSession x.id fun y => { y with last := m.seq, reply := some ⟨.kop, 0, [], b⟩ } else a.2
  s.deliver m.via b

/-- What becomes of a message before its own effect. -/
inductive Front where
  /-- Not served, or dropped, or answered: the state after it. -/
  | done (s : State)
  /-- Served for a session. -/
  | serve (x : Session)

/-- Whether a sequence is newer than another, by serial-number arithmetic (R264, R381). -/
def seqNewer (a b : Word) : Bool := decide (0 < (a - b).toNat ∧ (a - b).toNat < 2 ^ 31)

/-- The sequence rule (R381): newer is served, the last is answered again, as a difference of exactly 2^31 is, which counts as equal (R31,
R264), and older is stale. -/
def State.bySequence (s : State) (x : Session) (m : KopMsg) : Front :=
  if seqNewer m.seq x.last then .serve x
  else if m.seq = x.last ∨ m.seq - x.last = 0x80000000#32 then
    match x.reply with
    | some r => .done (s.deliver m.via r.data)
    | none => .done ((s.answer { x with reply := none } m 7 []).countDict 2)
  else
    let body := kopHeader 0x4B4F (m.typ.toNat + 0x80) 7 m.session m.seq.toNat (idxOf m) (subOf m) m.staged 0 m.offset
    let a := if x.id = 0 then s.engineBytes 32 else (authOf x.key body, s)
    .done ((a.2.countDict 2).deliver m.via (body ++ a.1))

/-- The checks of a message in order: magic, session, authenticator, sequence (R381). Session 0 is on the physical function's mailbox alone (R402), and no
other session is open before its PROOF (R403). -/
def State.checkMsg (s : State) (m : KopMsg) : Front :=
  if m.magic ≠ 0x4B4F#32 then .done (s.dropMsg m.via 1)
  else if m.session = 0 ∧ m.via = .pf then s.bySequence ((s.session 0).getD Session.zero) m
  else
    match s.session m.session with
    | none => .done (s.dropMsg m.via 2)
    | some x =>
      let path := match m.via with
        | .vf _ => x.via == m.via
        | _ => true
      if m.session = 0 ∨ !path ∨ x.half then .done (s.dropMsg m.via 2)
      else if m.auth ≠ authOf x.key (msgBytes m) then .done (s.dropMsg m.via 3)
      else s.bySequence x m

/-- Whether a message was submitted on its path (R325, Table 17-4): every datagram on the port; through a mailbox the message that the request
buffer's bytes spell, while the submission is served. -/
def State.submitted (s : State) (m : KopMsg) : Bool :=
  match viaFn m.via with
  | none => true
  | some f =>
    let g := s.funcs[f]
    g.busy && m == msgOf m.via m.secure ((List.range g.reqLen).map fun i => Sparse.get 0#8 g.req i)

/-- Whether the management core serves a path now (R378, R382, R399, R435): the port once its unit is READY, a mailbox once
its function exists; while the unit loads, datagrams are dropped and a mailbox stays Busy, its message kept for when the core resumes. -/
def State.kopFront (s : State) (m : KopMsg) : Front :=
  let st := s.ust (hubUnit 11)
  match viaFn m.via with
  | none => if s.mgmtUp then s.checkMsg m else .done s
  | some f =>
    if st = stAbsent ∨ !s.fnExists f ∨ !s.submitted m then .done s
    else if !s.ideOk f m.secure then .done (s.discardTlp f 0)
    else if st = stLoading then .done (if s.host.late.contains m then s else { s with host := { s.host with late := s.host.late ++ [m] } })
    else s.checkMsg m

/-- A request refused for lack of access: status 0x02 and an audit record (R2, R376, R390). -/
def State.denied (s : State) (x : Session) (m : KopMsg) : State × Nat × List Byte :=
  (s.auditRec { x.audit m.via 7 2 (idxOf m) (subOf m) (auditVat (idxOf m) (subOf m)) with path := entryPath (ek (idxOf m) (subOf m)) }, 2, [])

/-- A message of one row: checked, then its effect and answer. Messages of other rows leave the state as it is
(DESIGN CHOICE, assumption 5). -/
def State.kop (s : State) (m : KopMsg) (mine : Bool) (body : State → Session → State × Nat × List Byte) : State :=
  if !mine then s
  else match s.kopFront m with
    | .done t => t
    | .serve x =>
      let r := if x.id == 0 && !zeroAccepts m then s.denied x m else body s x
      r.1.answer x m r.2.1 r.2.2

/-! ### Which row a message belongs to -/

/-- The rows the protocol's messages belong to. -/
inductive KopRow where
  | read
  | write
  | unitOp (code : Nat)
  | commit
  | ret
  | discard
  | status
  | hello
  | proof
  | close
  | attest
  | image
  | eventAck
  | runState
  | echo
  | debug
  | macsec
  | fuse
  deriving DecidableEq, Repr

/-- The row of a WRITE, by the entry it names. -/
def writeRow (m : KopMsg) : KopRow :=
  let idx := idxOf m
  let sub := subOf m
  if idx = 0x9010 ∧ sub = 2 then .eventAck
  else if idx = 0x2029 ∧ 1 ≤ sub ∧ sub ≤ 16 then .runState
  else if idx = 0xB000 ∧ sub = 10 then .echo
  else if idx = 0xA000 ∧ sub = 5 then .debug
  else if 0xA300 ≤ idx ∧ idx < 0xA308 ∧ sub = 1 then .macsec
  else
    match unitIndex idx, sub, m.data with
    | some (_, 2), 1, [b] => if 1 ≤ b.toNat ∧ b.toNat ≤ 6 then .unitOp b.toNat else .write
    | _, _, _ =>
      match entryRow idx sub with
      | some r => if r.pers = .fused then .fuse else .write
      | none => .write

/-- The row of a message (Table 20-4, Table 21-4); reserved types are read as READ is, and answered 0x01. -/
def rowOf (m : KopMsg) : KopRow :=
  match m.typ.toNat with
  | 0x02 => writeRow m
  | 0x03 => .commit
  | 0x04 => .ret
  | 0x05 => .discard
  | 0x06 => .status
  | 0x10 => .hello
  | 0x11 => .proof
  | 0x12 => .close
  | 0x13 => .attest
  | 0x14 => .image
  | _ => .read

/-! ### Reading -/

/-- The most data an answer carries on a path (R378). -/
def maxData (via : KopVia) : Nat := if via = .port then 1168 else 65472

/-- The last value programmed into an entry's fuse banks, if any (R377). -/
def State.lastBank (s : State) (key : Nat) : Option Nat := (Sparse.get [] s.fuseBanks key).getLast?

/-- The value a READ returns (R377, R379): the session's staged value or the highest fuse bank with STAGED, else the value in
force. -/
def State.readValue (s : State) (x : Session) (m : KopMsg) (r : EntryRow) : List Byte :=
  let key := ek (idxOf m) (subOf m)
  let held := (x.staging.find? fun p => p.1 == key).map Prod.snd
  let picked := if !m.staged then none else if r.pers = .fused then s.lastBank key else held
  match picked with
  | some v => leBytes v r.bytes
  | none => s.entryValue (idxOf m) (subOf m) r

/-- Whether an entry may be reached at all in a session: one opened through a virtual function is kept to its vat (R383). -/
def State.inScope (s : State) (x : Session) (m : KopMsg) (write : Bool) : Bool :=
  match viaVat x.via with
  | some v => s.vfReaches v write (idxOf m) (subOf m)
  | none => true

/-- A READ (R374 to R376, R379, R383). -/
def State.readMsg (s : State) (x : Session) (m : KopMsg) : State × Nat × List Byte :=
  let idx := idxOf m
  let sub := subOf m
  if m.typ ≠ 0x01#8 ∨ !s.inScope x m false then (s, 1, [])
  else if sub = 0 then (if indexUsed idx then (s, 0, leBytes (highestSub idx) 1) else (s, 1, []))
  else match entryRow idx sub with
    | none => (s, 1, [])
    | some r =>
      if r.access x.role = .wo ∨ r.access x.role = .no ∨ !x.covers idx sub then s.denied x m
      else
        let v := s.readValue x m r
        let long := decide (8 ≤ r.typ)
        if (!long && m.offset != 0) || decide (v.length < m.offset) then (s, 3, [])
        else (s, 0, (v.drop m.offset).take (maxData m.via))

/-! ### Writing -/

/-- What a WRITE comes to before its own effect: refused with a status, a piece kept, or a whole value. -/
inductive Written where
  | refused (s : State) (status : Nat)
  | piece (s : State)
  | whole (s : State) (r : EntryRow) (v : Nat)

/-- A piece of a long value (R379): pieces collect in the session and are whole at the value's size; one that does not follow on from the last
discards the collection. A value that one message holds whole is no piece and leaves a collection as it is (DESIGN CHOICE, assumption 130). -/
def State.takePiece (s : State) (x : Session) (m : KopMsg) (key size : Nat) : Except State (State × Option (List Byte)) :=
  let drop (s : State) : State := s.updSession x.id fun y => { y with pieces := none }
  let put (b : List Byte) : Except State (State × Option (List Byte)) :=
    if size < b.length then .error (drop s)
    else if b.length = size then .ok (drop s, some b)
    else .ok (s.updSession x.id fun y => { y with pieces := some ⟨m.typ.toNat, key, b⟩ }, none)
  match x.pieces with
    | some p =>
      if m.offset = 0 ∧ m.data.length = size then .ok (s, some m.data)
      else if p.typ = m.typ.toNat ∧ p.key = key ∧ p.bytes.length = m.offset then put (p.bytes ++ m.data) else .error (drop s)
    | none => if m.offset = 0 then put m.data else .error (drop s)

/-- The checks of a WRITE in order: the entry, the access, the length and pieces, the range (R374 to R376, R384). The size of a
MACsec key is not stated, so a message carries it whole (DEDUCED, assumption 27). -/
def State.writeIn (s : State) (x : Session) (m : KopMsg) : Written :=
  let idx := idxOf m
  let sub := subOf m
  let refuse (r : State × Nat × List Byte) : Written := .refused r.1 r.2.1
  if !s.inScope x m true then .refused s 1
  else if sub = 0 then (if indexUsed idx then refuse (s.denied x m) else .refused s 1)
  else match entryRow idx sub with
    | none => .refused s 1
    | some r =>
      if r.access x.role = .ro ∨ r.access x.role = .no ∨ !x.covers idx sub then refuse (s.denied x m)
      else
        let finish (s : State) (b : List Byte) : Written :=
          let v := leNat b
          if r.typ = 7 ∧ 1 < v then .refused s 3
          else if !inRange idx sub v then .refused s 4
          else .whole s r (keepBits idx v)
        if r.typ < 8 then
          if m.offset ≠ 0 ∨ m.data.length ≠ r.bytes then .refused s 3 else finish s m.data
        else match s.takePiece x m (ek idx sub) (if 0xA300 ≤ idx ∧ idx < 0xA308 then m.offset + m.data.length else r.bytes) with
          | .error t => .refused t 3
          | .ok (t, none) => .piece t
          | .ok (t, some b) => finish t b

/-- The audit record of a volatile or fused write (R390): hashes of both values, none for a write-only entry. -/
def State.auditWrite (s : State) (x : Session) (m : KopMsg) (kind : Nat) (r : EntryRow) (old new : List Byte) : State :=
  let idx := idxOf m
  let sub := subOf m
  let wo := r.o = .wo ∨ r.i = .wo
  s.auditRec { x.audit m.via kind 0 idx sub (auditVat idx sub) with
    path := entryPath (ek idx sub), old := if wo then none else some old, new := if wo then none else some new }

/-- A WRITE of one row with its effect on a whole value. -/
def State.writeMsg (s : State) (x : Session) (m : KopMsg) (eff : State → EntryRow → Nat → State × Nat) : State × Nat × List Byte :=
  match s.writeIn x m with
  | .refused t st => (t, st, [])
  | .piece t => (t, 0, [])
  | .whole t r v =>
    let e := eff t r v
    (e.1, e.2, [])

end Sys2Proof.Machine
end

