-- ==== Sys2Proof/Machine/Storage.lean ====
section
/-! DEFINITION. HBM storage beyond single accesses: the shadow region and its move (R239, R241), clearing (R240), scrubbing
(R246), retiring a set (R247, R248), the loss of a stack (R249). -/
namespace Sys2Proof.Machine

/-! ### Storage as ranges of granules -/

/-- The granule ranges of the dies that a run of device addresses covers; whole granules. -/
def State.spanRanges (s : State) (a n : Nat) : List (Nat × Nat) :=
  if n = 0 then []
  else if a < 2 ^ 39 then
    let ds := s.maskDies
    let k := max 1 ds.length
    let lo := a / 4096
    let hi := (a + n + 4095) / 4096
    ds.zipIdx.map fun p => (p.1 * 2 ^ 25 + (lo + k - 1 - p.2) / k, p.1 * 2 ^ 25 + (hi + k - 1 - p.2) / k)
  else [(a % 2 ^ 39 / 4096, (a % 2 ^ 39 + n + 4095) / 4096)]

/-- A list of ranges less one range. -/
def minusRange (l : List (Nat × Nat)) (c : Nat × Nat) : List (Nat × Nat) :=
  l.flatMap fun r =>
    (if r.1 < min r.2 c.1 then [(r.1, min r.2 c.1)] else []) ++ (if max r.1 c.2 < r.2 then [(max r.1 c.2, r.2)] else [])

/-- A list of ranges less another. -/
def minusRanges (l cs : List (Nat × Nat)) : List (Nat × Nat) := cs.foldl minusRange l

/-- The storage of a vat's region. -/
def State.regionRanges (s : State) (v k : Nat) : List (Nat × Nat) :=
  let r := s.regionOf v k
  if r.2.2 = 0 then [] else s.spanRanges r.1 r.2.1

/-- The size of the shadow region, S in bytes (R239). -/
def State.shadowSize (s : State) : Nat := s.cfgAt (ek 0xD000 3) * 2 ^ 32

/-- The base of the shadow region (R239). -/
def State.shadowBase (s : State) : Nat := s.limitL - s.shadowSize

/-- Storage that a configuration adds to a region or to the shadow region (R240): what `t` gives it and `s` does not. -/
def addedRanges (s t : State) : List (Nat × Nat) :=
  ((List.range 16).flatMap fun v => (List.range 8).flatMap fun k => minusRanges (t.regionRanges v k) (s.regionRanges v k))
    ++ minusRanges (t.spanRanges t.shadowBase t.shadowSize) (s.spanRanges s.shadowBase s.shadowSize)

/-! ### The shadow region -/

/-- The key of a byte of the shadow region: in its old place while a move has not copied its granule (R241). -/
def State.shadowKey (s : State) (x : Nat) : Nat :=
  match s.shadowMove with
  | some m =>
    let half := x / m.newHalf
    let o := x % m.newHalf
    let i := half * (m.granules / 2) + o / 4096
    s.rawKey (if m.granules / 2 ≤ o / 4096 ∨ m.done i then m.newBase + x else m.origin i + o % 4096)
  | none => s.rawKey (s.shadowBase + x)

/-- The keys of a run of the shadow region, each granule made ready as an access makes it. -/
def State.openShadow (s : State) (x n : Nat) : State :=
  (granulesOf x n).foldl (fun s g =>
    let lo := max (g * 4096) x
    let hi := min (g * 4096 + 4096) (x + n)
    let k := s.shadowKey lo
    ((s.clearFirst k 1).relocateFirst k 1).resolve .hbm k (hi - lo)) s

/-- The granules of a run of the shadow region made ready for a write. -/
def State.readyShadow (s : State) (x n : Nat) : State :=
  (granulesOf x n).foldl (fun s g =>
    let k := s.shadowKey (max (g * 4096) x)
    (s.clearFirst k 1).relocateFirst k 1) s

/-- EV-0x0D02 where a run of the shadow region meets a die that does not answer (R249). -/
def State.shadowDead (s : State) (x n : Nat) : State :=
  match (granulesOf x n).find? fun g => !s.dieAnswers (s.shadowKey (g * 4096)) with
  | some g => s.refuseAccess 0x0D02 (diePath (s.shadowKey (g * 4096) / 2 ^ 37)) (s.shadowBase + max x (g * 4096)) 6 0
  | none => s

/-- A read of the shadow region (R241, R355); a die that does not answer reads poison (R249). -/
def State.readShadow (s : State) (x n : Nat) : List (Byte × Bool) × State :=
  let s := s.openShadow x n
  ((List.range n).map fun i =>
    let k := s.shadowKey (x + i)
    if s.dieAnswers k then s.hbm.read k else (0#8, true), s.shadowDead x n)

/-- A write of the shadow region (R352); a die that does not answer discards its part (R249). -/
def State.writeShadow (s : State) (x : Nat) (bs : List Byte) : State :=
  let s := s.readyShadow x bs.length
  let s := s.shadowDead x bs.length
  s.writeMem .hbm ((bs.zipIdx.map fun p => (s.shadowKey (x + p.2), p.1)).filter fun c => s.dieAnswers c.1)

/-- SHADOW_MOVE_GRANULE (R241): the next granule of the order is copied. -/
def execShadowMoveGranule (s : State) : Host.Outcome State Fault Refusal :=
  s.clocked (match s.shadowMove with
    | none => s
    | some m => s.copyShadow m (m.place m.copied))

/-! ### Clearing and scrubbing -/

/-- Whether storage of a die still waits to be cleared (R240). -/
def State.clearing (s : State) (d : Nat) : Bool := s.uncleared.any fun r => decide (r.1 < r.2) && r.1 / 2 ^ 25 == d

/-- The lowest granule of a die that waits to be cleared. -/
def State.lowestUncleared (s : State) (d : Nat) : Option Nat :=
  ((s.uncleared.filter fun r => decide (r.1 < r.2) && r.1 / 2 ^ 25 == d).map Prod.fst).min?

/-- GRANULE_CLEAR (R240): in increasing die offset. -/
def execGranuleClear (d : Fin 4) (granule : Nat) (s : State) : Host.Outcome State Fault Refusal :=
  s.clocked (if s.lowestUncleared d.val = some (d.val * 2 ^ 25 + granule) then s.clearGranule (d.val * 2 ^ 25 + granule) else s)

/-- The count of completed scrub passes of a die one higher, and its overrun bit cleared. -/
def State.scrubDone (s : State) (d : Nat) : State :=
  let e := ek (0xD040 + d) 8
  let v := s.volAt e
  let s := s.setVol e (if v.testBit 62 then v - 2 ^ 62 else v)
  let s := s.countMem (0xD040 + d) 8 (diePath d)
  { s with scrubCount := s.scrubCount.filter fun p => p.1 / 32 != d }

/-- SCRUB_PASS (R246): the period ends. A pass that clearing or relocation holds up runs on, which bit [62] of 0xD040:08
records; otherwise every word of the die's sets in service has been read as under Table 13-3, a new pass counts from zero, and the
corrections its stacks' own ECC reports, one number a stack, are counted (R232). A die with a failed stack is not read. -/
def execScrubPass (p : ScrubReport) (s : State) : Host.Outcome State Fault Refusal :=
  s.clocked <|
  let d := p.die
  let e := ek (0xD040 + d.val) 8
  (if s.cfgAt (ek (0xD040 + d.val) 4) ≠ 0 ∨ !s.dieAnswers (d.val * 2 ^ 37) then s
    else if s.clearing d.val || s.reloc[d].isSome then
      s.setVol e (if (s.volAt e).testBit 62 then s.volAt e else s.volAt e + 2 ^ 62)
    else
      let words := (s.hbm.marks.filter fun p => p.1 / 2 ^ 33 == d.val && decide (16 * p.1 % 2 ^ 37 < s.dieTop d.val)).map Prod.fst
      let onDie (s : State) (k n : Nat) : State :=
        s.count (ek (0xD050 + 3 * d.val + k) 4) n 0x0D08 (diePath d.val) [(0xD050 + 3 * d.val + k, 2), (4, 2)]
      let s := onDie (onDie (onDie s 0 p.n0) 1 p.n1) 2 p.n2
      (words.foldl (fun (s : State) w =>
        match Sparse.get 0 s.hbm.marks w with
        | 1 => ({ s with hbm := { s.hbm with marks := Sparse.set 0 s.hbm.marks w 0 } } : State).hbmCorrected (16 * w)
        | 2 => ({ s with hbm := { s.hbm with marks := Sparse.set 0 s.hbm.marks w 3 } } : State).hbmUncorrectable (16 * w) 2
        | _ => s) s).scrubDone d.val)

/-! ### Retiring a set, losing a stack -/

/-- The granules of a set below the band (R247). -/
abbrev setRows : Nat := 1015808

/-- RELOCATE_GRANULE (R248): the next granule of the retiring set in increasing j; after the last the die is in the retired
state and EV-0x0D05 is raised. -/
def execRelocateGranule (d : Fin 4) (s : State) : Host.Outcome State Fault Refusal :=
  s.clocked <|
  (match s.reloc[d] with
    | none => s
    | some r =>
      if !r.begun then s
      else
        let n := skipEarly r.early r.next
        let s := { s with reloc := s.reloc.set d (some { r with next := n, early := r.early.filter fun j => decide (n < j) }) }
        let s := if n < setRows then s.relocateRow d n else s
        match s.reloc[d] with
        | some r =>
          if setRows ≤ skipEarly r.early r.next then
            (({ s with reloc := s.reloc.set d none } : State).setVol (ek (0xD040 + d.val) 1) 2).raise 0x0D05 (diePath d.val)
              [(r.set, 1), (setRows, 4), (r.poisoned, 4)]
          else s
        | none => s)

/-- HBM_STACK_FAILURE (R249, R250): the stack has failed, EV-0x0D07; a relocation on its die stops. -/
def execHbmStackFailure (stack : Fin 12) (cause : Nat) (s : State) : Host.Outcome State Fault Refusal :=
  s.clocked <|
  let d : Fin 4 := ⟨stack.val / 3, by omega⟩
  (if s.volAt (ek (0xD050 + stack.val) 1) = 2 then s
    else (({ s with reloc := s.reloc.set d none } : State).setVol (ek (0xD050 + stack.val) 1) 2).raise 0x0D07 (diePath d.val)
      [(stack.val, 1), (cause, 1)])

/-- What uncleared storage still holds goes: it reads as zero wherever it is read (R240), by a shadow move too. -/
def State.dropUncleared (s : State) : State :=
  { s with hbm := ⟨s.hbm.bytes.filter fun c => !inRanges s.uncleared (c.1 / 4096),
    s.hbm.marks.filter fun k => !inRanges s.uncleared (k.1 / 256), s.hbm.parts⟩ }

/-- What a commit that changes the configuration from `old` does to storage (R240, R241, R248, R249): L, new storage still
to be cleared, a shadow move (where L and S both change, of what a half of either size holds: DESIGN CHOICE, assumption 109), relocations and withdrawals begun. -/
def State.commitStorage (s old : State) : State :=
  let oldL := old.limitL
  let newL := s.limitL
  let moved := min old.shadowSize s.shadowSize
  let moves := decide (oldL ≠ newL ∧ moved ≠ 0)
  let added := addedRanges old s
  let added := if moves then minusRanges added (s.spanRanges s.shadowBase (moved / 2)
    ++ s.spanRanges (s.shadowBase + s.shadowSize / 2) (moved / 2)) else added
  let s := if moves then s.dropUncleared else s
  let s := { s with uncleared := s.uncleared ++ added.filter fun (r : Nat × Nat) => decide (r.1 < r.2) }
  let s := s.setVol (ek 0xD000 6) newL
  let s := if moves then
      ({ s with shadowMove := some ⟨oldL - old.shadowSize, newL - s.shadowSize, old.shadowSize / 2, s.shadowSize / 2, moved / 4096, 0, []⟩ } : State).setVol
        (ek 0xD000 7) (moved / 4096)
    else s
  (List.finRange 4).foldl (fun (s : State) (d : Fin 4) =>
    let e (k : Nat) : Nat := ek (0xD040 + d.val) k
    let set := s.cfgAt (e 2)
    let s := if set ≠ 0xFF ∧ old.cfgAt (e 2) = 0xFF then
        let mode := s.cfgAt (e 3)
        let s := { s with reloc := s.reloc.set d (some ⟨set, mode == 1, s.shadowMove.isNone, 0, [], 0⟩) }
        ((s.setVol (e 1) 1).setVol (e 5) 0).raise 0x0D04 (diePath d.val) [(set, 1), (mode, 1)]
      else s
    if s.cfgAt (e 4) ≠ 0 ∧ old.cfgAt (e 4) = 0 then
      let stackTemps := (List.range 3).map fun i => 3 * d.val + i
      let failed := (stackTemps.find? fun k => s.volAt (ek (0xD050 + k) 1) == 2).getD 0xFF
      let s := stackTemps.foldl (fun s k => if s.volAt (ek (0xD050 + k) 1) = 0 then s.setVol (ek (0xD050 + k) 1) 1 else s) s
      (({ s with reloc := s.reloc.set d none } : State).setVol (e 1) 3).raise 0x0D06 (diePath d.val) [(failed, 1)]
    else s) s

end Sys2Proof.Machine
end

