-- ==== Sys2Proof/Machine/Remote.lean ====
section
/-! DEFINITION. What two packages owe each other: credits of mapped pipes (R346), outcomes of remote signals (R265), the
reconcile exchange (R266), holdings lost with a peer (R267), acknowledgements and resends (R344, R347), the export (R355). -/
namespace Sys2Proof.Machine

/-! ### Payloads (DESIGN CHOICE, assumption 25) -/

/-- Word i of a payload. -/
def payWord (b : List Byte) (i : Nat) : Word := BitVec.ofNat 32 (leNat ((b.drop (4 * i)).take 4))

/-- The code of an outcome in a payload: applied, refused full, or refused permanently with its reason. -/
def outcomeCode : SignalOutcome → Nat
  | .applied => 0
  | .full => 1
  | .permanent w => 4 + w.val

/-- The outcome a code stands for. -/
def outcomeOf (n : Nat) : SignalOutcome := if n = 0 then .applied else if n = 1 then .full else .permanent (Fin.ofNat 4 n)

/-- The payload of an outcome. -/
def outcomePayload (seq : Word) (o : SignalOutcome) : List Byte := wordsLE [seq, BitVec.ofNat 32 (outcomeCode o)]

/-- The payload of a reconcile exchange: sequences, the outcomes of the sequences up to the last applied, one byte each, and the
credits. -/
def reconcilePayload (m : Reconcile) : List Byte :=
  wordsLE [m.sent, m.applied, BitVec.ofNat 32 (m.outcomes.length * 2 ^ 16 + m.credits.length)]
    ++ m.outcomes.map (fun o => BitVec.ofNat 8 (outcomeCode o.2))
    ++ m.credits.flatMap fun c => leBytes c.1 2 ++ leBytes c.2.toNat 4

/-- The reconcile exchange a payload holds. -/
def reconcileOf (b : List Byte) : Reconcile :=
  let n := (payWord b 2).toNat / 2 ^ 16
  let k := (payWord b 2).toNat % 2 ^ 16
  let a := payWord b 1
  { sent := payWord b 0
    applied := a
    outcomes := ((b.drop 12).take n).zipIdx.map fun p => (a - BitVec.ofNat 32 (n - 1 - p.2), outcomeOf p.1.toNat)
    credits := (List.range k).map fun i =>
      let c := b.drop (12 + n + 6 * i)
      (leNat (c.take 2), BitVec.ofNat 32 (leNat ((c.drop 2).take 4))) }

/-! ### Peers -/

/-- The package identifier of a peer, as events show it. -/
def State.peerId (s : State) : Peer → Nat
  | .twin => s.cfgAt (ek 0xC010 1)
  | .fabric w => w.toNat

/-- The fabric peer of a binding. -/
def State.peerOf (s : State) (b : Nat) : Peer := .fabric (BitVec.ofNat 32 (s.bindPeer b))

/-- The path of a fabric port. -/
def portPath (p : Nat) : Nat := 0x3001 + p

/-- The path events about a binding carry: the port of its last resend, or of its latest segment, or the lowest of its mask. -/
def State.bindingPath (s : State) (b : Nat) : Nat :=
  let r := s.binding b
  let low := ((List.range 8).find? fun p => (s.bindMask b).testBit p).getD 0
  portPath (r.lastPort.getD (((r.sent.getLast?).bind fun g => g.port).getD low))

/-! ### Pipes between packages (R346) -/

/-- What is kept of a mapped pipe's credits. -/
def State.credit (s : State) (p : Nat) : PipeCredit := Sparse.get PipeCredit.reset s.credits p

/-- What is kept of a mapped pipe's credits, changed. -/
def State.updCredit (s : State) (p : Nat) (f : PipeCredit → PipeCredit) : State :=
  { s with credits := Sparse.set PipeCredit.reset s.credits p (f (s.credit p)) }

/-- Whether a pipe is an inbound pipe of a carrier: open, its producer the fabric port or twin link, mapped to it (R346). -/
def State.inbound (s : State) (n : Fin 1024) (twin : Bool) (b : Nat) : Bool :=
  let p := s.pipes[n]
  let m := s.pipeMap n.val
  (p.state == 1 || p.state == 2) && p.prodHub && mapOn m && mapTwin m == twin &&
    (if twin then p.prod == 9 && mapMode m == 0
      else decide (1 ≤ p.prod ∧ p.prod ≤ 8) && mapBinding m == b && p.vat.val == s.bindVat b)

/-- Room for a packet in the tail store, by moves of R255: the far end's credit guarantees that the pipe has it. -/
def State.tailRoom (s : State) (n : Fin 1024) : Nat → State
  | 0 => s
  | fuel + 1 => if s.pipes[n].tail.length < 2 then s else (s.moveOne n).tailRoom n fuel

/-- A new inbound packet. -/
def State.newInbound (s : State) (n : Fin 1024) (bs : List (Byte × Bool)) (last : Bool) : State :=
  let s := (s.tailRoom n 4).updPipe n fun p => { p with tail := p.tail ++ [⟨bs, 0, last, false⟩] }
  s.updCredit n.val fun c => { c with taken := c.taken + 1#32 }

/-- Bytes of an inbound packet: into its open packet, or a new one; the last of them commits it (R346). -/
def State.takeInbound (s : State) (n : Fin 1024) (bytes : List Byte) (last : Bool) : State :=
  let bs := bytes.map fun b => (b, false)
  match s.pipes[n].tail.getLast? with
  | some k =>
    if k.committed then s.newInbound n bs last
    else s.updPipe n fun p => { p with tail := p.tail.dropLast ++ [{ k with data := k.data ++ bs, committed := last }] }
  | none => s.newInbound n bs last

/-- The packets an inbound pipe has freed: those received less those it holds. -/
def State.freedOf (s : State) (n : Fin 1024) : Word := (s.credit n.val).taken - BitVec.ofNat 32 s.pipes[n].heldSlots

/-- The inbound pipes of a carrier with credits to tell, and what each has freed. -/
def State.toTell (s : State) (twin : Bool) (b : Nat) : List (Fin 1024 × Word) :=
  ((List.finRange 1024).filter fun n => s.inbound n twin b && s.freedOf n != (s.credit n.val).returned).map fun n => (n, s.freedOf n)

/-- Credits told to the far end. -/
def State.told (s : State) (l : List (Fin 1024 × Word)) : State :=
  l.foldl (fun s c => s.updCredit c.1.val fun k => { k with returned := c.2 }) s

/-- Whether a pipe is an outbound one of a binding. -/
def State.outboundOn (s : State) (n b : Nat) : Bool := s.outbound n && !mapTwin (s.pipeMap n) && mapBinding (s.pipeMap n) == b

/-- A credit return for an outbound pipe: cumulative, so an older one changes nothing (R346). -/
def State.creditBack (s : State) (p : Nat) (freed : Word) : State :=
  let c := s.credit p
  if c.capacity ≠ 0 ∧ (freed - c.returned).toNat ≤ (c.taken - c.returned).toNat then
    s.updCredit p fun c => { c with returned := freed, free := c.free + (freed - c.returned).toNat }
  else s

/-- A packet in pieces of at most 8,192 bytes with their offsets. -/
def pieces8k (b : List Byte) : List (Nat × List Byte) :=
  (List.range ((b.length + 8191) / 8192)).map fun i => (i * 8192, (b.drop (i * 8192)).take 8192)

/-- A credit taken for a packet sent (R346). -/
def PipeCredit.take (c : PipeCredit) : PipeCredit := { c with taken := c.taken + 1#32, free := c.free - 1 }

/-- The oldest packet of an outbound pipe leaves against a credit (R346): as segments of its binding, or on the twin link, where a
shadow pipe's bytes are a stream of records (R351). A poisoned byte leaves as its bits, since no field carries poison. -/
def State.sendPacket (s : State) (n : Fin 1024) : State :=
  let p := s.pipes[n]
  let m := s.pipeMap n.val
  let c := s.credit n.val
  match p.head with
  | [] => s
  | k :: rest =>
    let bytes := (k.data.drop k.read).map Prod.fst
    let room := decide (0 < c.free) || (mapTwin m && mapMode m == 1)
    if !s.outbound n.val || !k.committed || !room then s
    else if mapTwin m then
      if s.volAt (ek 0xC010 3) ≠ 2 then s
      else
        let s := (s.updPipe n fun p => p.leave rest).sendTwin 0
          ⟨.twin, if mapMode m = 1 then 7 else 5, [mapRemote m, p.vat.val, 1], bytes⟩
        if mapMode m = 1 then s else s.updCredit n.val PipeCredit.take
    else if (s.binding (mapBinding m)).state ≠ 1 then s
    else
      let b := mapBinding m
      let s := (s.updPipe n fun p => p.leave rest).updCredit n.val PipeCredit.take
      (pieces8k bytes).foldl (fun s q => s.psigerSend b 0 0 0
        (mapRemote m * 2 ^ 22 + b2n (q.1 + q.2.length == bytes.length) * 2 ^ 21 + q.1) q.2) s

/-! ### Remote signals (R264, R265) -/

/-- An outcome sent to its peer (R265). -/
def State.sendOutcome (s : State) (p : Peer) (b : Nat) (seq : Word) (o : SignalOutcome) : State :=
  match p with
  | .twin => if s.volAt (ek 0xC010 3) = 2 then s.sendTwin 1 ⟨.twin, 8, [], outcomePayload seq o⟩ else s
  | .fabric _ => s.psigerSend b 5 1 0 0 (outcomePayload seq o)

/-- The path events about a peer carry. -/
def peerPath (p : Peer) (port : Nat) : Nat :=
  match p with
  | .twin => 0x3009
  | .fabric _ => portPath port

/-- A remote signal checked and applied (R261, R265); `vat` is the local vat it is for, if its own vat is the bound one. -/
def State.applySignal (s : State) (g : RemoteSignal) (vat : Option Nat) : SignalOutcome × State :=
  let r := s.rennet g.rennet.val
  let k := g.count.toNat
  if !r.remote then (.permanent 1, s)
  else if some r.vat.val ≠ vat then (.permanent 2, s)
  else if r.max < k then (.permanent 3, s)
  else if r.accepts k then (.applied, s.addTokens g.rennet.val k)
  else (.full, s)

/-- The local vat a peer's vat stands for: the same number on the twin, the binding's on the fabric (R264, R343, R349). -/
def State.localVat (s : State) (p : Peer) (b : Nat) (vat : VatNo) : Option Nat :=
  match p with
  | .twin => some vat.val
  | .fabric _ => if s.bindPeerVat b = vat.val then some (s.bindVat b) else none

/-- Signals in sequence order: each applied, its outcome kept among the last 1,024 and sent; then the early ones that follow
(R265). -/
def State.takeSignals (s : State) (p : Peer) (b : Nat) : Nat → RemoteSignal → State
  | 0, _ => s
  | fuel + 1, g =>
    let o := s.applySignal g (s.localVat p b g.vat)
    let s := o.2.updPeer p fun r => { r with
      lastApplied := g.seq, outcomes := (r.outcomes ++ [(g.seq, o.1)]).drop (r.outcomes.length + 1 - 1024)
      early := r.early.filter fun e => e.2.seq != g.seq }
    let s := s.sendOutcome p b g.seq o.1
    match s.peer p with
    | none => s
    | some r =>
      match r.early.find? fun e => e.2.seq == r.lastApplied + 1#32 && !s.rennetAway e.2.rennet.val with
      | some e => s.takeSignals p e.1 fuel e.2
      | none => s

/-- A remote signal as it arrives (R265): next, duplicate or early; one for a rennet whose die is HELD or LOADING waits as an early one does
(Table 22-7). -/
def State.receiveSignal (s : State) (p : Peer) (b : Nat) (g : RemoteSignal) : State :=
  match s.peer p with
  | none => s
  | some r =>
    if g.seq = r.lastApplied + 1#32 ∧ !s.rennetAway g.rennet.val then s.takeSignals p b (r.early.length + 1) g
    else if 0 < (g.seq - r.lastApplied).toNat ∧ (g.seq - r.lastApplied).toNat < 2 ^ 31 then
      if r.early.any fun e => e.2.seq == g.seq then s else s.updPeer p fun r => { r with early := r.early ++ [(b, g)] }
    else
      let s := s.countStat 5
      match r.outcomes.find? fun o => o.1 == g.seq with
      | some o => s.sendOutcome p b g.seq o.2
      | none => s

/-- The signals that waited for a rennet's die applied once it is back, every peer's in sequence order. -/
def State.takeEarly (s : State) : State :=
  s.peers.foldl (fun s r =>
    match r.early.find? fun e => e.2.seq == r.lastApplied + 1#32 && !s.rennetAway e.2.rennet.val with
    | some e => s.takeSignals r.peer e.1 (r.early.length + 1) e.2
    | none => s) s

/-- A signal's payload read. -/
def signalOf (p : Peer) (b : List Byte) : RemoteSignal :=
  let w := (payWord b 1).toNat
  ⟨p, payWord b 0, ⟨w / 2 ^ 16 % 16, by omega⟩, ⟨w % 2 ^ 16, by omega⟩, payWord b 2⟩

/-- A signal in transit settled by its outcome (R265). The rennet's count and maximum at the far end, which EV-0x0E01 names, are not
carried to this package: they are free. -/
def State.settle (s : State) (p : Peer) (port : Nat) (seq : Word) (o : SignalOutcome) : State :=
  let g? := (s.peer p).bind fun r => r.sent.find? fun g => g.seq == seq && !g.full
  match g? with
  | none => s
  | some g =>
    match o with
    | .applied => s.updPeer p fun r => { r with sent := r.sent.filter (fun h => h.seq != seq), free := r.free + 1 }
    | .full =>
      let s := s.updPeer p fun r => { r with sent := r.sent.map fun h => if h.seq = seq then { h with full := true, raised := true } else h }
      let s := s.countStat 3
      if g.raised then s
      else
        let c := s.free
        let m := c.2.free
        m.2.raise 0x0E01 (peerPath p port) [(g.rennet, 2), (c.1 % 2 ^ 32, 4), (m.1 % 2 ^ 32, 4), (seq.toNat, 4)]
    | .permanent w =>
      let s := s.updPeer p fun r => { r with sent := r.sent.filter (fun h => h.seq != seq), free := r.free + 1 }
      (s.raise 0x0E05 (peerPath p port) [(s.peerId p, 4), (g.rennet, 2), (seq.toNat, 4), (w.val, 1)]).countStat 4

/-! ### Reconciliation (R266) -/

/-- This package's side of the exchange, a message of class C3: what handling it sends is of lower classes (R269, DESIGN CHOICE, assumption
25). -/
def State.reconcileMsg (s : State) (p : Peer) (twin : Bool) (b : Nat) : Reconcile :=
  let cs := ((List.finRange 1024).filter fun n => s.inbound n twin b).map fun n => (mapRemote (s.pipeMap n.val), s.freedOf n)
  match s.peer p with
  | some r => ⟨r.nextSeq - 1#32, r.lastApplied, r.outcomes, cs⟩
  | none => ⟨0#32, 0#32, [], cs⟩

/-- The exchange sent on a binding that reconciles; it takes a sequence of its own and leaves before any new segment, once the window
and the store have room for it (R344): until then it is tried again. -/
def State.sendReconcile (s : State) (b : Nat) : State :=
  let m := reconcilePayload (s.reconcileMsg (s.peerOf b) false b)
  if (s.binding b).sent.length < 1024 ∧ s.storeRoom 3 (32 + m.length) then
    (s.sendNow b ⟨6, 3, 0, 0, m, false⟩).updBinding b fun r => { r with told := true }
  else s

/-- A binding whose two sides of the exchange have both passed is bound again, and its held segments leave (R346). -/
def State.endReconcile (s : State) (b : Nat) : State :=
  let r := s.binding b
  if r.state = 2 ∧ r.told ∧ r.heard then
    (s.updBinding b fun r => { r with state := 1, told := false, heard := false }).releaseHeld b
  else s

/-- Bindings whose path is restored reconcile before any new segment is sent (R266, R346). -/
def State.reconcileBindings (s : State) : State :=
  (s.bindingsIn 2).foldl (fun s b =>
    if (s.binding b).told || (s.sprayOf b).isEmpty then s else (s.sendReconcile b).endReconcile b) s

/-- The peer's side of the exchange: signals settled by its outcomes, credits returned, then every signal newer than its last
applied sent again with its own sequence, EV-0x0E06 and 0x8400:06. -/
def State.reconcileWith (s : State) (p : Peer) (port : Nat) (m : Reconcile) : State :=
  let before := ((s.peer p).map fun r => r.sent).getD []
  let settled := (before.filter fun g => !g.full && m.outcomes.any fun o => o.1 == g.seq).length
  let s := m.outcomes.foldl (fun s o => s.settle p port o.1 o.2) s
  let s := m.credits.foldl (fun s c => s.creditBack c.1 c.2) s
  let left := ((s.peer p).map fun r => r.sent).getD []
  let again := left.filter fun g => !g.full && decide (0 < (g.seq - m.applied).toNat ∧ (g.seq - m.applied).toNat < 2 ^ 31)
  let s := s.updPeer p fun r => { r with reconciling := false }
  let s := again.foldl (fun s g => s.sendSignal p g) s
  (s.raise 0x0E06 (peerPath p port) [(s.peerId p, 4), (settled, 4), (again.length, 4)]).countStat 6

/-! ### Acknowledgements and resends (R344, R347) -/

/-- Whether a sequence is newer than another. -/
def newer (a b : Word) : Bool := decide (0 < (a - b).toNat ∧ (a - b).toNat < 2 ^ 31)

/-- Held segments of every binding that can leave now leave, and exchanges that waited for room: an acknowledgement has freed store space
(R344). -/
def State.releaseAll (s : State) : State := ((s.bindings.map Prod.fst).foldl (fun s b => s.releaseHeld b) s).reconcileBindings

/-- An acknowledgement covers segments: their copies leave the store, and their ports have been acknowledged (R344, R347). -/
def State.ackUpTo (s : State) (b : Nat) (a : Word) : State :=
  let r := s.binding b
  let done := r.sent.filter fun g => !newer g.seq a
  if done.isEmpty then s
  else
    let ports := done.filterMap fun g => g.port
    let s := s.updBinding b fun r => { r with
      sent := r.sent.filter fun g => newer g.seq a, resends := r.resends.filter fun p => !ports.contains p.1 }
    s.releaseAll

/-- A port with eight consecutive resends that no acknowledgement followed leaves the binding's spray set until the next beat
(R347). -/
def State.leavePort (s : State) (b p : Nat) : State :=
  let n := Sparse.get 0 (s.binding b).resends p
  if n < 8 ∨ (s.binding b).away.contains p then s
  else (s.updBinding b fun r => { r with away := r.away ++ [p], resends := Sparse.del r.resends p }).raise 0x1201 (portPath p)
    [(b, 2), (n, 4)]

/-- A copy sent again on the next port in turn (R344). -/
def State.resend (s : State) (b : Nat) (seq : Word) : State :=
  match (s.binding b).sent.find? fun g => g.seq == seq with
  | none => s
  | some g =>
    let s := match g.port with
      | some p => s.leavePort b p
      | none => s
    match s.sprayPort b (g.turn + 1) with
    | none => s
    | some p =>
      let again (h : SentSeg) : SentSeg := if h.seq = seq then { h with port := some p.val, turn := h.turn + 1 } else h
      let s := s.updBinding b fun r => { r with
        sent := r.sent.map again, lastPort := some p.val, resends := Sparse.set 0 r.resends p.val (Sparse.get 0 r.resends p.val + 1) }
      (s.putSegment p b g.cls seq.toNat g.header g.payload).countFabric 3 1

/-! ### Lost peers (R267, R347, R350) -/

/-- Holdings in transit to a peer are lost with it (R267): 0x9020, the pool total at the next beat, EV-0x0E04. -/
def State.loseHoldings (s : State) (p : Peer) (path : Nat) (pipes : List Nat) : State :=
  let signals := ((s.peer p).map fun r => (r.sent.filter fun g => !g.full).length).getD 0
  let credits := sumNat (pipes.map fun n => ((s.credit n).taken - (s.credit n).returned).toNat)
  let flits := if p = .twin then sumNat s.twinPool.taken.toList else 0
  let n := signals + credits + flits
  let s := s.updPeer p fun r => { r with
    sent := [], window := r.window - signals, free := r.free + (r.sent.filter fun g => g.full).length }
  let s := if p = .twin then { s with twinPool := { s.twinPool with
    taken := Vector.replicate 4 0, total := s.twinPool.total - flits, waiting := [], owe := Vector.replicate 4 0 } } else s
  let s := pipes.foldl (fun s q => s.updCredit q fun c =>
    { c with capacity := c.capacity - (c.taken - c.returned).toNat, returned := c.taken }) s
  if n = 0 then s
  else
    let s := s.count (ek 0x9020 1) n 0x0E07 0x6000 [(1, 2)]
    ({ s with lostNext := s.lostNext ++ [(0, n)] } : State).raise 0x0E04 path [(s.peerId p, 4), (1, 1), (n, 4)]

/-- The outbound pipes mapped to a binding, or to the twin link. -/
def State.pipesTo (s : State) (twin : Bool) (b : Nat) : List Nat :=
  (s.credits.map Prod.fst).filter fun n =>
    let m := s.pipeMap n
    s.outbound n && mapTwin m == twin && (twin || mapBinding m == b)

/-- A fabric peer is lost (R347): every binding that names it, R267 for each, EV-0x1202; an export to it has failed (DESIGN CHOICE, assumption
114). -/
def State.peerLost (s : State) (b cause : Nat) : State :=
  let pkg := s.bindPeer b
  let path := s.bindingPath b
  let all := (s.bindings.filter fun p => p.2.state != 0 && p.2.state != 3 && s.bindPeer p.1 == pkg).map Prod.fst
  let pipes := all.flatMap fun b => s.pipesTo false b
  let s := s.raise 0x1202 path [(pkg, 4), (b, 2), (cause, 1)]
  let s := all.foldl (fun s b => s.updBinding b fun r => { r with state := 3, sent := [], held := [], early := [], ackDue := false }) s
  let s := if s.exporting.isSome ∧ all.contains (s.cfgAt (ek 0xC310 1)) then ({ s with exporting := none } : State).setVol (ek 0xC310 2) 3 else s
  (s.loseHoldings (s.peerOf b) path pipes).releaseAll

/-- The partner is ABSENT as seen by this package (R350): 0xC010:03 reads 3, EV-0x1203, R267, the pair's count, and a member-loss
notice over the management port. -/
def State.partnerLost (s : State) (cause : Nat) : State :=
  let s := (s.setVol (ek 0xC010 3) 3).raise 0x1203 0x3009 [(s.cfgAt (ek 0xC010 1), 4), (cause, 1)]
  let s := { s with partner := ⟨0, 0#8, 0#16⟩, twin := { s.twin with probing := false, record := none } }
  let s := s.updPeer .twin fun r => { r with reconciling := false }
  let s := s.loseHoldings .twin 0x3009 (s.pipesTo true 0)
  (s.sendMgmt ⟨.mgmt, 3, [s.cfgAt (ek 0xC010 1)], []⟩).reevaluate uPair

/-- The twin link is down (R350): new signals wait for reconciliation, and a probe goes over the fabric binding of 0xC010:02. -/
def State.twinDown (s : State) : State :=
  if s.volAt (ek 0xC010 3) ≠ 2 then s
  else
    let s := (s.setVol (ek 0xC010 3) 0).updPeer .twin fun r => { r with reconciling := true }
    if s.cfgAt (ek 0xC010 1) = 0 then s
    else
      let b := s.cfgAt (ek 0xC010 2)
      ({ s with twin := { s.twin with probing := true } } : State).psigerControl b 7 2 0 0 []

/-! ### Export (R355) -/

/-- Segments of the export sent while the binding takes them (R355): each carries up to 8,192 bytes of the committed half, its offset in
W7[15:0] and the bits above in W6 (DESIGN CHOICE, assumption 25). -/
def State.exportMore : Nat → State → State
  | 0, s => s
  | fuel + 1, s =>
    let b := s.cfgAt (ek 0xC310 1)
    match s.exporting with
    | none => s
    | some t =>
      let n := min 8192 (t.size - t.done)
      if n = 0 ∨ !s.canSend b ⟨10, 3, 0, 0, List.replicate n 0#8, false⟩ then s
      else
        let half := s.volAt (ek 0xC300 3)
        let r := s.readShadow (half * (s.shadowSize / 2) + t.done) n
        let s := r.2.psigerSend b 10 3 (t.done / 2 ^ 16) (2 ^ 21 * b2n (t.done + n == t.size) + t.done % 2 ^ 16) (r.1.map Prod.fst)
        State.exportMore fuel { s with exporting := some { t with done := t.done + n } }

end Sys2Proof.Machine
end

