-- ==== Sys2Proof/Machine/Generation.lean ====
section
/-! DEFINITION. Configuration generations (R384 to R389): the commit checks of every chapter, commits and returns applied, and
what the changed entries do at once. -/
namespace Sys2Proof.Machine

/-! ### Commit checks (R386) -/

/-- A check that fails: the entries it concerns and the reason of EV-0x1401. -/
abbrev Failing := List (List Nat × Nat)

/-- A check: failing for the entries named when its condition holds. -/
def failIf (bad : Bool) (keys : List Nat) (reason : Nat) : Failing := if bad then [(keys, reason)] else []

/-- Whether an entry differs between two configurations. -/
def State.differs (s old : State) (key : Nat) : Bool := s.cfgAt key != old.cfgAt key

/-- A nibble of a logical map. -/
def mapNibble (m n : Nat) : Nat := m / 16 ^ n % 16

/-- Whether a logical number is named by a waiting or running launch. -/
def State.namedCore (s : State) (q : Nat) : Bool := s.launches.any fun l => l.cores.any fun k => k.q.val == q

/-- A die's logical map committed (R20). -/
def State.mapChecks (s old : State) (d : Fin 4) : Failing :=
  let key := ek 0x2010 (d.val + 1)
  let m := s.cfgAt key
  let m0 := old.cfgAt key
  let l := List.range 12
  let bad := l.any fun n =>
    let p := mapNibble m n
    let p0 := mapNibble m0 n
    let core : Option CoreId := if h : p < 13 then some ⟨d.val * 13 + p, by omega⟩ else none
    p == 13 || p == 14
      || (p != 15 && p != p0 && (match core with | some c => old.ust (coreUnit c) != stReady | none => true))
      || (p != 15 && l.any fun k => k != n && mapNibble m k == p)
      || (p == 15 && p0 != 15 && old.namedCore (12 * d.val + n))
  failIf (s.differs old key && bad) [key] 3

/-- The field-retired rows of an array (R81). -/
def State.rowChecks (s old : State) (u : Nat) : Failing :=
  let e (k : Nat) : Nat := ek (0x4000 + u * 16 + 6) k
  let r (k : Nat) : Nat := s.cfgAt (e k)
  let used := [r 1, r 2, r 3, r 4].filter fun x => x != 0xFF
  let high (x : Nat) : Bool := x != 0xFF && decide (129 < x)
  let bad := high (r 3) || high (r 4) || (r 3 != 0xFF && r 3 == r 4)
    || [r 3, r 4].any (fun x => x != 0xFF && (x == r 1 || x == r 2)) || decide (2 < used.length)
  failIf ((s.differs old (e 3) || s.differs old (e 4)) && bad) [e 3, e 4] 3

/-- The field-retired lane groups of a core (R105). -/
def State.groupChecks (s old : State) (u : Nat) : Failing :=
  let e (k : Nat) : Nat := ek (0x4000 + u * 16 + 9) k
  let v := s.cfgAt (e 2)
  failIf (s.differs old (e 2) && (decide (511 < v) || v &&& s.cfgAt (e 1) != 0)) [e 2] 3

/-- Ranges given by first and count, of the entries' subindices 1 to 16. -/
def State.ranges (s : State) (first count : Nat) : List (Nat × Nat × Nat) :=
  (List.range 16).map fun v => (v, s.cfgAt (ek first (v + 1)), s.cfgAt (ek count (v + 1)))

/-- Failing pairs of ranges that share a member. -/
def overlaps (first count : Nat) (l : List (Nat × Nat × Nat)) : Failing :=
  l.flatMap fun a => l.flatMap fun b =>
    failIf (decide (a.1 < b.1 ∧ a.2.1 < b.2.1 + b.2.2 ∧ b.2.1 < a.2.1 + a.2.2 ∧ 0 < a.2.2 ∧ 0 < b.2.2))
      [ek first (a.1 + 1), ek count (a.1 + 1), ek first (b.1 + 1), ek count (b.1 + 1)] 3

/-- Ranges that extend beyond a limit. -/
def beyond (first count limit : Nat) (l : List (Nat × Nat × Nat)) : Failing :=
  l.flatMap fun a => failIf (decide (limit < a.2.1 + a.2.2)) [ek first (a.1 + 1), ek count (a.1 + 1)] 3

/-- Whether a vat is enabled. -/
def State.vatOn (s : State) (v : Nat) : Bool := s.cfgAt (ek 0x2020 (v + 1)) != 0

/-- Whether a number lies in a vat's range. -/
def State.inRangeOf (s : State) (first count v n : Nat) : Bool :=
  let lo := s.cfgAt (ek first (v + 1))
  decide (lo ≤ n ∧ n < lo + s.cfgAt (ek count (v + 1)))

/-- The batch slots of a vat that are not free: resident, parked, swapped, or claimed by a join. -/
def State.batchHeld (s : State) (v : Nat) : List Nat :=
  ((List.finRange 64).filter fun b => s.seqs[b].state != 0 && s.seqs[b].vat.val == v).map Fin.val
    ++ ((s.joins ++ s.resumes).filter fun j => j.vat.val == v).map fun j => j.batch

/-- The result slots of a vat that are not RELEASED. -/
def State.resultsHeld (s : State) (v : Nat) : List Nat :=
  (s.results.filter fun r => r.2.state != 0 && s.inRangeOf 0x2024 0x2025 v r.1).map Prod.fst

/-- The dispatch slots that stay a vat's when its range changes. -/
def State.dispatchKept (s old : State) (v : Nat) : Nat :=
  ((List.range (old.cfgAt (ek 0x2023 (v + 1)))).filter fun i => s.inRangeOf 0x2022 0x2023 v (old.cfgAt (ek 0x2022 (v + 1)) + i)).length

/-- What a vat owns (R279). -/
def State.vatChecks (s old : State) : Failing :=
  let on (l : List (Nat × Nat × Nat)) := l.filter fun a => s.vatOn a.1
  let slots (first count limit : Nat) : Failing :=
    beyond first count limit (s.ranges first count) ++ overlaps first count (on (s.ranges first count))
  let vs := List.range 16
  let share (idx : Nat) : Failing := vs.flatMap fun v => vs.flatMap fun w =>
    failIf (decide (v < w) && s.vatOn v && s.vatOn w && s.cfgAt (ek idx (v + 1)) &&& s.cfgAt (ek idx (w + 1)) != 0)
      [ek idx (v + 1), ek idx (w + 1)] 3
  let removed (v : Nat) : Failing :=
    let mine := old.launches.filter fun l => l.vat.val == v
    let lost (k : LCore) : Bool := (old.cfgAt (ek 0x2021 (v + 1))).testBit k.q.val && !(s.cfgAt (ek 0x2021 (v + 1))).testBit k.q.val
    let batch := old.batchHeld v
    let results := old.resultsHeld v
    failIf (mine.any fun l => l.cores.any lost) [ek 0x2021 (v + 1)] 3
      ++ failIf (decide (s.dispatchKept old v < mine.length)) [ek 0x2022 (v + 1), ek 0x2023 (v + 1)] 3
      ++ failIf (results.any fun r => !s.inRangeOf 0x2024 0x2025 v r) [ek 0x2024 (v + 1), ek 0x2025 (v + 1)] 3
      ++ failIf (batch.any fun b => !s.inRangeOf 0x2026 0x2027 v b) [ek 0x2026 (v + 1), ek 0x2027 (v + 1)] 3
      ++ failIf (old.vatOn v && !s.vatOn v && (!mine.isEmpty || !results.isEmpty || !batch.isEmpty)) [ek 0x2020 (v + 1)] 3
  slots 0x2022 0x2023 4096 ++ slots 0x2024 0x2025 4096 ++ slots 0x2026 0x2027 64 ++ share 0x2021 ++ share 0x2028
    ++ vs.flatMap removed

/-- The page pools (R168). -/
def State.poolChecks (s : State) : Failing :=
  overlaps 0xD800 0xD801 (s.ranges 0xD800 0xD801) ++ (s.ranges 0xD800 0xD801).flatMap fun a =>
    failIf (a.2.2 != 0 && !s.inOneRegion a.1 (a.2.1 * 65536) (a.2.2 * 65536) (some 4)) [ek 0xD800 (a.1 + 1), ek 0xD801 (a.1 + 1)] 3

/-- Whether an FP32 word is a positive power of two. -/
def powerOfTwo (w : Nat) : Bool :=
  let f := w % 2 ^ 23
  let e := w / 2 ^ 23
  (decide (1 ≤ e ∧ e ≤ 254) && f == 0) || (e == 0 && (List.range 23).any fun i => f == 2 ^ i)

/-- The loss scales of a vat (R224). -/
def State.scaleChecks (s : State) : Failing :=
  (List.range 16).flatMap fun v =>
    let e (i : Nat) : Nat := ek (0x8202 + i) (v + 1)
    ((List.range 3).flatMap fun i => failIf (!powerOfTwo (s.cfgAt (e i))) [e i] 3)
      ++ failIf (decide (s.cfgAt (e 0) < s.cfgAt (e 1) ∨ s.cfgAt (e 2) < s.cfgAt (e 0))) [e 0, e 1, e 2] 3

/-- The regions in use: vat, number, base, bytes, kind. -/
def State.allRegions (s : State) : List (Nat × Nat × Nat × Nat × Nat) :=
  (List.range 16).flatMap fun v => (List.range 8).filterMap fun k =>
    let r := s.regionOf v k
    if r.2.2 = 0 then none else some (v, k, r.1, r.2.1, r.2.2)

/-- Whether a range lies wholly in the valid range of one window (R238). -/
def State.inWindow (s : State) (a n : Nat) : Bool :=
  if a < 2 ^ 39 then decide (a + n ≤ s.limitL)
  else
    let d := a / 2 ^ 37 % 4
    decide (a < 2 ^ 40 ∧ s.iBytes ≤ a % 2 ^ 37 ∧ a % 2 ^ 37 + n ≤ s.dieTop d)

/-- Whether any region or the shadow lies in the interleaved window. -/
def State.interleavedUsed (s : State) : Bool := s.shadowSize != 0 || s.allRegions.any fun r => decide (r.2.2.1 < 2 ^ 39)

/-- Regions, slices, the interleave mask, retirements and withdrawals (R240, R241, R248, R249). -/
def State.memoryChecks (s old : State) : Failing :=
  let rs := s.allRegions
  let rk (r : Nat × Nat × Nat × Nat × Nat) : Nat := ek (0xD010 + r.1) (r.2.1 + 1)
  let meet (a b x y : Nat) : Bool := decide (a < x + y ∧ x < a + b)
  let mask := ek 0xD000 1
  let each (r : Nat × Nat × Nat × Nat × Nat) : Failing :=
    let b := r.2.2.1
    let n := r.2.2.2.1
    let kind := r.2.2.2.2
    failIf (decide (4 < kind) || n == 0 || !s.inWindow b n || (kind == 4 && decide (2 ^ 39 ≤ b))
        || (s.shadowSize != 0 && meet b n s.shadowBase s.shadowSize)) [rk r] 3
      ++ rs.flatMap fun q =>
        failIf (decide (rk r < rk q) && (meet b n q.2.2.1 q.2.2.2.1 || (r.1 == q.1 && kind == 4 && q.2.2.2.2 == 4))) [rk r, rk q] 3
  let dies (d : Nat) : Failing :=
    let e (k : Nat) : Nat := ek (0xD040 + d) k
    let slices := sumNat ((List.range 17).map fun v => s.cfgAt (ek (0xD030 + d) (v + 1)))
    let gone := s.cfgAt (e 4) != 0
    failIf (gone && (s.cfgAt mask).testBit d) [mask, e 4] 3
      ++ failIf (decide (64 < slices)) ((List.range 17).map fun v => ek (0xD030 + d) (v + 1)) 3
      ++ failIf (s.differs old (e 2) && (old.cfgAt (e 2) != 0xFF || old.cfgAt (e 4) != 0)) [e 2] 3
      ++ failIf (gone && old.cfgAt (e 4) == 0 &&
          (s.interleavedUsed || rs.any fun r => decide (2 ^ 39 ≤ r.2.2.1) && r.2.2.1 / 2 ^ 37 % 4 == d)) [e 4] 3
  rs.flatMap each ++ (List.range 4).flatMap dies
    ++ failIf (decide (s.limitL < s.shadowSize)) [ek 0xD000 3] 3
    ++ failIf (s.differs old mask && s.interleavedUsed) [mask] 3
    ++ failIf (old.shadowMove.isSome && s.limitL != old.limitL) [mask, ek 0xD000 2] 3

/-- The bindings that are bound in a configuration. -/
def State.boundRecords (s : State) : List Nat :=
  (s.cfg.filter fun p => decide (0xC100 ≤ p.1 / 256 ∧ p.1 / 256 < 0xC120) && p.2 != 0).map fun p =>
    (p.1 / 256 - 0xC100) * 128 + p.1 % 256 - 1

/-- The key of a binding record. -/
def bindKey (b : Nat) : Nat := ek (0xC100 + b / 128) (b % 128 + 1)

/-- Fabric, twin, codec, Croak, management and power entries (R308, R316, R343, R355, R362, R378, R440); an export that a commit carries is
refused while the partner is not ABSENT, changed or not (R355). -/
def State.otherChecks (s old : State) (carried : List Nat) : Failing :=
  let bs := s.boundRecords
  let bindings := bs.flatMap fun b =>
    failIf (s.bindMask b == 0 || !s.vatOn (s.bindVat b)) [bindKey b] 3 ++ bs.flatMap fun c =>
      failIf (decide (b < c) && s.bindVat b == s.bindVat c && s.bindPeer b == s.bindPeer c && s.bindPeerVat b == s.bindPeerVat c)
        [bindKey b, bindKey c] 3
  let mode := s.croakMode
  let k (i : Nat) : Nat := ek 0x2070 i
  let out (i lo hi : Nat) : Failing := failIf (decide (s.cfgAt (k i) < lo ∨ hi < s.cfgAt (k i))) [k i] 2
  let export_ := ek 0xC310 1
  bindings ++ overlaps 0xE000 0xE001 (s.ranges 0xE000 0xE001)
    ++ failIf (s.cfgAt (ek 0xB000 6) == 1 && mode != 2) [ek 0xB000 1, ek 0xB000 6] 3
    ++ failIf (decide (1 ≤ mode ∧ mode ≤ 3) && s.cfgAt (ek 0x1010 3) != s.cfgAt (ek 0xB000 2)) [ek 0x1010 3, ek 0xB000 1, ek 0xB000 2] 3
    ++ failIf (decide (s.croakOffset < -1000 ∨ 1000 < s.croakOffset)) [ek 0xB000 4] 2
    ++ failIf ((carried.contains export_ || s.differs old export_) && s.cfgAt export_ != 0xFFFF && old.volAt (ek 0xC010 3) != 3) [export_] 3
    ++ out 1 1000 2100 ++ out 2 0 48 ++ out 3 1 48 ++ out 4 85 105

/-- The rennet ranges (R260). -/
def State.rennetChecks (s : State) : Failing :=
  overlaps 0x2050 0x2051 (s.ranges 0x2050 0x2051) ++ beyond 0x2050 0x2051 65536 (s.ranges 0x2050 0x2051)

/-- Every commit check of every chapter, on the configuration a commit would leave (R386). -/
def State.commitChecks (s old : State) (carried : List Nat) : Failing :=
  (List.finRange 4).flatMap (fun d => s.mapChecks old d) ++ s.rennetChecks ++ s.vatChecks old
    ++ (List.range 208).flatMap (fun u => s.rowChecks old u) ++ (List.range 52).flatMap (fun i => s.groupChecks old (208 + i))
    ++ s.scaleChecks ++ s.otherChecks old carried ++ s.memoryChecks old ++ s.poolChecks

/-- The first entry that failed, with its reason: of the entries the failing checks concern, the lowest that the request
carries, or the lowest of all (R386, DESIGN CHOICE, assumption 26). -/
def firstFailing (f : Failing) (carried : List Nat) : Option (Nat × Nat) :=
  let all := f.flatMap fun p => p.1.map fun k => (k, p.2)
  let mine := all.filter fun p => carried.contains p.1
  let least (l : List (Nat × Nat)) : Option (Nat × Nat) :=
    l.foldl (fun a p => match a with | none => some p | some q => if p.1 < q.1 then some p else a) none
  match least mine with
  | some p => some p
  | none => least all

/-! ### Effects of changed entries -/

/-- A peer bound: its signals start at 1, and its link credits anew (R264, R267, R273). -/
def State.freshPeer (s : State) (p : Peer) : State :=
  let old := ((s.peer p).map PeerRec.window).getD 0
  ({ s with peers := (s.peers.filter fun r => r.peer != p) ++ [PeerRec.fresh p] } : State).poolChange 0 old 1024

/-- Peers forgotten, with their link credits (R273). -/
def State.dropPeers (s : State) (gone : Peer → Bool) : State :=
  let n := sumNat ((s.peers.filter fun r => gone r.peer).map PeerRec.window)
  ({ s with peers := s.peers.filter fun r => !gone r.peer } : State).poolChange 0 n 0

/-- A binding committed again, from any state (R343); its peer's signals start again at 1 where no other binding is bound to the peer
(R264, R267); one that was lost reconciles its
credits before any new segment leaves (R346). -/
def State.rebind (s : State) (b : Nat) : State :=
  let bound := (List.range 8).any fun i => s.bindWord b i != 0
  let peer : Peer := .fabric (BitVec.ofNat 32 (s.bindPeer b))
  let others := s.bindings.any fun x =>
    x.1 != b && (x.2.state == 1 || x.2.state == 2) && s.bindPeer x.1 == s.bindPeer b && (s.peer peer).isSome
  let lost := (s.binding b).state == 3
  let s := s.updBinding b fun _ => if bound then { Binding.unbound with state := if lost then 2 else 1 } else Binding.unbound
  if !bound then s
  else
    let s := if others then s else s.freshPeer peer
    if lost then s.sendReconcile b else s

/-- The peers that no binding names any more, forgotten. -/
def State.forgetPeers (s : State) : State :=
  s.dropPeers fun p => match p with
    | .twin => false
    | .fabric w => !s.boundRecords.any fun b => s.bindPeer b == w.toNat

/-- The twin's identifier committed (R349, R438): the pair unit enters COLD, or ABSENT where the entry is cleared. -/
def State.pairAgain (s : State) : State :=
  let id := s.cfgAt (ek 0xC010 1)
  let s := s.dropPeers fun p => p == Peer.twin
  let s : State := { s.poolChange 0 s.twinPool.total TwinPool.reset.total with partner := ⟨0, 0#8, 0#16⟩, twinPool := TwinPool.reset }
  let s := { s with twin := { s.twin with probing := false, record := none } }
  let s := if s.volAt (ek 0xC010 3) = 3 then s.setVol (ek 0xC010 3) 0 else s
  if id = 0 then (if s.ust uPair = stAbsent then s else (s.transition uPair stAbsent 0#8).releaseBelow uPair)
  else
    let s := s.freshPeer .twin
    let s := if s.ust uPair = stCold then s else s.transition uPair stCold 0#8
    s.releaseBelow uPair

/-- A pipe's fabric map entry changed: its credits start anew, for as many packets as the remote pipe holds, which this
package does not know (R346); link credits follow (R273). -/
def State.remap (s old : State) (p : Nat) : State :=
  let f := s.free
  let n := if mapOn (s.pipeMap p) then 4 + f.1 % 2 ^ 20 else 0
  let t := { f.2 with credits := Sparse.set PipeCredit.reset f.2.credits p { PipeCredit.reset with capacity := n, free := n } }
  t.poolChange 0 (old.linkSlots p) (t.linkSlots p)

/-- The committed half's export begins (R355). -/
def State.startExport (s : State) : State :=
  if s.cfgAt (ek 0xC310 1) = 0xFFFF then { s with exporting := none }
  else State.exportMore 1024 (({ s with exporting := some ⟨s.volAt (ek 0xC300 2), 0⟩ } : State).setVol (ek 0xC310 2) 1)

/-- The import committed on a spare begins (R355). -/
def State.startImport (s : State) : State :=
  let n := s.cfgAt (ek 0xC311 3)
  if n = 0 then { s with importing := none } else ({ s with importing := some ⟨n, 0⟩ } : State).setVol (ek 0xC311 4) 1

/-- What the entries of a commit or return do as they take effect at an instant: `keys` are those it carries, `old` the state before it. -/
def State.entriesChanged (s old : State) (keys : List Nat) (since : Nat) : State :=
  let has (lo hi : Nat) : List Nat := keys.filter fun k => decide (lo ≤ k / 256 ∧ k / 256 ≤ hi)
  let s := (s.commitStorage old).commitCroak old since
  let pages := sumNat ((List.range 16).map fun v => s.cfgAt (ek 0xD801 (v + 1)))
  let s := { s with poolTotal := s.poolTotal.set 3 pages }
  let s := (List.finRange 16).foldl (fun s v =>
    if keys.contains (ek 0x8202 (v.val + 1)) then
      { s with verdicts := s.verdicts.set v { s.verdicts[v] with initPending := true } } else s) s
  let moved (q : Nat) : Bool :=
    mapNibble (s.cfgAt (ek 0x2010 (q / 12 + 1))) (q % 12) != mapNibble (old.cfgAt (ek 0x2010 (q / 12 + 1))) (q % 12)
  let s := { s with lostCores := s.lostCores.filter fun p => !moved p.1 }
  let s := ((has 0xC100 0xC11F).map fun k => (k / 256 - 0xC100) * 128 + k % 256 - 1).foldl (fun s b => s.rebind b) s
  let s := s.forgetPeers
  let s := if keys.contains (ek 0xC010 1) then s.pairAgain else s
  let s := ((has 0xC200 0xC207).map fun k => (k / 256 - 0xC200) * 128 + k % 256 - 1).foldl (fun s p => s.remap old p) s
  let s := if keys.contains (ek 0xC310 1) then s.startExport else s
  if (has 0xC311 0xC311).isEmpty then s else s.startImport

/-! ### Commits and returns -/

/-- The entries a RETURN changes, with the previous generation's values; the logical maps keep theirs (R387). -/
def State.returnValues (s : State) : Sparse Nat :=
  let keys := (s.cfg ++ s.prevCfg).map Prod.fst
  let prev (k : Nat) : Nat := Sparse.get (entryDefault k) s.prevCfg k
  keys.foldl (fun m k =>
    let gen := match entryRow (k / 256) (k % 256) with
      | some r => r.pers == .generation
      | none => false
    if k / 256 = 0x2010 ∨ prev k = s.cfgAt k ∨ !gen then m else Sparse.put m k (prev k)) []

/-- An entry's bytes as a commit's signature and audit records encode them (R380, R390). -/
def entryBytes (key v : Nat) : List Byte :=
  match entryRow (key / 256) (key % 256) with
  | some r => leBytes v r.bytes
  | none => []

/-- What the signature of a COMMIT or RETURN covers: expected generation, target beat, entries and values sorted by index and
subindex (R380, DESIGN CHOICE, assumption 25). -/
def signedBytes (expected target : Nat) (values : Sparse Nat) : List Byte :=
  leBytes expected 4 ++ leBytes target 8 ++ values.flatMap fun p => leBytes (p.1 / 256) 2 ++ leBytes (p.1 % 256) 1 ++ entryBytes p.1 p.2

/-- The audit record of a pending request (R390). -/
def PendingGen.audit (g : PendingGen) (kind outcome : Nat) : AuditEntry :=
  { AuditEntry.plain kind g.role.number g.source outcome with keyId := g.keyId }

/-- One record for each entry changed (R390). -/
def State.auditEntries (s old : State) (g : PendingGen) (keys : List Nat) : State :=
  keys.foldl (fun s k => s.auditRec { g.audit 1 0 with
    idx := k / 256, sub := k % 256, vat := auditVat (k / 256) (k % 256), path := entryPath k
    old := some (entryBytes k (old.cfgAt k)), new := some (entryBytes k (s.cfgAt k)) }) s

/-- The current generation becomes the previous one and advances (R386, R388). -/
def State.advanceGen (s old : State) : State :=
  let g := old.volAt (ek 0x2000 1)
  let s := ({ s with prevCfg := old.cfg } : State).setVol (ek 0x2000 2) g
  ((s.setVol (ek 0x2000 1) ((g + 1) % 2 ^ 32)).setVol (ek 0x2000 5) 1).setVol (ek 0x2000 6) s.beat

/-- A commit or return refused: EV-0x1401 with the first entry that failed, counted, in the audit ring (R386). -/
def State.refuseGen (s : State) (g : PendingGen) (key reason : Nat) : State :=
  let s := (s.raise 0x1401 0x5000 [(key / 256, 2), (key % 256, 2), (reason, 1)]).countDict 4
  s.auditRec { g.audit 6 reason with
    idx := key / 256, sub := key % 256, vat := auditVat (key / 256) (key % 256), path := entryPath key }

/-- The seeds of the vats a generation creates reset to zero (R203). -/
def State.freshSeeds (t s : State) : State :=
  { t with seeds := Vector.ofFn fun v => if t.vatOn v && !s.vatOn v then { t.seeds[v] with seed := 0#64, zeroed := false } else t.seeds[v] }

/-- A commit or return checked and applied (R386, R387): the state after it and whether it was applied. Applied at once (R385), it takes
effect at an instant after the current beat's that no command tells. -/
def State.applyGen (s : State) (g : PendingGen) : State × Bool :=
  let values : Sparse Nat := if g.kind = 1 then g.values else s.returnValues
  let t : State := { s with cfg := values.foldl (fun (m : Sparse Nat) p => cfgSet m p.1 p.2) s.cfg }
  let keys := values.map Prod.fst
  if g.expected ≠ s.volAt (ek 0x2000 1) then (s.refuseGen g 0 1, false)
  else match firstFailing (t.commitChecks s (if g.kind = 1 then keys else [])) keys with
    | some p => (s.refuseGen g p.1 p.2, false)
    | none =>
      let changed := keys.filter fun k => t.differs s k
      let t := ((t.freshSeeds s).advanceGen s).auditEntries s g changed
      let t := t.auditRec (g.audit (3 + g.kind) 0)
      let t := (t.raise 0x1400 0x5000 [(t.volAt (ek 0x2000 1), 4), (g.kind, 1), (changed.length, 4)]).countDict 3
      let t := if g.kind = 1 then t.updSession g.session fun x => { x with staging := [] } else t
      let keys := if g.kind = 1 then keys else changed
      if g.target ≤ s.beat then (t.entriesChanged s keys s.beatInstant, true)
      else
        let f := t.free
        (f.2.entriesChanged s keys (s.beatInstant + f.1), true)

/-- The pending request leaves. -/
def State.clearPending (s : State) : State :=
  (({ s with pendingGen := none } : State).setVol (ek 0x2000 3) 0).setVol (ek 0x2000 4) 0

/-- Step 1 of R33: the pending commit or return whose target beat has come (R386). -/
def State.dueGen (s : State) : State :=
  match s.pendingGen with
  | none => s
  | some g => if g.target ≤ s.beat then (s.clearPending.applyGen g).1 else s

/-! ### The messages (R379, R380, R384, R385, R387) -/

/-- Whether beats are absent: missing or stopped (R385). -/
def State.beatsAbsent (s : State) : Bool := s.volAt (ek 0xB010 5) == 1 || s.volAt (ek 0xB010 5) == 2

/-- A COMMIT or RETURN that a check at arrival refuses: its status, in the audit ring (R390). -/
def State.refuseMsg (s : State) (x : Session) (m : KopMsg) (status : Nat) : State × Nat × List Byte :=
  (s.auditRec (x.audit m.via 6 status 0 0 0xFF), status, [])

/-- A COMMIT or RETURN of a session: its values checked for their signature and put in the pending place, or applied at once
while beats are absent. -/
def State.requestGen (s : State) (x : Session) (m : KopMsg) (kind : Nat) (values : Sparse Nat) : State × Nat × List Byte :=
  let target := leNat (m.data.take 8)
  let expected := leNat ((m.data.drop 8).take 4)
  let g : PendingGen := ⟨kind, x.id, x.role, viaSource m.via, x.keyId, max target (s.beat + 1), expected, values⟩
  if m.data.length ≠ 524 then s.refuseMsg x m 3
  else if kind = 2 ∧ s.volAt (ek 0x2000 5) = 0 then s.refuseMsg x m 4
  else if !verifies x.modulus (signedBytes expected target values) (m.data.drop 12) then
    s.refuseMsg x m 6 |> fun r => ((r.1.raise 0x1401 0x5000 [(0, 2), (0, 2), (4, 1)]).countDict 4, r.2)
  else if s.pendingGen.isSome then s.refuseMsg x m 5
  else if s.beatsAbsent then
    let r := s.applyGen g
    (r.1, if r.2 then 0 else 9, [])
  else ((({ s with pendingGen := some g } : State).setVol (ek 0x2000 3) g.target).setVol (ek 0x2000 4) kind, 8, [])

/-- COMMIT (R380, R385, R386): installer only. -/
def execCommit (m : KopMsg) (s : State) : Host.Outcome State Fault Refusal :=
  s.clocked (s.kop m (rowOf m == .commit) fun s x =>
    if x.role ≠ .installer then s.denied x m else s.requestGen x m 1 x.staging)

/-- RETURN (R387): operator or installer; through a virtual function it reaches nothing (R383). -/
def execReturnGeneration (m : KopMsg) (s : State) : Host.Outcome State Fault Refusal :=
  s.clocked (s.kop m (rowOf m == .ret) fun s x =>
    if (viaVat x.via).isSome then (s, 1, [])
    else if x.role ≠ .installer ∧ x.role ≠ .operator then s.denied x m
    else s.requestGen x m 2 s.returnValues)

/-- DISCARD (R384, R385): the session's staging emptied, its pending commit or return cancelled. -/
def execDiscard (m : KopMsg) (s : State) : Host.Outcome State Fault Refusal :=
  s.clocked (s.kop m (rowOf m == .discard) fun s x =>
    let s := s.updSession x.id fun y => { y with staging := [] }
    match s.pendingGen with
    | some g => (if g.session = x.id then s.clearPending else s, 0, [])
    | none => (s, 0, []))

/-- STATUS (R379): current and previous generation, pending kind and beat (DESIGN CHOICE, assumption 25 for their layout). -/
def execKopStatus (m : KopMsg) (s : State) : Host.Outcome State Fault Refusal :=
  s.clocked (s.kop m (rowOf m == .status) fun s _ =>
    (s, 0, leBytes (s.volAt (ek 0x2000 1)) 4 ++ leBytes (s.volAt (ek 0x2000 2)) 4 ++ leBytes (s.volAt (ek 0x2000 4)) 1
      ++ leBytes (s.volAt (ek 0x2000 3)) 8))

end Sys2Proof.Machine
end

