-- ==== Sys2Proof/Machine/Beat.lean ====
section
/-! DEFINITION. The beat (R33, R274, R318): the end of the last beat, the conservation audit and the ordered steps. -/
namespace Sys2Proof.Machine

/-! ### The end of a beat -/

/-- EV-0x1603 for each path and code suppressed in the beat (R411), and EV-0x1209 for each port that discarded frames for want
of MACsec (R339). -/
def State.endBeat (s : State) : State :=
  let gone := s.evBeat.filter fun p => decide (16 < p.2)
  let s := gone.foldl (fun s p => s.raise 0x1603 p.1.1 [(p.1.2, 2), (p.2 - 16, 4)]) { s with evBeat := [] }
  (List.finRange 8).foldl (fun s p =>
    let n := s.fports[p].discards
    if n = 0 then s else s.raise 0x1209 (unitPath (portUnit p)) [(n, 4)]) s

/-- What a beat starts anew: the limits of once per beat, the ports a binding left (R347), keys now in force (R339), ports that
rejoin the spray sets (R338). -/
def State.freshBeat (s : State) : State :=
  { s with
    evBeat := [], linkBeat := [], agentBeat := [], dropBeat := [], mirrorBeat := false
    host := { s.host with tlpBeat := [] }
    bindings := s.bindings.map fun p => (p.1, { p.2 with away := [] })
    fports := Vector.ofFn fun (p : Fin 8) =>
      let f := s.fports[p]
      { f with spray := s.volAt (ek (0xC008 + p.val) 5) == 2 && !s.away (portUnit p), keys := f.newKeys.foldl putKey f.keys, newKeys := [], discards := 0 } }

/-- Holdings lost with peers leave the pool totals by an audited change (R267, R273). -/
def State.peerTotals (s : State) : State :=
  s.lostNext.foldl (fun s p =>
    let pool : Fin 8 := ⟨p.1 % 8, Nat.mod_lt _ (by decide)⟩
    let old := s.poolTotal[pool]
    let s := s.poolChange pool p.2 0
    s.auditRec { AuditEntry.plain 11 0 0 0 with
      idx := 0x9020, sub := pool.val + 1, old := some (leBytes old 8), new := some (leBytes (old - p.2) 8) })
    { s with lostNext := [] }

/-! ### The conservation audit (R187, R274) -/

/-- A pool as the audit counts it: free, held, in transit, total, the pipe or rennet concerned, the unit
held on a fault, and whether its other sums hold. -/
structure PoolCount where
  free : Nat
  held : Nat
  transit : Nat
  total : Nat
  part : Nat
  unit : UnitNo
  fine : Bool
  deriving DecidableEq, Repr

/-- Whether a pool is conserved. -/
def PoolCount.ok (p : PoolCount) : Bool := p.fine && p.free + p.held + p.transit == p.total

/-- The die of a pipe's tail store: that of its producer (R254). -/
def tailDie (p : Pipe) : UnitNo := if p.prodHub then uHub else unitOf (276 + min (p.prod / 12) 3)

/-- Whether a vat's pages and host frames add up (R187). -/
def State.pagesOk (s : State) (v : VatNo) : Bool :=
  (s.freeFrames v).length + (s.framesIn v 1).length + (s.framesIn v 2).length + (s.framesIn v 3).length == s.cfgAt (ek 0xD801 (v.val + 1))
    && (s.hostFree v).length + (s.hostUsed v).length == s.volAt (ek 0xD807 (v.val + 1))

/-- A link's part of pool 01 (Table 14-5): its hub function, whether its credits are the link's own, which freeze with it (R275), free, in
transit and total. -/
structure LinkPart where
  port : Nat
  own : Bool
  free : Nat
  transit : Nat
  total : Nat
  deriving DecidableEq, Repr

/-- The parts of pool 01 (R264, R346, R349): the twin link's flits, the signals each peer can hold unacknowledged, the packets of the
outbound pipes. What a peer's fabric binding owns counts for the lowest port of its mask (DEDUCED, assumption 110). -/
def State.linkParts (s : State) : List LinkPart :=
  let low (b : Nat) : Nat := ((List.range 8).find? fun p => (s.bindMask b).testBit p).getD 0 + 1
  let port (p : Peer) : Nat := match p with
    | .twin => 9
    | .fabric w => ((s.boundRecords.find? fun b => s.bindPeer b == w.toNat).map low).getD 1
  let t := s.twinPool
  ⟨9, true, sumNat t.free.toList, sumNat t.taken.toList, t.total⟩
    :: s.peers.map (fun r => ⟨port r.peer, false, r.free, r.sent.length, r.window⟩)
    ++ (s.credits.filter fun c => s.outbound c.1).map fun c => ⟨s.carrierOf c.1, true, c.2.free, c.2.transit, c.2.capacity⟩

/-- A link's hub function as a unit. -/
def linkUnit (n : Nat) : UnitNo := hubUnit ⟨n % 16, Nat.mod_lt _ (by decide)⟩

/-- The credits in transit that a FAULTED link's unit holds frozen: they count as held (R275). -/
def State.linkHeld (s : State) : Nat :=
  sumNat (((List.range 9).map (· + 1)).map fun n =>
    if s.ust (linkUnit n) = stFaulted then
      min (s.units[linkUnit n].frozen[0]) (sumNat ((s.linkParts.filter fun p => p.own && p.port == n).map LinkPart.transit))
    else 0)

/-- Tokens of signals received and not yet applied that a rennet has room for (R265, R271). -/
def State.pendingTokens (s : State) (n : Nat) (r : Rennet) : Nat :=
  min (sumNat (s.peers.map fun p => sumNat (p.early.map fun g => if g.2.rennet.val = n then g.2.count.toNat else 0))) (r.max - r.count)

/-- The snapshot of a pool (Table 14-5). -/
def State.poolCount (s : State) (pool : Fin 8) : PoolCount :=
  let total := s.poolTotal[pool]
  match pool.val with
  | 0 =>
    let l := s.linkParts
    let bad := l.find? fun p => p.free + p.transit != p.total
    let part := (bad.map LinkPart.port).getD 9
    let held := s.linkHeld
    ⟨sumNat (l.map LinkPart.free), held, sumNat (l.map LinkPart.transit) - held, total, part, linkUnit part, bad.isNone⟩
  | 1 =>
    let ps := (List.finRange 1024).filter fun i => s.pipes[i].state != 0
    let bad := (ps.find? fun i => decide (s.pipes[i].capacity < s.pipes[i].heldSlots)).getD (ps.headD 0)
    ⟨sumNat (ps.map fun i => s.pipes[i].capacity - s.pipes[i].heldSlots),
      sumNat (ps.map fun i => s.pipes[i].heldSlots), 0, total, bad.val, tailDie s.pipes[bad], true⟩
  | 2 =>
    let bad := ((s.rennets.find? fun r => decide (r.2.max < r.2.count)).map Prod.fst).getD 0
    let pending := sumNat (s.rennets.map fun r => s.pendingTokens r.1 r.2)
    ⟨sumNat (s.rennets.map fun r => r.2.max - r.2.count - s.pendingTokens r.1 r.2), sumNat (s.rennets.map fun r => r.2.count), pending,
      total, bad,
      unitOf (276 + min (bad / 16384) 3), true⟩
  | 3 =>
    let all (st : Nat) : Nat := sumNat ((List.finRange 16).map fun v => (s.framesIn v st).length)
    let free := sumNat ((List.finRange 16).map fun v => (s.freeFrames v).length)
    let bad := (List.finRange 16).find? fun v => !s.pagesOk v
    ⟨free, all 1, all 2 + all 3, total, (bad.map Fin.val).getD 0, uHub, bad.isNone⟩
  | 4 =>
    let used := (s.seqs.toList.filter fun q => q.state != 0).length
    let joining := (s.joins.filter fun j => !j.resume).length
    ⟨64 - used - joining, used, joining, total, 0, uHub, true⟩
  | 5 => ⟨4096 - s.launches.length, s.launches.length, 0, total, 0, uHub, true⟩
  | 6 =>
    let n (f : Nat → Bool) : Nat := (s.results.filter fun r => f r.2.state).length
    let pending := n (fun st => st == 1)
    let final := n (fun st => st != 0 && st != 1)
    ⟨4096 - pending - final, final, pending, total, 0, uHub, true⟩
  | _ =>
    let given := sumNat ((List.range 16).map fun v => s.cfgAt (ek 0x2045 (v + 1)))
    ⟨2 ^ 32 - given, given, 0, total, 0, uHub, true⟩

/-- The audit of one pool (R274): a fault raises its event once until the unit it holds has been re-admitted. -/
def State.auditPool (s : State) (snap : State) (pool : Fin 8) : State :=
  let c := snap.poolCount pool
  let told := s.poolFault[pool] && (s.view c.unit).causes.getLsbD 6
  let s := { s with poolFault := s.poolFault.set pool !c.ok }
  if c.ok || told then s
  else
    let s := s.holdFor c.unit 0x40#8
    let s := s.raise 0x0E02 (unitPath c.unit) [(pool.val + 1, 1), (c.free, 4), (c.held, 4), (c.transit, 4), (c.total, 4), (c.part, 2)]
    s.count (ek 0x9021 (pool.val + 1)) 1 0x0E07 0x6000 [(pool.val + 1, 2)]

/-- The audit at the start of a beat, of every pool in one snapshot (R274). -/
def State.auditPools (s : State) : State := (List.finRange 8).foldl (fun t p => t.auditPool s p) s

/-! ### Steps 1 and 2 of R33 -/

/-- A vat's run state as written takes effect (R281). -/
def State.applyRun (s : State) (r : Nat × Nat) : State :=
  let old := s.volAt (ek 0x2029 (r.1 + 1))
  let s := s.setVol (ek 0x2029 (r.1 + 1)) r.2
  let s := if old = r.2 then s else s.raiseVat (Fin.ofNat 16 r.1) 0x0F07 0x5000 [(r.1, 1), (r.2, 1)]
  if r.2 ≠ 0 then s
  else
    let s := (s.launches.filter fun l => l.vat.val == r.1 && !l.started).foldl (fun s l => s.cancelLaunch l 15) s
    let s := (s.joins.filter fun j => j.vat.val == r.1).foldl (fun s j => s.cancelJoin j 15) s
    (s.launches.filter fun l => l.vat.val == r.1 && l.started).foldl (fun s l => s.requestPreempt l.slot) s

/-- The run states written since the last beat. -/
def State.runStates (s : State) : State := s.runReq.foldl (fun s r => s.applyRun r) { s with runReq := [] }

/-- The operation that the last symbol carried for this beat, taken on the group unit in every package (R310). -/
def State.groupOp (s : State) : State :=
  match s.croak.op with
  | none => s
  | some o =>
    let s := s.updCroak fun c => { c with op := none }
    let q : UnitReq := ⟨uGroup, o.op, s.beat, (s.view uGroup).version, o.role, 0#16, List.replicate 8 0#8, 0, o.slot⟩
    if appliesTo o.op.toNat (s.view uGroup) then s.effectReq q else s.opDone uGroup o.slot

/-- A unit whose two views have equal versions and different states: HELD with cause [5], its version advanced in both views, U+4:02
and EV-0x0201; work that runs continues to its own end (R32). -/
def State.diverge (s : State) (u : UnitNo) (a b : UView) : State :=
  let s := (s.count48 (ek (unitObj u 4) 2)).raise 0x0201 (unitPath u) [(a.state.val, 1), (b.state.val, 1), (a.version.toNat, 2)]
  (s.updUnit u fun r => { r with mg := a, dp := a, drainTo := none }).moveTo u stHeld (a.causes ||| b.causes ||| 0x20#8)

/-- Two views of a unit reconciled (R32): the newer replaces the older, whose path it reaches now; equal versions in different
states diverge. -/
def State.reconcileViews (s : State) (u : UnitNo) (a b : UView) : State :=
  if versionNewer a.version b.version then s.adopt u a
  else if versionNewer b.version a.version then s.adopt u b
  else if a.state = b.state then s
  else s.diverge u a b

/-- Step 2 of R33: every unit's management view against its data path's view, the pair's copy against the partner's. The
group record follows the symbol alone (R310). -/
def State.reconcile (s : State) : State :=
  let s := (List.finRange 284).foldl (fun s u =>
    if u = uGroup ∨ s.units[u].mg = s.units[u].dp then s else s.reconcileViews u s.units[u].mg s.units[u].dp) s
  match s.twin.record with
  | none => s
  | some r => ({ s with twin := { s.twin with record := none } } : State).reconcileViews uPair (s.view uPair) ⟨r.state, r.causes, r.version⟩

/-! ### Step 3: spare binding (R19, R20, R388) -/

/-- Whether a physical core is of full capability and READY (R20). -/
def State.fullSpare (s : State) (c : CoreId) : Bool :=
  s.ust (coreUnit c) == stReady && (List.finRange 4).all (fun a => s.ust (arrayUnit c a) == stReady)
    && s.volAt (ek (unitObj (coreUnit c) 9) 3) == 128 && s.volAt (ek (unitObj (coreUnit c) 12) 1) == 0

/-- The logical numbers of a die that have no physical core in service at the step (R19). A core that drains is not in service (R16),
and has not left it either: its number waits until the core is HELD, SHED or FAULTED (DESIGN CHOICE, assumption 103). -/
def State.coreless (s : State) (d : Fin 4) : List Nat :=
  (List.range 12).filter fun n =>
    let p := mapNibble (s.cfgAt (ek 0x2010 (d.val + 1))) n
    let lost := s.lostCores.find? fun l => l.1 == 12 * d.val + n
    match lost with
    | some l => decide (l.2 < s.beat)
    | none =>
      if h : p < 13 then
        let u := coreUnit ⟨d.val * 13 + p, by omega⟩
        !s.inService u && s.ust u != stDraining
      else true

/-- A logical map with one number bound to a physical number. -/
def setNibble (m n p : Nat) : Nat := m - mapNibble m n * 16 ^ n + p * 16 ^ n

/-- Step 3 on one die: the map after it, and what each number that changed was bound to before and after. -/
def State.bindDie (s : State) (d : Fin 4) : Nat × List (Nat × Nat × Nat) :=
  let m0 := s.cfgAt (ek 0x2010 (d.val + 1))
  let act := s.coreless d
  let auto := s.cfgAt (ek 0x2011 (d.val + 1)) != 0
  let fixed := ((List.range 12).filter fun n => !act.contains n).map fun n => mapNibble m0 n
  let r := act.foldl (fun (a : Nat × List Nat × List (Nat × Nat × Nat)) n =>
    let old := mapNibble m0 n
    let spare := (List.finRange 13).find? fun p =>
      auto && !a.2.1.contains p.val && s.fullSpare ⟨d.val * 13 + p.val, by omega⟩
    let p := (spare.map Fin.val).getD 15
    (setNibble a.1 n p, p :: a.2.1, if p = 15 ∧ old = 15 then a.2.2 else a.2.2 ++ [(n, old, p)])) (m0, fixed, [])
  (r.1, r.2.2)

/-- A spare bound to a number starts with its program memory and tag zero (R288). -/
def State.freshSpare (s : State) (c : CoreId) : State :=
  (s.updCore c fun k => { k with prog := [], progBad := [], loaded := 0 }).setVol (ek (unitObj (coreUnit c) 13) 1) 0

/-- Step 3 of R33: spares bound, numbers without one recorded as 0xF; the generation advances once where a map changes. A number bound
again to the core it had lost raises EV-0x0204 too (R19). The event concerns the new physical core, whose path it carries, and gives
the logical number on the die, 0 to 11 (DESIGN CHOICE, assumption 104). -/
def State.bindSpares (s : State) : State :=
  let res := (List.finRange 4).map fun d => (d, s.bindDie d, s.coreless d)
  let acted := res.flatMap fun r => r.2.2.map fun n => 12 * r.1.val + n
  let t := { s with
    cfg := res.foldl (fun (m : Sparse Nat) r => cfgSet m (ek 0x2010 (r.1.val + 1)) r.2.1.1) s.cfg
    lostCores := s.lostCores.filter fun p => !acted.contains p.1 }
  let moved := res.filter fun r => r.2.1.1 != s.cfgAt (ek 0x2010 (r.1.val + 1))
  let t := if moved.isEmpty then t else t.advanceGen s
  let g : PendingGen := ⟨0, 0, .package, 0, List.replicate 8 0#8, 0, 0, []⟩
  res.foldl (fun t r =>
    let d := r.1
    let changed := r.2.1.1 != s.cfgAt (ek 0x2010 (d.val + 1))
    let t := if changed then t.auditEntries s g [ek 0x2010 (d.val + 1)] else t
    r.2.1.2.foldl (fun t c =>
      let t := if h : c.2.2 < 13 then
          (t.freshSpare ⟨d.val * 13 + c.2.2, by omega⟩).raise 0x0204 (corePath ⟨d.val * 13 + c.2.2, by omega⟩)
            [(c.1, 1), (c.2.1, 1), (c.2.2, 1)]
        else t
      if c.2.1 = c.2.2 then t
      else t.auditRec { AuditEntry.plain 12 0 0 0 with path := unitPath (unitOf (276 + d.val)) }) t) t

/-! ### Steps 4 to 6 -/

/-- Whether a unit is READY or RUNNING, as the capability entries count it (R11). -/
def State.atWork (s : State) (u : UnitNo) : Bool := s.ust u == stReady || s.ust u == stRunning

/-- Step 5 of R33: the capability entries (R11). The arrays counted are those of the logical cores, and a FAILED stack counts until its die
is withdrawn, which takes three (DEDUCED, assumption 90); the capacity follows the states of the die memories (R248, R249). -/
def State.capability (s : State) : State :=
  let phys := (List.finRange 48).filterMap fun q => s.physOf q
  let cores := (phys.filter fun c => s.atWork (coreUnit c)).length
  let arrays := sumNat (phys.map fun c => ((List.finRange 4).filter fun a => s.atWork (arrayUnit c a)).length)
  let dieMib (d : Nat) : Nat := match s.volAt (ek (0xD040 + d) 1) with
    | 3 => 0
    | 2 => 126976
    | _ => 131072
  let spare := (List.range 208).any fun u => s.inService (unitOf u) && s.volAt (ek (unitObj (unitOf u) 6) 5) != 0
  let s := s.setVol (ek 0x1001 1) cores
  let s := s.setVol (ek 0x1001 3) (arrays * 16384)
  let s := s.setVol (ek 0x1001 4) (sumNat ((List.range 4).map dieMib))
  let s := s.setVol (ek 0x1001 5) (12 - 3 * ((List.range 4).filter fun d => s.volAt (ek (0xD040 + d) 1) == 3).length)
  s.setVol (ek 0x1001 6) (if spare then 25 else 24)

/-- The beat cause of every function, once steps 1 to 5 are complete (R329). -/
def State.beatCauses (s : State) : State :=
  (List.finRange 17).foldl (fun s f => if s.fnExists f then s.cause f 2 1 else s) s

/-- Step 6 of R33: the page work of every enabled vat falls due (R181). -/
def State.pageDue (s : State) : State :=
  (List.finRange 16).foldl (fun s v =>
    if s.vatOn v.val then s.updWork v fun w => { w with due := w.due ++ [s.beat] } else s) s

/-- The pair record sent to the twin while the link is up, with how this package stands as a member of the pair (R16, R29, R30). -/
def State.sendPair (s : State) : State :=
  let v := s.view uPair
  if s.volAt (ek 0xC010 3) ≠ 2 ∨ s.cfgAt (ek 0xC010 1) = 0 then s
  else
    let p := s.view uPackage
    s.sendTwin 3 ⟨.twin, 6, [s.cfgAt (ek 0xC000 1), s.cfgAt (ek 0xC010 1), v.state.val, v.causes.toNat, v.version.toNat, p.state.val, p.causes.toNat], []⟩

/-- The standing hold notice sent again (R309). -/
def State.standingNotice (s : State) : State :=
  let mode := s.croakMode
  if 1 ≤ mode ∧ mode ≤ 3 ∧ !s.inService uPackage then s.sendMgmt ⟨.mgmt, 1, [s.cfgAt (ek 0xB000 2)], []⟩ else s

/-- The audit and the steps of R33 in order; a fault the package has detected comes before the requests (R28). -/
def State.beatSteps (s : State) : State :=
  let s := s.peerTotals.auditPools
  let s := (s.beatWindows.dueGen.dueReqs).groupOp.runStates
  let s := s.reconcile.bindSpares.aggregateAll.capability
  (s.beatCauses.pageDue).sendPair.standingNotice

/-- Beat `m` begins at an instant (R307, R318, R437): its number, the jump, what the symbol does before the steps, the audit
and the steps. -/
def State.beginBeat (s : State) (m at_ : Nat) (how : BeatStep) (stop : Bool) (before : State → State) : State :=
  let c := s.beat
  let fresh := s.croak.fresh
  let s := s.endBeat.freshBeat.reconcileBindings
  let s := (s.setVol (ek 0xB010 1) m).setVol (ek 0xB010 2) at_
  let s := s.setVol (ek 0xB010 5) (if stop then 2 else if s.croak.holdover then 3 else 0)
  let s := s.updCroak fun k => { k with symbol := none, missed := 0, discarded := false, stopTold := false, begun := true, fresh := false, first := false }
  let s := if how = .jump then
      let s := s.raise 0x1003 0x300A [(if fresh then 0 else c, 8), (m, 8)]
      if fresh then s else s.countCroak 4 (m - c - 1)
    else s
  (before s).beatSteps

/-- The echo that the last symbol called for is answered before its beat (R316): t is measured on the bus in steps of 125 ps from 10 ns on,
and d = (t − 10 ns) / 2 in whole ps, rounded either way (DESIGN CHOICE, assumption 111). -/
def State.echoDone (s : State) : State :=
  match s.croak.echoed with
  | none => s
  | some node =>
    let f := s.free
    let g := f.2.free
    let d := (f.1 % 2 ^ 25 * 125 + g.1 % 2) / 2
    let s := g.2.updCroak fun k => { k with echoed := none }
    let s := if s.croak.echo.isSome then s else s.setVol (ek 0xB000 10) 0xFF
    (s.setVol (ek 0xB011 (node.val + 1)) d).raise 0x1007 0x300A [(node.val, 1), (d, 4)]

/-- The group unit of a package that was in no group, at its first beat: admitted, with the symbol's record (R310, R437). -/
def State.joinGroup (s : State) (y : Symbol) : State :=
  if s.ust uGroup ≠ stAbsent then s
  else
    let s := s.admitGroup
    if s.isMaster then s else s.takeGroup (stateOf y.state) (BitVec.ofNat 8 y.causes) (BitVec.ofNat 16 y.version)

/-- BEAT_BEGIN (R33, R307, R312, R318): the instant of the accepted symbol's beat, or of the next beat of a package that
stands alone on IEEE 1588 time, has come. -/
def execBeatBegin (now : Nat) (s : State) : Host.Outcome State Fault Refusal :=
  s.clocked (if s.ust uPackage = stAbsent then s
    else match s.croak.symbol with
    | some (bits, at_) =>
      let y := Symbol.of bits
      let s := if now < at_ then s else s.echoDone
      if now < at_ then s
      else match s.beatStep y.beat y.jump with
        | .refused why =>
          (s.updCroak fun k => { k with symbol := none }).raise 0x1002 0x300A [(s.beat, 8), (y.beat, 8), (why, 1)]
        | how =>
          (s.beginBeat y.beat at_ how (y.stop && !s.isMaster) fun s => s.joinGroup y).updCroak fun k => { k with op := k.carried, carried := none }
    | none =>
      if s.croakMode ≠ 4 then s
      else
        let n := if s.croak.first then s.ieeeBeat (s.croak.since + 3920) else s.beat + 1
        let at_ := (if s.croak.holdover then (s.beatInstant + s.periodNs : Int) else s.ieeeInstant n).toNat
        if now < at_ then s
        else match s.beatStep n s.croak.first with
          | .refused why => (s.updCroak fun k => { k with first := false }).raise 0x1002 0x300A [(s.beat, 8), (n, 8), (why, 1)]
          | how => s.beginBeat n at_ how false fun s => s)

end Sys2Proof.Machine
end

