-- ==== Sys2Proof/Machine/HostPort.lean ====
section
/-! DEFINITION. The host port: result slot releases, the BAR4 window, registers, link happenings, resets, IDE and MSI-X
(R292, R293, R322 to R335). -/
namespace Sys2Proof.Machine

/-- An answer to a host read: a completion with its data and Poisoned bit (kind 2), or Unsupported Request (kind 3). -/
def State.complete (s : State) (fn : FnNo) (off : Nat) (poison : Bool) (b : List Byte) : State :=
  s.send ⟨.host, 2, [fn.val, off, b2n poison], b⟩

/-- Whether the host port has power: hub function 0 past ABSENT. -/
def State.portPowered (s : State) : Bool := s.ust (hubUnit 0) != stAbsent

/-! ### Result slots (R293) -/

/-- The vat whose range holds a result slot. -/
def State.slotVat (s : State) (r : Nat) : Option VatNo := (List.finRange 16).find? fun v => s.slotIn v r

/-- A write to a result slot that is no release: ignored and counted (R293). -/
def State.staleRelease (s : State) (r : Nat) : State :=
  match s.slotVat r with
  | some v => s.countVat v 7
  | none => s

/-- A write of W0 of a result slot: its current generation releases a slot in a final state (R293). -/
def State.releaseSlot (s : State) (r : Nat) (value : Word) : State :=
  let x := s.rslot r
  if 2 ≤ x.w[1].toNat / 2 ^ 28 ∧ value = x.w[0] then s.setRslot r ⟨x.w.set 1 (x.w[1] &&& 0x0FFFFFFF#32)⟩
  else s.staleRelease r

/-- Whether a function's result window shows a slot (R325). -/
def State.slotSeen (s : State) (fn : FnNo) (r : Nat) : Bool :=
  decide (r < 4096) && (fn == 0 || s.slotIn ⟨fn.val - 1, by omega⟩ r)

/-- RESULT_SLOT_RELEASE (R293, R325, R328, R333). -/
def execResultSlotRelease (fn : FnNo) (slot : Nat) (value : Word) (secure : Bool) (s : State) : Host.Outcome State Fault Refusal :=
  s.clocked (if !s.fnExists fn then s
    else if !s.barOn fn 0 then s
    else if !s.ideOk fn secure then s.discardTlp fn 0
    else if !s.slotSeen fn slot then s
    else s.releaseSlot slot value)

/-! ### BAR4 (R326) -/

/-- Whether BAR4 of a function, once assigned, holds a range: the physical function's is 2^(0x1100:05) bytes, a virtual one's has the size common to
all of them (Table 17-2). -/
def State.inBar4 (s : State) (fn : FnNo) (off n : Nat) : Bool :=
  s.fnExists fn && s.barOn fn 2 && decide (off + n ≤ 2 ^ if fn = 0 then s.volAt (ek 0x1100 5) else s.host.vfBar)

/-- The end of a region of any enabled vat that holds an address. -/
def State.anyRegionEnd (s : State) (a : Nat) : Option Nat :=
  (List.range 16).findSome? fun v => if s.cfgAt (ek 0x2020 (v + 1)) = 1 then s.regionEnd v a else none

/-- Whether a range lies in the regions of enabled vats, going region by region. -/
def State.inAnyRegion (s : State) : Nat → Nat → Nat → Bool
  | 0, _, _ => false
  | fuel + 1, a, top =>
    if top ≤ a then true
    else match s.anyRegionEnd a with
      | some e => s.inAnyRegion fuel e top
      | none => false

/-- Whether a BAR4 access is within the regions it is checked against (R326). -/
def State.bar4Region (s : State) (fn : FnNo) (a n : Nat) : Bool :=
  if fn = 0 then s.inAnyRegion 129 a (a + n) else s.inRegions (fn.val - 1) a n

/-- The first byte of a range outside the regions of every enabled vat. -/
def State.outsideAny (s : State) : Nat → Nat → Nat → Option Nat
  | 0, a, _ => some a
  | fuel + 1, a, top =>
    if top ≤ a then none
    else match s.anyRegionEnd a with
      | some e => s.outsideAny fuel e top
      | none => some a

/-- Why a BAR4 access is refused, if it is: an invalid address, one outside the regions, or a die that does not answer
(R242, R249, R326). -/
def State.bar4Refusal (s : State) (fn : FnNo) (a n : Nat) : Option Nat :=
  if (s.invalidByte a n).isSome then some 0x0D02
  else if !s.bar4Region fn a n then some 0x0D03
  else if !s.reachable a n then some 0x0D02
  else none

/-- A refused BAR4 access: its event as R242 gives it, and 0x8700:05. -/
def State.bar4Refused (s : State) (fn : FnNo) (a n code : Nat) : State :=
  (if code = 0x0D02 then s.refuseInvalid a n 5
    else
      let b := (if fn = 0 then s.outsideAny 129 a (a + n) else s.firstOutside (fn.val - 1) 9 a (a + n)).getD a
      s.refuseAccess code (s.addrPath b) b 5 (if fn = 0 then 0xFF else fn.val - 1)).countHost 5 1

/-- The device address of a BAR4 offset, with the window base in force (R326). -/
def State.bar4Addr (s : State) (fn : FnNo) (off : Nat) : Nat := s.funcs[fn].winBase * 2 ^ 30 + off

/-- BAR4_READ (R326, R333): device bytes, or a poisoned completion of 0xFF. -/
def execBar4Read (fn : FnNo) (off : Nat) (len : Nat) (secure : Bool) (s : State) : Host.Outcome State Fault Refusal :=
  s.clocked <|
  let ones := List.replicate len 0xFF#8
  (if !s.inBar4 fn off len then s
    else if !s.ideOk fn secure then (s.discardTlp fn 4).send ⟨.host, 3, [fn.val, off], []⟩
    else
      let a := s.bar4Addr fn off
      match s.bar4Refusal fn a len with
      | some code => (s.bar4Refused fn a len code).complete fn off true ones
      | none =>
        let r := s.readHbm a len 5
        if r.1.any fun p => p.2 then r.2.complete fn off true ones
        else r.2.complete fn off false (r.1.map Prod.fst))

/-- BAR4_WRITE (R326, R333): device bytes written, or the write discarded. -/
def execBar4Write (fn : FnNo) (off : Nat) (data : List Byte) (secure : Bool) (s : State) : Host.Outcome State Fault Refusal :=
  s.clocked (if !s.inBar4 fn off data.length then s
    else if !s.ideOk fn secure then s.discardTlp fn 4
    else
      let a := s.bar4Addr fn off
      match s.bar4Refusal fn a data.length with
      | some code => s.bar4Refused fn a data.length code
      | none => s.writeHbm a data 5)

/-! ### MSI-X (R329, R330) -/

/-- The vectors of a function (R329). -/
def vectorsOf (fn : FnNo) : Nat := if fn = 0 then 128 else 120

/-- A vector unmasked: its pending bit, if set, becomes one message (R330). -/
def State.unmask (s : State) (fn : FnNo) (v : Nat) : State :=
  let bit := BitVec.twoPow 128 v
  let due := s.funcs[fn].masked.getLsbD v && s.funcs[fn].pend.getLsbD v
  let s := s.updFunc fn fun g => { g with masked := g.masked &&& ~~~bit, pend := if due then g.pend &&& ~~~bit else g.pend }
  if due then s.toHost fn 16 ⟨.msix, 0, [fn.val, v], []⟩ else s

/-- MSIX_VECTOR_UNMASK (R330, R333): a write to the vector's mask bit in BAR0. -/
def execMsixVectorUnmask (fn : FnNo) (w : VectorUnmask) (s : State) : Host.Outcome State Fault Refusal :=
  s.clocked (if !s.fnExists fn ∨ !s.barOn fn 0 ∨ vectorsOf fn ≤ w.vector then s
    else if !s.ideOk fn w.secure then s.discardTlp fn 0
    else s.unmask fn w.vector)

/-- A byte written to the MSI-X table: byte 12 of an entry holds its mask bit. -/
def State.msixByte (s : State) (fn : FnNo) (at_ : Nat) (b : Byte) : State :=
  let v := at_ / 16
  if vectorsOf fn ≤ v then s
  else
    let s := s.updFunc fn fun g => { g with msix := Sparse.set 0#8 g.msix at_ b }
    if at_ % 16 ≠ 12 then s
    else if b.getLsbD 0 then s.updFunc fn fun g => { g with masked := g.masked ||| BitVec.twoPow 128 v }
    else s.unmask fn v

/-! ### Registers (R325, Tables 17-3 and 17-4) -/

/-- A register's bytes with a write's bytes laid over them, as one number; `at_` is the register's offset. -/
def overlay (at_ n old off : Nat) (data : List Byte) : Nat :=
  leNat (((leBytes old n).zipIdx).map fun p =>
    if off ≤ at_ + p.2 ∧ at_ + p.2 < off + data.length then data.getD (at_ + p.2 - off) 0#8 else p.1)

/-- Whether a write touches a register. -/
def touches (at_ n off : Nat) (data : List Byte) : Bool := decide (off < at_ + n ∧ at_ < off + data.length)

/-- A write to the host port registers (Table 17-4): window base, enables, causes (write one to clear), and the request
length, which submits the mailbox request or, while Busy is 1, is ignored and counted. -/
def State.writeRegs (s : State) (fn : FnNo) (off : Nat) (data : List Byte) : State :=
  let g := s.funcs[fn]
  let s := if touches 0x08 8 off data then
      s.updFunc fn fun g => { g with winBase := overlay 0x08 8 (g.winBase * 2 ^ 30) off data / 2 ^ 30 % 2 ^ 10 }
    else s
  let s := s.updFunc fn fun g => { g with
    enables := BitVec.ofNat 6 (overlay 0x10 1 g.enables.toNat off data)
    causes := g.causes &&& ~~~BitVec.ofNat 6 (overlay 0x18 1 0 off data) }
  if overlay 0x30 2 0 off data = 0 then s
  else if g.busy then s.countHost 6 1
  else s.updFunc fn fun g => { g with busy := true, reqLen := overlay 0x30 2 0 off data }

/-- The base of each part of BAR0 by function (Table 17-3): mailbox requests, result slots, MSI-X table. -/
def bar0Request (_fn : FnNo) : Nat := 0x20000
/-- Result slots. -/
def bar0Results (fn : FnNo) : Nat := if fn = 0 then 0x100000 else 0x40000
/-- The MSI-X table. -/
def bar0Msix (fn : FnNo) : Nat := if fn = 0 then 0x800000 else 0x80000

/-- A write into the result slots: a dword at W0 is a release, anything else is stale (R293). -/
def State.writeSlots (s : State) (fn : FnNo) (rel : Nat) (data : List Byte) : State :=
  let first := if fn = 0 then 0 else s.cfgAt (ek 0x2024 fn.val)
  let r := first + rel / 64
  if !s.slotSeen fn r then s
  else if rel % 64 = 0 ∧ data.length = 4 then s.releaseSlot r (BitVec.ofNat 32 (leNat data))
  else s.staleRelease r

/-- The bytes of a function's BAR0, BAR2 and BAR4 (Table 17-2): 64-bit registers all, and prefetchable except BAR0. -/
def State.barSize (s : State) (vf : Bool) (k : Fin 3) : Nat :=
  match k, vf with
  | 0, false => 2 ^ 24
  | 0, true => 2 ^ 20
  | 1, false => 2 ^ 26
  | 1, true => 2 ^ 22
  | _, false => 2 ^ s.volAt (ek 0x1100 5)
  | _, true => 2 ^ s.host.vfBar

/-- The attribute bits of a BAR as its low four bits read: memory, 64-bit, prefetchable except BAR0 (R324). -/
def barBits (k : Fin 3) : Nat := if k = 0 then 4 else 12

/-- An address a BAR is assigned: 64 bits, aligned to the BAR's size. -/
def barPlace (size n : Nat) : Option Nat := some (n % 2 ^ 64 / size * size)

/-- A value written to the configuration space (R322, R324): taken where the option of Table 17-1 or 17-2 allows it, by the physical
function, which holds these registers for every function (PRESUMED, assumption 112). The target width moves the link between L0 and L0p in flit
mode, which is in force at 64 and 128 GT/s. -/
def State.writeConfig (s : State) (r : ConfigReg) (n : Nat) : State :=
  match r with
  | .bar k => { s with host := { s.host with bars := s.host.bars.set k (barPlace (s.barSize false k) n) } }
  | .vfBar k => { s with host := { s.host with vfBars := s.host.vfBars.set k (barPlace (s.barSize true k) n) } }
  | .maxPayload => if [128, 256, 512].contains n then { s with host := { s.host with maxPayload := n } } else s
  | .maxReadRequest => if [128, 256, 512, 1024, 2048, 4096].contains n then { s with host := { s.host with maxRead := n } } else s
  | .barSize => if 30 ≤ n ∧ n ≤ 39 then s.setVol (ek 0x1100 5) n else s
  | .vfBarSize => if 30 ≤ n ∧ n ≤ 39 then { s with host := { s.host with vfBar := n } } else s
  | .linkWidth =>
    if s.hostUp ∧ 64 ≤ s.volAt (ek 0x1100 1) ∧ [16, 8, 4].contains n ∧ n ≤ s.host.trained then
      (s.setVol (ek 0x1100 2) n).setVol (ek 0x1100 3) (if n < s.host.trained then 3 else 2)
    else s

/-- A write into BAR0 (R325); reserved and read-only space ignores it. -/
def State.writeBar0 (s : State) (fn : FnNo) (off : Nat) (data : List Byte) : State :=
  if off < 0x1000 then s.writeRegs fn off data
  else if bar0Request fn ≤ off ∧ off < bar0Request fn + 0x10000 then
    s.updFunc fn fun g => { g with
      req := (cellsAt (off - bar0Request fn) data).foldl (fun m c => if c.1 < 0x10000 then Sparse.set 0#8 m c.1 c.2 else m) g.req }
  else if bar0Results fn ≤ off ∧ off < bar0Results fn + 0x40000 then s.writeSlots fn (off - bar0Results fn) data
  else if bar0Msix fn ≤ off ∧ off < bar0Msix fn + 0x800 then
    (cellsAt (off - bar0Msix fn) data).foldl (fun s c => s.msixByte fn c.1 c.2) s
  else s

/-- REGISTER_WRITE (R322, R325, R333): a write into BAR0, or into the configuration space, which IDE does not cover. -/
def execRegisterWrite (fn : FnNo) (w : HostReg) (data : List Byte) (secure : Bool) (s : State) : Host.Outcome State Fault Refusal :=
  s.clocked (if !s.fnExists fn then s
    else match w with
    | .bar0 off => if !s.barOn fn 0 then s else if !s.ideOk fn secure then s.discardTlp fn 0 else s.writeBar0 fn off data
    | .config r => if fn = 0 ∧ s.portPowered then s.writeConfig r (leNat data) else s)

/-! ### Reads of BAR0 and BAR2 (R282, R292, R325, R328): the table has no row for them; what a host read does to this state -/

/-- The registers of a function as one number, byte 0x0000 lowest (Table 17-4). -/
def State.regsImage (s : State) (fn : FnNo) : Nat :=
  let g := s.funcs[fn]
  fn.val + (if fn = 0 then 0xFF else fn.val - 1) * 2 ^ 8 + g.winBase * 2 ^ (8 * 0x08 + 30) + g.enables.toNat * 2 ^ (8 * 0x10)
    + g.causes.toNat * 2 ^ (8 * 0x18) + s.beat * 2 ^ (8 * 0x20) + (if fn = 0 then s.evCount else 0) * 2 ^ (8 * 0x28)
    + g.respLen * 2 ^ (8 * 0x38) + b2n g.busy * 2 ^ (8 * 0x38 + 31)

/-- One byte of the MSI-X table, its mask bit as it stands. -/
def State.msixRead (s : State) (fn : FnNo) (i : Nat) : Byte :=
  let b := Sparse.get 0#8 s.funcs[fn].msix i
  if vectorsOf fn ≤ i / 16 then 0#8
  else if i % 16 = 12 then (b &&& 0xFE#8) ||| BitVec.ofNat 8 (b2n (s.funcs[fn].masked.getLsbD (i / 16)))
  else b

/-- One byte of a function's BAR0 (Table 17-3); reserved space, and a result window beyond its vat's range, read zero. -/
def State.bar0Byte (s : State) (fn : FnNo) (off : Nat) : Byte :=
  let g := s.funcs[fn]
  if off < 0x40 then BitVec.ofNat 8 (s.regsImage fn / 2 ^ (8 * off))
  else if fn = 0 ∧ 0x10000 ≤ off ∧ off < 0x20000 then (s.eventSlot ((off - 0x10000) / 32)).getD (off % 32) 0#8
  else if bar0Request fn ≤ off ∧ off < bar0Request fn + 0x10000 then Sparse.get 0#8 g.req (off - bar0Request fn)
  else if 0x30000 ≤ off ∧ off < 0x40000 then Sparse.get 0#8 g.resp (off - 0x30000)
  else if bar0Results fn ≤ off ∧ off < bar0Results fn + 0x40000 then
    let i := off - bar0Results fn
    let r := (if fn = 0 then 0 else s.cfgAt (ek 0x2024 fn.val)) + i / 64
    if s.slotSeen fn r then BitVec.ofNat 8 ((s.rslot r).w[i % 64 / 4].toNat / 2 ^ (8 * (i % 4))) else 0#8
  else if bar0Msix fn ≤ off ∧ off < bar0Msix fn + 0x800 then s.msixRead fn (off - bar0Msix fn)
  else if off < bar0Msix fn / 8 * 9 + 16 ∧ bar0Msix fn / 8 * 9 ≤ off then BitVec.ofNat 8 (g.pend.toNat / 2 ^ (8 * (off % 16)))
  else 0#8

/-- A host read of BAR0 (0) or of a command aperture in BAR2 (1): its bytes, zero throughout an aperture (R282, R325); outside IDE it is discarded,
EV-0x1103 raised and Unsupported Request answered (R333). -/
def State.hostRead (s : State) (fn : FnNo) (k : Fin 2) (off n : Nat) (secure : Bool) : State :=
  if !s.fnExists fn ∨ !s.barOn fn (k.castLE (by decide)) then s
  else if !s.ideOk fn secure then (s.discardTlp fn (2 * k.val)).send ⟨.host, 3, [fn.val, off], []⟩
  else s.complete fn off false ((List.range n).map fun i => if k = 0 then s.bar0Byte fn (off + i) else 0#8)

/-! ### Identity and options (R322, R323, Table 17-1) -/

/-- The identity registers of a function (R323). -/
structure Identity where
  vendor : Nat
  device : BitVec 16
  classCode : BitVec 24
  revision : Byte
  deriving DecidableEq, Repr

/-- A function's identity registers: the Vendor ID is the part's entry 0x1100:0A. -/
def State.identity (s : State) (fn : FnNo) : Identity :=
  ⟨s.cfgAt (ek 0x1100 10), if fn = 0 then 0x1248#16 else 0x1249#16, 0x120000#24, 0xB0#8⟩

/-- The optional features Table 17-1 names. -/
inductive PcieOption where
  | flitMode | l0p | l1 | relaxedOrdering | idOrdering | errorReporting | functionReset | srIov | resizableBar | vfResizableBar
  | ide | translation | pageRequest | pasid | tdisp | atomics | multicast | timeMeasurement
  deriving DecidableEq, Repr

/-- Whether the capability structures advertise an option; every one that is not supported is absent (R322). -/
def PcieOption.advertised : PcieOption → Bool
  | .l1 | .translation | .pageRequest | .pasid | .tdisp | .atomics | .multicast | .timeMeasurement => false
  | .flitMode | .l0p | .relaxedOrdering | .idOrdering | .errorReporting | .functionReset | .srIov | .resizableBar | .vfResizableBar
  | .ide => true

/-! ### Link happenings (R333, R334, Table 17-5) -/

/-- Whether a host-bound message is the copy of a record that a ring still holds (R392, R411). -/
def State.isCopy (s : State) (h : HostBound) : Bool :=
  h.flow == 16 && (s.audit.contains h.msg.data || s.events.any fun e => e.bytes == h.msg.data)

/-- Flows of the host-bound queue emptied and their reads at an end; each discarded write is counted, and discarded copies of ring records are
remembered for when the ring overwrites them (R334, R335, R392, R411). -/
def State.emptyFlows (s : State) (p : FnNo → Bool) : State :=
  let gone := s.host.held.filter fun x => p x.fn
  let writes := (gone.filter fun x => !x.isRead).length
  ({ s with host := { s.host with
      held := s.host.held.filter fun x => !p x.fn
      asked := s.host.asked.filter fun x => !p x.fn
      lost := s.host.lost ++ (gone.filter s.isCopy).map fun x => x.msg.data } } : State).countHost 4 writes

/-- Swaps in flight of the vats a test picks end under R186, with a port status the spec does not number: it is free. -/
def State.endSwaps (s : State) (p : VatNo → Bool) : State :=
  (List.finRange 64).foldl (fun s b =>
    let q := s.seqs[b]
    if (q.state == 2 || q.state == 4) && p q.vat then
      let f := s.free
      f.2.swapFail b (f.1 % 256)
    else s) s

/-- The link's rate and width as training gave them, as entries (Table 17-6). -/
def State.setLink (s : State) (state rate width : Nat) : State :=
  ((({ s with host := { s.host with trained := width } } : State).setVol (ek 0x1100 1) rate).setVol (ek 0x1100 2) width).setVol (ek 0x1100 3) state

/-- A rate and width of Table 17-1; 2.5 GT/s stands as 2 or 3 in the whole number of 0x1100:01 (DESIGN CHOICE, assumption 112). -/
def linkMode (rate width : Nat) : Bool := [2, 3, 5, 8, 16, 32, 64, 128].contains rate && [16, 8, 4].contains width

/-- Whether a rate and width reach the minimum link of 0x1100:07. -/
def State.linkEnough (s : State) (rate width : Nat) : Bool :=
  decide (s.cfgAt (ek 0x1100 7) / 256 ≤ rate ∧ s.cfgAt (ek 0x1100 7) % 256 ≤ width)

/-- HOST_LINK_TRAINED (R334): training ends at or above the minimum, and the link enters L0. -/
def execHostLinkTrained (rate : Nat) (width : Nat) (s : State) : Host.Outcome State Fault Refusal :=
  s.clocked (if s.portPowered && linkMode rate width && s.linkEnough rate width then (s.setLink 2 rate width).flushHost else s)

/-- HOST_LINK_BELOW_MINIMUM (R334): the link runs at the lower rate under EV-0x1101. -/
def execHostLinkBelowMinimum (rate : Nat) (width : Nat) (s : State) : Host.Outcome State Fault Refusal :=
  s.clocked (if s.portPowered && linkMode rate width && !s.linkEnough rate width then
      ((s.setLink 2 rate width).raise 0x1101 0x3000 [(rate, 1), (width, 1)]).flushHost
    else s)

/-- HOST_LINK_RECOVERY (R334): a link that is up comes back to L0, its configuration kept; what was held resumes in
order, EV-0x1100. -/
def execHostLinkRecovery (rate : Nat) (width : Nat) (s : State) : Host.Outcome State Fault Refusal :=
  s.clocked (if !s.hostUp ∨ !linkMode rate width then s
    else
      let old := (s.volAt (ek 0x1100 1), s.volAt (ek 0x1100 2))
      (((s.setLink 2 rate width).countHost 1 1).raise 0x1100 0x3000 [(old.1, 1), (old.2, 1), (rate, 1), (width, 1)]).flushHost)

/-- A function's configuration space and interrupt registers reset, its partly assembled frames discarded, its mailbox left
(R334). -/
def Func.linkReset (g : Func) : Func :=
  { Func.reset with reqLen := g.reqLen, respLen := g.respLen, busy := g.busy, req := g.req, resp := g.resp }

/-- HOST_LINK_DOWN (R334): link down, hot reset or PERST_N after start-up. -/
def execHostLinkDown (s : State) : Host.Outcome State Fault Refusal :=
  s.clocked (if !s.portPowered then s
    else
      let s := (s.setVol (ek 0x1100 3) 0).countHost 2 1
      let s := (s.emptyFlows fun _ => true).endSwaps fun _ => true
      let s := { s with funcs := s.funcs.map Func.linkReset, host := { HostPort.reset with
        tlpBeat := s.host.tlpBeat, served := s.host.served, waiting := s.host.waiting, lost := s.host.lost, late := s.host.late } }
      (s.setVol (ek 0x1100 4) 0).setVol (ek 0x1100 5) 39)

/-- A function reset whole: registers, MSI-X, mailbox and assembly buffers. -/
def State.resetFunc (s : State) (f : FnNo) : State := s.updFunc f fun _ => Func.reset

/-- Virtual functions beyond the first `n` cease to exist. -/
def State.resetVfs (s : State) (n : Nat) : State :=
  (List.finRange 17).foldl (fun s f => if n < f.val then s.resetFunc f else s) s

/-- FLR_PHYSICAL (R334): the physical function reset, BAR sizes and the read request size with it (DESIGN CHOICE, assumption 112), VF Enable
cleared, its flows emptied, its swaps ended. -/
def execFlrPhysical (s : State) : Host.Outcome State Fault Refusal :=
  s.clocked (if !s.portPowered then s
    else
      let mine (v : VatNo) : Bool := s.vatFn v == 0
      let s := (s.emptyFlows fun f => f == 0).endSwaps mine
      let s := (s.resetFunc 0).resetVfs 0
      (({ s with host := { s.host with
        vfEnable := false, maxRead := 512, vfBar := 34, bars := HostPort.reset.bars, vfBars := HostPort.reset.vfBars } } : State).setVol (ek 0x1100 4) 0).setVol
        (ek 0x1100 5) 39)

/-- FLR_VIRTUAL (R334): the function reset, its flows emptied, its swaps ended, its vat stopped at the next beat, EV-0x1104. -/
def execFlrVirtual (n : Fin 16) (s : State) : Host.Outcome State Fault Refusal :=
  s.clocked <|
  let f : FnNo := ⟨n.val + 1, by omega⟩
  (if !s.fnExists f then s
    else
      let s := ((s.emptyFlows fun x => x == f).endSwaps fun v => v == n).resetFunc f
      ({ s with runReq := s.runReq ++ [(n.val, 0)] } : State).raiseVat n 0x1104 0x3000 [(f.val, 1), (n.val, 1)])

/-- VF_ENABLE_WRITE (R324): virtual functions 1 to NumVFs exist while VF Enable is set; NumVFs is at most 16. -/
def execVfEnableWrite (num : Nat) (enable : Bool) (s : State) : Host.Outcome State Fault Refusal :=
  s.clocked (if 16 < num then s
    else
      let n := if enable then num else 0
      let before := if s.host.vfEnable then s.volAt (ek 0x1100 4) else 0
      ((({ s with host := { s.host with vfEnable := enable } } : State).resetVfs (min n before))).setVol (ek 0x1100 4) n)

/-! ### IDE (R333) -/

/-- IDE_INTEGRITY_FAILURE (R333): a stream in the secure state leaves it: EV-0x1102, its swaps end, its other flows are held. A
link stream's failure is one command for each function it carries. -/
def execIdeIntegrityFailure (stream : Nat) (fn : FnNo) (s : State) : Host.Outcome State Fault Refusal :=
  s.clocked (if !s.funcs[fn].secure then s
    else
      let s := s.updFunc fn fun g => { g with secure := false, ideHold := true }
      let s := (s.countHost 3 1).raise 0x1102 0x3000 [(stream, 1), (fn.val, 1)]
      let mine (v : VatNo) : Bool := s.vatFn v == fn
      s.endSwaps mine)

/-- IDE_KEY_PROGRAMMING (R333): new keys bring a function's stream into the secure state and release what it held. -/
def execIdeKeyProgramming (_stream : Nat) (fn : FnNo) (s : State) : Host.Outcome State Fault Refusal :=
  s.clocked (if !s.fnExists fn then s
    else (s.updFunc fn fun g => { g with secure := true, ideHold := false }).flushHost)

end Sys2Proof.Machine
end

