-- ==== Sys2Proof/Machine/Codec.lean ====
section
/-! DEFINITION. Video encoding and decoding (R361 to R373): contexts, frame records, engines, output and statistics rings. The coding
itself is that of the standards of Table 19-1, left to constants of Config (DESIGN CHOICE, assumption 29). -/
namespace Sys2Proof.Machine

/-! ### Engines and contexts -/

/-- The number of an engine: two of each slice, encode first. -/
def engineNo (k : Fin 4) (enc : Bool) : Fin 8 := ⟨2 * k.val + b2n (!enc), by unfold b2n; split <;> omega⟩

/-- The slice of an engine. -/
def sliceOf (e : Fin 8) : Fin 4 := ⟨e.val / 2, by omega⟩
/-- Whether an engine encodes. -/
def encodes (e : Fin 8) : Bool := e.val % 2 == 0
/-- The unit of a slice (Table 2-2). -/
def sliceUnit (k : Fin 4) : UnitNo := ⟨272 + k.val, by omega⟩
/-- The path of a slice. -/
def slicePath (k : Fin 4) : Nat := 0x300C + k.val

/-- An engine changed. -/
def State.updEngine (s : State) (e : Fin 8) (f : CodecEngine → CodecEngine) : State := { s with codecs := s.codecs.set e (f s.codecs[e]) }

/-- A context. -/
def State.ctx (s : State) (c : Nat) : CodecCtx := Sparse.get CodecCtx.closed s.contexts c

/-- A context changed; its entry of 0xE100 follows (Table 19-7). -/
def State.updCtx (s : State) (c : Nat) (f : CodecCtx → CodecCtx) : State :=
  let x := f (s.ctx c)
  ({ s with contexts := Sparse.set CodecCtx.closed s.contexts c x } : State).setVol (ek (0xE100 + c / 128) (c % 128 + 1))
    (x.state * 2 ^ 28 + x.slice * 2 ^ 24)

/-- A codec statistic raised (R372). -/
def State.countCodec (s : State) (k : Fin 4) (sub : Nat) : State := s.count (ek 0x8900 sub) 1 0x1303 (slicePath k) [(sub, 2)]

/-- The vat a slice serves (R362). -/
def State.sliceVat (s : State) (k : Fin 4) : Option VatNo :=
  (List.finRange 16).find? fun v => (s.cfgAt (ek 0x2028 (v.val + 1))).testBit (12 + k.val)

/-! ### Records (Table 19-2) -/

/-- A field of a word of a record. -/
def recField (ws : List Word) (n hi lo : Nat) : Nat := (ws.getD n 0#32).toNat / 2 ^ lo % 2 ^ (hi - lo + 1)
/-- A device address in words n and n + 1. -/
def recAddr (ws : List Word) (n : Nat) : Nat := recField ws n 31 0 + 2 ^ 32 * recField ws (n + 1) 7 0
/-- The context of a record. -/
def recCtx (r : FrameRecord) : Nat := recField r.words 0 15 8
/-- The kind of a record: 0 encode, 1 decode, 2 close. -/
def recKind (r : FrameRecord) : Nat := recField r.words 0 7 5
/-- OPEN, KEY and END. -/
def recOpen (r : FrameRecord) : Bool := recField r.words 0 4 4 == 1
/-- KEY. -/
def recKey (r : FrameRecord) : Bool := recField r.words 0 3 3 == 1
/-- END. -/
def recEnd (r : FrameRecord) : Bool := recField r.words 0 2 2 == 1
/-- The frame number. -/
def recNumber (r : FrameRecord) : Word := r.words.getD 1 0#32

/-- Luma width and height of a stream's parameters. -/
def recWidth (ws : List Word) : Nat := recField ws 3 31 16
/-- Height. -/
def recHeight (ws : List Word) : Nat := recField ws 3 15 0
/-- Pitch. -/
def recPitch (ws : List Word) : Nat := recField ws 4 31 16
/-- Lookahead or B-frames, the greater: how many later frames an output waits for (R367). -/
def recDelay (ws : List Word) : Nat := max (recField ws 2 15 11) (recField ws 2 10 9)

/-- Bytes of a surface: pitch × 3H/2 (R364). -/
def surfaceBytes (ws : List Word) : Nat := recPitch ws * (3 * recHeight ws) / 2

/-- Block rows of a frame, and its superblocks (R364, R367). -/
def blockRows (ws : List Word) : Nat := (recHeight ws + 63) / 64
/-- Superblocks. -/
def superblocks (ws : List Word) : Nat := (recWidth ws + 63) / 64 * blockRows ws

/-- The bytes a context area needs (R363). -/
def areaNeeded (enc : Bool) (ws : List Word) : Nat :=
  let h := (recHeight ws + 63) / 64 * 64
  let n := if enc then 4 + recField ws 2 15 11 + recField ws 2 10 9 else 9
  (65536 + n * (recPitch ws * (3 * h) / 2) + 65535) / 65536 * 65536

/-- Whether the codec, profile, depth, level and picture are those of the engine's column of Table 19-1. -/
def tableAllows (enc : Bool) (ws : List Word) : Bool :=
  let codec := recField ws 2 31 30
  let profile := recField ws 2 29 27
  let level := recField ws 2 26 20
  let deep := recField ws 2 19 19 == 1
  let w := recWidth ws
  let h := recHeight ws
  decide (128 ≤ w ∧ w ≤ 8192 ∧ 128 ≤ h ∧ h ≤ 8192 ∧ w % 8 = 0 ∧ h % 8 = 0) &&
    match codec with
    | 0 => profile == 0 && (if enc then decide (level ≤ 51 ∧ w ≤ 4096 ∧ h ≤ 2304) else decide (level ≤ 60 ∧ w ≤ 8192 ∧ h ≤ 4352))
    | 1 => (if enc then decide (profile ≤ 1 ∧ level ≤ 51) else decide (profile ≤ 2 ∧ level ≤ 60)) && (!deep || profile == 1)
    | 2 => decide (profile ≤ 2 ∧ level ≤ 52) && !deep
    | _ => false

/-- Whether a stream's parameters are supported (R361, R363, R364, Table 19-4). -/
def paramsOk (enc : Bool) (ws : List Word) : Bool :=
  let bytes := if recField ws 2 19 19 = 1 then 2 else 1
  let rate := recField ws 2 18 16
  tableAllows enc ws && recPitch ws % 64 == 0 && decide (recWidth ws * bytes ≤ recPitch ws)
    && (!enc || (decide (rate ≤ 3) && decide (recField ws 2 15 11 ≤ 16) && (rate != 3 || decide (recField ws 2 7 0 ≤ 63))))
    && decide (areaNeeded enc ws ≤ recField ws 9 31 0 * 65536) && Config.codecLevelOk enc ws

/-! ### Codec rings (Table 19-3) -/

/-- The words of a ring descriptor, read on behalf of a vat. -/
def State.ringDesc (s : State) (v ring : Nat) : List Nat × State :=
  let r := s.agentRead v ring 32 4
  ((List.range 8).map fun i => leNat (((r.1.map Prod.fst).drop (4 * i)).take 4), r.2)

/-- A word of a descriptor. -/
def dw (d : List Nat) (i : Nat) : Nat := d.getD i 0
/-- Whether a ring lies in host memory. -/
def ringHost (d : List Nat) : Bool := (dw d 0).testBit 31
/-- A ring's bytes. -/
def ringBytes (d : List Nat) : Nat := 2 ^ (dw d 0 % 32)
/-- An address in two words of a descriptor. -/
def ringAddr (d : List Nat) (i : Nat) : Nat := dw d i + 2 ^ 32 * (dw d (i + 1) % 256)

/-- Whether the device addresses a ring names lie in a vat's regions (R242, R363). -/
def State.ringOk (s : State) (v ring : Nat) : Bool :=
  s.inRegions v ring 32 &&
    (let d := (s.ringDesc v ring).1
     decide (16 ≤ dw d 0 % 32) && (ringHost d ||
       (s.inRegions v (ringAddr d 1) (ringBytes d) && s.inRegions v (ringAddr d 3) 4 && s.inRegions v (ringAddr d 5) 4)))

/-- An index of a device ring. -/
def State.ringIndex (s : State) (v a : Nat) : Nat × State :=
  let r := s.agentRead v a 4 4
  (leNat (r.1.map Prod.fst), r.2)

/-- Bytes put into a ring at a byte count, wrapping at its end; host-bound writes are one payload each (R331, R365). -/
def State.ringPut (s : State) (v : VatNo) (d : List Nat) (count : Nat) (b : List Byte) : State :=
  let size := ringBytes d
  let at_ := count % size
  let n := min b.length (size - at_)
  let parts := [(ringAddr d 1 + at_, b.take n), (ringAddr d 1, b.drop n)].filter fun p => !p.2.isEmpty
  parts.foldl (fun s p =>
    if ringHost d then s.postHost 4 v p.1 p.2 []
    else s.agentWrite v.val p.1 p.2 4) s

/-- The producer index written once the entry is visible (R365). -/
def State.ringAdvance (s : State) (v : VatNo) (ring : Nat) (d : List Nat) (count : Nat) : State :=
  let b := leBytes (count % 2 ^ 32) 4
  if ringHost d then
    ({ s with rings := Sparse.set 0 s.rings ring (count % 2 ^ 32) } : State).postHost 0 v (ringAddr d 3) b []
  else s.agentWrite v.val (ringAddr d 3) b 4

/-- One entry into its ring, if the consumer index leaves it room (R365, R366): a device ring's index is read now, a host ring's is
the one its last read returned, and a host ring without room is read again. The frame rennet is signalled after the entry is visible. -/
def State.tryEntry (s : State) (e : Fin 8) (v : VatNo) (x : RingEntry) (polled : Option Word) : Bool × State :=
  let r := s.ringDesc v.val x.ring
  let d := r.1
  let s := r.2
  let s := if ringHost d ∧ polled.isSome then s.readsBack v (· == ringAddr d 5) else s
  let prod := if ringHost d then (Sparse.get 0 s.rings x.ring, s) else s.ringIndex v.val (ringAddr d 3)
  let cons := if ringHost d then (polled.map BitVec.toNat, prod.2)
    else (fun (p : Nat × State) => (some p.1, p.2)) (prod.2.ringIndex v.val (ringAddr d 5))
  let again := if ringHost d then cons.2.askHost v (ringAddr d 5) 4 else cons.2
  match cons.1 with
  | none => (false, again)
  | some c =>
    let used := (prod.1 + 2 ^ 32 - c) % 2 ^ 32
    if ringBytes d < used + x.bytes.length then (false, again)
    else
      let s := (cons.2.ringPut v d prod.1 x.bytes).ringAdvance v x.ring d (prod.1 + x.bytes.length)
      (true, match x.rennet with
        | some n => s.signalLocal (.codec e) (slicePath (sliceOf e)) n 1
        | none => s)

/-! ### Reports (R366, R370) -/

/-- Bytes padded to 64. -/
def pad64 (b : List Byte) : List Byte := b ++ zeros ((64 - b.length % 64) % 64)

/-- One statistics record. -/
def statBytes (x : Config.SbStat) : List Byte :=
  wordsLE [x.motion, x.intra, x.inter] ++ bytesOf [x.bits.toNat * 2 ^ 16 + x.qp.toNat * 2 ^ 8 + x.mode.toNat]

/-- A frame's statistics as written: one for each superblock; both costs zero where decoded, no inter cost on a key frame. -/
def statsOf (enc key : Bool) (ws : List Word) (o : Config.CodecOut) : List Config.SbStat :=
  ((o.stats ++ List.replicate (superblocks ws) default).take (superblocks ws)).map fun (x : Config.SbStat) =>
    if !enc then { x with intra := 0#32, inter := 0#32 }
    else if key then { x with inter := 0xFFFFFFFF#32 } else x

/-- A sum of costs divided by 256, saturating (Table 19-5). -/
def costSum (l : List Word) : Nat := min (sumNat (l.map BitVec.toNat) / 256) (2 ^ 32 - 1)

/-- Flags of a report: KEY, ERROR, POISON, SKIPPED, OVERFLOW, END. -/
def reportFlags (key error poison skipped past last : Bool) : Nat :=
  b2n key * 128 + b2n error * 64 + b2n poison * 32 + b2n skipped * 16 + b2n past * 8 + b2n last * 4

/-- A report and its payload, padded (Table 19-5). -/
def State.reportBytes (s : State) (c flags number : Nat) (qp : Byte) (intra inter : Nat) (payload : List Byte) : List Byte :=
  pad64 (bytesOf [0x4B52 * 2 ^ 16 + c * 2 ^ 8 + flags, number, payload.length, qp.toNat * 2 ^ 24, intra, inter]
    ++ leBytes s.beat 8 ++ zeros 32 ++ payload)

/-- A surface of mid-grey: 0x80, or 0x200 at 10 bit in bits 15 to 6 (R364, R371). -/
def midGrey (ws : List Word) : List Byte :=
  if recField ws 2 19 19 = 1 then (List.replicate (surfaceBytes ws / 2) [0x00#8, 0x80#8]).flatten
  else List.replicate (surfaceBytes ws) 0x80#8

/-- The first byte of block row r of a surface (R364). -/
def rowStart (ws : List Word) (r : Nat) : Nat := min (64 * r) (recHeight ws) * recPitch ws * 3 / 2

/-- Samples as the decoder writes them: at 10 bit the low six bits of each are zero (R364). -/
def samplesOf (ws : List Word) (b : List Byte) : List Byte :=
  if recField ws 2 19 19 = 1 then b.zipIdx.map fun p => if p.2 % 2 = 0 then p.1 &&& 0xC0#8 else p.1 else b

/-- A decoded surface: block rows an error left undecoded are the nearest reference's, or mid-grey (R371). -/
def surfaceOf (ws : List Word) (o : Config.CodecOut) : List Byte :=
  let n := surfaceBytes ws
  let got := samplesOf ws ((o.payload ++ zeros n).take n)
  match o.error with
  | none => got
  | some r =>
    let at_ := rowStart ws r
    let rest := match o.reference with
      | some b => samplesOf ws ((b ++ zeros n).take n)
      | none => midGrey ws
    got.take at_ ++ rest.drop at_

/-- The largest QP of a codec: 255 of AV1, 51 of HEVC and H.264, as their standards have it. -/
def maxQp (ws : List Word) : Byte := if recField ws 2 31 30 = 0 then 255#8 else 51#8

/-- A frame as it is coded, and whether it was coded again at the largest QP, as a bit stream over 8 MiB and a CBR frame that would
underflow its buffer are (R369). -/
def codedFrame (ws : List Word) (stream : List (List Word × List Byte)) (number : Nat) (key : Bool) : Config.CodecOut × Bool :=
  let o := Config.codecEncode stream number key
  if 2 ^ 23 < o.payload.length ∨ (recField ws 2 18 16 = 1 ∧ o.underflow = true) then
    let m := Config.codecEncodeMax stream number key
    ({ m with qp := maxQp ws, stats := m.stats.map fun (x : Config.SbStat) => { x with qp := maxQp ws } }, true)
  else (o, false)

/-! ### What has arrived (R367, R369) -/

/-- The records of a context's stream that follow a number, in order, out of those that wait: END is the last. -/
def followOn (l : List FrameRecord) (n : Word) : Nat → List FrameRecord
  | 0 => []
  | fuel + 1 =>
    match l.find? fun r => recNumber r == n with
    | some r => r :: if recEnd r then [] else followOn l (n + 1#32) fuel
    | none => []

/-- The records of a context's stream that have reached an engine and are not taken: on each engine those before a record that closes the
context or opens it anew. -/
def State.arrivals (s : State) (c : Nat) : List FrameRecord :=
  let l := (List.finRange 8).flatMap fun e =>
    (s.codecs[e].queue.filter fun r => recCtx r == c).takeWhile fun r => recKind r != 2 && !recOpen r
  if (s.ctx c).ended then [] else followOn l ((s.ctx c).last + 1#32) l.length

/-- The records and bytes a frame's coding depends on: its stream up to the last frame its lookahead and references reach (R367, R369). -/
def State.streamFor (s : State) (c : Nat) (x : CodecCtx) (number : Nat) : List (List Word × List Byte) :=
  let back := (x.last.toNat + 2 ^ 32 - number) % 2 ^ 32
  let all := x.stream ++ (s.arrivals c).map fun r => (r.words, if r.poison then [] else r.data)
  all.take (x.stream.length - back + recDelay x.words)

/-- The entries of one frame or picture that leaves: statistics first, then the report (R366, R370). A dropped frame and a skipped picture
have no payload; what their statistics hold no rule states, and is free (DESIGN CHOICE, assumption 70). -/
def State.entriesOf (s : State) (c : Nat) (x : CodecCtx) (f : CodecFrame) (last : Bool) : List RingEntry :=
  let out := recAddr x.words 10
  let stats := recAddr x.words 12
  let rennet := if recField x.words 14 15 15 = 1 then some (recField x.words 14 31 16) else none
  let coded := codedFrame x.words (s.streamFor c x f.number) f.number f.key
  let o := match f.picture with
    | some p => p
    | none => coded.1
  let skipped := !x.enc && x.skip && !o.key
  let error := !x.enc && (o.error.isSome || f.poison)
  let empty := (x.enc && f.poison) || skipped
  let key := if x.enc then f.key else o.key
  let told := if empty then Config.codecUncoded x.stream f.number else o
  let sbs := statsOf x.enc key x.words told
  let payload := if empty then [] else if x.enc then o.payload else surfaceOf x.words o
  let flags := reportFlags (key && !empty) error f.poison skipped (x.enc && !empty && coded.2) last
  let report := s.reportBytes c flags f.number told.qp (costSum (sbs.map fun b => b.intra))
    (costSum (sbs.map fun b => b.inter)) payload
  (if stats = 0 then [] else [⟨stats, pad64 (sbs.flatMap statBytes), none⟩]) ++ [⟨out, report, rennet⟩]

/-! ### Frames that leave -/

/-- One frame or picture leaves its context: its entries, and the context after it; an error has the pictures after it skipped to
the next key picture (R371). -/
def State.leave1 (s : State) (c : Nat) (i : Nat) (last : Bool) : List RingEntry × State :=
  let x := s.ctx c
  match x.waiting[i]? with
  | none => ([], s)
  | some f =>
    let g := if x.enc then f else { f with number := x.shown }
    let es := s.entriesOf c x g last
    let skip := match f.picture with
      | some o => if o.error.isSome || f.poison then true else if o.key then false else x.skip
      | none => false
    (es, s.updCtx c fun x => { x with waiting := x.waiting.eraseIdx i, shown := x.shown + 1, skip := skip })

/-- As many frames leave as may: those the lookahead lets go, in input order where there are no B-frames, else in the order the
standard fixes; END flags the last one (R366, R367). -/
def State.leaveMany (s : State) (c : Nat) (may : CodecFrame → Bool) (flagLast : Bool) : Nat → List RingEntry × State
  | 0 => ([], s)
  | fuel + 1 =>
    let x := s.ctx c
    let ok := (List.range x.waiting.length).filter fun i => match x.waiting[i]? with
      | some f => may f
      | none => false
    match ok with
    | [] => ([], s)
    | i :: _ =>
      let straight := x.enc && recField x.words 2 10 9 == 0
      let j := if straight then i else ok.getD (Config.codecPick x.stream x.waiting.length % ok.length) i
      let a := s.leave1 c j (flagLast && x.waiting.length == 1)
      let b := a.2.leaveMany c may flagLast fuel
      (a.1 ++ b.1, b.2)

/-- Whether an encoded frame may leave: it is not the one still worked on, and the frame its lookahead and B-frames wait for has arrived, or
END has (R367). -/
def State.mayLeave (s : State) (c : Nat) (f : CodecFrame) : Bool :=
  let x := s.ctx c
  let come := s.arrivals c
  let last := x.last + BitVec.ofNat 32 come.length
  let busy := (List.finRange 8).any fun e => match s.codecs[e].work with
    | some w => w.ctx == c && !w.finished && (recNumber w.record).toNat == f.number
    | none => false
  x.enc && !busy && (x.ended || come.any recEnd || decide (recDelay x.words ≤ (last.toNat + 2 ^ 32 - f.number) % 2 ^ 32))

/-- Every frame of a stream leaves, as END has it (R363). -/
def State.flushCtx (s : State) (c : Nat) : List RingEntry × State :=
  s.leaveMany c (fun _ => true) true (s.ctx c).waiting.length

/-! ### Taking a record -/

/-- Why a record is refused, in the order of R363; none where it is taken. -/
def State.recordRefused (s : State) (k : Fin 4) (enc : Bool) (r : FrameRecord) : Option Nat :=
  let c := recCtx r
  let x := s.ctx c
  let ws := if recOpen r then r.words else x.words
  let v := s.sliceVat k
  let mine := match v with
    | some v => decide (s.cfgAt (ek 0xE000 (v.val + 1)) ≤ c ∧ c < s.cfgAt (ek 0xE000 (v.val + 1)) + s.cfgAt (ek 0xE001 (v.val + 1)))
    | none => false
  let vat := (v.map Fin.val).getD 0
  if recField r.words 0 31 16 ≠ 0x4B56 ∨ 3 ≤ recKind r then some 1
  else if !mine then some 2
  else if recKind r = 2 then
    (if x.state = 0 ∨ recNumber r ≠ (if recOpen r then 0#32 else x.last + 1#32) then some 3 else none)
  else if (if recOpen r then recNumber r ≠ 0#32 else x.state = 0 ∨ x.ended ∨ recNumber r ≠ x.last + 1#32) then some 3
  else if (recOpen r && (!paramsOk enc ws || (recField ws 14 15 15 == 1 && !s.rennetIn ⟨vat % 16, by omega⟩ (recField ws 14 31 16))))
      || (!recOpen r && x.enc != enc) then some 4
  else if enc && recField r.words 15 31 0 != surfaceBytes ws then some 6
  else if recOpen r && !(recAddr ws 7 % 65536 == 0 && s.inRegions vat (recAddr ws 7) (recField ws 9 31 0 * 65536)
      && s.ringOk vat (recAddr ws 10) && (recAddr ws 12 == 0 || s.ringOk vat (recAddr ws 12))) then some 5
  else none

/-- The parameters and state of a context that a stream opens. -/
def openCtx (k v : Nat) (enc : Bool) (ws : List Word) : CodecCtx := ⟨1, k, v, enc, ws, 0#32, [], [], 0, 0, false, false, false⟩

/-- A record taken (R363, R367): an OPEN ends the old stream first; the frame joins the stream, its key decided: the first, one asked
for, one the key interval makes due, and one after a poisoned frame (R371). A READY slice becomes RUNNING (R23, R368). -/
def State.takeRecord (s : State) (e : Fin 8) (r : FrameRecord) : State :=
  let k := sliceOf e
  let c := recCtx r
  let enc := encodes e
  let old := if recOpen r && (s.ctx c).state != 0 then s.flushCtx c else ([], s)
  let s := if old.2.ust (sliceUnit k) = stReady then old.2.transition (sliceUnit k) stRunning 0#8 else old.2
  let v := ((s.sliceVat k).map Fin.val).getD 0
  let s := if recOpen r then s.updCtx c fun _ => openCtx k.val v enc r.words else s
  let x := s.ctx c
  let interval := recField x.words 4 15 0
  let key := recOpen r || recKey r || x.forceKey || (interval != 0 && decide (interval ≤ x.sinceKey + 1))
  let data := if r.poison then [] else r.data
  let s := if s.codecs[e].lastCtx = some c then s else s.countCodec k 5
  let s := s.updCtx c fun x => { x with
    state := 2, slice := k.val, last := recNumber r, stream := x.stream ++ [(r.words, data)]
    sinceKey := if key then 0 else x.sinceKey + 1, forceKey := enc && r.poison, ended := recEnd r
    waiting := x.waiting ++ [⟨(recNumber r).toNat, key, r.poison, none⟩] }
  s.updEngine e fun g => { g with work := some ⟨c, r, 0, false, old.1, false⟩, lastCtx := some c }

/-- Whether another engine holds a record of the same context that comes before this one: the frames of a context are served in order, and
a record out of turn waits for an OPEN of its context (R368). -/
def State.earlierElsewhere (s : State) (e : Fin 8) (r : FrameRecord) : Bool :=
  let x := s.ctx (recCtx r)
  let next := x.state != 0 && !x.ended && recNumber r == x.last + 1#32
  let live := x.state != 0 && newer (recNumber r) (x.last + 1#32)
  !recOpen r && !next && (List.finRange 8).any fun d =>
    d != e && s.codecs[d].queue.any fun q =>
      recCtx q == recCtx r && recKind q != 2
        && (recOpen q || (live && newer (recNumber q) x.last && newer (recNumber r) (recNumber q)))

/-- Whether a slice takes new records: in service, its vat running (R368); and whether a record's context runs on another engine, for
whose frame it waits. -/
def State.sliceTakes (s : State) (k : Fin 4) : Bool :=
  (s.ust (sliceUnit k) == stReady || s.ust (sliceUnit k) == stRunning) &&
    match s.sliceVat k with
    | some v => s.volAt (ek 0x2029 (v.val + 1)) == 1
    | none => true

/-- The records of an engine taken in order until one is worked on or waits: refused ones are dropped with their data, a close
releases its context (R363). -/
def State.takeNext (s : State) (e : Fin 8) : Nat → State
  | 0 => s
  | fuel + 1 =>
    let g := s.codecs[e]
    let k := sliceOf e
    match g.work, g.queue with
    | none, r :: rest =>
      if !s.sliceTakes k || (s.ctx (recCtx r)).state == 2 || s.earlierElsewhere e r then s
      else
        let t := s.updEngine e fun g => { g with queue := rest }
        match s.recordRefused k (encodes e) r with
        | some why => ((t.raise 0x1300 (slicePath k) [(recCtx r, 2), ((recNumber r).toNat, 4), (why, 1)]).countCodec k 3).takeNext e fuel
        | none =>
          if recKind r = 2 then (t.updCtx (recCtx r) fun _ => CodecCtx.closed).takeNext e fuel
          else t.takeRecord e r
    | _, _ => s

/-- A whole entry has been read from an input ring: its consumer index advances past the record and its data, padded to 64 bytes (R365). -/
def State.entryRead (s : State) (k : Fin 4) (r : FrameRecord) : State :=
  match r.ring, s.sliceVat k with
  | some ring, some v =>
    let d := s.ringDesc v.val ring
    let n := 64 + (r.data.length + 63) / 64 * 64
    if ringHost d.1 then
      let c := (Sparse.get 0 d.2.rings ring + n) % 2 ^ 32
      ({ d.2 with rings := Sparse.set 0 d.2.rings ring c } : State).postHost 0 v (ringAddr d.1 5) (leBytes c 4) []
    else
      let c := d.2.ringIndex v.val (ringAddr d.1 5)
      c.2.agentWrite v.val (ringAddr d.1 5) (leBytes ((c.1 + n) % 2 ^ 32) 4) 4
  | _, _ => s

/-- An engine's entries written while their rings have room; a wait that begins is counted and ends with a later read of the consumer
index (R365). -/
def State.putEntries (s : State) (e : Fin 8) (polled : Option Word) : Nat → State
  | 0 => s
  | fuel + 1 =>
    match s.codecs[e].work with
    | none => s
    | some w =>
      match w.outs with
      | [] => s
      | x :: rest =>
        if w.waits && polled.isNone then s
        else
          let r := s.tryEntry e (Fin.ofNat 16 (s.ctx w.ctx).vat) x polled
          if r.1 then (r.2.updEngine e fun g => { g with work := some { w with outs := rest, waits := false } }).putEntries e none fuel
          else
            let t := r.2.updEngine e fun g => { g with work := some { w with waits := true } }
            if w.waits then t else t.countCodec (sliceOf e) 6

/-- All of an engine's entries, as far as their rings have room. -/
def State.putAll (s : State) (e : Fin 8) (polled : Option Word) : State :=
  match s.codecs[e].work with
  | some w => s.putEntries e polled w.outs.length
  | none => s

/-- A RUNNING slice neither of whose engines is within a frame is READY again (R23, R368). -/
def State.restSlice (s : State) (k : Fin 4) : State :=
  if s.codecs[engineNo k true].work.isNone ∧ s.codecs[engineNo k false].work.isNone ∧ s.ust (sliceUnit k) = stRunning then
    s.transition (sliceUnit k) stReady 0#8
  else s

/-- An idle engine takes its next record; what an OPEN flushed leaves at once (R363). -/
def State.takeWork (s : State) (e : Fin 8) : State := (s.takeNext e s.codecs[e].queue.length).putAll e none

/-- An engine's entries leave while their rings have room, and once the frame is finished and all have left the engine takes its
next record (R365 to R367). -/
def State.drainEntries (s : State) (e : Fin 8) (polled : Option Word) : State :=
  let s := s.putAll e polled
  match s.codecs[e].work with
  | some w =>
    if w.finished && w.outs.isEmpty then ((s.updEngine e fun g => { g with work := none }).takeWork e).restSlice (sliceOf e) else s
  | none => s

/-- The encoded frames of a context that an arrival lets go leave through the engine that works on it, or else through the one the record
reached (R367). -/
def State.letGo (s : State) (e : Fin 8) (c : Nat) : State :=
  let d := ((List.finRange 8).find? fun d => match s.codecs[d].work with
    | some w => w.ctx == c
    | none => false).getD e
  match s.codecs[d].work with
  | none => s
  | some w =>
    let out := s.leaveMany c (s.mayLeave c) (s.ctx c).ended (s.ctx c).waiting.length
    if out.1.isEmpty then s
    else (out.2.updEngine d fun g => { g with work := some { w with outs := w.outs ++ out.1 } }).drainEntries d none

/-- A record reaches an engine. -/
def State.recordIn (s : State) (e : Fin 8) (r : FrameRecord) : State :=
  (((s.entryRead (sliceOf e) r).updEngine e fun g => { g with queue := g.queue ++ [r] }).takeWork e).letGo e (recCtx r)

/-- ENCODE_FRAME (R362, R363): a record of kind 0; records without the magic or of a reserved kind are refused here. -/
def execEncodeFrame (k : Fin 4) (r : FrameRecord) (s : State) : Host.Outcome State Fault Refusal :=
  s.clocked (if recKind r = 1 ∨ recKind r = 2 then s else s.recordIn (engineNo k true) r)

/-- DECODE_ACCESS_UNIT (R362, R363): a record of kind 1. -/
def execDecodeAccessUnit (k : Fin 4) (r : FrameRecord) (s : State) : Host.Outcome State Fault Refusal :=
  s.clocked (if recKind r = 1 then s.recordIn (engineNo k false) r else s)

/-- CODEC_CLOSE (R363): a record of kind 2, behind the records of its context's engine. -/
def execCodecClose (k : Fin 4) (r : FrameRecord) (s : State) : Host.Outcome State Fault Refusal :=
  s.clocked (if recKind r = 2 then s.recordIn (engineNo k (s.ctx (recCtx r)).enc) r else s)

/-! ### Frames (R367, R371) -/

/-- BLOCK_ROW_START (R367): an idle engine takes its next record; an engine at work starts its next block row. -/
def execBlockRowStart (k : Fin 4) (enc : Bool) (s : State) : Host.Outcome State Fault Refusal :=
  s.clocked <|
  let e := engineNo k enc
  (
    let s := s.retry (.codec e)
    match s.codecs[e].work with
    | none => s.takeWork e
    | some w =>
      if w.rows < blockRows (s.ctx w.ctx).words then
        s.updEngine e fun g => { g with work := some { w with rows := w.rows + 1 } }
      else s)

/-- The bytes of a context area after a frame (R363, R368): its layout is the engine's own, so they are free. -/
def State.saveArea (s : State) (c : Nat) : State :=
  let x := s.ctx c
  let n := areaNeeded x.enc x.words
  let f := s.freeIx
  ({ s with freeIx := f + 1 } : State).agentWrite x.vat (recAddr x.words 7) ((List.range n).map fun i => Config.codecAreaByte f i) 4

/-- What a finished frame tells (R371, R372): poison and decode errors, the frame counted. -/
def State.frameTold (s : State) (k : Fin 4) (w : CodecWork) (enc : Bool) (o : Option Config.CodecOut) : State :=
  let n := (recNumber w.record).toNat
  let s := if enc && w.record.poison then s.raise 0x1302 (slicePath k) [(w.ctx, 2), (n, 4)] else s
  let bad : Option Nat := match o with
    | some p => if w.record.poison then some (p.error.getD 0) else p.error
    | none => none
  let s := match bad with
    | some row => (s.raise 0x1301 (slicePath k) [(w.ctx, 2), (n, 4), (row, 1)]).countCodec k 4
    | none => s
  if enc then (if w.record.poison then s else s.countCodec k 1) else s.countCodec k 2

/-- A frame whose rows are done (R366, R367): its picture is known, the context saved, and the frames that may leave are ready. An H.264 or
HEVC stream that signals a decoded picture buffer beyond eight pictures ends its context with a decode error (R361). -/
def State.finishFrame (s : State) (e : Fin 8) (w : CodecWork) : State :=
  let k := sliceOf e
  let enc := encodes e
  let x := s.ctx w.ctx
  let o := if enc then none else
    let p := Config.codecDecode x.stream
    let big := recField x.words 2 31 30 != 0 && p.largeDpb
    some (if w.record.poison || big then { p with error := some (p.error.getD 0) } else p)
  let tooBig := match o with
    | some p => recField x.words 2 31 30 != 0 && p.largeDpb
    | none => false
  let s := s.frameTold k w enc o
  let s := s.updCtx w.ctx fun x => { x with
    state := 1, ended := x.ended || tooBig
    waiting := x.waiting.map fun f => if f.number = (recNumber w.record).toNat then { f with picture := o } else f }
  let s := s.saveArea w.ctx
  let s := s.updEngine e fun g => { g with work := some { w with finished := true } }
  let out :=
    if recEnd w.record || tooBig then s.flushCtx w.ctx
    else if enc then s.leaveMany w.ctx (s.mayLeave w.ctx) false x.waiting.length
    else s.leaveMany w.ctx (fun _ => true) false (min (Config.codecShown x.stream) x.waiting.length)
  out.2.updEngine e fun g => { g with work := some { w with finished := true, outs := w.outs ++ out.1 } }

/-- FRAME_OUTPUT (R366, R367): 20 µs after the last row the frame is finished, and its entries leave as their rings have room. -/
def execFrameOutput (k : Fin 4) (enc : Bool) (s : State) : Host.Outcome State Fault Refusal :=
  s.clocked <|
  let e := engineNo k enc
  (
    let s := s.retry (.codec e)
    match s.codecs[e].work with
    | none => s
    | some w =>
      if w.finished || decide (w.rows < blockRows (s.ctx w.ctx).words) then s
      else (s.finishFrame e w).drainEntries e none)

/-- RING_POLL (R365): a waiting engine reads the consumer index again; for a host ring, `consumer` is what its read returned. -/
def execRingPoll (k : Fin 4) (enc : Bool) (consumer : Word) (s : State) : Host.Outcome State Fault Refusal :=
  s.clocked <|
  let e := engineNo k enc
  (
    let s := s.retry (.codec e)
    match s.codecs[e].work with
    | none => s
    | some w => if w.waits then s.drainEntries e (some consumer) else s)

/-! ### Records that arrive through a pipe (R362) -/

/-- A record of bytes: its words, its data, and whether any of it is poisoned. -/
def recordOf (b : List (Byte × Bool)) : FrameRecord :=
  let raw := b.map Prod.fst
  ⟨(List.range 16).map fun i => BitVec.ofNat 32 (leNat ((raw.drop (4 * i)).take 4)), raw.drop 64, b.any fun p => p.2, none⟩

/-- Whole records of a slice's input, each routed by its kind. -/
def State.feedRecords (s : State) (k : Fin 4) (n : Nat) : Nat → State
  | 0 => s
  | fuel + 1 =>
    let b := Sparse.get [] s.codecIn n
    let size := 64 + leNat (((b.map Prod.fst).drop 60).take 4)
    if b.length < 64 ∨ b.length < size then s
    else
      let r := recordOf (b.take size)
      let s := { s with codecIn := Sparse.set [] s.codecIn n (b.drop size) }
      let enc := if recKind r = 1 then false else if recKind r = 2 then (s.ctx (recCtx r)).enc else true
      (s.recordIn (engineNo k enc) r).feedRecords k n fuel

/-- The readable bytes of a pipe whose consumer is a slice go to its input (R257, R362). -/
def State.feedSlice (s : State) (n : Fin 1024) : State :=
  let p := s.pipes[n]
  if h : p.consHub = true ∧ 12 ≤ p.cons ∧ p.cons < 16 then
    let b := p.readable
    if b.isEmpty then s
    else
      let s := { s.updPipe n (fun p => p.leave (takeBytes b.length p.head)) with
        codecIn := Sparse.set [] s.codecIn n.val (Sparse.get [] s.codecIn n.val ++ b) }
      s.feedRecords ⟨p.cons - 12, by omega⟩ n.val (b.length / 64 + 1)
  else s

/-! ### Pipes -/

/-- PIPE_PACKET_ADVANCE (R255, R256, R258, R346, R362): a notice under retry is tried again, one packet moves, an outbound pipe sends
its oldest whole packet against a credit, a codec slice takes what is readable, notices are signalled, and bytes that wait at the
producer enter the tail; at a faulted pipe the waiting producer stops (R259). -/
def execPipePacketAdvance (n : Fin 1024) (s : State) : Host.Outcome State Fault Refusal :=
  s.clocked (
    let s := s.retry (.pipe n)
    if s.pipes[n].state ≠ 1 ∧ s.pipes[n].state ≠ 2 then (s.sendNotices n (s.pipes[n].owed + 3)).stopWriter n
    else
      let s := ((s.moveOne n).sendNotices n (s.pipes[n].owed + 3)).sendPacket n
      let s := s.feedSlice n
      s.updPipe n fun p => Pipe.fill (p.waiting.length + 4) p)

end Sys2Proof.Machine
end

