-- ==== Sys2Proof/Machine/Fabric.lean ====
section
/-! DEFINITION. The fabric ports: links, the Psiger transport's receiving side, its timers, and neighbour discovery (R337 to R347,
R350, R354, R355). -/
namespace Sys2Proof.Machine

/-! ### Segments as they arrive -/

/-- A word of a segment's header. -/
def segWord (g : Segment) (i : Nat) : Nat := (g.header.getD i 0#32).toNat
/-- The type of a segment (Table 18-2). -/
def segType (g : Segment) : Nat := segWord g 0 / 2 ^ 24 % 16
/-- Its destination binding. -/
def segBinding (g : Segment) : Nat := segWord g 3 / 2 ^ 8 % 4096
/-- Its sequence. -/
def segSeq (g : Segment) : Word := BitVec.ofNat 32 (segWord g 4)
/-- The pipe of its W7. -/
def segPipe (g : Segment) : Fin 1024 := ⟨segWord g 7 / 2 ^ 22 % 1024, Nat.mod_lt _ (by decide)⟩

/-- Whether a segment is well formed: eight header words, version 1, no reserved type, the length its payload has (R342). -/
def segWellFormed (g : Segment) : Bool :=
  g.header.length == 8 && segWord g 0 / 2 ^ 28 == 1 && decide (segType g ≤ 10)
    && segWord g 0 % 2 ^ 14 == g.payload.length && decide (g.payload.length ≤ 8192)

/-- Whether a binding takes segments: bound, or reconciling. -/
def State.bindingTakes (s : State) (b : Nat) : Bool := (s.binding b).state == 1 || (s.binding b).state == 2

/-- An import's bytes (R355): written at the import base and their offset, checked against the import vat's regions; at the end
EV-0x1208 and 0xC311:04. -/
def State.importBytes (s : State) (p : Fin 8) (b : Nat) (g : Segment) : State :=
  match s.importing with
  | none => s
  | some t =>
    let s := s.agentWrite (s.cfgAt (ek 0xC311 1)) (s.cfgAt (ek 0xC311 2) + segWord g 6 * 2 ^ 16 + segWord g 7 % 2 ^ 16) g.payload 7
    let n := t.done + g.payload.length
    if n < t.size then { s with importing := some { t with done := n } }
    else (({ s with importing := none } : State).setVol (ek 0xC311 4) 2).raise 0x1208 (portPath p.val)
      [(s.bindPeer b, 4), (n, 8), (1, 1)]

/-- A fault notice from the peer of a binding (R347, R350): the peer is lost, and the partner with it when it is the twin. -/
def State.noticeFrom (s : State) (b : Nat) : State :=
  let twin := s.cfgAt (ek 0xC010 1) != 0 && s.bindPeer b == s.cfgAt (ek 0xC010 1) && s.volAt (ek 0xC010 3) != 3
  let s := s.peerLost b 2
  if twin then s.partnerLost 2 else s

/-- What a segment does when its turn in the binding's order comes (R345, R346, R355). -/
def State.deliverSegment (s : State) (p : Fin 8) (b : Nat) (g : Segment) : State :=
  match segType g with
  | 0 => if s.inbound (segPipe g) false b then s.takeInbound (segPipe g) g.payload ((segWord g 7).testBit 21) else s
  | 3 => s.creditBack (segPipe g).val (BitVec.ofNat 32 (segWord g 6))
  | 4 => s.receiveSignal (s.peerOf b) b (signalOf (s.peerOf b) g.payload)
  | 5 => s.settle (s.peerOf b) p.val (payWord g.payload 0) (outcomeOf (payWord g.payload 1).toNat)
  | 6 =>
    let s := s.reconcileWith (s.peerOf b) p.val (reconcileOf g.payload)
    (s.updBinding b fun r => { r with state := 2, heard := true }).endReconcile b
  | 9 => s.noticeFrom b
  | 10 => s.importBytes p b g
  | _ => s

/-- Segments delivered in sequence: this one, then the early ones that follow it (R345). -/
def State.deliverFrom (s : State) (p : Fin 8) (b : Nat) : Nat → Segment → State
  | 0, _ => s
  | fuel + 1, g =>
    let s := s.updBinding b fun r => { r with
      last := segSeq g, ackDue := true, early := r.early.filter fun e => segSeq e != segSeq g }
    let s := s.deliverSegment p b g
    if !s.bindingTakes b then s
    else match (s.binding b).early.find? fun e => segSeq e == (s.binding b).last + 1#32 with
      | some e => s.deliverFrom p b fuel e
      | none => s

/-- A sequenced segment (R345): next, early, or a duplicate to be acknowledged again. -/
def State.sequenced (s : State) (p : Fin 8) (b : Nat) (g : Segment) : State :=
  let r := s.binding b
  let d := (segSeq g - r.last).toNat
  if d = 1 then s.deliverFrom p b (r.early.length + 1) g
  else if d = 0 ∨ 2 ^ 31 ≤ d then (s.updBinding b fun r => { r with ackDue := true }).countFabric 4 1
  else if 1024 < d ∨ r.early.any (fun e => segSeq e == segSeq g) then s
  else s.updBinding b fun r => { r with early := r.early ++ [g], ackDue := true }

/-- A segment at a port, if it is the row's (R339, R342, R344, R345): discarded for want of MACsec, or as malformed; else counted,
its acknowledgement taken, and its effect made. -/
def State.segmentIn (s : State) (p : Fin 8) (g : Segment) (mine : Bool) (eff : State → Nat → State) : State :=
  if s.volAt (ek (0xC008 + p.val) 5) ≠ 2 ∨ !mine then s
  else if !s.macsecOk p g.sa then s.macsecDiscard p
  else
    let b := segBinding g
    if !segWellFormed g ∨ !s.bindingTakes b then s.countFabric 5 1
    else eff ((s.countFabric 2 1).ackUpTo b (BitVec.ofNat 32 (segWord g 5))) b

/-- PSIGER_DATA (R345, R346): type 0, and the segments of no type, which are malformed. -/
def execPsigerData (p : Fin 8) (g : Segment) (s : State) : Host.Outcome State Fault Refusal :=
  s.clocked (s.segmentIn p g (segType g == 0 || decide (10 < segType g)) fun s b => s.sequenced p b g)

/-- PSIGER_ACK (R344, R346): covered copies leave the store, credits return, and an export on the binding goes on. -/
def execPsigerAck (p : Fin 8) (g : Segment) (s : State) : Host.Outcome State Fault Refusal :=
  s.clocked (s.segmentIn p g (segType g == 1) fun s b =>
    let s := s.creditBack (segPipe g).val (BitVec.ofNat 32 (segWord g 6))
    if s.cfgAt (ek 0xC310 1) = b then State.exportMore 1024 s else s)

/-- PSIGER_NAK (R344, R345): the first missing sequence, one past the acknowledgement it carries, is sent again. -/
def execPsigerNak (p : Fin 8) (g : Segment) (s : State) : Host.Outcome State Fault Refusal :=
  s.clocked (s.segmentIn p g (segType g == 2) fun s b => s.resend b (BitVec.ofNat 32 (segWord g 5) + 1#32))

/-- PSIGER_CREDIT (R346). -/
def execPsigerCredit (p : Fin 8) (g : Segment) (s : State) : Host.Outcome State Fault Refusal :=
  s.clocked (s.segmentIn p g (segType g == 3) fun s b => s.sequenced p b g)

/-- REMOTE_SIGNAL_RECEIVE (R265, R345): from the twin link, or in a type-4 segment. -/
def execRemoteSignalReceive (m : FromPeer) (s : State) : Host.Outcome State Fault Refusal :=
  s.clocked (match m with
    | .twin b => if s.volAt (ek 0xC010 3) = 2 then (s.owe 2 b.length).receiveSignal .twin 0 (signalOf .twin b) else s
    | .fabric p g => s.segmentIn p g (segType g == 4) fun s b => s.sequenced p b g)

/-- REMOTE_SIGNAL_OUTCOME (R265). -/
def execRemoteSignalOutcome (m : FromPeer) (s : State) : Host.Outcome State Fault Refusal :=
  s.clocked (match m with
    | .twin b => if s.volAt (ek 0xC010 3) = 2 then (s.owe 1 b.length).settle .twin 0 (payWord b 0) (outcomeOf (payWord b 1).toNat) else s
    | .fabric p g => s.segmentIn p g (segType g == 5) fun s b => s.sequenced p b g)

/-- REMOTE_SIGNAL_RESEND (R265): a signal refused full leaves again with a new sequence, once its peer can take signals. -/
def execRemoteSignalResend (peer : Peer) (seq : Word) (s : State) : Host.Outcome State Fault Refusal :=
  s.clocked <|
  (match s.peer peer with
    | none => s
    | some r =>
      match r.sent.find? fun g => g.seq == seq && g.full with
      | none => s
      | some g =>
        if r.reconciling then s
        else
          let h : SentSignal := { g with seq := r.nextSeq, full := false }
          (s.updPeer peer fun r => { r with
            nextSeq := r.nextSeq + 1#32, sent := (r.sent.filter fun x => !(x.seq == seq && x.full)) ++ [h] }).sendSignal peer h)

/-- PSIGER_RECONCILE (R266, R346). -/
def execPsigerReconcile (p : Fin 8) (g : Segment) (s : State) : Host.Outcome State Fault Refusal :=
  s.clocked (s.segmentIn p g (segType g == 6) fun s b => s.sequenced p b g)

/-- PSIGER_PROBE (R350): answered with a probe reply. -/
def execPsigerProbe (p : Fin 8) (g : Segment) (s : State) : Host.Outcome State Fault Refusal :=
  s.clocked (s.segmentIn p g (segType g == 7) fun s b => s.psigerControl b 8 1 0 0 [])

/-- PSIGER_PROBE_REPLY (R350): only the twin link is down: its unit is held for fault policy, EV-0x1204, the partner stays. -/
def execPsigerProbeReply (p : Fin 8) (g : Segment) (s : State) : Host.Outcome State Fault Refusal :=
  s.clocked (s.segmentIn p g (segType g == 8) fun s b =>
    if !s.twin.probing ∨ b ≠ s.cfgAt (ek 0xC010 2) then s
    else
      (({ s with twin := { s.twin with probing := false } } : State).holdFor (hubUnit 9) 4#8).raise 0x1204 0x3009
        [(s.cfgAt (ek 0xC010 1), 4)])

/-- PSIGER_FAULT_NOTICE (R347, R350). -/
def execPsigerFaultNotice (p : Fin 8) (g : Segment) (s : State) : Host.Outcome State Fault Refusal :=
  s.clocked (s.segmentIn p g (segType g == 9) fun s b => s.sequenced p b g)

/-- PSIGER_EXPORT (R355). -/
def execPsigerExport (p : Fin 8) (g : Segment) (s : State) : Host.Outcome State Fault Refusal :=
  s.clocked (s.segmentIn p g (segType g == 10) fun s b => s.sequenced p b g)

/-! ### Timers (R344, R345, R347) -/

/-- RETRANSMIT_TIMEOUT (R344, R347). -/
def execRetransmitTimeout (b : Fin 4096) (seq : Word) (s : State) : Host.Outcome State Fault Refusal :=
  s.clocked (if s.bindingTakes b.val then s.resend b.val seq else s)

/-- GAP_TIMEOUT (R345): while segments are held early, a negative acknowledgement names the first missing one. -/
def execGapTimeout (b : Fin 4096) (s : State) : Host.Outcome State Fault Refusal :=
  s.clocked (if s.bindingTakes b.val && !(s.binding b.val).early.isEmpty then s.psigerControl b.val 2 1 0 0 [] else s)

/-- ACK_TIMER (R345, R346): an acknowledgement that is due, or credits that are to be told; it carries the return of an inbound pipe, one with news before
any other, and as no copy of it is kept every new return goes in a type-3 segment too. -/
def execAckTimer (b : Fin 4096) (s : State) : Host.Outcome State Fault Refusal :=
  s.clocked (
    let l := s.toTell false b.val
    if !s.bindingTakes b.val ∨ (!(s.binding b.val).ackDue && l.isEmpty) then s
    else
      let any := ((List.finRange 1024).find? fun n => s.inbound n false b.val).map fun n => (n, s.freedOf n)
      let s := (s.updBinding b.val fun r => { r with ackDue := false }).told l
      let w7 (n : Fin 1024) : Nat := mapRemote (s.pipeMap n.val) * 2 ^ 22
      let s := match l.head?.or any with
        | some c => s.psigerControl b.val 1 1 c.2.toNat (w7 c.1) []
        | none => s.psigerControl b.val 1 1 0 0 []
      l.foldl (fun s c => s.psigerSend b.val 3 1 c.2.toNat (w7 c.1) []) s)

/-- PEER_LOSS_TIMEOUT (R347): a binding whose segments wait for an acknowledgement loses its peer. -/
def execPeerLossTimeout (b : Fin 4096) (s : State) : Host.Outcome State Fault Refusal :=
  s.clocked (if s.bindingTakes b.val && !(s.binding b.val).sent.isEmpty then s.peerLost b.val 1 else s)

/-! ### Links (R338) -/

/-- FABRIC_LINK_DOWN (R338, R357): EV-0x1200, the port leaves every spray set, and the copies it held go to the next port. -/
def execFabricLinkDown (p : Fin 8) (s : State) : Host.Outcome State Fault Refusal :=
  s.clocked (if s.volAt (ek (0xC008 + p.val) 5) = 0 then s
    else
      let s := (s.setVol (ek (0xC008 + p.val) 5) 0).raise 0x1200 (portPath p.val) [(0, 1)]
      let s := { s with fports := s.fports.set p { (vget FPort.reset s.fports p.val) with spray := false } }
      let due := s.bindings.flatMap fun r => (r.2.sent.filter fun g => g.port == some p.val).map fun g => (r.1, g.seq)
      (due.foldl (fun s d => s.resend d.1 d.2) s).pathsLost)

/-- FABRIC_LINK_UP (R338): EV-0x1200; a link that returns rejoins the spray sets at the next beat, one that has trained for the
first time since its image loaded carries segments at once. -/
def execFabricLinkUp (p : Fin 8) (s : State) : Host.Outcome State Fault Refusal :=
  s.clocked <|
  let st := s.volAt (ek (0xC008 + p.val) 5)
  (if st = 2 ∨ s.ust (portUnit p) = stAbsent ∨ s.ust (portUnit p) = stCold ∨ s.ust (portUnit p) = stLoading then s
    else
      let s := (s.setVol (ek (0xC008 + p.val) 5) 2).raise 0x1200 (portPath p.val) [(2, 1)]
      if st = 1 then { s with fports := s.fports.set p { (vget FPort.reset s.fports p.val) with spray := true } } else s)

/-- PAUSE_FRAME_RECEIVE (R337, R339): discarded and counted, and counted as a MACsec discard too where it is not protected as its port
requires. -/
def execPauseFrameReceive (f : PauseFrame) (s : State) : Host.Outcome State Fault Refusal :=
  s.clocked (if s.volAt (ek (0xC008 + f.port.val) 5) ≠ 2 then s
    else (if s.macsecOk f.port f.sa then s else s.macsecDiscard f.port).countFabric 7 1)

/-! ### Neighbour discovery (R337, R378) -/

/-- The link-local address formed from a MAC address: fe80::/64 and its modified EUI-64. -/
def linkLocal (mac : Nat) : List Byte :=
  let m (i : Nat) : Byte := BitVec.ofNat 8 (mac / 2 ^ (8 * (5 - i)))
  [0xFE#8, 0x80#8] ++ zeros 6 ++ [m 0 ^^^ 2#8, m 1, m 2, 0xFF#8, 0xFE#8, m 3, m 4, m 5]

/-- The addresses a port answers for and its MAC address. -/
def State.ownAddresses (s : State) : Option (Fin 8) → List (List Byte) × Nat
  | some p => ([leBytes (s.cfgAt (ek (0xC008 + p.val) 1)) 16], s.cfgAt (ek (0xC008 + p.val) 2))
  | none =>
    let mac := s.cfgAt (ek 0x1010 6)
    let a := s.cfgAt (ek 0x1010 1)
    (linkLocal mac :: if a = 0 then [] else [leBytes a 16], mac)

/-- Whether a port carries traffic: a fabric port with its link up, the management port once its unit is READY (R435). -/
def State.portCarries (s : State) : Option (Fin 8) → Bool
  | some p => s.volAt (ek (0xC008 + p.val) 5) == 2
  | none => s.mgmtUp

/-- NEIGHBOUR_SOLICITATION (R337, R378): an advertisement with the port's MAC address for an address of its own. -/
def execNeighbourSolicitation (m : Solicitation) (s : State) : Host.Outcome State Fault Refusal :=
  s.clocked <|
  let own := s.ownAddresses m.port
  let discards := match m.port with
    | some p => s.portCarries m.port && !s.macsecOk p m.sa
    | none => false
  (if discards then match m.port with
      | some p => s.macsecDiscard p
      | none => s
    else if s.portCarries m.port && m.target != zeros 16 && own.1.contains m.target then
      match m.port with
      | some p => s.send ⟨.fabric, 1, [p.val, own.2, s.txSa p], m.target ++ m.source⟩
      | none => s.send ⟨.mgmt, 4, [own.2], m.target ++ m.source⟩
    else s)

end Sys2Proof.Machine
end

