-- ==== Sys2Proof/Machine/Master.lean ====
section
/-! DEFINITION. The segment master (R306, R308, R309, R315): its beat symbols, their readiness and their delay. -/
namespace Sys2Proof.Machine

/-- Whether a pending commit or return that is due at a beat and passes its checks takes the package out of modes 2 and 3 (R315). -/
def State.stopsAt (s : State) (n : Nat) : Bool :=
  match s.pendingGen with
  | none => false
  | some g =>
    let r := s.clearPending.applyGen g
    decide (g.target ≤ n) && r.2 && !r.1.isMaster

/-- The group operation the symbol of beat n carries: the first request whose target is beat n + 1 or earlier (R310). -/
def State.opFor (s : State) (n : Nat) : Option GroupOp := s.croak.ops.find? fun o => decide (o.target ≤ n + 1)

/-- A symbol sent for beat `n` at an instant (R306, R309, R310, R315, R316); the node of its echo field answers after the mark. -/
def State.sendSymbol (s : State) (n at_ : Nat) (jump stretched : Bool) : State :=
  let s := s.reevaluate uGroup
  let g := s.view uGroup
  let op := s.opFor n
  let y : Symbol := {
    beat := n, period := s.cfgAt (ek 0xB000 3), version := g.version.toNat
    state := (if g.state = stAbsent then stReady else g.state).val, causes := g.causes.toNat
    op := match op with | some o => o.op.toNat | none => 0
    echo := match s.croak.echo with | some e => e.val | none => 0xFF
    jump := jump, stop := s.stopsAt n, ieee := s.croakMode == 3 && !s.croak.holdover, stretched := stretched
    members := s.expectedMembers.length }
  let s := s.updCroak fun k => { k with
    symbol := some (y.bits, at_), first := false, waiting := none, carried := op, echo := none, echoed := k.echo
    ops := match op with | some o => k.ops.erase o | none => k.ops }
  s.send ⟨.croak, 0, [at_], leBytes y.bits.toNat 24⟩

/-- BEAT_SYMBOL_SEND (R306, R308, R309): at the start of the next symbol the master samples both lines; ready policy 1 delays
the symbol while CROAK_RDY is low. -/
def execBeatSymbolSend (p : BusSample) (s : State) : Host.Outcome State Fault Refusal :=
  s.clocked <|
  let b := s.nextBeat
  (if !s.isMaster ∨ !s.croakRuns ∨ s.croak.yields ∨ s.croak.symbol.isSome ∨ s.croak.waiting.isSome ∨ p.now + 3920 < b.2.1
      then s
    else
      let rdy := p.rdy && s.ownReady
      let s := (s.setVol (ek 0xB010 4) (b2n rdy)).sampleHold p.holdN
      if rdy then s.sendSymbol b.1 b.2.1 b.2.2 false
      else if s.cfgAt (ek 0xB000 6) = 0 then (s.countCroak 5 1).sendSymbol b.1 b.2.1 b.2.2 false
      else s.updCroak fun k => { k with waiting := some p.now })

/-- A delayed symbol sent, with STRETCHED and EV-0x1006: the delay in bus cycles of 10 ns (R308). -/
def State.sendStretched (s : State) (from_ now : Nat) : State :=
  let b := s.nextBeat
  let s := (s.countCroak 6 1).raise 0x1006 0x300A [(b.1, 8), ((now - from_) / 10, 4)]
  s.sendSymbol b.1 (now + 3920) b.2.2 true

/-- CROAK_RDY_RELEASE (R308). -/
def execCroakRdyRelease (now : Nat) (s : State) : Host.Outcome State Fault Refusal :=
  s.clocked (match s.croak.waiting with
    | none => s
    | some w => if !s.isMaster ∨ !s.croakRuns ∨ !s.ownReady ∨ now < w then s
        else (s.setVol (ek 0xB010 4) 1).sendStretched w now)

/-- STRETCH_LIMIT_REACHED (R308): 0xB000:07 µs after the start the symbol was due at. -/
def execStretchLimitReached (now : Nat) (s : State) : Host.Outcome State Fault Refusal :=
  s.clocked (match s.croak.waiting with
    | none => s
    | some w => if !s.isMaster ∨ !s.croakRuns ∨ now < w + 1000 * s.cfgAt (ek 0xB000 7) then s
        else s.sendStretched w now)

end Sys2Proof.Machine
end

