-- ==== Sys2Proof/Machine/Messages.lean ====
section
/-! DEFINITION. Reads, writes and session messages of the Kypel Object Protocol, images, and debug (R374 to R384, R396 to
R406, R412). -/
namespace Sys2Proof.Machine

/-! ### Reads and writes -/

/-- KOP_READ (R374, R376, R379): a READ, or a message of a reserved type, which is answered with status 0x01. -/
def execKopRead (m : KopMsg) (s : State) : Host.Outcome State Fault Refusal :=
  s.clocked (s.kop m (rowOf m == .read) fun s x => s.readMsg x m)

/-- A write of a generation entry is staged (R377, R384): at most 4,096 entries a session. -/
def State.stage (s : State) (x : Session) (key v : Nat) : State × Nat :=
  if x.staging.length < 4096 ∨ x.staging.any (fun p => p.1 == key) then
    (s.updSession x.id fun y => { y with staging := Sparse.set (v + 1) y.staging key v }, 0)
  else (s, 4)

/-- A write of the target beat or the expected version of a unit operation (Table 2-4): the session keeps it for its next
write of the operation code. -/
def State.writeUnitField (s : State) (x : Session) (m : KopMsg) (r : EntryRow) (n v : Nat) : State :=
  (s.updSession x.id fun y =>
    if subOf m = 2 then { y with targets := Sparse.set 0 y.targets n v } else { y with versions := Sparse.set 0 y.versions n v }).auditWrite
      x m 2 r [] []

/-- A write of a reserved operation code of U+2:01 (R26): the request is refused by the unit, not by the dictionary. -/
def State.writeReservedOp (s : State) (x : Session) (m : KopMsg) (r : EntryRow) (n v : Nat) : State :=
  let q : UnitReq := ⟨unitOf n, BitVec.ofNat 8 v, Sparse.get 0 x.targets n, BitVec.ofNat 16 (Sparse.get 0 x.versions n),
    x.role, x.mask, x.keyId, viaSource m.via, none⟩
  ((s.auditWrite x m 2 r [] []).updSession x.id fun y =>
    { y with targets := Sparse.del y.targets n, versions := Sparse.del y.versions n }).submitReq q

/-- KOP_WRITE (R375 to R377, R384): generation entries are staged; volatile entries without a row of their own take effect at
once. -/
def execKopWrite (m : KopMsg) (s : State) : Host.Outcome State Fault Refusal :=
  s.clocked (s.kop m (rowOf m == .write) fun s x => s.writeMsg x m fun s r v =>
    if r.pers = .generation then
      match s.session x.id with
      | some y => s.stage y (ek (idxOf m) (subOf m)) v
      | none => (s, 0)
    else match unitIndex (idxOf m) with
      | some (n, 2) => if subOf m = 1 then (s.writeReservedOp x m r n v, 0) else (s.writeUnitField x m r n v, 0)
      | _ => (s, 0))

/-- EVENT_ACKNOWLEDGE (R412): accepted only from the number acknowledged so far to the last event written. -/
def execEventAcknowledge (m : KopMsg) (s : State) : Host.Outcome State Fault Refusal :=
  s.clocked (s.kop m (rowOf m == .eventAck) fun s x => s.writeMsg x m fun s r v =>
    let old := s.volAt (ek 0x9010 2)
    if old ≤ v ∧ v < s.evCount then
      ((s.setVol (ek 0x9010 2) v).auditWrite x m 2 r (leBytes old r.bytes) (leBytes v r.bytes), 0)
    else (s, 4))

/-- VAT_RUN_STATE (R281, R406): the write takes effect at the next beat; 1 is refused while debug is unlocked. -/
def execVatRunState (m : KopMsg) (s : State) : Host.Outcome State Fault Refusal :=
  s.clocked (s.kop m (rowOf m == .runState) fun s x => s.writeMsg x m fun s r v =>
    if v = 1 ∧ s.volAt (ek 0xA000 5) = 1 then (s, 4)
    else
      let old := s.volAt (ek (idxOf m) (subOf m))
      (({ s with runReq := s.runReq ++ [(subOf m - 1, v)] } : State).auditWrite x m 2 r (leBytes old r.bytes) (leBytes v r.bytes), 0))

/-- ECHO_REQUEST (R316): the node to echo with the next symbol; 0xFF withdraws the request. -/
def execEchoRequest (m : KopMsg) (s : State) : Host.Outcome State Fault Refusal :=
  s.clocked (s.kop m (rowOf m == .echo) fun s x => s.writeMsg x m fun s r v =>
    let old := s.volAt (ek 0xB000 10)
    let s := (s.setVol (ek 0xB000 10) v).updCroak fun k => { k with echo := if v = 0xFF then none else some (Fin.ofNat 32 v) }
    (s.auditWrite x m 2 r (leBytes old r.bytes) (leBytes v r.bytes), 0))

/-- MACSEC_KEY_WRITE (R339): the key is in force from the next beat; no role can read it, and its record hashes nothing. -/
def execMacsecKeyWrite (m : KopMsg) (s : State) : Host.Outcome State Fault Refusal :=
  s.clocked (s.kop m (rowOf m == .macsec) fun s x => s.writeMsg x m fun s r v =>
    let p := idxOf m - 0xA300
    let key := leBytes v m.data.length
    let s := { s with fports := vset s.fports p { vget FPort.reset s.fports p with
      newKeys := putKey (vget FPort.reset s.fports p).newKeys key } }
    (s.auditWrite x m 2 r [] [], 0))

/-- FUSE_WRITE (R377): the next unused of four banks is programmed; the value in force stays until the unit loads. -/
def execFuseWrite (m : KopMsg) (s : State) : Host.Outcome State Fault Refusal :=
  s.clocked (s.kop m (rowOf m == .fuse) fun s x => s.writeMsg x m fun s r v =>
    let key := ek (idxOf m) (subOf m)
    let banks := Sparse.get [] s.fuseBanks key
    if 4 ≤ banks.length then (s, 4)
    else
      let old := (banks.getLast?).getD (s.cfgAt key)
      (({ s with fuseBanks := Sparse.set [] s.fuseBanks key (banks ++ [v]) } : State).auditWrite x m 3 r
        (leBytes old r.bytes) (leBytes v r.bytes), 0))

/-! ### Sessions (R401 to R403) -/

/-- A HELLO's fields: role, credential, point and nonce. -/
structure Hello where
  role : Nat
  cred : List Byte
  point : List Byte
  nonce : List Byte
  deriving DecidableEq, Repr

/-- The length of a HELLO by its role: a modulus, or an installer's certificate (Table 21-4). -/
def helloSize (role : Nat) : Option Nat :=
  match role with
  | 1 => some 642
  | 2 => some 1166
  | 3 => some 642
  | _ => none

/-- The fields of a whole HELLO. -/
def helloOf (role n : Nat) (b : List Byte) : Hello :=
  ⟨role, (b.drop 1).take (n - 130), (b.drop (n - 129)).take 97, (b.drop (n - 32)).take 32⟩

/-- The maker key hash of the part (R401). -/
def State.makerHash (s : State) : List Byte := leBytes (s.cfgAt (ek 0xA000 1)) 64

/-- Whether an installer's certificate is enrolled, for this part, and signed under the maker key (R401), which stands in the
model as the constant that belongs to its hash (DESIGN CHOICE, assumption 28). -/
def State.certOk (s : State) (c : List Byte) : Bool :=
  let serial := (c.drop 512).take 8
  ((List.range 8).any fun i => s.cfgAt (ek 0xA010 (i + 1)) != 0 && sha512 c == leBytes (s.cfgAt (ek 0xA010 (i + 1))) 64) &&
    (serial == zeros 8 || serial == leBytes (s.cfgAt (ek 0x1000 4)) 8) &&
    verifies (Config.makerModulus s.makerHash) (c.take 524) (c.drop 524)

/-- The operator key that a modulus proves, and the vats of its mask (R401). -/
def State.operatorMask (s : State) (modulus : List Byte) : Option (BitVec 16) :=
  let h := leNat (sha512 modulus)
  ((List.range 16).find? fun i => s.cfgAt (ek 0xA020 (i + 1)) % 2 ^ 512 == h).map
    fun i => BitVec.ofNat 16 (s.cfgAt (ek 0xA020 (i + 1)) / 2 ^ 512)

/-- What a credential proves: role, modulus and vats (R401); a virtual function's session is an operator's at most (R383). -/
def State.credential (s : State) (via : KopVia) (h : Hello) : Option (Role × List Byte × BitVec 16) :=
  match h.role with
  | 1 => (s.operatorMask h.cred).map fun k => (.operator, h.cred, k)
  | 2 => if (viaVat via).isNone ∧ s.certOk h.cred then some (.installer, h.cred.take 512, 0#16) else none
  | 3 => if (viaVat via).isNone ∧ sha512 h.cred = s.makerHash then some (.maker, h.cred, 0#16) else none
  | _ => none

/-- A session refused (R403): EV-0x1502, counted; the answer's status is 0x06. -/
def State.sessionRefused (s : State) (role reason : Nat) : State :=
  (s.raise 0x1502 0x5000 [(role, 1), (reason, 1)]).countSecure 2

/-- A session identifier not in use, otherwise free: the spec states no choice. -/
def State.newSessionId (s : State) : Nat × State :=
  let used := s.sessions.map fun x => x.id
  let v := s.free.1 % 2 ^ 32
  let fallback := ((List.range (used.length + 2)).find? fun i => i != 0 && !used.contains i).getD 1
  (if v = 0 ∨ used.contains v then fallback else v, s.free.2)

/-- The session key (R403). -/
def sessionKey (shared requester package : List Byte) : List Byte :=
  hkdf512 (requester ++ package) shared [0x4B#8, 0x4F#8, 0x50#8, 0x31#8] 64

/-- The pieces of a HELLO collected on a path. -/
def State.helloSoFar (s : State) (via : KopVia) : List Byte :=
  ((s.helloPieces.find? fun p => p.1 == via).map Prod.snd).getD []

/-- The collection of a path replaced. -/
def State.keepHello (s : State) (via : KopVia) (b : List Byte) : State :=
  let rest := s.helloPieces.filter fun p => p.1 != via
  { s with helloPieces := if b = [] then rest else rest ++ [(via, b)] }

/-- A whole HELLO (R401 to R403): the credential is checked, a half-open session made, and the handshake answered; a point that
is not one of the curve is refused as a credential is (DEDUCED, assumption 65). -/
def State.openHalf (s : State) (m : KopMsg) (b : List Byte) (h : Hello) : State × Nat × List Byte :=
  if 8 ≤ (s.sessions.filter fun x => x.id != 0).length then (s, 4, [])
  else match s.credential m.via h, pointOf h.point with
    | some (role, modulus, mask), some q =>
      let id := s.newSessionId
      let s := id.2
      let d := scalarOf (Config.ecdhScalar s.freeIx)
      let r := ({ s with freeIx := s.freeIx + 1 } : State).engineBytes 32
      let part := leBytes id.1 4 ++ publicPoint d ++ r.1
      let transcript := b ++ part
      let key := sessionKey (sharedSecret d q) h.nonce r.1
      let x : Session := ⟨id.1, m.via, role, true, modulus, mask, key, transcript, 0#32, none, [], none, [], []⟩
      let sig := (Config.identitySign transcript ++ zeros 512).take 512
      ({ r.2 with sessions := r.2.sessions ++ [x] }, 0, part ++ sig)
    | _, _ => (s.sessionRefused h.role 1, 6, [])

/-- HELLO (R402, R403): pieces collect on the message's path; a reserved role is refused for its credential. -/
def execHello (m : KopMsg) (s : State) : Host.Outcome State Fault Refusal :=
  s.clocked (s.kop m (rowOf m == .hello) fun s _ =>
    let so := s.helloSoFar m.via
    let b := if m.offset = 0 then m.data else so ++ m.data
    let s := s.keepHello m.via []
    if m.offset ≠ 0 ∧ so.length ≠ m.offset then (s, 3, [])
    else match b.head? with
      | none => (s, 3, [])
      | some r =>
        match helloSize r.toNat with
        | none => (s.sessionRefused r.toNat 1, 6, [])
        | some n =>
          if b.length < n then (s.keepHello m.via b, 0, [])
          else if n < b.length then (s, 3, [])
          else s.openHalf m b (helloOf r.toNat n b))

/-- PROOF (R402, R403): on session 0, the latest half-open session opens when the signature over the transcript verifies
under its credential; any other outcome discards it. -/
def execProofMessage (m : KopMsg) (s : State) : Host.Outcome State Fault Refusal :=
  s.clocked (s.kop m (rowOf m == .proof) fun s x =>
    match (s.sessions.filter fun y => x.id == 0 && y.half && y.via == m.via).getLast? with
    | none => (s.sessionRefused 0 2, 6, [])
    | some y =>
      if m.offset = 0 ∧ m.data.length = 512 ∧ verifies y.modulus y.transcript m.data then
        ((s.updSession y.id fun z => { z with half := false }).countSecure 1, 0, [])
      else ((s.dropSession y.id).sessionRefused y.role.number 2, 6, []))

/-- SESSION_CLOSE (R403). -/
def execSessionClose (m : KopMsg) (s : State) : Host.Outcome State Fault Refusal :=
  s.clocked (s.kop m (rowOf m == .close) fun s x => (s.dropSession x.id, 0, []))

/-- SESSION_IDLE_TIMEOUT (R403): an open session closes; session 0 is always open (R402). -/
def execSessionIdleTimeout (session : Nat) (s : State) : Host.Outcome State Fault Refusal :=
  s.clocked (match s.session session with
    | some x => if x.half ∨ x.id = 0 then s else s.dropSession x.id
    | none => s)

/-- PROOF_TIMEOUT (R403): a half-open session is discarded with EV-0x1502 reason 3. -/
def execProofTimeout (session : Nat) (s : State) : Host.Outcome State Fault Refusal :=
  s.clocked (match s.session session with
    | some x => if x.half then (s.dropSession x.id).sessionRefused x.role.number 3 else s
    | none => s)

/-! ### Attestation (R405) -/

/-- The first 352 bytes of an attestation report (Table 21-5). -/
def State.report (s : State) (nonce : List Byte) : List Byte :=
  let hashes := s.units.toList.flatMap fun u => (u.image ++ zeros 64).take 64
  bytesOf [0x4B415454, s.volAt (ek 0xA000 5) * 2 ^ 24 + 0xB0 * 2 ^ 16 + 1] ++ leBytes (s.cfgAt (ek 0x1000 4)) 8
    ++ bytesOf [s.volAt (ek 0xA040 2), s.volAt (ek 0x2000 1)] ++ leBytes s.beat 8 ++ nonce
    ++ (s.measurement ++ zeros 64).take 64 ++ s.makerHash ++ sha512 hashes ++ zeros 64

/-- ATTEST (R405): a report over one cycle's contents, signed with the identity key, and counted. -/
def execAttest (m : KopMsg) (s : State) : Host.Outcome State Fault Refusal :=
  s.clocked (s.kop m (rowOf m == .attest) fun s _ =>
    if m.offset ≠ 0 ∨ m.data.length ≠ 64 then (s, 3, [])
    else
      let body := s.report m.data
      (s.countSecure 4, 0, body ++ (Config.identitySign body ++ zeros 512).take 512))

/-! ### Images (R396 to R398) -/

/-- A word of an image's header. -/
def imgWord (b : List Byte) (i : Nat) : Nat := leNat ((b.drop (4 * i)).take 4)

/-- The state of a slot set. -/
def State.setSlot (s : State) (k state : Nat) (x : ImageSlot) : State :=
  ({ s with images := vset s.images (k - 1) x } : State).setVol (ek 0xA050 k) state

/-- Whether a unit streams the image of a kind now (R397). -/
def State.slotBusy (s : State) (k : Nat) : Bool :=
  (List.finRange 284).any fun u => kindOf u == some k && s.ust u == stLoading && s.units[u].streaming

/-- The largest image slot, 1 MiB (R397). -/
def slotSize : Nat := 0x100000

/-- A piece placed in a slot (R379, R397): pieces follow on from each other; the piece that ends at the header's length starts
the verification. A piece that would pass the slot's end starts it too, for the length check to refuse. -/
def State.placePiece (s : State) (m : KopMsg) (k : Nat) : State × Nat :=
  let old := vget ImageSlot.reset s.images (k - 1)
  let so := if s.slotState k = 1 then old.bytes else []
  if m.offset ≠ 0 ∧ (s.slotState k ≠ 1 ∨ so.length ≠ m.offset) then
    (if s.slotState k = 1 then s.setSlot k 0 ImageSlot.reset else s, 3)
  else
    let b := if m.offset = 0 then m.data else so ++ m.data
    let n := imgWord b 3
    let x : ImageSlot := ⟨b, [], 0⟩
    if slotSize < b.length then (s.setSlot k 2 x, 0)
    else if 16 ≤ b.length ∧ n < b.length then (s.setSlot k 0 ImageSlot.reset, 3)
    else if 16 ≤ b.length ∧ n = b.length then (s.setSlot k 2 x, 0)
    else (s.setSlot k 1 x, 0)

/-- IMAGE (R397, R402): a piece of an image of the kind in the index field; none through a virtual function (R383), and none
while a unit loads from the slot. -/
def execImagePiece (m : KopMsg) (s : State) : Host.Outcome State Fault Refusal :=
  s.clocked (s.kop m (rowOf m == .image) fun s _ =>
    let k := idxOf m
    if (viaVat m.via).isSome ∨ k < 1 ∨ 6 < k then (s, 1, [])
    else if s.slotBusy k then (s, 4, [])
    else
      let r := s.placePiece m k
      (r.1, r.2, []))

/-- The checks of an image in order, each with its number (R397). -/
def State.imageChecks (s : State) (k : Nat) (b : List Byte) : List (Nat × Bool) :=
  let modulus := (b.drop 640).take 512
  [(1, imgWord b 0 == 0x4B494D47 && imgWord b 1 % 2 ^ 16 == 1 && imgWord b 1 / 2 ^ 24 == k),
   (2, decide (imgWord b 3 ≤ slotSize) && decide (b.length ≤ slotSize)),
   (3, sha512 modulus == s.makerHash),
   (4, verifies modulus (b.take 128) ((b.drop 128).take 512)),
   (5, sha512 (b.drop 2048) == (b.drop 16).take 64),
   (6, decide (s.cfgAt (ek 0xA030 k) ≤ imgWord b 2))]

/-- COLD units of a kind enter LOADING, in ascending order (R398). -/
def State.loadCold (s : State) (k : Nat) : State :=
  ((List.finRange 284).filter fun u => kindOf u == some k && s.ust u == stCold).foldl (fun s u => s.startLoading u true none) s

/-- IMAGE_VERIFY_COMPLETE (R397, R398): the slot becomes valid and starts the kind's COLD units, or refused with the first check
that failed. -/
def execImageVerifyComplete (kind : Fin 6) (s : State) : Host.Outcome State Fault Refusal :=
  s.clocked <|
  let k := kind.val + 1
  (if s.slotState k ≠ 2 then s
    else
      let b := (vget ImageSlot.reset s.images kind.val).bytes
      match (s.imageChecks k b).find? fun c => !c.2 with
      | some c => ((s.setSlot k 4 ImageSlot.reset).raise 0x1500 0x5000 [(k, 1), (c.1, 1)]).countSecure 3
      | none => (s.setSlot k 3 ⟨b, (b.drop 16).take 64, imgWord b 2⟩).loadCold k)

/-! ### Debug (R406) -/

/-- DEBUG_UNLOCK (R406): refused unless every vat is stopped and no launch is running or waiting. Debug locks again only when
power is lost, so a write of 0 while it is unlocked is refused. -/
def execDebugUnlock (m : KopMsg) (s : State) : Host.Outcome State Fault Refusal :=
  s.clocked (s.kop m (rowOf m == .debug) fun s x => s.writeMsg x m fun s r v =>
    let old := s.volAt (ek 0xA000 5)
    let quiet := s.launches.isEmpty && (List.range 16).all fun i => s.volAt (ek 0x2029 (i + 1)) == 0
    if 1 < v ∨ (v = 1 ∧ !quiet) ∨ (v = 0 ∧ old = 1) then (s, 4)
    else
      let s := s.auditWrite x m 2 r (leBytes old r.bytes) (leBytes v r.bytes)
      (if v = 1 ∧ old = 0 ∧ s.unlocking.isNone then { s with unlocking := some x.id } else s, 0))

/-- Every core, die and hub buffer and all HBM3E data cleared, the image slots and the audit ring apart (R406); the event
ring and the retransmit store lie in the hub buffer (R344, R411), the ends of pipes in buffers (R254). -/
def State.clearStores (s : State) : State :=
  let blank (p : Packet) : Packet := { p with data := p.data.map fun _ => (0#8, false) }
  { s with
    cores := s.cores.map fun c => { c with buf := Mem.empty }
    dieBuf := Vector.replicate 4 Mem.empty
    hubBuf := Mem.empty
    hbm := Mem.empty
    uncleared := []
    events := []
    bindings := s.bindings.map fun p => (p.1, { p.2 with sent := p.2.sent.map fun g => { g with header := g.header.map fun _ => 0#32, payload := g.payload.map fun _ => 0#8 } })
    pipes := s.pipes.map fun p => { p with tail := p.tail.map blank, head := p.head.map blank } }

/-- Every seed key, those of records written among them, MACsec key and operator entry zeroed (R406). -/
def State.zeroKeys (s : State) : State :=
  { s with
    seeds := s.seeds.map fun v => { v with zeroed := true }
    launches := s.launches.map fun l => { l with key := 0#128 }
    fports := s.fports.map fun p => { p with keys := [], newKeys := [] }
    cfg := s.cfg.filter fun p => p.1 / 256 != 0xA020
    prevCfg := s.prevCfg.filter fun p => p.1 / 256 != 0xA020 }

/-- DEBUG_UNLOCK_COMPLETE (R406): stores cleared, keys zeroed, other sessions closed, the measurement extended, debug unlocked
and EV-0x1503 raised. -/
def execDebugUnlockComplete (s : State) : Host.Outcome State Fault Refusal :=
  s.clocked (match s.unlocking with
    | none => s
    | some id =>
      let key := ((s.session id).map Session.keyId).getD (zeros 8)
      let s := s.clearStores.zeroKeys
      let s := { s with unlocking := none, helloPieces := [], sessions := s.sessions.filter fun x => x.id == 0 || x.id == id }
      ((s.extend 0x6000 0xFF 0 (zeros 64)).setVol (ek 0xA000 5) 1).raise 0x1503 0x5000 [(leNat key, 8)])

end Sys2Proof.Machine
end

