-- ==== Sys2Proof/Machine/Power.lean ====
section
/-! DEFINITION. Power, thermal limits and start-up: the power and thermal commands, the gate duty, the loss of power and
power-good. -/
namespace Sys2Proof.Machine

/-- The cap duty's limit (R429). -/
def State.capLimit (s : State) : Nat := s.cfgAt (ek 0x2070 2)

/-- The duty a frame takes: the largest of the four, at most 48/64 (R428). -/
def Power.duty (p : Power) : Nat := min 48 (max (max p.capDuty p.inputDuty) (max p.dieDuty p.stackDuty))

/-- 0x1004:03: the sources above zero, and the cap duty above its limit (R428, R429). -/
def Power.sources (p : Power) (limit : Nat) : Nat :=
  (if p.capDuty = 0 then 0 else 1) + (if p.inputDuty = 0 then 0 else 2) + (if p.dieDuty = 0 then 0 else 4)
    + (if p.stackDuty = 0 then 0 else 8) + (if limit < p.capDuty then 16 else 0)

/-- The sources entry brought up to date with duties. -/
def State.noteSources (s : State) (p : Power) : State := s.setVol (ek 0x1004 3) (p.sources s.capLimit)

/-- THROTTLE_N_CHANGE (R430): the level of the line; the input duty follows it at a frame boundary. The line is the board's,
so it changes whether or not the package has power. -/
def execThrottleNChange (high : Bool) (s : State) : Host.Outcome State Fault Refusal :=
  .next
    (let t := { s with power := { s.power with throttleHigh := high } }
    if s.power.clocks then t.setVol (ek 0x1004 6) (if high then 1 else 0) else t)

/-- The average of the draws of the last millisecond in FP32 (R429). -/
def averageOf (l : List Word) : Word :=
  rne32 ((l.foldl (fun a w => a.add (f32 w)) FVal.zero).div (FVal.ofInt (max 1 l.length)))

/-- The draws of the last millisecond with one more: a hundred of them (R429). -/
def Power.sampled (p : Power) (watts : Word) : Power :=
  { p with samples := (p.samples ++ [watts]).drop (p.samples.length + 1 - 100) }

/-- POWER_SAMPLE (R429): the draw of 10 µs joins the 1 ms average. -/
def execPowerSample (watts : Word) (s : State) : Host.Outcome State Fault Refusal :=
  let p := s.power.sampled watts
  s.clockedPower (s.setVol (ek 0x1004 1) (averageOf p.samples).toNat) p

/-- The 1 ms average as a value. -/
def State.averagePower (s : State) : FVal := f32 (BitVec.ofNat 32 (s.volAt (ek 0x1004 1)))

/-- The cap duty after a period of 100 µs above the cap: one more up to the limit; after a hundred such periods at the limit
(10 ms) one more up to 48 (R429). -/
def Power.capRise (p : Power) (limit : Nat) : Power :=
  if p.capDuty < limit then { p with capDuty := p.capDuty + 1, past := 0 }
  else if p.past < 100 then { p with past := p.past + 1 }
  else { p with capDuty := if p.capDuty < 48 then p.capDuty + 1 else p.capDuty }

/-- The cap duty after its timer: a rise above the cap, a fall below 98 % of it (R429). -/
def State.capStep (s : State) : Power :=
  let cap := FVal.ofInt (s.cfgAt (ek 0x2070 1))
  let p := s.power
  if cap.lt s.averagePower then p.capRise s.capLimit
  else if (s.averagePower.mul (FVal.ofInt 100)).lt (cap.mul (FVal.ofInt 98)) then { p with capDuty := p.capDuty - 1, past := 0 }
  else { p with past := 0 }

/-- CAP_DUTY_STEP (R429): the cap duty's timer, of 100 µs above the cap and of 1 ms below 98 % of it. -/
def execCapDutyStep (s : State) : Host.Outcome State Fault Refusal :=
  s.clockedPower (s.noteSources s.capStep) s.capStep

/-! ### Temperatures (R431, R432) -/

/-- The hottest of some readings with its place, the first of equals. -/
def hottest (l : List Int) : Option (Int × Nat) :=
  l.zipIdx.foldl (fun a t => match a with
    | some b => if b.1 < t.1 then some t else a
    | none => some t) none

/-- The die that sensor number `i` sits on: sixteen on each compute die, then four on the hub die (R431). -/
def sensorDie (i : Nat) : Nat := min 4 (i / 16)

/-- A reading in whole degrees as an I32 entry holds it. -/
def degrees (t : Int) : Nat := (t / 16 % (2 ^ 32 : Nat)).toNat

/-- Whether readings amount to a thermal trip (R432). -/
def readingTrips (t : ThermalReading) : Bool :=
  t.dies.any (fun d => decide (115 * 16 ≤ d)) || t.stackTemps.any fun d => decide (105 * 16 ≤ d)

/-- The readings taken into the entries that show them (Table 13-6, Table 23-6). -/
def State.noteReadings (s : State) (t : ThermalReading) : State :=
  let s := match hottest t.dies with
    | some h => (s.setVol (ek 0x1004 4) (degrees h.1)).setVol (ek 0x1004 5) (diePath (sensorDie h.2))
    | none => s
  (t.stackTemps.take 12).zipIdx.foldl (fun s d => s.setVol (ek (0xD050 + d.2) 5) (degrees d.1)) s

/-- The readings taken; at the trip limit the clocks stop and THERMTRIP_N goes low. -/
def Power.read (p : Power) (t : ThermalReading) : Power :=
  if readingTrips t then { p with dies := t.dies, stackTemps := t.stackTemps, clocks := false, tripped := true }
  else { p with dies := t.dies, stackTemps := t.stackTemps }

/-- THERMAL_SAMPLE (R431, R432): the readings; at the trip limit the notice is sent and the hub die and the package fault. -/
def execThermalSample (t : ThermalReading) (s : State) : Host.Outcome State Fault Refusal :=
  s.clockedPower
    (if readingTrips t then ((s.noteReadings t).faultNotice 2).enterFaulted uHub 0 else s.noteReadings t)
    (s.power.read t)

/-- A thermal duty after 1 ms (R431): four more with a reading at the threshold, one fewer with every reading 3 °C below it; at
most 48. -/
def thermalStep (duty : Nat) (readings : List Int) (threshold : Int) : Nat :=
  if readings.any fun d => decide (threshold * 16 ≤ d) then min 48 (duty + 4)
  else if readings.all fun d => decide (d < (threshold - 3) * 16) then duty - 1 else duty

/-- Both thermal duties after a millisecond. -/
def State.thermalSteps (s : State) : Power :=
  { s.power with
    dieDuty := thermalStep s.power.dieDuty s.power.dies (s.cfgAt (ek 0x2070 4))
    stackDuty := thermalStep s.power.stackDuty s.power.stackTemps 95 }

/-- A millisecond counted while a condition holds (Table 23-6, R440). -/
def State.countMs (s : State) (sub : Nat) (b : Bool) : State :=
  if b then s.count (ek 0x8C00 sub) 1 0x1605 0x5000 [(0x8C00, 2), (sub, 2)] else s

/-- The millisecond statistics of Table 23-6. -/
def State.countDuties (s : State) (p : Power) : State :=
  ((((s.countMs 1 (decide (0 < p.capDuty))).countMs 2 (decide (0 < p.inputDuty))).countMs 3
    (decide (0 < p.dieDuty) || decide (0 < p.stackDuty))).countMs 4 (decide (s.capLimit < p.capDuty)))

/-- THERMAL_DUTY_STEP (R431): both thermal duties after a millisecond, which the statistics count. -/
def execThermalDutyStep (s : State) : Host.Outcome State Fault Refusal :=
  let p := s.thermalSteps
  s.clockedPower ((s.noteSources p).countDuties p) p

/-- The input duty as the line has it (R430). -/
def State.lineDuty (s : State) : Power :=
  { s.power with inputDuty := if s.power.throttleHigh then 0 else s.cfgAt (ek 0x2070 3) }

/-- The gated cycles of a frame counted in every core the package has, 0x8100+n:03 (R77, R83, R427). -/
def State.countGated (s : State) (duty : Nat) : State :=
  (List.finRange 52).foldl (fun s c =>
    if s.ust (coreUnit c) = stAbsent then s
    else s.count (ek (0x8100 + c.val) 3) duty 0x0406 (corePath c) [(3, 2)]) s

/-- GATE_FRAME_BOUNDARY (R83, R427, R428, R430): the input duty follows the line, and the largest of the four is in force for the 64
cycles that follow, so many of which are gated. Gated cycles change no state of a core but their count. -/
def execGateFrameBoundary (s : State) : Host.Outcome State Fault Refusal :=
  let p := s.lineDuty
  s.clockedPower (((s.setVol (ek 0x1004 2) p.duty).noteSources p).countGated p.duty) p

/-! ### Loss of power and start-up (R425, R426, R435) -/

/-- What a package without power still holds: fused entries and HBM3E storage (R426); what waits and what it has sent are not
its own, the lines of the board keep their levels, and free values are drawn on. -/
def State.unpowered (s : State) : State :=
  { State.reset with
    pending := s.pending
    out := s.out
    freeIx := s.freeIx
    fuseBanks := s.fuseBanks
    hbm := s.hbm
    power := { Power.reset with throttleHigh := s.power.throttleHigh, tripped := s.power.tripped } }

/-- POWER_LOSS (R425, R426): the notice while the clocks still run, the open-drain hold line released, nothing kept. -/
def execPowerLoss (s : State) : Host.Outcome State Fault Refusal :=
  .next
    (if !s.power.on then s
    else ((if s.power.clocks then s.faultNotice 3 else s).send ⟨.croak, 1, [1], []⟩).unpowered)

/-- The units whose loading needs no image: they calibrate from power-good on. Arrays load with their core. -/
def startsAlone (u : UnitNo) : Bool := decide (208 ≤ u.val) && (kindOf u).isNone

/-- The units detected go from ABSENT to COLD, the pair and the group apart, which commits and beats bring (R435, R437, R438). -/
def State.detect (s : State) (us : List UnitNo) : State :=
  us.foldl (fun s u =>
    if u = uPair ∨ u = uGroup ∨ s.ust u ≠ stAbsent then s
    else
      let s := s.transition u stCold 0#8
      if startsAlone u then s.startLoading u false none else s) s

/-- Power and gating once PWRGD is high: powered, the clocks running, no trip. -/
def Power.started (p : Power) : Power := { Power.reset with on := true, clocks := true, throttleHigh := p.throttleHigh }

/-- The package as power-good finds it: nothing kept but fused entries and HBM3E storage, every fused entry in its latest bank
in effect, the straps sampled, the measurement of the boot ROM, the clocks running. -/
def State.started (s : State) (straps : BitVec 5) : State :=
  let t := s.unpowered.takeFused 0 0xFFFF
  let t := { t with
    cfg := cfgSet t.cfg (ek 0x1010 3) straps.toNat
    measurement := sha512 Config.bootRom
    power := s.power.started }
  (t.setVol (ek 0x1001 2) 650).setVol (ek 0x1004 6) (if s.power.throttleHigh then 1 else 0)

/-- POWER_GOOD (R435, R449): the package starts as if new; every unit it detects goes from ABSENT to COLD. -/
def execPowerGood (p : PartStart) (s : State) : Host.Outcome State Fault Refusal :=
  .next (if s.power.on then s
    else { ((s.started p.straps).detect p.detected).settled 0 with pending := s.pending, power := s.power.started })

end Sys2Proof.Machine
end

