-- ==== Sys2Proof/Machine/Random.lean ====
section
/-! DEFINITION. RANDOM (R206 to R209, R211, R212). -/
namespace Sys2Proof.Machine

/-- The FP32 pattern of a draw kind for elements, each its logical index and its lane: 0 raw, 1 uniform, 2 normal,
3 Bernoulli (R207, R208). -/
def State.randomVals (s : State) (c : CoreId) (op : Nat) (f : RandF) (es : List (Nat × Nat)) : List Word × State :=
  match op with
  | 0 => let r := s.draw32s c f.stream f.draw es; (r.1.map (BitVec.ofNat 32), r.2)
  | 1 => let r := s.draw32s c f.stream f.draw es; (r.1.map fun u => rne32 (uniformOf u), r.2)
  | 2 =>
    let r := s.drawPairs c f.stream f.draw es
    ((r.1.zip es).map fun p => rne32 (normalOf p.1.1 p.1.2 (p.2.1 % 2 == 1)), r.2)
  | _ =>
    let r := s.draw16s c f.stream f.draw es
    (r.1.map fun d => if d < f.threshold then 0x3F800000#32 else 0#32, r.2)

/-- The destination descriptor. -/
def randDesc (f : RandF) : DReg := ⟨f.dst.toNat % 64, Nat.mod_lt _ (by decide)⟩

/-- The checks of RANDOM (R134, R209, R272, Table 7-13). -/
def State.randomStops (s : State) (c : CoreId) (op : Nat) (f : RandF) : List (Option Stop) :=
  let w := s.wordOf c
  let ill (p : Nat) : Stop := illegal w clsRandom op p
  let d := s.desc c (randDesc f)
  [ stopIf (f.dstKind == 3#2) (ill (atWord 1 30)),
    stopIf (f.dstKind == 2#2 && op != 3) (ill (atWord 1 30)),
    stopIf (f.dstKind == 1#2 && decide (31 < f.dst.toNat)) (ill (atWord 1 24)),
    stopIf (f.dstKind == 2#2 && decide (7 < f.dst.toNat)) (ill (atWord 1 24)),
    (if f.dstKind = 0#2 then s.descStop c clsRandom op (randDesc f) [0, 1, 2] else none),
    stopIf (f.dstKind == 0#2 && d.ctl.rnd == 1#2) (badFormat w clsRandom (atDesc 0 7) d.ctl.dst.toNat),
    stopIf (f.dstKind == 0#2 && op == 0 && d.ctl.dst != 0x0#4 && d.ctl.dst != 0xD#4)
      (badFormat w clsRandom (atDesc 0 12) d.ctl.dst.toNat),
    s.streamStop c f.stream ]

/-- One row of a descriptor destination, every column (R209). -/
def State.randomRow (s : State) (c : CoreId) (op : Nat) (f : RandF) (d : Desc) (r : Int) : State :=
  if !decide (0 ≤ r ∧ r < (d.rows : Int)) then s
  else
    let v := s.randomVals c op f ((List.range d.n0).map fun (j : Nat) => (d.logical r (j : Int), j % 128))
    if op = 0 then
      v.2.storeTensor c d (v.1.zipIdx.map fun p => ⟨r.toNat, p.2, p.1.toNat, false⟩) []
    else
      v.2.storeRow c (s.slotOf c (randDesc f)) d d.ctl true 0#32 0#32 r 0 (v.1.map fun w => some (Cell.of (f32 w) false))

/-- RANDOM once its checks have passed (R209). -/
def State.randomRun (s : State) (c : CoreId) (op : Nat) (f : RandF) : State :=
  let base := (s.xr c f.xi).toNat
  let es := (List.range 128).map fun i => ((base + i) % 2 ^ 64, i)
  match f.dstKind.toNat with
  | 0 =>
    let d := s.desc c (randDesc f)
    let xdr := s.xi c f.xdr
    (List.range f.rows).foldl (fun s (r : Nat) => s.randomRow c op f d (xdr + (r : Int))) (s.markChecked c (randDesc f))
  | 1 =>
    let v := s.randomVals c op f es
    v.2.writeV c f.dst.toNat (BitVec.allOnes 128) false fun i => ⟨v.1.getD i 0#32, false⟩
  | _ =>
    let v := s.randomVals c op f es
    v.2.updCore c fun k => k.setMask ⟨f.dst.toNat % 8, Nat.mod_lt _ (by decide)⟩ (bitsOf fun i => v.1.getD i 0#32 != 0#32)

/-- RANDOM at its issue. -/
def State.random (s : State) (i : Instr) (c : CoreId) (h : Hdr) (op : Nat) (f : RandF) : State :=
  s.issue i c h clsRandom false fun s => s.checked c (s.randomStops c op f) fun s => s.randomRun c op f

/-- RANDOM raw (R207, R209). -/
def execRandomRaw (c : CoreId) (h : Hdr) (f : RandF) (s : State) : Host.Outcome State Fault Refusal :=
  s.clocked (s.random (.randomRaw c h f) c h 0 f)

/-- RANDOM uniform (R207). -/
def execRandomUniform (c : CoreId) (h : Hdr) (f : RandF) (s : State) : Host.Outcome State Fault Refusal :=
  s.clocked (s.random (.randomUniform c h f) c h 1 f)

/-- RANDOM normal (R208). -/
def execRandomNormal (c : CoreId) (h : Hdr) (f : RandF) (s : State) : Host.Outcome State Fault Refusal :=
  s.clocked (s.random (.randomNormal c h f) c h 2 f)

/-- RANDOM Bernoulli (R207). -/
def execRandomBernoulli (c : CoreId) (h : Hdr) (f : RandF) (s : State) : Host.Outcome State Fault Refusal :=
  s.clocked (s.random (.randomBernoulli c h f) c h 3 f)

end Sys2Proof.Machine
end

