-- ==== Sys2Proof/Machine/Service.lean ====
section
/-! DEFINITION. Unit operations (R26, Table 2-7) by the UNITOP command and by a write of U+2:01, and frame writes that
complete no other command (R282, R284). -/
namespace Sys2Proof.Machine

/-- The unit operation of a UNITOP command, one refused as it is taken among them in the audit ring (R390): physical function only, a path that is well formed, no unit of another vat (R7, R26,
R280, Table 15-2). -/
def State.unitop (s : State) (c : Cmd) : Except Refused State :=
  let path := c.field 1 15 0
  let refused (outcome reason : Nat) : Except Refused State :=
    .ok ((s.auditRec { AuditEntry.plain 8 4 4 outcome with vat := c.vat.val, path := path }).refuseCmd c ⟨reason, none⟩)
  if c.fn ≠ 0 then refused 10 10
  else match unitOfPath path with
    | none => refused 2 16
    | some u => if s.foreign c.vat u then refused 2 2 else .ok (s.submitReq ⟨u, BitVec.ofNat 8 (c.field 1 23 16), c.pair 2, BitVec.ofNat 16 (c.field 4 15 0), .driver, 0#16,
        List.replicate 8 0#8, 4, some ⟨c.fn, c.slot, c.vat, c.frame⟩⟩)

/-- A write of U+2:01 (R26): the request carries the target and version the session wrote since its last submission. -/
def State.unitWrite (s : State) (x : Session) (m : KopMsg) : State × Nat × List Byte :=
  s.writeMsg x m fun s r v =>
    match unitIndex (idxOf m) with
    | none => (s, 0)
    | some (n, _) =>
      let s := s.auditWrite x m 2 r [] []
      let q : UnitReq := ⟨unitOf n, BitVec.ofNat 8 v, Sparse.get 0 x.targets n, BitVec.ofNat 16 (Sparse.get 0 x.versions n),
        x.role, x.mask, x.keyId, viaSource m.via, none⟩
      let s := s.updSession x.id fun y => { y with targets := Sparse.del y.targets n, versions := Sparse.del y.versions n }
      (s.submitReq q, 0)

/-- A unit operation from either path: the request of the row's operation code, other codes' requests being other rows'. -/
def State.unitOperation (s : State) (r : UnitSrc) (op : Nat) : State :=
  match r with
  | .frame w => s.command w (fun c => c.code == 12 && c.field 1 23 16 == op) fun s c => s.unitop c
  | .kop m => s.kop m (rowOf m == .unitOp op) fun s x => s.unitWrite x m

/-- UNIT_HOLD (R24, R26). -/
def execUnitHold (r : UnitSrc) (s : State) : Host.Outcome State Fault Refusal := s.clocked (s.unitOperation r 1)

/-- UNIT_READMIT (R24, R26). -/
def execUnitReadmit (r : UnitSrc) (s : State) : Host.Outcome State Fault Refusal := s.clocked (s.unitOperation r 2)

/-- UNIT_TAIL_DROP (R26, R418). -/
def execUnitTailDrop (r : UnitSrc) (s : State) : Host.Outcome State Fault Refusal := s.clocked (s.unitOperation r 3)

/-- UNIT_UPDATE_IMAGE (R398, R417). -/
def execUnitUpdateImage (r : UnitSrc) (s : State) : Host.Outcome State Fault Refusal := s.clocked (s.unitOperation r 4)

/-- UNIT_RECALIBRATE (R417). -/
def execUnitRecalibrate (r : UnitSrc) (s : State) : Host.Outcome State Fault Refusal := s.clocked (s.unitOperation r 5)

/-- UNIT_RECLAIM (R27). -/
def execUnitReclaim (r : UnitSrc) (s : State) : Host.Outcome State Fault Refusal := s.clocked (s.unitOperation r 6)

/-- COMMAND_FRAME_WRITE (R282, R284): a frame write that completes no other row's command: its bytes accumulate; a reserved
code is refused with reason 1, a UNITOP with a reserved operation as R26 refuses it. -/
def execCommandFrameWrite (w : FrameWrite) (s : State) : Host.Outcome State Fault Refusal :=
  s.clocked (if !s.frameOk w then s
    else if !s.ideOk w.fn w.secure then s.discardTlp w.fn 2
    else if !frameCovers (lastPart w) then (s.frameBody w).frameStore (lastPart w)
    else s.command w (fun c => decide (c.code = 0 ∨ 12 < c.code) || (c.code == 12 && decide (c.field 1 23 16 = 0 ∨ 6 < c.field 1 23 16)))
      fun s c => if c.code = 12 then s.unitop c else refuse 1)

end Sys2Proof.Machine
end

