-- ==== Sys2Proof/Machine/Tap.lean ====
section
/-! DEFINITION. The test access port (R452): the IEEE 1149.1 controller behind the debug lock. -/
namespace Sys2Proof.Machine

/-- The controller's next state for a level of TMS. -/
def TapState.next : TapState → Bool → TapState
  | .testLogicReset, tms => if tms then .testLogicReset else .runTestIdle
  | .runTestIdle, tms => if tms then .selectDr else .runTestIdle
  | .selectDr, tms => if tms then .selectIr else .captureDr
  | .captureDr, tms => if tms then .exit1Dr else .shiftDr
  | .shiftDr, tms => if tms then .exit1Dr else .shiftDr
  | .exit1Dr, tms => if tms then .updateDr else .pauseDr
  | .pauseDr, tms => if tms then .exit2Dr else .pauseDr
  | .exit2Dr, tms => if tms then .updateDr else .shiftDr
  | .updateDr, tms => if tms then .selectDr else .runTestIdle
  | .selectIr, tms => if tms then .testLogicReset else .captureIr
  | .captureIr, tms => if tms then .exit1Ir else .shiftIr
  | .shiftIr, tms => if tms then .exit1Ir else .shiftIr
  | .exit1Ir, tms => if tms then .updateIr else .pauseIr
  | .pauseIr, tms => if tms then .exit2Ir else .pauseIr
  | .exit2Ir, tms => if tms then .updateIr else .shiftIr
  | .updateIr, tms => if tms then .selectDr else .runTestIdle

/-- The identification code: the Device ID of R323 in bits [27:12], the JEDEC code in bits [11:1], bit 0 set as IEEE 1149.1
has it. -/
def tapId : Word := Config.tapVersion ++ (0x1248#16 ++ (Config.jedecCode ++ 1#1))

/-- A word's bits, least significant first. -/
def wordBits (w : Word) : List Bool := (List.range 32).map fun i => w.getLsbD i

/-- What Capture-DR loads: the identification code, a zero for the bypass instruction of all ones, for any other instruction a
free value. -/
def Tap.capture (t : Tap) (draw : Nat) : List Bool :=
  if t.ir = Config.tapIdcode then wordBits tapId
  else if t.ir.all id then [false]
  else Config.tapCapture t.ir draw

/-- A register shifted by one, TDI at its top. -/
def tapShift (l : List Bool) (tdi : Bool) : List Bool := l.tail ++ [tdi]

/-- A rising edge of TCK: the register the state names captures or shifts, then the controller moves. -/
def Tap.rise (t : Tap) (tms tdi : Bool) (draw : Nat) : Tap :=
  { (match t.state with
      | .captureIr => { t with irShift := true :: false :: Config.tapIrCapture }
      | .shiftIr => { t with irShift := tapShift t.irShift tdi }
      | .captureDr => { t with dr := t.capture draw }
      | .shiftDr => { t with dr := tapShift t.dr tdi }
      | _ => t : Tap) with state := t.state.next tms }

/-- A falling edge of TCK: the instruction is updated, and TDO shows the shifting register's lowest bit. -/
def Tap.fall (t : Tap) : Tap :=
  match t.state with
  | .testLogicReset => { t with ir := Config.tapIdcode, tdo := none }
  | .updateIr => { t with ir := t.irShift, tdo := none }
  | .shiftIr => { t with tdo := t.irShift.head? }
  | .shiftDr => { t with tdo := t.dr.head? }
  | _ => { t with tdo := none }

/-- TEST_ACCESS_PORT_CLOCK (R452): held in Test-Logic-Reset while debug is locked, and by TRST_N low; an edge of TCK otherwise.
The port runs on TCK, so stopped package clocks do not hold it. -/
def execTestAccessPortClock (p : TapPins) (s : State) : Host.Outcome State Fault Refusal :=
  .next
    (if !s.power.on || s.volAt (ek 0xA000 5) == 0 || !p.trstN then { s with tap := Tap.reset }
    else if p.rising then { s with tap := s.tap.rise p.tms p.tdi s.freeIx, freeIx := s.freeIx + 1 }
    else { s with tap := s.tap.fall })

end Sys2Proof.Machine
end

