-- ==== Sys2Proof/Machine/Training.lean ====
section
/-! DEFINITION. CENSUS (R216 to R220) and the verdict (R221 to R225). -/
namespace Sys2Proof.Machine

/-- A CENSUS operation at its issue; `sp` the ranges of the core buffer it reads or writes. -/
def State.cen (s : State) (i : Instr) (c : CoreId) (h : Hdr) (stops : State → List (Option Stop)) (eff : State → State)
    (sp : Spans := []) : State :=
  s.issueOver i c h clsCensus sp fun s => s.checked c (stops s) eff

/-- The ranges of the core buffer that SCAN reads. -/
def State.scanSpans (s : State) (c : CoreId) (f : CenF) : Spans :=
  let d := s.desc c f.d
  if d.loc = 2 then d.spans (s.xi c f.xr) f.rows 0 d.n0 else []

/-- ATTACH: the descriptor bound to the slot; slot 15 is illegal (R216, R217). -/
def execAttach (c : CoreId) (h : Hdr) (f : CenF) (s : State) : Host.Outcome State Fault Refusal :=
  s.clocked (s.cen (.attach c h f) c h (fun s => [stopIf (f.slot == 15) (illegal (s.wordOf c) clsCensus 0 (atWord 1 28))]) fun s =>
    s.updCore c fun k => { k with attach := k.attach.set f.d (some f.slot) })

/-- DETACH (R217). -/
def execDetach (c : CoreId) (h : Hdr) (f : CenF) (s : State) : Host.Outcome State Fault Refusal :=
  s.clocked (s.cen (.detach c h f) c h (fun _ => []) fun s => s.updCore c fun k => { k with attach := k.attach.set f.d none })

/-- SCAN: the named rows of D, every column, counted as a CEN stage counts (R218). -/
def execCensusScan (c : CoreId) (h : Hdr) (f : CenF) (s : State) : Host.Outcome State Fault Refusal :=
  s.clocked (s.cen (.censusScan c h f) c h (fun s => [s.descStop c clsCensus 2 f.d [0, 1, 2], int2Stop (s.wordOf c) clsCensus (s.desc c f.d)]) (fun s =>
    let d := s.desc c f.d
    let r0 := s.xi c f.xr
    let p := (s.markChecked c f.d).reader c d r0 f.rows 0 d.n0
    let rd := p.1.peek c d.loc p.2
    let rows := (List.range f.rows).filterMap fun (i : Nat) =>
      let r := r0 + (i : Int)
      if 0 ≤ r ∧ r < (d.rows : Int) then some r else none
    p.1.addCensus c (s.slotOf c f.d) (rows.foldl (fun n r => (List.range d.n0).foldl (fun n (j : Nat) =>
      let e := memItem rd d r (j : Int)
      n.add (cenCounts (e.value d) e.poison)) n) Counts.none)) (s.scanSpans c f))

/-- The 128-byte record of a slot (Table 12-2). -/
def Census.record (z : Census) (core slot : Nat) : List Byte :=
  z.q.toList.flatMap (fun w => leBytes w.toNat 8) ++ leBytes z.cenMax.toNat 4 ++ leBytes z.convMax.toNat 4
    ++ leBytes (core * 2 ^ 32 + slot) 8 ++ List.replicate 40 0#8

/-- The address STORE writes to: D's base plus the low 32 bits of Xr (R219). -/
def State.storeAddr (s : State) (c : CoreId) (f : CenF) : Nat := (s.desc c f.d).base + (s.xr c f.xr).toNat % 2 ^ 32

/-- The checks of STORE (R219). -/
def State.censusStops (s : State) (c : CoreId) (f : CenF) : List (Option Stop) :=
  let d := s.desc c f.d
  [ s.descStop c clsCensus 3 f.d [0, 1, 2, 3],
    int2Stop (s.wordOf c) clsCensus d,
    (if d.loc = 3 then s.pipeStop c d.pipe.val true
      else (s.outside c d.loc (s.storeAddr c f) 128).map fun a => outOfBounds (s.wordOf c) f.d.val a) ]

/-- STORE: the record at its address or into its pipe; a guarded slot also folds into the open verdict, visible once an
ordering covers it (R219, R221). -/
def execCensusStore (c : CoreId) (h : Hdr) (f : CenF) (s : State) : Host.Outcome State Fault Refusal :=
  s.clocked (
    let dd := s.desc c f.d
    if dd.loc == 3 && s.tailWaits c h dd.pipe then s.holdBack c (.censusStore c h f)
    else s.cen (.censusStore c h f) c h (fun s => s.censusStops c f) (fun s =>
      let d := s.desc c f.d
      let z := s.cores[c].census[f.slot]
      let bs := z.record (s.lq c) f.slot
      let at_ := s.storeAddr c f
      let s := s.markChecked c f.d
      let s := if d.loc = 3 then s.pipeWrite c d.pipe (bs.map fun b => (b, false)) else s.storeCells c d.loc (cellsAt at_ bs) []
      if f.slot.val < 8 then s.updCore c fun k => { k with folds := k.folds ++ [z] } else s)
      (if dd.loc = 2 then [(s.storeAddr c f, 128)] else []))

/-- CLEAR (R219). -/
def execCensusClear (c : CoreId) (h : Hdr) (f : CenF) (s : State) : Host.Outcome State Fault Refusal :=
  s.clocked (s.cen (.censusClear c h f) c h (fun _ => []) fun s => s.updCore c fun k => { k with census := k.census.set f.slot Census.zero })

/-! ### The verdict -/

/-- Why a verdict is BAD (R223, Table 12-3). -/
structure Judgement where
  taint : Bool
  accum : Bool
  sat : Bool
  poison : Bool
  bad : Bool
  deriving DecidableEq, Repr

/-- A verdict judged against the saturation limit (R223). -/
def Verdict.judge (v : Verdict) (limit : Nat) : Judgement :=
  let n (i : Fin 9) : Nat := v.acc.q[i].toNat % 2 ^ 63
  let accum := (List.finRange 9).any fun (i : Fin 9) => v.acc.q[i].getLsbD 63
  let sat := decide (limit < n 3)
  let poison := n 8 != 0
  ⟨v.taint, accum, sat, poison, v.taint || n 2 != 0 || n 4 != 0 || poison || sat || accum⟩

/-- What a SEAL changes: the next verdict, its record, FLOOR (R223 to R225). -/
structure Sealed where
  next : Verdict
  record : List Byte
  floor : Bool
  word1 : Nat
  deriving DecidableEq, Repr

/-- The loss scale after a verdict (R225): the scale, the good steps, FLOOR. -/
def nextScale (bad : Bool) (scale lo hi : Word) (good interval : Nat) : Word × Nat × Bool :=
  let x := f32 scale
  if bad then
    let y := rne32v (x.mul (.fin false 1 (-1)))
    (if y.lt (f32 lo) then lo else rne32 y, 0, !(f32 lo).lt x)
  else if interval ≤ good + 1 then
    let y := rne32v (x.mul (.fin false 2 0))
    (if (f32 hi).lt y then hi else rne32 y, 0, false)
  else (scale, (good + 1) % 2 ^ 32, false)

/-- A verdict sealed (R223 to R225, Table 12-3). -/
def Verdict.sealWith (v : Verdict) (limit : Nat) (init lo hi : Word) (interval : Nat) : Sealed :=
  let j := v.judge limit
  let n := nextScale j.bad v.scale lo hi v.good interval
  let scale := if v.initPending then init else n.1
  let good := if v.initPending then 0 else n.2.1
  let seq := v.seq + 1
  let w1 := b2n n.2.2 * 32 + b2n j.taint * 16 + b2n j.accum * 8 + b2n j.sat * 4 + b2n j.poison * 2 + b2n j.bad
  { next := ⟨Census.zero, false, good, false, scale, seq, j.bad⟩
    record := leBytes seq.toNat 4 ++ leBytes w1 4 ++ leBytes scale.toNat 4 ++ leBytes v.scale.toNat 4 ++ leBytes good 4
      ++ leBytes v.acc.convMax.toNat 4 ++ List.replicate 8 0#8
    floor := n.2.2
    word1 := w1 }

/-- The record address of the vat's verdict, 0x8200. -/
def State.verdictAddr (s : State) (v : VatNo) : Nat := s.cfgAt (ek 0x8200 (v.val + 1))

/-- The open verdict of a vat sealed: its record in HBM, the loss scale updated, its events and statistic (R223 to R225,
R231, R329). -/
def State.sealVerdict (s : State) (v : VatNo) : State :=
  let sub := v.val + 1
  let w (idx : Nat) : Word := BitVec.ofNat 32 (s.cfgAt (ek idx sub))
  let r := s.verdicts[v].sealWith (s.cfgAt (ek 0x8201 sub)) (w 0x8202) (w 0x8203) (w 0x8204) (s.cfgAt (ek 0x8205 sub))
  let s := { s with verdicts := s.verdicts.set v r.next }
  let s := s.writeHbm (s.verdictAddr v) r.record 2
  let s := if r.next.bad then
      (s.countFor v (ek 0x8209 sub) 0x0C04 0x5000 sub).raiseVat v 0x0C01 0x5000
        [(v.val, 1), (r.next.seq.toNat, 4), (r.word1, 1)]
    else s
  let s := if r.floor then s.raiseVat v 0x0C02 0x5000 [(v.val, 1), (r.next.seq.toNat, 4)] else s
  s.vatCause v 3 3

/-- SEAL (R223); its bounds fault names descriptor 0xFF. -/
def execSeal (c : CoreId) (h : Hdr) (f : CenF) (s : State) : Host.Outcome State Fault Refusal :=
  s.clocked (s.cen (.seal c h f) c h (fun s =>
      let v := s.vatOf c
      [(s.firstOutside v.val 9 (s.verdictAddr v) (s.verdictAddr v + 32)).map fun a => outOfBounds (s.wordOf c) 0xFF a])
    fun s => s.sealVerdict (s.vatOf c))

end Sys2Proof.Machine
end

