-- ==== Sys2Proof/Machine/Twin.lean ====
section
/-! DEFINITION. The twin link: heartbeats, loss and return, pair records, pipe flits, shadow records, the export's end and the
twin's audit records (R30, R349 to R357, R393, R438). -/
namespace Sys2Proof.Machine

/-- TWIN_HEARTBEAT (R268, R350): a flit while the link is up; it carries the credit returns of twin-link pipes and of the link itself. -/
def execTwinHeartbeat (s : State) : Host.Outcome State Fault Refusal :=
  s.clocked (if s.volAt (ek 0xC010 3) ≠ 2 then s
    else
      let l := s.toTell true 0
      let s := (l.foldl (fun s c => s.send ⟨.twin, 10, [mapRemote (s.pipeMap c.1.val), c.2.toNat], []⟩) (s.send ⟨.twin, 0, [], []⟩)).told l
      if s.twinPool.owe.toList.all fun n => n == 0 then s
      else ({ s with twinPool := { s.twinPool with owe := Vector.replicate 4 0 } } : State).send ⟨.twin, 13, s.twinPool.owe.toList, []⟩)

/-- TWIN_LOSS_OF_SIGNAL (R350). -/
def execTwinLossOfSignal (s : State) : Host.Outcome State Fault Refusal := s.clocked s.twinDown

/-- TWIN_FLIT_TIMEOUT (R350): four microseconds without any flit. -/
def execTwinFlitTimeout (s : State) : Host.Outcome State Fault Refusal := s.clocked s.twinDown

/-- TWIN_PROBE_TIMEOUT (R350): the probe was not answered within 0xC000:03. -/
def execTwinProbeTimeout (s : State) : Host.Outcome State Fault Refusal :=
  s.clocked (if s.twin.probing then s.partnerLost 1 else s)

/-- The flits of a message, by number; a flit sent again is a message of its own (DESIGN CHOICE, assumption 25). -/
def OutMsg.flit (m : OutMsg) (i : Nat) : OutMsg :=
  if m.kind = 14 then m else ⟨.twin, 14, [m.kind, i] ++ m.nums, (m.data.drop (1008 * i)).take 1008⟩

/-- TWIN_FLIT_CRC_FAIL (R349): the flit, counted back from the last one sent, leaves again while it is among the last 256. -/
def execTwinFlitCrcFail (flit : Nat) (s : State) : Host.Outcome State Fault Refusal :=
  s.clocked <|
  let sent := ((s.out.filter fun m => m.dest == .twin).flatMap fun m => (List.range m.flits).map m.flit).reverse
  (if s.volAt (ek 0xC010 3) ≠ 2 ∨ 256 ≤ flit then s
    else match sent[flit]? with
      | some m => s.send m
      | none => s)

/-- Audit records newer than the twin's last, as far back as the ring reaches; the rest are counted in 0x9000:06 under EV-0x1403
(R393). The twin's last record is the last one handed to the link since start-up. -/
def State.catchUpAudit (s : State) : State :=
  let last := s.twinPool.audited
  let due := s.audit.filter fun r => newer (BitVec.ofNat 32 (leNat (r.take 4))) (BitVec.ofNat 32 last)
  let gone := (s.volAt (ek 0x9000 1) + 2 ^ 32 - last) % 2 ^ 32 - due.length
  let s := due.foldl (fun s r => s.auditTwin (leNat (r.take 4)) r) s
  if gone = 0 then s
  else (s.count (ek 0x9000 6) gone 0x1404 0x5000 [(6, 2)]).raise 0x1403 0x5000 [(2, 1), (gone, 4)]

/-- TWIN_LINK_UP (R266, R350, R357, R393): a link that is down, not lost with its partner, comes up; paired twins reconcile, and
records the twin has not seen follow. -/
def execTwinLinkUp (m : Reconcile) (s : State) : Host.Outcome State Fault Refusal :=
  s.clocked <|
  let st := s.volAt (ek 0xC010 3)
  let u := s.ust (hubUnit 9)
  (if st = 2 ∨ st = 3 ∨ u = stAbsent ∨ u = stCold ∨ u = stLoading then s
    else
      let s := { s.setVol (ek 0xC010 3) 2 with twin := { s.twin with probing := false } }
      match s.peer .twin with
      | none => s
      | some r =>
        if !r.reconciling then s.catchUpAudit
        else
          let s := (s.owe 3 (reconcilePayload m).length).sendTwin 3 ⟨.twin, 11, [], reconcilePayload (s.reconcileMsg .twin true 0)⟩
          (s.reconcileWith .twin 0 m).catchUpAudit)

/-- TWIN_FAULT_NOTICE (R350, R357): the partner is ABSENT, whatever a probe reply said. -/
def execTwinFaultNotice (s : State) : Host.Outcome State Fault Refusal :=
  s.clocked (if s.cfgAt (ek 0xC010 1) = 0 ∨ s.volAt (ek 0xC010 3) = 3 then s else s.partnerLost 2)

/-- TWIN_PIPE_FLIT (R268, R346): bytes into an inbound pipe of the twin link, credits for an outbound one, or the link's own credits. -/
def execTwinPipeFlit (m : PipeFlit) (s : State) : Host.Outcome State Fault Refusal :=
  s.clocked (if s.volAt (ek 0xC010 3) ≠ 2 then s
    else match m with
      | .data n bytes last =>
        let s := s.owe 0 bytes.length
        if s.inbound n true 0 then s.takeInbound n bytes last else s
      | .credit n freed => if mapTwin (s.pipeMap n.val) && s.outbound n.val then s.creditBack n.val freed else s
      | .returns c0 c1 c2 c3 => s.twinReturns #v[c0, c1, c2, c3])

/-! ### The pair record (R30, R438) -/

/-- PAIR_RECORD_TIMER (R438): until beats run, the record goes to the twin every 1 ms. -/
def execPairRecordTimer (s : State) : Host.Outcome State Fault Refusal :=
  s.clocked (if s.beatsAbsent then s.sendPair else s)

/-- The role of a number (Table 20-5). -/
def pairRole (n : Fin 5) : Role :=
  match n.val with
  | 1 => .operator
  | 2 => .installer
  | 3 => .maker
  | 4 => .driver
  | _ => .package

/-- The requests on the pair that entered the other package wait here for the same beat (R30). -/
def State.takePairReqs (s : State) (l : List PairReq) : State :=
  { s with unitReqs := s.unitReqs ++ l.map fun q =>
      ⟨uPair, q.op, q.target, q.version, pairRole q.role, 0#16, List.replicate 8 0#8, 0, none⟩ }

/-- PAIR_RECORD_RECEIVE (R30, R438): kept for the next beat, with how the partner stands and what requests entered it; the pair enters
LOADING at the first exchange and READY at the first in which both records name each other. -/
def execPairRecordReceive (r : PairRecord) (s : State) : Host.Outcome State Fault Refusal :=
  s.clocked (if s.volAt (ek 0xC010 3) ≠ 2 ∨ s.cfgAt (ek 0xC010 1) = 0 then s
    else
      let s := { (s.owe 3 0).takePairReqs r.requests with partner := ⟨r.member, r.memberCauses, 0#16⟩ }
      let s := if s.ust uPair = stCold then s.transition uPair stLoading 0#8 else s
      if s.ust uPair = stLoading then
        if r.names.toNat = s.cfgAt (ek 0xC000 1) ∧ r.sender.toNat = s.cfgAt (ek 0xC010 1) then
          (s.transition uPair stReady 0#8).reevaluate uPair
        else s
      else ({ s with twin := { s.twin with record := some r } } : State).reevaluate uPair)

/-! ### Shadow records (R351, R352) -/

/-- Word i of a record's header. -/
def shadowWord (r : ShadowRecord) (i : Nat) : Nat := (r.header.getD i 0#32).toNat
/-- A record's epoch. -/
def shadowEpoch (r : ShadowRecord) : Nat := shadowWord r 1
/-- A record's kind. -/
def shadowKind (r : ShadowRecord) : Nat := shadowWord r 2 % 4
/-- A record's offset, or the size a commit carries. -/
def shadowOffset (r : ShadowRecord) : Nat := shadowWord r 4 + 2 ^ 32 * shadowWord r 5

/-- Whether the bytes of the shadow pipe make a record (R351): sixteen header words and as many bytes of data as W3 says, a multiple of 64
up to 16 MiB, none for a commit or an abort; other bytes are no record (DESIGN CHOICE, assumption 126). -/
def wholeRecord (r : ShadowRecord) : Bool :=
  let n := shadowWord r 3
  r.header.length == 16 && r.data.length == n && n % 64 == 0 && decide (n ≤ 2 ^ 24)
    && (n == 0 || !(shadowKind r == 1 || shadowKind r == 2))

/-- A record refused (R352): EV-0x1206, and later records of its epoch are refused up to its abort. -/
def State.shadowRefused (s : State) (r : ShadowRecord) (why : Nat) : State :=
  ({ s with twin := { s.twin with refused := s.twin.refused.filter (· != shadowEpoch r) ++ [shadowEpoch r] } } : State).raise 0x1206 0x3009
    [(shadowEpoch r, 4), (shadowKind r, 1), (why, 1)]

/-- Whether a record's epoch is the one to come: the committed epoch and one, and not one refused before its abort. -/
def State.epochOk (s : State) (r : ShadowRecord) : Bool :=
  shadowEpoch r == (s.volAt (ek 0xC300 1) + 1) % 2 ^ 32 && !s.twin.refused.contains (shadowEpoch r)

/-- A record of one row: it comes on the link with sixteen header words and its data; the magic, a reserved kind and the epoch are
checked, an abort clearing a refusal of its own epoch. -/
def State.shadowIn (s : State) (r : ShadowRecord) (mine : Bool) (eff : State → State) : State :=
  if s.volAt (ek 0xC010 3) ≠ 2 ∨ !wholeRecord r ∨ !mine then s
  else
  let s := s.owe 0 (64 + r.data.length)
  if shadowWord r 0 ≠ 0x4B534844 ∨ shadowKind r = 3 then s.shadowRefused r 1
  else if shadowKind r = 2 ∧ s.twin.refused.contains (shadowEpoch r) then eff s
  else if !s.epochOk r then s.shadowRefused r 2
  else eff s

/-- SHADOW_DATA (R352): the data at its offset in half e mod 2; records of the reserved kind are refused here. -/
def execShadowData (r : ShadowRecord) (s : State) : Host.Outcome State Fault Refusal :=
  s.clocked (s.shadowIn r (shadowKind r == 0 || shadowKind r == 3) fun s =>
    let half := s.shadowSize / 2
    if half < shadowOffset r + r.data.length then s.shadowRefused r 3
    else (s.writeShadow (shadowEpoch r % 2 * half + shadowOffset r) r.data).countFabric 8 r.data.length)

/-- SHADOW_COMMIT (R352, R357): the half becomes current, the acknowledgement rennet of the partner is signalled, EV-0x1207. -/
def execShadowCommit (r : ShadowRecord) (s : State) : Host.Outcome State Fault Refusal :=
  s.clocked (s.shadowIn r (shadowKind r == 1) fun s =>
    let e := shadowEpoch r
    let n := shadowOffset r
    if s.shadowSize / 2 < n then s.shadowRefused r 4
    else
      let s := ((s.setVol (ek 0xC300 1) e).setVol (ek 0xC300 2) n).setVol (ek 0xC300 3) (e % 2)
      let s := (s.setVol (ek 0xC300 4) s.beat).hubSignal .twin r.vat (shadowWord r 6 / 2 ^ 16) 1
      s.raise 0x1207 0x3009 [(e, 4), (n, 8), (e % 2, 1)])

/-- SHADOW_ABORT (R352): the epoch is discarded. -/
def execShadowAbort (r : ShadowRecord) (s : State) : Host.Outcome State Fault Refusal :=
  s.clocked (s.shadowIn r (shadowKind r == 2) fun s => { s with twin := { s.twin with refused := s.twin.refused.filter (· != shadowEpoch r) } })

/-- EXPORT_COMPLETE (R355): the export's last segment has been acknowledged: EV-0x1208 and 0xC310:02. -/
def execExportComplete (s : State) : Host.Outcome State Fault Refusal :=
  s.clocked (match s.exporting with
    | none => s
    | some t =>
      let b := s.cfgAt (ek 0xC310 1)
      let r := s.binding b
      let open_ := r.sent.any (fun g => segType ⟨g.header, [], none⟩ == 10) || r.held.any fun h => h.typ == 10
      if t.done < t.size ∨ open_ then s
      else (({ s with exporting := none } : State).setVol (ek 0xC310 2) 2).raise 0x1208 0x3009
        [(s.bindPeer b, 4), (t.size, 8), (0, 1)])

/-- TWIN_AUDIT_RECORD_RECEIVE (R393): a record of the twin, held in the slot of its sequence. -/
def execTwinAuditRecordReceive (words : List Word) (s : State) : Host.Outcome State Fault Refusal :=
  s.clocked (if words.length ≠ 64 ∨ s.volAt (ek 0xC010 3) ≠ 2 then s
    else
      let slot := ((words.headD 0#32).toNat + 2 ^ 32 - 1) % 4096
      { s.owe 0 256 with twinAudit := Sparse.set [] s.twinAudit slot (wordsLE words) })

end Sys2Proof.Machine
end

