-- ==== Sys2Proof/Machine/Vector.lean ====
section
/-! DEFINITION. VECTOR (class 5): lane arithmetic (R91), masks (R90), packed conversion (R89), reductions (R95 to R98) and
scans (R99). -/
namespace Sys2Proof.Machine

/-! ### Lane operations -/

/-- An instruction that writes a vector register lane by lane under its mask (R90, R101). -/
def State.lanes (s : State) (i : Instr) (c : CoreId) (h : Hdr) (f : VecF) (g : Core → Nat → Lane) : State :=
  s.issue i c h clsVector false fun s =>
    (s.putV c f.vd (s.cores[c].mask f.mask) f.maskZero (g s.cores[c])).advance c

/-- An FP32 operation on Va and Vb: one rounding, canonical NaN, poison of either (R91). -/
def fpLane (f : VecF) (op : FVal → FVal → FVal) (k : Core) (i : Nat) : Lane :=
  let a := k.lane f.va i
  let b := k.lane f.vb i
  ⟨rne32 (op a.f b.f), a.poison || b.poison⟩

/-- An INT32 instruction: lanes saturate or wrap, a wrap in an active lane sets WRAP (R91). -/
def State.intLanes (s : State) (i : Instr) (c : CoreId) (h : Hdr) (f : VecF) (op : Int → Int → Int) : State :=
  s.issue i c h clsVector false fun s =>
    let k := s.cores[c]
    let mask := k.mask f.mask
    let r (i : Nat) : Word × Bool := int32Result f.sat (op (k.lane f.va i).val.toInt (k.lane f.vb i).val.toInt)
    let wrapped := (List.range 128).any fun i => mask.getLsbD i && (r i).2
    let s := s.putV c f.vd mask f.maskZero fun i => ⟨(r i).1, (k.lane f.va i).poison || (k.lane f.vb i).poison⟩
    (if wrapped then s.updCore c fun k => k.orStat 2#32 else s).advance c

/-- FADD (R91). -/
def execFadd (c : CoreId) (h : Hdr) (f : VecF) (s : State) : Host.Outcome State Fault Refusal :=
  s.clocked (s.lanes (.fadd c h f) c h f (fpLane f FVal.add))

/-- FSUB (R91). -/
def execFsub (c : CoreId) (h : Hdr) (f : VecF) (s : State) : Host.Outcome State Fault Refusal :=
  s.clocked (s.lanes (.fsub c h f) c h f (fpLane f FVal.sub))

/-- FMUL (R91). -/
def execFmul (c : CoreId) (h : Hdr) (f : VecF) (s : State) : Host.Outcome State Fault Refusal :=
  s.clocked (s.lanes (.fmul c h f) c h f (fpLane f FVal.mul))

/-- FFMA: Va × Vb + Vc rounded once (R91). -/
def execFfma (c : CoreId) (h : Hdr) (f : VecF) (s : State) : Host.Outcome State Fault Refusal :=
  s.clocked (s.lanes (.ffma c h f) c h f fun k i =>
    let a := k.lane f.va i
    let b := k.lane f.vb i
    let d := k.lane f.vc i
    ⟨rne32 ((a.f.mul b.f).add d.f), a.poison || b.poison || d.poison⟩)

/-- FMIN (Table 7-8, R97). -/
def execFmin (c : CoreId) (h : Hdr) (f : VecF) (s : State) : Host.Outcome State Fault Refusal :=
  s.clocked (s.lanes (.fmin c h f) c h f (fpLane f minVal))

/-- FMAX (Table 7-8, R97). -/
def execFmax (c : CoreId) (h : Hdr) (f : VecF) (s : State) : Host.Outcome State Fault Refusal :=
  s.clocked (s.lanes (.fmax c h f) c h f (fpLane f maxVal))

/-- IADD (R91). -/
def execIadd (c : CoreId) (h : Hdr) (f : VecF) (s : State) : Host.Outcome State Fault Refusal :=
  s.clocked (s.intLanes (.iadd c h f) c h f (· + ·))

/-- ISUB (R91). -/
def execIsub (c : CoreId) (h : Hdr) (f : VecF) (s : State) : Host.Outcome State Fault Refusal :=
  s.clocked (s.intLanes (.isub c h f) c h f (· - ·))

/-- IMUL (R91). -/
def execImul (c : CoreId) (h : Hdr) (f : VecF) (s : State) : Host.Outcome State Fault Refusal :=
  s.clocked (s.intLanes (.imul c h f) c h f (· * ·))

/-- SEL: Va where Md is 1, otherwise Vb (Table 7-8). -/
def execSelLanes (c : CoreId) (h : Hdr) (f : VecF) (s : State) : Host.Outcome State Fault Refusal :=
  s.clocked (s.lanes (.selLanes c h f) c h f fun k i => if (k.mask f.md).getLsbD i then k.lane f.va i else k.lane f.vb i)

/-- BCAST: the low 32 bits of Xd in every lane (Table 7-8). -/
def execBcast (c : CoreId) (h : Hdr) (f : VecF) (s : State) : Host.Outcome State Fault Refusal :=
  s.clocked (s.lanes (.bcast c h f) c h f fun k _ => ⟨k.x[f.xd].truncate 32, false⟩)

/-- MOV (Table 7-8). -/
def execMov (c : CoreId) (h : Hdr) (f : VecF) (s : State) : Host.Outcome State Fault Refusal :=
  s.clocked (s.lanes (.mov c h f) c h f fun k i => k.lane f.va i)

/-! ### Mask registers -/

/-- An instruction that writes mask register Md bit by bit under its mask (R90), its predicate checked (R134). -/
def State.maskBits (s : State) (i : Instr) (c : CoreId) (h : Hdr) (f : VecF) (op top : Nat) (g : Core → Nat → Bool) : State :=
  s.issue i c h clsVector false fun s =>
    s.checked c [stopIf (decide (top < f.cmp.toNat)) (illegal (s.wordOf c) clsVector op (atWord 2 24))] fun s =>
      s.updCore c fun k => k.setMask f.md (maskedBits (k.mask f.md) (k.mask f.mask) f.maskZero (g k))

/-- FCMP (Table 7-8). -/
def execFcmp (c : CoreId) (h : Hdr) (f : VecF) (s : State) : Host.Outcome State Fault Refusal :=
  s.clocked (s.maskBits (.fcmp c h f) c h f 0x0C 6 fun k i => fcmp f.cmp.toNat (k.lane f.va i).f (k.lane f.vb i).f)

/-- A mask operation (Table 7-7): and, or, xor, and-not. -/
def maskOp (op : Nat) (a b : Bool) : Bool :=
  match op with
  | 0 => a && b
  | 1 => a || b
  | 2 => a != b
  | _ => a && !b

/-- MASKOP: Md := Ma op Mb, named by Va[2:0] and Vb[2:0] (Table 7-8). -/
def execMaskop (c : CoreId) (h : Hdr) (f : VecF) (s : State) : Host.Outcome State Fault Refusal :=
  s.clocked (s.maskBits (.maskop c h f) c h f 0x0D 3 fun k i =>
    maskOp f.cmp.toNat ((k.mask ⟨f.va.val % 8, by omega⟩).getLsbD i) ((k.mask ⟨f.vb.val % 8, by omega⟩).getLsbD i))

/-! ### Packed conversion (R89) -/

/-- The elements a 512-byte image holds in a format (R89). -/
def packedCap (w : Nat) : Nat := if w = 6 then 680 else 4096 / w

/-- The bit offset of a packed element (R39). -/
def packedOff (w i : Nat) : Nat := i * w

/-- The lanes an element's bits lie in. -/
def packedLanes (w i : Nat) : List Nat :=
  let o := packedOff w i
  if (o + w - 1) / 32 = o / 32 then [o / 32] else [o / 32, o / 32 + 1]

/-- The 4,096 bits of a register as one number. -/
def Core.image (k : Core) (v : Nat) : Nat := (List.range 128).foldl (fun n i => n + (k.lane v i).val.toNat * 2 ^ (32 * i)) 0

/-- Bits of an image replaced. -/
def putBits (img o w v : Nat) : Nat := img - img / 2 ^ o % 2 ^ w * 2 ^ o + v % 2 ^ w * 2 ^ o

/-- What a packed conversion does with one destination element: written with a code, or made zero, or kept. -/
inductive PackedWrite where
  | keep
  | zero
  | code (n : Nat) (poison : Bool)
  deriving DecidableEq, Repr

/-- The destination register of a packed conversion: element writes, whole inactive lanes zeroed in zero mode, a six-bit element that
straddles an inactive lane zeroed whole, the part in the active lane too (DESIGN CHOICE, assumption 120), bytes 510 and 511 of a six-bit image zero, a lane's
poison from what was written in it and, where it was not wholly written, what it held (R89, R90, R101). -/
def packedReg (k : Core) (v : Nat) (mask : BitVec 128) (zero : Bool) (w : Nat) (ws : List PackedWrite) : Vector Lane 128 :=
  let img := ws.zipIdx.foldl (fun n p => match p.1 with
    | .keep => n
    | .zero => putBits n (packedOff w p.2) w 0
    | .code x _ => putBits n (packedOff w p.2) w x) (k.image v)
  let img := if w = 6 ∧ mask.getLsbD 127 then img % 2 ^ 4080 else img
  let lane (i : Nat) : Lane :=
    if !mask.getLsbD i then (if zero then Lane.zero else k.lane v i)
    else
      let here := ws.zipIdx.filter fun p => (packedLanes w p.2).contains i
      let hot := here.any fun p => match p.1 with
        | .code _ h => h
        | _ => false
      let whole := !here.isEmpty && (here.all fun p => p.1 != .keep) && decide (32 ≤ here.length * w ∨ (w = 6 ∧ i = 127))
      ⟨BitVec.ofNat 32 (img / 2 ^ (32 * i)), hot || (!whole && (k.lane v i).poison)⟩
  Vector.ofFn fun i => lane i.val

/-- The stops of a packed conversion: a source format that is reserved or not permitted (R4, R5), and R41. -/
def cvtStops (w : Nat) (f : VecF) : List (Option Stop) :=
  let ctl := CCtl.ofBits f.cc
  [ stopIf ((fmtOf f.sfmt).isNone || f.sfmt == 0xC#4 || f.sfmt == 0xB#4) (badFormat w clsVector (atWord 2 16) f.sfmt.toNat),
    stopIf ((fmtOf ctl.dst).isNone || ctl.dst == 0xC#4) (badFormat w clsVector (atWord 2 12) ctl.dst.toNat),
    stopIf (ctl.rnd == 3#2) (badFormat w clsVector (atWord 2 7) ctl.dst.toNat),
    stopIf (!ctl.legal) (badFormat w clsVector (atWord 2 9) ctl.dst.toNat) ]

/-- The packed conversion of a register (R89, R206): as many elements as both formats hold, and destination elements past
that number left as they are (DESIGN CHOICE, assumption 21: R89 does not say); a scale mode forms blocks of
consecutive active elements under coarse scale 1.0, and their scale bytes have no place (DESIGN CHOICE, assumption 21). -/
def State.cvtRun (s : State) (c : CoreId) (f : VecF) : State :=
  let k := s.cores[c]
  let ctl := CCtl.ofBits f.cc
  let sf := (fmtOf f.sfmt).getD (.flt .fp32)
  let df := (fmtOf ctl.dst).getD (.flt .fp32)
  let n := min (packedCap sf.width) (packedCap df.width)
  let mask := k.mask f.mask
  let src := k.image f.va
  let act (i : Nat) : Bool := (packedLanes df.width i).all fun l => mask.getLsbD l
  let cell (i : Nat) : Cell := Cell.of (sf.decode (src / 2 ^ packedOff sf.width i % 2 ^ sf.width))
    ((packedLanes sf.width i).any fun l => (k.lane f.va l).poison)
  let idx := (List.range n).filter act
  let xd := (k.x[f.xd]).toNat
  let t : List Nat × State := if ctl.rnd = 1#2 then
      s.draw16s c f.stream f.draw (idx.map fun i => ((xd + i) % 2 ^ 64, packedOff df.width i / 32)) else ([], s)
  let d : Desc := { Desc.ofBits 0#512 with cc := f.cc, n0 := n, n1 := 1, coarse := 0x3F800000#32 }
  let o := convRow d ctl f.maskZero 0 0 ((List.range n).map fun i => if act i then some (cell i) else none)
    fun i => ((idx.zip t.1).find? fun p => p.1 == i).elim 0 Prod.snd
  let ws : List PackedWrite := (List.range n).map fun i =>
    if !act i then (if f.maskZero then .zero else .keep)
    else match o.ws.find? fun w => w.col == i with
      | some w => .code w.code w.poison
      | none => .keep
  let s := t.2.updCore c fun k => { k with v := k.v.set f.vd (packedReg k f.vd mask f.maskZero df.width ws) }
  (s.addCensus c 15 o.counts).markPoison c (o.ws.any fun w => w.poison)

/-- CVT (Table 7-8, R89). -/
def execVectorCvt (c : CoreId) (h : Hdr) (f : VecF) (s : State) : Host.Outcome State Fault Refusal :=
  s.clocked (s.issue (.vectorCvt c h f) c h clsVector false fun s => s.checked c (cvtStops (s.wordOf c) f) fun s => s.cvtRun c f)

/-! ### Reductions (R95 to R98) -/

/-- A reduction: poison in an active lane stops it before it writes; otherwise the result goes to the low half of Xd and
EMPTY says whether no lane was active. -/
def State.reduce (s : State) (i : Instr) (c : CoreId) (h : Hdr) (f : VecF) (g : List (Nat × FVal) → Word) : State :=
  s.issue i c h clsVector false fun s =>
    let k := s.cores[c]
    let mask := k.mask f.mask
    let act := (List.range 128).filter fun i => mask.getLsbD i
    s.checked c [stopIf (act.any fun i => (k.lane f.va i).poison) (poisonedX (s.wordOf c) f.xd.val)] fun s =>
      (s.updCore c fun k => k.setEmpty act.isEmpty).setX c f.xd ((g (act.map fun i => (i, (k.lane f.va i).f))).zeroExtend 64)

/-- The 128 values of active lanes, an identity in the others (R95). -/
def lanesOr (ident : FVal) (act : List (Nat × FVal)) : List FVal :=
  (List.range 128).map fun i => ((act.find? fun p => p.1 == i).map Prod.snd).getD ident

/-- The sum of active lanes (R95). -/
def sumOf (act : List (Nat × FVal)) : FVal := treeSum (lanesOr .zero act)

/-- Whether every active lane holds the same value, the sign of zero ignored (R96). -/
def sameAll : List (Nat × FVal) → Bool
  | [] => false
  | p :: l => p.2 != .nan && l.all fun q => q.2.eqv p.2

/-- The mean of active lanes (R96). -/
def meanOf (act : List (Nat × FVal)) : FVal :=
  match act with
  | [] => .zero
  | p :: l =>
    if sameAll act then (if p.2.isZero && l.any fun q => q.2.neg? != p.2.neg? then .zero else p.2)
    else rne32v ((sumOf act).div (.ofInt act.length))

/-- The population variance of active lanes in stable form (R96). -/
def varOf (act : List (Nat × FVal)) : FVal :=
  if act.isEmpty || sameAll act then .zero
  else
    let m := meanOf act
    let sq := act.map fun p => let d := rne32v (p.2.sub m); (p.1, rne32v (d.mul d))
    rne32v ((sumOf sq).div (.ofInt act.length))

/-- The greatest of active lanes (R97, R98). -/
def maxOf (act : List (Nat × FVal)) : FVal := act.foldl (fun m p => maxVal m p.2) (.inf true)

/-- The least of active lanes (R97, R98). -/
def minOf (act : List (Nat × FVal)) : FVal := act.foldl (fun m p => minVal m p.2) (.inf false)

/-- The lowest lane whose value attains a result, or the lowest NaN lane (R97, R98). The comparison is R97's, in which −0 lies
below +0, so a −0 does not attain a maximum of +0 nor a +0 a minimum of −0 (DEDUCED, assumption 95). -/
def argOf (best : FVal) (act : List (Nat × FVal)) : Word :=
  match act.find? fun p => p.2 == best with
  | some p => BitVec.ofNat 32 p.1
  | none => 0xFFFFFFFF#32

/-- SUM (R95). -/
def execSumLanes (c : CoreId) (h : Hdr) (f : VecF) (s : State) : Host.Outcome State Fault Refusal :=
  s.clocked (s.reduce (.sumLanes c h f) c h f fun act => rne32 (sumOf act))

/-- A product within the tree: infinities of opposite sign that meet give NaN (R97). -/
def prodOp : FVal → FVal → FVal
  | .inf a, .inf b => if a = b then .inf false else .nan
  | x, y => x.mul y

/-- PROD (R95, R97). -/
def execProdLanes (c : CoreId) (h : Hdr) (f : VecF) (s : State) : Host.Outcome State Fault Refusal :=
  s.clocked (s.reduce (.prodLanes c h f) c h f fun act => rne32 (treeOf prodOp (lanesOr one act)))

/-- MAX (R97). -/
def execVectorMax (c : CoreId) (h : Hdr) (f : VecF) (s : State) : Host.Outcome State Fault Refusal :=
  s.clocked (s.reduce (.vectorMax c h f) c h f fun act => rne32 (maxOf act))

/-- MIN (R97). -/
def execVectorMin (c : CoreId) (h : Hdr) (f : VecF) (s : State) : Host.Outcome State Fault Refusal :=
  s.clocked (s.reduce (.vectorMin c h f) c h f fun act => rne32 (minOf act))

/-- COUNT (R96). -/
def execCountLanes (c : CoreId) (h : Hdr) (f : VecF) (s : State) : Host.Outcome State Fault Refusal :=
  s.clocked (s.reduce (.countLanes c h f) c h f fun act => BitVec.ofNat 32 act.length)

/-- MEAN (R96). -/
def execMeanLanes (c : CoreId) (h : Hdr) (f : VecF) (s : State) : Host.Outcome State Fault Refusal :=
  s.clocked (s.reduce (.meanLanes c h f) c h f fun act => rne32 (meanOf act))

/-- VAR (R96). -/
def execVarLanes (c : CoreId) (h : Hdr) (f : VecF) (s : State) : Host.Outcome State Fault Refusal :=
  s.clocked (s.reduce (.varLanes c h f) c h f fun act => rne32 (varOf act))

/-- ARGMAX (R97). -/
def execArgmax (c : CoreId) (h : Hdr) (f : VecF) (s : State) : Host.Outcome State Fault Refusal :=
  s.clocked (s.reduce (.argmax c h f) c h f fun act => argOf (maxOf act) act)

/-- ARGMIN (R97). -/
def execArgmin (c : CoreId) (h : Hdr) (f : VecF) (s : State) : Host.Outcome State Fault Refusal :=
  s.clocked (s.reduce (.argmin c h f) c h f fun act => argOf (minOf act) act)

/-! ### Scans (R99) -/

/-- A lane of a scan in progress: its bits, whether a segment start covers it, poison, whether an addition wrapped. -/
structure ScanLane where
  val : Word
  seg : Bool
  poison : Bool
  wrap : Bool
  deriving DecidableEq, Repr

/-- A scan operator on lane images: the result and whether it wrapped. -/
abbrev ScanOp := Word → Word → Word × Bool

/-- One doubling pass of distance d, every lane on the values of the previous pass (R99). -/
def scanPass (op : ScanOp) (d : Nat) (l : List ScanLane) : List ScanLane :=
  l.zipIdx.map fun p =>
    if p.2 < d ∨ p.1.seg then p.1
    else match l[p.2 - d]? with
      | some q =>
        let r := op q.val p.1.val
        ⟨r.1, q.seg, p.1.poison || q.poison, p.1.wrap || r.2⟩
      | none => p.1

/-- The seven passes (R99). -/
def scanPasses (op : ScanOp) (l : List ScanLane) : List ScanLane :=
  [1, 2, 4, 8, 16, 32, 64].foldl (fun l d => scanPass op d l) l

/-- A scan's result: the lanes written, the inclusive last lane, whether an addition wrapped. -/
structure ScanOut where
  lanes : List Lane
  last : Lane
  wrap : Bool
  deriving DecidableEq, Repr

/-- A scan of 128 lanes (R99): `starts` the segment-start bits, the carry joined to the lanes before the first of them, an exclusive scan
shifted up by a lane within each segment; lane 0 with a start bit gets the identity and not the carry (DESIGN CHOICE, assumption 120). -/
def scanOf (op : ScanOp) (ident carry : Word) (excl : Bool) (starts : Nat → Bool) (xs : List Lane) : ScanOut :=
  let l := scanPasses op (xs.zipIdx.map fun p => ⟨p.1.val, starts p.2, p.1.poison, false⟩)
  let before (i : Nat) : Bool := (List.range (i + 1)).all fun j => !starts j
  let inc := l.zipIdx.map fun p =>
    if before p.2 then let r := op carry p.1.val; { p.1 with val := r.1, wrap := p.1.wrap || r.2 } else p.1
  let lane (p : ScanLane) : Lane := ⟨p.val, p.poison⟩
  let out := inc.zipIdx.map fun p =>
    if !excl then lane p.1
    else if starts p.2 then ⟨ident, false⟩
    else if p.2 = 0 then ⟨carry, false⟩
    else ((inc[p.2 - 1]?).map lane).getD Lane.zero
  { lanes := out, last := ((inc[127]?).map lane).getD Lane.zero, wrap := inc.any fun p => p.wrap }

/-- A scan instruction (R99, R101). -/
def State.scan (s : State) (i : Instr) (c : CoreId) (h : Hdr) (f : VecF) (excl : Bool) (ident : Word) (op : ScanOp) : State :=
  s.issue i c h clsVector false fun s =>
    let k := s.cores[c]
    let mask := k.mask f.mask
    let starts (i : Nat) : Bool := f.ms != 0 && k.m[f.ms].getLsbD i
    let xs := (List.range 128).map fun i => if mask.getLsbD i then k.lane f.va i else ⟨ident, false⟩
    let r := scanOf op ident (k.x[f.xd].truncate 32) excl starts xs
    s.checked c [stopIf r.last.poison (poisonedX (s.wordOf c) f.xd.val)] fun s =>
      let s := s.putV c f.vd mask f.maskZero fun i => r.lanes.getD i Lane.zero
      let s := if r.wrap then s.updCore c fun k => k.orStat 2#32 else s
      s.setX c f.xd (r.last.val.zeroExtend 64)

/-- An FP32 scan operator. -/
def fpScan (op : FVal → FVal → FVal) : ScanOp := fun a b => (rne32 (op (f32 a) (f32 b)), false)

/-- The INT32 scan operator (R91). -/
def intScan (sat : Bool) : ScanOp := fun a b => int32Result sat (a.toInt + b.toInt)

/-- −∞ as FP32. -/
def negInf32 : Word := 0xFF800000#32

/-- Inclusive scan, FADD (R99). -/
def execScanInclFadd (c : CoreId) (h : Hdr) (f : VecF) (s : State) : Host.Outcome State Fault Refusal :=
  s.clocked (s.scan (.scanInclFadd c h f) c h f false 0#32 (fpScan FVal.add))

/-- Inclusive scan, FMAX (R99). -/
def execScanInclFmax (c : CoreId) (h : Hdr) (f : VecF) (s : State) : Host.Outcome State Fault Refusal :=
  s.clocked (s.scan (.scanInclFmax c h f) c h f false negInf32 (fpScan maxVal))

/-- Inclusive scan, FMIN (R99). -/
def execScanInclFmin (c : CoreId) (h : Hdr) (f : VecF) (s : State) : Host.Outcome State Fault Refusal :=
  s.clocked (s.scan (.scanInclFmin c h f) c h f false inf32 (fpScan minVal))

/-- Inclusive scan, IADD (R99). -/
def execScanInclIadd (c : CoreId) (h : Hdr) (f : VecF) (s : State) : Host.Outcome State Fault Refusal :=
  s.clocked (s.scan (.scanInclIadd c h f) c h f false 0#32 (intScan f.sat))

/-- Exclusive scan, FADD (R99). -/
def execScanExclFadd (c : CoreId) (h : Hdr) (f : VecF) (s : State) : Host.Outcome State Fault Refusal :=
  s.clocked (s.scan (.scanExclFadd c h f) c h f true 0#32 (fpScan FVal.add))

/-- Exclusive scan, FMAX (R99). -/
def execScanExclFmax (c : CoreId) (h : Hdr) (f : VecF) (s : State) : Host.Outcome State Fault Refusal :=
  s.clocked (s.scan (.scanExclFmax c h f) c h f true negInf32 (fpScan maxVal))

/-- Exclusive scan, FMIN (R99). -/
def execScanExclFmin (c : CoreId) (h : Hdr) (f : VecF) (s : State) : Host.Outcome State Fault Refusal :=
  s.clocked (s.scan (.scanExclFmin c h f) c h f true inf32 (fpScan minVal))

/-- Exclusive scan, IADD (R99). -/
def execScanExclIadd (c : CoreId) (h : Hdr) (f : VecF) (s : State) : Host.Outcome State Fault Refusal :=
  s.clocked (s.scan (.scanExclIadd c h f) c h f true 0#32 (intScan f.sat))

end Sys2Proof.Machine
end

