-- ==== Sys2Proof/Machine/Window.lean ====
section
/-! DEFINITION. WINDOW (R190 to R196), zero-run compression (R198 to R201), and TABLE (R57, R117, R118, R140). -/
namespace Sys2Proof.Machine

/-! ### WINDOW -/

/-- An output extent (R191): floor((n + before + after − d × (k − 1) − 1) / s) + 1. -/
def outExtent (n before after d k st : Nat) : Int :=
  ((n : Int) + before + after - (d : Int) * ((k : Int) - 1) - 1) / (st : Int) + 1

/-- The output extents To, Ho, Wo of a WINDOW (R191). -/
def winExtents (f : WinF) (d : Desc) : Int × Int × Int :=
  (outExtent d.n3 f.front f.back f.dt f.kt f.st, outExtent d.n2 f.top f.bottom f.dh f.kh f.sh,
    outExtent d.n1 f.left f.right f.dw f.kw f.sw)

/-- The checks of a WINDOW: its fields (Table 7-10), its descriptors (R131, R190), its extents (R191). -/
def State.windowStops (s : State) (c : CoreId) (f : WinF) : List (Option Stop) :=
  let w := s.wordOf c
  let ill (p : Nat) : Stop := illegal w clsWindow 0 p
  let sd := s.desc c f.ds
  let dd := s.desc c f.dd
  let bad (b : Bool) (p : Nat) (d : Desc) : Option Stop := stopIf b (badFormat w clsWindow p d.ctl.dst.toNat)
  let e := winExtents f sd
  let within (n hi : Nat) : Bool := decide (1 ≤ n ∧ n ≤ hi)
  [ stopIf (!within f.kt 15) (ill (atWord 2 28)), stopIf (!within f.kh 15) (ill (atWord 2 24)),
    stopIf (!within f.kw 15) (ill (atWord 2 20)),
    stopIf (!within f.st 7) (ill (atWord 2 17)), stopIf (!within f.sh 7) (ill (atWord 2 14)),
    stopIf (!within f.sw 7) (ill (atWord 2 11)),
    stopIf (!within f.dt 7) (ill (atWord 2 8)), stopIf (!within f.dh 7) (ill (atWord 2 5)),
    stopIf (!within f.dw 7) (ill (atWord 2 2)),
    stopIf (!within f.positions 512) (ill (atWord 4 16)),
    stopIf (f.channels == 0) (ill (atWord 4 0)),
    s.descStop c clsWindow 0 f.ds [2],
    s.descStop c clsWindow 0 f.dd [2],
    bad (sd.ctl.dst != dd.ctl.dst) (atDesc 0 12) dd,
    bad (!([8, 16, 32].contains sd.fmt.width)) (atDesc 0 12) sd,
    bad sd.scaled (atDesc 0 9) sd,
    bad dd.scaled (atDesc 0 9) dd,
    bad (sd.coarse != dd.coarse) (atDesc 10 0) dd,
    stopIf (decide (e.1 < 1) || decide (e.2.1 < 1) || decide (e.2.2 < 1)) (ill (atWord 2 20)) ]

/-- The source element of output position p, channel c′ and kernel offset (it, ih, iw): its row and column of Ds, `none`
where the feeder writes zero (R192). -/
def winSource (f : WinF) (d : Desc) (p xc : Int) (ch it ih iw : Nat) : Option (Int × Int) :=
  let e := winExtents f d
  if p < 0 ∨ e.1 * e.2.1 * e.2.2 ≤ p then none
  else
    let ow := p % e.2.2
    let oh := p / e.2.2 % e.2.1
    let ot := p / e.2.2 / e.2.1
    let t := ot * (f.st : Int) - (f.front : Int) + (it * f.dt : Nat)
    let h := oh * (f.sh : Int) - (f.top : Int) + (ih * f.dh : Nat)
    let w := ow * (f.sw : Int) - (f.left : Int) + (iw * f.dw : Nat)
    let col := xc + (ch : Int)
    if 0 ≤ t ∧ t < d.n3 ∧ 0 ≤ h ∧ h < d.n2 ∧ 0 ≤ w ∧ w < d.n1 ∧ 0 ≤ col ∧ col < d.n0 then
      some (w + (d.n1 : Int) * (h + (d.n2 : Int) * t), col)
    else none

/-- Row r of the implicit matrix: its columns, channels outermost (R192). -/
def winRow (f : WinF) (d : Desc) (rd : Nat → Byte × Bool) (p xc : Int) : List Item :=
  (List.range f.channels).flatMap fun ch => (List.range f.kt).flatMap fun it => (List.range f.kh).flatMap fun ih =>
    (List.range f.kw).map fun iw => match winSource f d p xc ch it ih iw with
      | some q => memItem rd d q.1 q.2
      | none => Item.pad d

/-- A WINDOW once its checks have passed (R192, R195): the source read, then the rows written. -/
def State.windowRun (s : State) (c : CoreId) (f : WinF) : State :=
  let sd := s.desc c f.ds
  let dd := s.desc c f.dd
  let xo := s.xi c f.xo
  let xc := s.xi c f.xc
  let xdr := s.xi c f.xdr
  let s := (s.markChecked c f.ds).markChecked c f.dd
  let touched := (List.range f.positions).flatMap fun (r : Nat) => (List.range f.channels).flatMap fun ch =>
    (List.range f.kt).flatMap fun it => (List.range f.kh).flatMap fun ih => (List.range f.kw).filterMap fun iw =>
      winSource f sd (xo + (r : Int)) xc ch it ih iw
  let s := s.openSpans c 2 (touched.flatMap fun q => sd.spans q.1 1 q.2 1)
  let rd := s.peek c 2 []
  let rows := (List.range f.positions).map fun (r : Nat) => winRow f sd rd (xo + (r : Int)) xc
  rows.zipIdx.foldl (fun s r => s.copyRow c (s.slotOf c f.dd) dd (xdr + (r.2 : Int)) 0 r.1) s

/-- WINDOW (R190 to R196). -/
def execWindow (c : CoreId) (h : Hdr) (f : WinF) (s : State) : Host.Outcome State Fault Refusal :=
  s.clocked (s.issue (.window c h f) c h clsWindow false fun s => s.checked c (s.windowStops c f) fun s => s.windowRun c f)

/-! ### Compressed tensors (R198) -/

/-- Bytes of an element. -/
def Desc.elemBytes (d : Desc) : Nat := d.fmt.width / 8

/-- Blocks of a row of a compressed tensor. -/
def Desc.zRow (d : Desc) : Nat := (d.n0 + 127) / 128

/-- Blocks of a compressed tensor. -/
def Desc.zBlocks (d : Desc) : Nat := d.rows * d.zRow

/-- Bytes of the directory, the data following. -/
def Desc.zDir (d : Desc) : Nat := 64 * ((4 * d.zBlocks + 63) / 64)

/-- The worst-case bytes of the data. -/
def Desc.zData (d : Desc) : Nat := d.zBlocks * (16 + 128 * d.elemBytes)

/-- The first offending address of a compressed tensor's worst-case size (R131, R198). -/
def State.zOutside (s : State) (c : CoreId) (d : Desc) : Option Nat := s.outside c d.loc d.base (d.zDir + d.zData)

/-- The elements of a block within a row. -/
def Desc.zLen (d : Desc) (b : Nat) : Nat := min 128 (d.n0 - 128 * b)

/-- The bytes of a block: its map, the stored elements, zeros to a multiple of 16 (R198). -/
def zBlockBytes (e : Nat) (codes : List Nat) : List Byte :=
  let map := (List.range 16).map fun i => BitVec.ofNat 8 (sumNat ((List.range 8).map fun j =>
    if codes.getD (8 * i + j) 0 = 0 then 0 else 2 ^ j))
  let body := (codes.filter fun x => x != 0).flatMap fun x => leBytes x e
  map ++ body ++ List.replicate ((16 - body.length % 16) % 16) 0#8

/-- The format checks ZPACK and ZUNPACK share (R199). -/
def zFormatStops (w : Nat) (sd dd : Desc) : List (Option Stop) :=
  let bad (b : Bool) (p : Nat) (d : Desc) : Option Stop := stopIf b (badFormat w clsMove p d.ctl.dst.toNat)
  [ bad (sd.ctl.dst != dd.ctl.dst) (atDesc 0 12) dd,
    bad (!([8, 16, 32].contains sd.fmt.width)) (atDesc 0 12) sd,
    bad sd.scaled (atDesc 0 9) sd,
    bad dd.scaled (atDesc 0 9) dd,
    bad (sd.coarse != dd.coarse) (atDesc 10 0) dd ]

/-- The checks of ZPACK (Table 10-2, R131, R199). -/
def State.zpackStops (s : State) (c : CoreId) (f : MoveF) : List (Option Stop) :=
  let w := s.wordOf c
  let ill (p : Nat) : Stop := illegal w clsMove 6 p
  let dd := s.desc c f.dd
  [ stopIf (f.rows == 0) (ill (atWord 2 16)),
    stopIf (ctlBits f.cc != 0#16) (ill (atWord 2 0)),
    stopIf (decide (31 < f.reg.val)) (ill (atWord 4 16)),
    s.descStop c clsMove 6 f.ds [2],
    s.descStopAt c clsMove 6 f.dd [0, 1] (s.zOutside c dd),
    stopIf (f.cols != dd.n0 || f.cols == 0) (ill (atWord 3 0)) ]
    ++ zFormatStops w (s.desc c f.ds) dd

/-- A compression counter raised (R201). -/
def State.countZ (s : State) (c : CoreId) (sub n : Nat) : State :=
  s.count (ek (unitObj (coreUnit c) 11) sub) n 0x0A01 (corePath c) [(sub, 2)]

/-- ZPACK once its checks have passed (R198, R200, R201): every block of the named rows, its directory entry, the byte
total; a poisoned element poisons its whole block. -/
def State.zpackRun (s : State) (c : CoreId) (f : MoveF) : State :=
  let sd := s.desc c f.ds
  let dd := s.desc c f.dd
  let xsr := s.xi c f.xsr
  let xsc := s.xi c f.xsc
  let rows := min f.rows dd.rows
  let p := ((s.markChecked c f.ds).markChecked c f.dd).reader c sd xsr rows xsc dd.n0
  let rd := p.1.peek c 2 p.2
  let blocks : List (List Item) := (List.range rows).flatMap fun (r : Nat) => (List.range dd.zRow).map fun (b : Nat) =>
    (List.range (dd.zLen b)).map fun (i : Nat) => memItem rd sd (xsr + (r : Int)) (xsc + ((128 * b + i : Nat) : Int))
  let packed := blocks.map fun l => (zBlockBytes dd.elemBytes (l.map Item.code), l.any Item.poison)
  let s := p.1
  let data := dd.base + dd.zDir
  let step (t : State × Nat) (q : (List Byte × Bool) × Nat) : State × Nat :=
    let bs := q.1.1
    let at_ := data + t.2
    let cells := cellsAt (dd.base + 4 * q.2) (leBytes t.2 4) ++ cellsAt at_ bs
    let bad := if q.1.2 then (List.range bs.length).map fun i => at_ + i else []
    (t.1.storeCells c dd.loc cells bad, t.2 + bs.length)
  let r := packed.zipIdx.foldl step (s, 0)
  let total := dd.zDir + r.2
  let zeros := sumNat (blocks.map fun l => (l.filter fun e => e.code == 0).length)
  let bad := sumNat ((blocks.filter fun l => l.any Item.poison).map List.length)
  let s := ((r.1.addCensus c (s.slotOf c f.dd) { Counts.none with poisons := bad }).markPoison c (bad != 0))
  let s := ((s.countZ c 1 blocks.length).countZ c 2 zeros).countZ c 3 total
  s.updCore c fun k => { k with x := vset k.x f.reg.val (BitVec.ofNat 64 total) }

/-- ZPACK (R198). -/
def execZpack (c : CoreId) (h : Hdr) (f : MoveF) (s : State) : Host.Outcome State Fault Refusal :=
  s.clocked (s.issue (.zpack c h f) c h clsMove false fun s => s.checked c (s.zpackStops c f) fun s => s.zpackRun c f)

/-- The checks of ZUNPACK (Table 10-2, R131, R199). -/
def State.zunpackStops (s : State) (c : CoreId) (f : MoveF) : List (Option Stop) :=
  let w := s.wordOf c
  let ill (p : Nat) : Stop := illegal w clsMove 7 p
  let sd := s.desc c f.ds
  let xsc := s.xi c f.xsc
  [ stopIf (f.rows == 0) (ill (atWord 2 16)),
    stopIf (ctlBits f.cc != 0#16) (ill (atWord 2 0)),
    stopIf (xsc % 128 != 0) (ill (atWord 1 10)),
    s.descStopAt c clsMove 7 f.ds [0, 1] (s.zOutside c sd),
    s.descStop c clsMove 7 f.dd [2],
    stopIf (f.cols == 0 || (f.cols % 128 != 0 && xsc + (f.cols : Int) != (sd.n0 : Int))) (ill (atWord 3 0)) ]
    ++ zFormatStops w sd (s.desc c f.dd)

/-- A block read back and checked (R200): its codes and poison, or the reason it is malformed. A poisoned directory entry
or map cannot be checked and makes the block poisoned; all 128 elements of a poisoned block are poisoned. -/
def State.zBlock (s : State) (c : CoreId) (d : Desc) (view : Sparse (List (Byte × Bool))) (r b : Nat) :
    (Nat ⊕ (List Nat × Bool)) × State :=
  let idx := r * d.zRow + b
  let data := d.base + d.zDir
  let n := d.zLen b
  let e := d.elemBytes
  let s := s.openSpans c d.loc [(d.base + 4 * idx, 4)]
  let ent := (List.range 4).map fun i => s.peek c d.loc view (d.base + 4 * idx + i)
  let off := leNat (ent.map Prod.fst)
  let poisoned : Nat ⊕ (List Nat × Bool) := .inr (List.replicate 128 0, true)
  if ent.any Prod.snd then (poisoned, s)
  else if off % 16 ≠ 0 then (.inl 1, s)
  else if d.zData < off + 16 then (.inl 3, s)
  else
    let s := s.openSpans c d.loc [(data + off, 16)]
    let map := (List.range 16).map fun i => s.peek c d.loc view (data + off + i)
    let bit (i : Nat) : Bool := (map.getD (i / 8) (0#8, false)).1.getLsbD (i % 8)
    if map.any Prod.snd then (poisoned, s)
    else if (List.range 128).any fun i => decide (n ≤ i) && bit i then (.inl 2, s)
    else
      let held := (List.range n).filter bit
      let size := 16 + (held.length * e + 15) / 16 * 16
      if d.zData < off + size then (.inl 3, s)
      else
        let s := s.openSpans c d.loc [(data + off + 16, held.length * e)]
        let body := (List.range (held.length * e)).map fun i => s.peek c d.loc view (data + off + 16 + i)
        let code (i : Nat) : Nat :=
          if bit i then leNat ((((body.drop ((held.filter fun j => decide (j < i)).length * e)).take e)).map Prod.fst) else 0
        (if body.any Prod.snd then poisoned else .inr ((List.range n).map code, false), s)

/-- The blocks of a ZUNPACK in order until one is malformed: each with its row within the instruction, its block and its
content, and how many are good; a malformed block and every later one come poisoned, with the reason of the first (R200). -/
def State.zBlocks (s : State) (c : CoreId) (d : Desc) (view : Sparse (List (Byte × Bool))) :
    List (Int × Int × Nat) → State × List (Nat × Int × List Item) × Nat × Option (Nat × Nat)
  | [] => (s, [], 0, none)
  | q :: qs =>
    let inside (z : Int × Int × Nat) : Bool := decide (0 ≤ z.1 ∧ z.1 < (d.rows : Int) ∧ 0 ≤ z.2.1 ∧ z.2.1 / 128 < (d.zRow : Int))
    let items (codes : List Nat) (p : Bool) : List Item := codes.map fun x => ⟨x, 0#8, 0#8, p, true⟩
    if inside q then
      match s.zBlock c d view q.1.toNat (q.2.1 / 128).toNat with
      | (.inl why, s) => (s, ((q :: qs).filter inside).map fun z => (z.2.2, z.2.1 / 128, items (List.replicate 128 0) true), 0,
        some (q.1.toNat * d.zRow + (q.2.1 / 128).toNat, why))
      | (.inr (codes, p), s) =>
        let t := s.zBlocks c d view qs
        (t.1, (q.2.2, q.2.1 / 128, items codes p) :: t.2.1, t.2.2.1 + 1, t.2.2.2)
    else s.zBlocks c d view qs

/-- ZUNPACK once its checks have passed (R200): its state, and the malformed block with its reason. -/
def State.zunpackRun (s : State) (c : CoreId) (f : MoveF) : State × Option (Nat × Nat) :=
  let sd := s.desc c f.ds
  let dd := s.desc c f.dd
  let xsr := s.xi c f.xsr
  let xsc := s.xi c f.xsc
  let xdr := s.xi c f.xdr
  let xdc := s.xi c f.xdc
  let v := ((s.markChecked c f.ds).markChecked c f.dd).pickViews c sd.loc [(sd.base, sd.zDir + sd.zData)]
  let work : List (Int × Int × Nat) := (List.range f.rows).flatMap fun (i : Nat) =>
    (List.range ((f.cols + 127) / 128)).map fun (b : Nat) => (xsr + (i : Int), xsc + ((128 * b : Nat) : Int), i)
  let r := v.2.zBlocks c sd v.1 work
  let b0 := xsc / 128
  let row (s : State) (i : Nat) : State :=
    let mine := r.2.1.filter fun q => q.1 == i
    let items := (List.range f.cols).map fun (j : Nat) =>
      match mine.find? fun q => q.2.1 == b0 + ((j / 128 : Nat) : Int) with
      | some q => q.2.2.getD (j % 128) (Item.pad sd)
      | none => Item.pad sd
    s.copyRow c (s.slotOf c f.dd) dd (xdr + (i : Int)) xdc items
  let s := (List.range f.rows).foldl row r.1
  (s.countZ c 4 r.2.2.1, r.2.2.2)

/-- ZUNPACK (R200). -/
def execZunpack (c : CoreId) (h : Hdr) (f : MoveF) (s : State) : Host.Outcome State Fault Refusal :=
  s.clocked (s.issue (.zunpack c h f) c h clsMove false fun s => match firstStop (s.zunpackStops c f) with
    | some e => s.stopProgram c e.1 e.2
    | none =>
      let r := s.zunpackRun c f
      match r.2 with
      | some m => r.1.stopProgram c 0x0A00 [(s.wordOf c, 2), (m.1, 2), (m.2, 1)]
      | none => r.1.advance c)

/-! ### TABLE -/

/-- The bytes of a table image as they read: a poisoned byte has no stated value and is a free one. -/
def State.imageBytes (s : State) (c : CoreId) (a n : Nat) : List Byte × State :=
  let s := s.resolve (.core c) a n
  let bs := (List.range n).map fun i => s.cores[c].buf.read (a + i)
  if bs.any Prod.snd then
    let f := s.free
    (bs.zipIdx.map fun p => if p.1.2 then BitVec.ofNat 8 (f.1 / 2 ^ (8 * p.2)) else p.1.1, f.2)
  else (bs.map Prod.fst, s)

/-- The checks of a table load before its image is read. -/
def State.tableStops (s : State) (c : CoreId) (op : Nat) (f : TabF) (n : Nat) : List (Option Stop) :=
  let a := (s.desc c f.ds).base + f.off.toNat
  [ s.descStop c clsTable op f.ds [2],
    int2Stop (s.wordOf c) clsTable (s.desc c f.ds),
    stopIf (decide (2 ^ 24 < a + n)) (outOfBounds (s.wordOf c) f.ds.val (max a (2 ^ 24))) ]

/-- A table load: its checks, its image, the refusal of a bad image, the shadow copy filled. -/
def State.tableLoad (s : State) (i : Instr) (c : CoreId) (h : Hdr) (op : Nat) (f : TabF) (n : Nat) (busy : Bool)
    (bad : List Byte → Option Stop) (fill : List Byte → Core → Core) : State :=
  if busy && s.executes c h then s.holdBack c i
  else s.issueOver i c h clsTable [((s.desc c f.ds).base + f.off.toNat, n)] fun s => match firstStop (s.tableStops c op f n) with
    | some e => s.stopProgram c e.1 e.2
    | none =>
      let r := (s.markChecked c f.ds).imageBytes c ((s.desc c f.ds).base + f.off.toNat) n
      r.2.checked c [bad r.1] fun s => s.updCore c (fill r.1)

/-- The refusal of an expansion table image (R140): its target, or the first reserved byte that is not zero. -/
def expImageStop (w : Nat) (bs : List Byte) : Option Stop :=
  let t := (bs.getD 32 0#8).toNat
  let fault (p : Nat) : Stop := badFormat w clsTable (0x2000 + p) t
  firstStop [
    stopIf (!([1, 2, 3, 4, 8].contains t)) (fault 256),
    ((List.range 31).find? fun i => bs.getD (33 + i) 0#8 != 0#8).map fun i => fault (8 * (33 + i))]

/-- The expansion table of an image (R140). -/
def expImage (bs : List Byte) : ExpTable where
  entries := Vector.ofFn fun i => BitVec.ofNat 16 (leNat ((bs.drop (2 * i.val)).take 2))
  target := bs.getD 32 0#8

/-- TABLE, expansion (R140, R57): a second load of a table waits for the first to swap. -/
def execTableExpansion (c : CoreId) (h : Hdr) (f : TabF) (s : State) : Host.Outcome State Fault Refusal :=
  s.clocked (s.tableLoad (.tableExpansion c h f) c h 0 f 64 (s.cores[c].expShadow[f.table]).isSome (expImageStop (s.wordOf c)) fun bs k =>
    { k with expShadow := k.expShadow.set f.table (some (expImage bs)) })

/-- Word n of an image. -/
def imageWord (bs : List Byte) (n : Nat) : Word := BitVec.ofNat 32 (leNat ((bs.drop (4 * n)).take 4))

/-- The reciprocal span of a custom table (R117). -/
def winvOf (lo hi : Word) : Word := rne32 ((FVal.fin false 64 0).div ((f32 hi).sub (f32 lo)))

/-- The refusal of a custom table image (R118): the reason and the offset of the first offending word, 0 where it is the reciprocal span,
which is no word of the image (DESIGN CHOICE, assumption 39). -/
def custImageStop (t : Fin 8) (bs : List Byte) : Option Stop :=
  let lo := f32 (imageWord bs 0)
  let hi := f32 (imageWord bs 1)
  let refuse (why off : Nat) : Stop := (0x0600, [(t.val, 1), (why, 1), (off, 4)])
  firstStop [
    stopIf lo.nonFinite (refuse 1 0),
    stopIf (hi.nonFinite || !lo.lt hi) (refuse 1 4),
    stopIf (f32 (winvOf (imageWord bs 0) (imageWord bs 1))).nonFinite (refuse 2 0),
    ((List.range 65).find? fun i => (f32 (imageWord bs (2 + i))).nonFinite).map fun i => refuse 3 (8 + 4 * i),
    stopIf (imageWord bs 67 != 0#32) (refuse 4 268)]

/-- The custom table of an image, its reciprocal span formed at the fill (R117). -/
def custImage (bs : List Byte) : CustomTable where
  lo := imageWord bs 0
  hi := imageWord bs 1
  winv := winvOf (imageWord bs 0) (imageWord bs 1)
  knots := Vector.ofFn fun i => imageWord bs (2 + i.val)

/-- TABLE, custom (R57, R117, R118). -/
def execTableCustom (c : CoreId) (h : Hdr) (f : TabF) (s : State) : Host.Outcome State Fault Refusal :=
  s.clocked (s.tableLoad (.tableCustom c h f) c h 1 f 272 (s.cores[c].custShadow[f.table]).isSome (custImageStop f.table) fun bs k =>
    { k with custShadow := k.custShadow.set f.table (some (custImage bs)) })

/-- A completed fill swaps in and the version tag advances (R57); nothing where no fill has completed. -/
def execTableSwap (c : CoreId) (custom : Bool) (t : Fin 8) (s : State) : Host.Outcome State Fault Refusal :=
  s.clocked (s.updCore c fun k =>
    if custom then match k.custShadow[t] with
      | some v => { k with custs := k.custs.set t v, custShadow := k.custShadow.set t none, custVer := k.custVer.set t (k.custVer[t] + 1) }
      | none => k
    else match k.expShadow[t] with
      | some v => { k with exps := k.exps.set t v, expShadow := k.expShadow.set t none, expVer := k.expVer.set t (k.expVer[t] + 1) }
      | none => k)

end Sys2Proof.Machine
end

