-- ==== Sys2Proof/Machine/Dispatch.lean ====
section
/-! DEFINITION. One arm per command: its meaning. -/
namespace Sys2Proof.Machine

def exec (i : Instr) (s : State) : Host.Outcome State Fault Refusal :=
  match i with
  | .sweep c h f => Sys2Proof.Machine.execSweep c h f s
  | .minPlus c h f => Sys2Proof.Machine.execMinPlus c h f s
  | .maxPlus c h f => Sys2Proof.Machine.execMaxPlus c h f s
  | .l1Sweep c h f => Sys2Proof.Machine.execL1Sweep c h f s
  | .squaredL2 c h f => Sys2Proof.Machine.execSquaredL2 c h f s
  | .clearTile c h f => Sys2Proof.Machine.execClearTile c h f s
  | .fillTile c h f => Sys2Proof.Machine.execFillTile c h f s
  | .copyTile c h f => Sys2Proof.Machine.execCopyTile c h f s
  | .addTile c h f => Sys2Proof.Machine.execAddTile c h f s
  | .subTile c h f => Sys2Proof.Machine.execSubTile c h f s
  | .accopMax c h f => Sys2Proof.Machine.execAccopMax c h f s
  | .accopMin c h f => Sys2Proof.Machine.execAccopMin c h f s
  | .scaleTile c h f => Sys2Proof.Machine.execScaleTile c h f s
  | .scaleRow c h f => Sys2Proof.Machine.execScaleRow c h f s
  | .scaleCol c h f => Sys2Proof.Machine.execScaleCol c h f s
  | .addCol c h f => Sys2Proof.Machine.execAddCol c h f s
  | .accopLoad c h f => Sys2Proof.Machine.execAccopLoad c h f s
  | .chainDrain c h f => Sys2Proof.Machine.execChainDrain c h f s
  | .chainTensor c h f => Sys2Proof.Machine.execChainTensor c h f s
  | .chainRegister c h f => Sys2Proof.Machine.execChainRegister c h f s
  | .smaxEnd c h f => Sys2Proof.Machine.execSmaxEnd c h f s
  | .nstatFast c h f => Sys2Proof.Machine.execNstatFast c h f s
  | .nstatMean c h f => Sys2Proof.Machine.execNstatMean c h f s
  | .nstatStable c h f => Sys2Proof.Machine.execNstatStable c h f s
  | .nstatRms c h f => Sys2Proof.Machine.execNstatRms c h f s
  | .fadd c h f => Sys2Proof.Machine.execFadd c h f s
  | .fsub c h f => Sys2Proof.Machine.execFsub c h f s
  | .fmul c h f => Sys2Proof.Machine.execFmul c h f s
  | .ffma c h f => Sys2Proof.Machine.execFfma c h f s
  | .fmin c h f => Sys2Proof.Machine.execFmin c h f s
  | .fmax c h f => Sys2Proof.Machine.execFmax c h f s
  | .iadd c h f => Sys2Proof.Machine.execIadd c h f s
  | .isub c h f => Sys2Proof.Machine.execIsub c h f s
  | .imul c h f => Sys2Proof.Machine.execImul c h f s
  | .selLanes c h f => Sys2Proof.Machine.execSelLanes c h f s
  | .bcast c h f => Sys2Proof.Machine.execBcast c h f s
  | .mov c h f => Sys2Proof.Machine.execMov c h f s
  | .fcmp c h f => Sys2Proof.Machine.execFcmp c h f s
  | .maskop c h f => Sys2Proof.Machine.execMaskop c h f s
  | .vectorCvt c h f => Sys2Proof.Machine.execVectorCvt c h f s
  | .sumLanes c h f => Sys2Proof.Machine.execSumLanes c h f s
  | .prodLanes c h f => Sys2Proof.Machine.execProdLanes c h f s
  | .vectorMax c h f => Sys2Proof.Machine.execVectorMax c h f s
  | .vectorMin c h f => Sys2Proof.Machine.execVectorMin c h f s
  | .countLanes c h f => Sys2Proof.Machine.execCountLanes c h f s
  | .meanLanes c h f => Sys2Proof.Machine.execMeanLanes c h f s
  | .varLanes c h f => Sys2Proof.Machine.execVarLanes c h f s
  | .argmax c h f => Sys2Proof.Machine.execArgmax c h f s
  | .argmin c h f => Sys2Proof.Machine.execArgmin c h f s
  | .scanInclFadd c h f => Sys2Proof.Machine.execScanInclFadd c h f s
  | .scanInclFmax c h f => Sys2Proof.Machine.execScanInclFmax c h f s
  | .scanInclFmin c h f => Sys2Proof.Machine.execScanInclFmin c h f s
  | .scanInclIadd c h f => Sys2Proof.Machine.execScanInclIadd c h f s
  | .scanExclFadd c h f => Sys2Proof.Machine.execScanExclFadd c h f s
  | .scanExclFmax c h f => Sys2Proof.Machine.execScanExclFmax c h f s
  | .scanExclFmin c h f => Sys2Proof.Machine.execScanExclFmin c h f s
  | .scanExclIadd c h f => Sys2Proof.Machine.execScanExclIadd c h f s
  | .moveTensor c h f => Sys2Proof.Machine.execMoveTensor c h f s
  | .ldv c h f => Sys2Proof.Machine.execLdv c h f s
  | .stv c h f => Sys2Proof.Machine.execStv c h f s
  | .lddesc c h f => Sys2Proof.Machine.execLddesc c h f s
  | .ldx c h f => Sys2Proof.Machine.execLdx c h f s
  | .stx c h f => Sys2Proof.Machine.execStx c h f s
  | .zpack c h f => Sys2Proof.Machine.execZpack c h f s
  | .zunpack c h f => Sys2Proof.Machine.execZunpack c h f s
  | .vtensor c h f => Sys2Proof.Machine.execVtensor c h f s
  | .vsplit c h f => Sys2Proof.Machine.execVsplit c h f s
  | .window c h f => Sys2Proof.Machine.execWindow c h f s
  | .tableExpansion c h f => Sys2Proof.Machine.execTableExpansion c h f s
  | .tableCustom c h f => Sys2Proof.Machine.execTableCustom c h f s
  | .tableSwap c custom t => Sys2Proof.Machine.execTableSwap c custom t s
  | .signalRennet c h f => Sys2Proof.Machine.execSignalRennet c h f s
  | .signalRetry c => Sys2Proof.Machine.execSignalRetry c s
  | .waitRennet c h f => Sys2Proof.Machine.execWaitRennet c h f s
  | .waitSatisfied n => Sys2Proof.Machine.execWaitSatisfied n s
  | .fence c h f => Sys2Proof.Machine.execFence c h f s
  | .randomRaw c h f => Sys2Proof.Machine.execRandomRaw c h f s
  | .randomUniform c h f => Sys2Proof.Machine.execRandomUniform c h f s
  | .randomNormal c h f => Sys2Proof.Machine.execRandomNormal c h f s
  | .randomBernoulli c h f => Sys2Proof.Machine.execRandomBernoulli c h f s
  | .nop c h f => Sys2Proof.Machine.execNop c h f s
  | .endProgram c h f => Sys2Proof.Machine.execEndProgram c h f s
  | .br c h f => Sys2Proof.Machine.execBr c h f s
  | .brc c h f => Sys2Proof.Machine.execBrc c h f s
  | .loopX c h f => Sys2Proof.Machine.execLoopX c h f s
  | .xalu c h f => Sys2Proof.Machine.execXalu c h f s
  | .ximm c h f => Sys2Proof.Machine.execXimm c h f s
  | .dset c h f => Sys2Proof.Machine.execDset c h f s
  | .spillarea c h f => Sys2Proof.Machine.execSpillarea c h f s
  | .xget c h f => Sys2Proof.Machine.execXget c h f s
  | .preempt c h => Sys2Proof.Machine.execPreempt c h s
  | .attach c h f => Sys2Proof.Machine.execAttach c h f s
  | .detach c h f => Sys2Proof.Machine.execDetach c h f s
  | .censusScan c h f => Sys2Proof.Machine.execCensusScan c h f s
  | .censusStore c h f => Sys2Proof.Machine.execCensusStore c h f s
  | .censusClear c h f => Sys2Proof.Machine.execCensusClear c h f s
  | .seal c h f => Sys2Proof.Machine.execSeal c h f s
  | .preemptIntervalExceeded c cycles => Sys2Proof.Machine.execPreemptIntervalExceeded c cycles s
  | .launchRun w => Sys2Proof.Machine.execLaunchRun w s
  | .launchLoad w => Sys2Proof.Machine.execLaunchLoad w s
  | .launchRestore w => Sys2Proof.Machine.execLaunchRestore w s
  | .launchEligible slot => Sys2Proof.Machine.execLaunchEligible slot s
  | .loadCopyComplete slot => Sys2Proof.Machine.execLoadCopyComplete slot s
  | .restoreLoadComplete slot => Sys2Proof.Machine.execRestoreLoadComplete slot s
  | .contextSaveComplete slot => Sys2Proof.Machine.execContextSaveComplete slot s
  | .launchOverrun c => Sys2Proof.Machine.execLaunchOverrun c s
  | .preemptCommand w => Sys2Proof.Machine.execPreemptCommand w s
  | .cancelCommand w => Sys2Proof.Machine.execCancelCommand w s
  | .seedCommand w => Sys2Proof.Machine.execSeedCommand w s
  | .seedKeyReady v => Sys2Proof.Machine.execSeedKeyReady v s
  | .joinCommand w => Sys2Proof.Machine.execJoinCommand w s
  | .leaveCommand w => Sys2Proof.Machine.execLeaveCommand w s
  | .growthCommand w => Sys2Proof.Machine.execGrowthCommand w s
  | .layoutCommand w => Sys2Proof.Machine.execLayoutCommand w s
  | .swapAreaCommand w => Sys2Proof.Machine.execSwapAreaCommand w s
  | .pipeOpen w => Sys2Proof.Machine.execPipeOpen w s
  | .pipeClose w => Sys2Proof.Machine.execPipeClose w s
  | .pipeConfigure w => Sys2Proof.Machine.execPipeConfigure w s
  | .pipeCloseComplete p => Sys2Proof.Machine.execPipeCloseComplete p s
  | .pipePacketAdvance p => Sys2Proof.Machine.execPipePacketAdvance p s
  | .rennetCommand w => Sys2Proof.Machine.execRennetCommand w s
  | .unitHold r => Sys2Proof.Machine.execUnitHold r s
  | .unitReadmit r => Sys2Proof.Machine.execUnitReadmit r s
  | .unitTailDrop r => Sys2Proof.Machine.execUnitTailDrop r s
  | .unitUpdateImage r => Sys2Proof.Machine.execUnitUpdateImage r s
  | .unitRecalibrate r => Sys2Proof.Machine.execUnitRecalibrate r s
  | .unitReclaim r => Sys2Proof.Machine.execUnitReclaim r s
  | .unitDrainComplete u => Sys2Proof.Machine.execUnitDrainComplete u s
  | .drainLimitPassed u micros => Sys2Proof.Machine.execDrainLimitPassed u micros s
  | .loadingComplete u r => Sys2Proof.Machine.execLoadingComplete u r s
  | .aggregateReevaluate u => Sys2Proof.Machine.execAggregateReevaluate u s
  | .arrayOperandFault c f => Sys2Proof.Machine.execArrayOperandFault c f s
  | .laneGroupFault c group f => Sys2Proof.Machine.execLaneGroupFault c group f s
  | .cultureFault c f => Sys2Proof.Machine.execCultureFault c f s
  | .onchipUncorrectable f => Sys2Proof.Machine.execOnchipUncorrectable f s
  | .linkFlitUncorrectable f => Sys2Proof.Machine.execLinkFlitUncorrectable f s
  | .correctedErrorThreshold e => Sys2Proof.Machine.execCorrectedErrorThreshold e s
  | .dieFault d => Sys2Proof.Machine.execDieFault d s
  | .hubFault => Sys2Proof.Machine.execHubFault s
  | .pageWork v => Sys2Proof.Machine.execPageWork v s
  | .pageWorkEnd v => Sys2Proof.Machine.execPageWorkEnd v s
  | .swapOutComplete b => Sys2Proof.Machine.execSwapOutComplete b s
  | .swapInComplete b data => Sys2Proof.Machine.execSwapInComplete b data s
  | .swapTransferFailed b status => Sys2Proof.Machine.execSwapTransferFailed b status s
  | .granuleClear d granule => Sys2Proof.Machine.execGranuleClear d granule s
  | .scrubPass p => Sys2Proof.Machine.execScrubPass p s
  | .shadowMoveGranule => Sys2Proof.Machine.execShadowMoveGranule s
  | .relocateGranule d => Sys2Proof.Machine.execRelocateGranule d s
  | .hbmStackFailure stack cause => Sys2Proof.Machine.execHbmStackFailure stack cause s
  | .beatSymbolReceive sym mark markNs => Sys2Proof.Machine.execBeatSymbolReceive sym mark markNs s
  | .beatBegin now => Sys2Proof.Machine.execBeatBegin now s
  | .beatSymbolSend p => Sys2Proof.Machine.execBeatSymbolSend p s
  | .beatMissed now => Sys2Proof.Machine.execBeatMissed now s
  | .holdNotice node => Sys2Proof.Machine.execHoldNotice node s
  | .releaseNotice node => Sys2Proof.Machine.execReleaseNotice node s
  | .memberLossNotice node => Sys2Proof.Machine.execMemberLossNotice node s
  | .groupRequestForward r => Sys2Proof.Machine.execGroupRequestForward r s
  | .ptpMessage m => Sys2Proof.Machine.execPtpMessage m s
  | .resultSlotRelease fn slot value secure => Sys2Proof.Machine.execResultSlotRelease fn slot value secure s
  | .bar4Read fn off len secure => Sys2Proof.Machine.execBar4Read fn off len secure s
  | .bar4Write fn off data secure => Sys2Proof.Machine.execBar4Write fn off data secure s
  | .registerWrite fn w data secure => Sys2Proof.Machine.execRegisterWrite fn w data secure s
  | .hostLinkRecovery rate width => Sys2Proof.Machine.execHostLinkRecovery rate width s
  | .hostLinkBelowMinimum rate width => Sys2Proof.Machine.execHostLinkBelowMinimum rate width s
  | .hostLinkDown => Sys2Proof.Machine.execHostLinkDown s
  | .flrPhysical => Sys2Proof.Machine.execFlrPhysical s
  | .flrVirtual n => Sys2Proof.Machine.execFlrVirtual n s
  | .ideIntegrityFailure stream fn => Sys2Proof.Machine.execIdeIntegrityFailure stream fn s
  | .fabricLinkDown p => Sys2Proof.Machine.execFabricLinkDown p s
  | .fabricLinkUp p => Sys2Proof.Machine.execFabricLinkUp p s
  | .psigerData p g => Sys2Proof.Machine.execPsigerData p g s
  | .psigerAck p g => Sys2Proof.Machine.execPsigerAck p g s
  | .psigerNak p g => Sys2Proof.Machine.execPsigerNak p g s
  | .psigerCredit p g => Sys2Proof.Machine.execPsigerCredit p g s
  | .remoteSignalReceive m => Sys2Proof.Machine.execRemoteSignalReceive m s
  | .remoteSignalOutcome m => Sys2Proof.Machine.execRemoteSignalOutcome m s
  | .remoteSignalResend peer seq => Sys2Proof.Machine.execRemoteSignalResend peer seq s
  | .psigerReconcile p g => Sys2Proof.Machine.execPsigerReconcile p g s
  | .psigerProbe p g => Sys2Proof.Machine.execPsigerProbe p g s
  | .psigerProbeReply p g => Sys2Proof.Machine.execPsigerProbeReply p g s
  | .psigerFaultNotice p g => Sys2Proof.Machine.execPsigerFaultNotice p g s
  | .psigerExport p g => Sys2Proof.Machine.execPsigerExport p g s
  | .retransmitTimeout b seq => Sys2Proof.Machine.execRetransmitTimeout b seq s
  | .gapTimeout b => Sys2Proof.Machine.execGapTimeout b s
  | .ackTimer b => Sys2Proof.Machine.execAckTimer b s
  | .peerLossTimeout b => Sys2Proof.Machine.execPeerLossTimeout b s
  | .twinHeartbeat => Sys2Proof.Machine.execTwinHeartbeat s
  | .twinLossOfSignal => Sys2Proof.Machine.execTwinLossOfSignal s
  | .twinFlitTimeout => Sys2Proof.Machine.execTwinFlitTimeout s
  | .twinProbeTimeout => Sys2Proof.Machine.execTwinProbeTimeout s
  | .twinFlitCrcFail flit => Sys2Proof.Machine.execTwinFlitCrcFail flit s
  | .shadowData r => Sys2Proof.Machine.execShadowData r s
  | .shadowCommit r => Sys2Proof.Machine.execShadowCommit r s
  | .shadowAbort r => Sys2Proof.Machine.execShadowAbort r s
  | .exportComplete => Sys2Proof.Machine.execExportComplete s
  | .encodeFrame k r => Sys2Proof.Machine.execEncodeFrame k r s
  | .decodeAccessUnit k r => Sys2Proof.Machine.execDecodeAccessUnit k r s
  | .codecClose k r => Sys2Proof.Machine.execCodecClose k r s
  | .blockRowStart k enc => Sys2Proof.Machine.execBlockRowStart k enc s
  | .frameOutput k enc => Sys2Proof.Machine.execFrameOutput k enc s
  | .ringPoll k enc consumer => Sys2Proof.Machine.execRingPoll k enc consumer s
  | .kopRead m => Sys2Proof.Machine.execKopRead m s
  | .kopWrite m => Sys2Proof.Machine.execKopWrite m s
  | .commit m => Sys2Proof.Machine.execCommit m s
  | .returnGeneration m => Sys2Proof.Machine.execReturnGeneration m s
  | .discard m => Sys2Proof.Machine.execDiscard m s
  | .kopStatus m => Sys2Proof.Machine.execKopStatus m s
  | .hello m => Sys2Proof.Machine.execHello m s
  | .proofMessage m => Sys2Proof.Machine.execProofMessage m s
  | .sessionClose m => Sys2Proof.Machine.execSessionClose m s
  | .attest m => Sys2Proof.Machine.execAttest m s
  | .imagePiece m => Sys2Proof.Machine.execImagePiece m s
  | .imageVerifyComplete kind => Sys2Proof.Machine.execImageVerifyComplete kind s
  | .sessionIdleTimeout session => Sys2Proof.Machine.execSessionIdleTimeout session s
  | .proofTimeout session => Sys2Proof.Machine.execProofTimeout session s
  | .eventAcknowledge m => Sys2Proof.Machine.execEventAcknowledge m s
  | .vatRunState m => Sys2Proof.Machine.execVatRunState m s
  | .echoRequest m => Sys2Proof.Machine.execEchoRequest m s
  | .debugUnlock m => Sys2Proof.Machine.execDebugUnlock m s
  | .macsecKeyWrite m => Sys2Proof.Machine.execMacsecKeyWrite m s
  | .fuseWrite m => Sys2Proof.Machine.execFuseWrite m s
  | .powerGood p => Sys2Proof.Machine.execPowerGood p s
  | .powerLoss => Sys2Proof.Machine.execPowerLoss s
  | .throttleNChange high => Sys2Proof.Machine.execThrottleNChange high s
  | .powerSample watts => Sys2Proof.Machine.execPowerSample watts s
  | .capDutyStep => Sys2Proof.Machine.execCapDutyStep s
  | .thermalSample t => Sys2Proof.Machine.execThermalSample t s
  | .thermalDutyStep => Sys2Proof.Machine.execThermalDutyStep s
  | .gateFrameBoundary => Sys2Proof.Machine.execGateFrameBoundary s
  | .pairRecordTimer => Sys2Proof.Machine.execPairRecordTimer s
  | .commandFrameWrite w => Sys2Proof.Machine.execCommandFrameWrite w s
  | .croakHoldNChange high => Sys2Proof.Machine.execCroakHoldNChange high s
  | .croakRdyRelease now => Sys2Proof.Machine.execCroakRdyRelease now s
  | .stretchLimitReached now => Sys2Proof.Machine.execStretchLimitReached now s
  | .hostLinkTrained rate width => Sys2Proof.Machine.execHostLinkTrained rate width s
  | .vfEnableWrite num enable => Sys2Proof.Machine.execVfEnableWrite num enable s
  | .msixVectorUnmask fn w => Sys2Proof.Machine.execMsixVectorUnmask fn w s
  | .ideKeyProgramming stream fn => Sys2Proof.Machine.execIdeKeyProgramming stream fn s
  | .twinLinkUp m => Sys2Proof.Machine.execTwinLinkUp m s
  | .twinFaultNotice => Sys2Proof.Machine.execTwinFaultNotice s
  | .twinPipeFlit m => Sys2Proof.Machine.execTwinPipeFlit m s
  | .pairRecordReceive r => Sys2Proof.Machine.execPairRecordReceive r s
  | .twinAuditRecordReceive words => Sys2Proof.Machine.execTwinAuditRecordReceive words s
  | .debugUnlockComplete => Sys2Proof.Machine.execDebugUnlockComplete s
  | .testAccessPortClock p => Sys2Proof.Machine.execTestAccessPortClock p s
  | .neighbourSolicitation m => Sys2Proof.Machine.execNeighbourSolicitation m s
  | .pauseFrameReceive f => Sys2Proof.Machine.execPauseFrameReceive f s

end Sys2Proof.Machine
end

