-- ==== Sys2Proof/Machine/Idle.lean ====
section
/-! DEFINITION. What the block does with no command waiting: instructions held back issue when they can (R142), and commands that
waited for a unit in service are taken (Table 22-7). -/
namespace Sys2Proof.Machine

/-- The first instruction a core holds back tried again, those behind it kept behind it (R142). -/
def State.tryHeld (s : State) (c : CoreId) : Host.Outcome State Fault Refusal :=
  match s.cores[c].held with
  | [] => .next s
  | i :: rest =>
    match exec i (s.updCore c fun k => { k with held := [] }) with
    | .next t => .next (if t.runs c then t.updCore c fun k => { k with held := k.held ++ rest } else t)
    | o => o

/-- The effect of a command by its code (Table 15-2); a reserved code is refused with reason 1. -/
def State.takeAny (s : State) (c : Cmd) : Except Refused State :=
  match c.code with
  | 1 => s.takeLaunch c
  | 2 => s.takePreempt c
  | 3 => s.takeCancel c
  | 4 => s.takeSeed c
  | 5 => s.takeJoin c
  | 6 => s.takeLeave c
  | 7 => s.takeGrowth c
  | 8 => s.takeLayout c
  | 9 => s.takeSwapArea c
  | 10 =>
    match c.field 1 11 10 with
    | 1 => s.takePipeClose c
    | 2 => s.takePipeConfigure c
    | _ => s.takePipeOpen c
  | 11 => s.takeRennet c
  | 12 => s.unitop c
  | _ => refuse 1

/-- The oldest command that waited for the host port or the hub die taken once both take commands again (Table 22-7). -/
def State.takeWaiting (s : State) : State :=
  match s.host.waiting with
  | [] => s
  | c :: rest => if s.takesNone then s else ({ s with host := { s.host with waiting := rest } } : State).takeCmd c State.takeAny

/-- The commands that waited taken, oldest first. -/
def State.takeAllWaiting (s : State) : State := (List.range s.host.waiting.length).foldl (fun s _ => s.takeWaiting) s

/-- The hub's own signals that wait for a peer sent as far as there is room (R264). -/
def State.sendAllQueued (s : State) : State := s.peers.foldl (fun s r => s.sendQueued r.peer) s

/-- The command a message is, by the row it belongs to (Table 20-4, Table 21-4). -/
def kopCommand (m : KopMsg) : Instr :=
  match rowOf m with
  | .read => .kopRead m
  | .write => .kopWrite m
  | .unitOp 1 => .unitHold (.kop m)
  | .unitOp 2 => .unitReadmit (.kop m)
  | .unitOp 3 => .unitTailDrop (.kop m)
  | .unitOp 4 => .unitUpdateImage (.kop m)
  | .unitOp 5 => .unitRecalibrate (.kop m)
  | .unitOp _ => .unitReclaim (.kop m)
  | .commit => .commit m
  | .ret => .returnGeneration m
  | .discard => .discard m
  | .status => .kopStatus m
  | .hello => .hello m
  | .proof => .proofMessage m
  | .close => .sessionClose m
  | .attest => .attest m
  | .image => .imagePiece m
  | .eventAck => .eventAcknowledge m
  | .runState => .vatRunState m
  | .echo => .echoRequest m
  | .debug => .debugUnlock m
  | .macsec => .macsecKeyWrite m
  | .fuse => .fuseWrite m

/-- The mailbox messages that came while the management core loaded served, in the order in which they came, once it has resumed (R382). -/
def State.serveLate (s : State) : Host.Outcome State Fault Refusal :=
  if s.ust 271 = stLoading then .next s
  else s.host.late.foldl (fun o m => match o with
    | .next t => exec (kopCommand m) t
    | o => o) (.next { s with host := { s.host with late := [] } })

/-- What a core goes on with (R142, R146, R257): the MOVE that waits for its pipe, the queue of its synchronisation unit, a point it
waits at, then the first instruction it holds back. -/
def State.goOn (s : State) (c : CoreId) : Host.Outcome State Fault Refusal :=
  (((s.tryMove c).serveSync c 5).recheckPoint c).tryHeld c

/-- Every core goes on, in the order of the cores (DESIGN CHOICE, assumption 3); after the
commands and signals that waited for a unit (Table 22-7), the hub's own signals that waited for room (R264) and the messages that waited for
the management core (R382); without clocks nothing happens. -/
def State.idle (s : State) : Host.Outcome State Fault Refusal :=
  if !s.power.clocks then .next s
  else (List.finRange 52).foldl (fun o c => match o with
    | .next t => t.goOn c
    | o => o) (s.ends s.takeAllWaiting.takeEarly.sendAllQueued).serveLate

end Sys2Proof.Machine
end

