-- ==== Sys2Proof/WellFormed.lean ====
section
/-! DEFINITION. Which commands are well formed: every field within the width its table gives it, every message of the length
its layout gives it. Every command runs whatever this says; statements may ask for it. -/
namespace Sys2Proof

/-- A field of so many bits. -/
def fits (x bits : Nat) : Bool := decide (x < 2 ^ bits)

/-- SWEEP and SEMIRING (Table 7-4). -/
def SweepF.ok (f : SweepF) : Bool := fits f.k 24
/-- CHAIN (Table 7-6). -/
def ChainF.ok (f : ChainF) : Bool := fits f.rows 10
/-- MOVE (Table 7-9). -/
def MoveF.ok (f : MoveF) : Bool := fits f.rows 16 && fits f.cols 24 && fits f.pace 10
/-- WINDOW (Table 7-10). -/
def WinF.ok (f : WinF) : Bool :=
  [f.kt, f.kh, f.kw, f.front, f.back, f.top, f.bottom, f.left, f.right].all (fun x => fits x 4)
    && [f.st, f.sh, f.sw, f.dt, f.dh, f.dw].all (fun x => fits x 3) && fits f.positions 16 && fits f.channels 16
/-- RANDOM (Table 7-13). -/
def RandF.ok (f : RandF) : Bool := fits f.threshold 16 && fits f.rows 16
/-- CENSUS (Table 7-15). -/
def CenF.ok (f : CenF) : Bool := fits f.rows 16
/-- A write of at most one payload of 512 bytes within an aperture of 4 MiB, from a byte of a frame on (R282, R327). -/
def FrameWrite.ok (w : FrameWrite) : Bool :=
  fits w.frame 13 && decide (w.off < 512) && decide (0 < w.data.length) && decide (w.data.length ≤ 512)
    && decide (w.frame * 512 + w.off + w.data.length ≤ 2 ^ 22)
/-- A dictionary message (Table 20-3): offset and session within their fields, a payload no longer than a DOMAIN. -/
def KopMsg.ok (m : KopMsg) : Bool := fits m.offset 16 && fits m.session 32 && decide (m.data.length ≤ 65472)
/-- A unit operation, by either way (R26). -/
def UnitSrc.ok : UnitSrc → Bool
  | .frame w => w.ok
  | .kop m => m.ok
/-- An operand fault within its instruction (R85). -/
def OperandFault.ok (f : OperandFault) : Bool := fits f.k 24
/-- A fault in one of 128 lanes (R106, R214). -/
def UnitFault.ok (f : UnitFault) : Bool := decide (f.lane < 128)
/-- An on-chip offset below the largest memory (Table 22-4). -/
def ChipError.ok (f : ChipError) : Bool := fits f.offset 26
/-- A link of a die (R414). -/
def LinkError.ok (f : LinkError) : Bool := decide (f.link < 16)
/-- A segment with its eight header words (R342). -/
def Segment.ok (g : Segment) : Bool := g.header.length == 8
/-- A payload from a peer. -/
def FromPeer.ok : FromPeer → Bool
  | .twin b => decide (0 < b.length)
  | .fabric _ g => g.ok
/-- A reconcile exchange: no credit of a pipe twice. -/
def Reconcile.ok (m : Reconcile) : Bool := decide (m.credits.map Prod.fst).Nodup
/-- A shadow record with its sixteen header words (R351). -/
def ShadowRecord.ok (r : ShadowRecord) : Bool := r.header.length == 16
/-- A codec record with its sixteen words (R363). -/
def FrameRecord.ok (r : FrameRecord) : Bool := r.words.length == 16
/-- Every unit detected once (R435). -/
def PartStart.ok (p : PartStart) : Bool := decide p.detected.Nodup
/-- Sixteen sensors on each compute die, four on the hub, twelve stacks (R431). -/
def ThermalReading.ok (t : ThermalReading) : Bool := t.dies.length == 68 && t.stackTemps.length == 12
/-- A flit of a plain pipe: bytes, unless a credit (R346). -/
def PipeFlit.ok : PipeFlit → Bool
  | .data _ b _ => decide (0 < b.length)
  | .credit _ _ => true
  | .returns .. => true
/-- Addresses of sixteen bytes (R337). -/
def Solicitation.ok (m : Solicitation) : Bool := m.target.length == 16 && m.source.length == 16

/-- Whether a command is well formed. -/
def Instr.wellFormed : Instr → Bool
  | .sweep _ _ f => f.ok
  | .minPlus _ _ f => f.ok
  | .maxPlus _ _ f => f.ok
  | .l1Sweep _ _ f => f.ok
  | .squaredL2 _ _ f => f.ok
  | .clearTile _ _ _ => true
  | .fillTile _ _ _ => true
  | .copyTile _ _ _ => true
  | .addTile _ _ _ => true
  | .subTile _ _ _ => true
  | .accopMax _ _ _ => true
  | .accopMin _ _ _ => true
  | .scaleTile _ _ _ => true
  | .scaleRow _ _ _ => true
  | .scaleCol _ _ _ => true
  | .addCol _ _ _ => true
  | .accopLoad _ _ _ => true
  | .chainDrain _ _ f => f.ok && f.srcKind == 0#2
  | .chainTensor _ _ f => f.ok && f.srcKind == 1#2
  | .chainRegister _ _ f => f.ok && f.srcKind == 2#2
  | .smaxEnd _ _ f => f.ok
  | .nstatFast _ _ f => f.ok
  | .nstatMean _ _ f => f.ok
  | .nstatStable _ _ f => f.ok
  | .nstatRms _ _ f => f.ok
  | .fadd _ _ _ => true
  | .fsub _ _ _ => true
  | .fmul _ _ _ => true
  | .ffma _ _ _ => true
  | .fmin _ _ _ => true
  | .fmax _ _ _ => true
  | .iadd _ _ _ => true
  | .isub _ _ _ => true
  | .imul _ _ _ => true
  | .selLanes _ _ _ => true
  | .bcast _ _ _ => true
  | .mov _ _ _ => true
  | .fcmp _ _ _ => true
  | .maskop _ _ _ => true
  | .vectorCvt _ _ _ => true
  | .sumLanes _ _ _ => true
  | .prodLanes _ _ _ => true
  | .vectorMax _ _ _ => true
  | .vectorMin _ _ _ => true
  | .countLanes _ _ _ => true
  | .meanLanes _ _ _ => true
  | .varLanes _ _ _ => true
  | .argmax _ _ _ => true
  | .argmin _ _ _ => true
  | .scanInclFadd _ _ _ => true
  | .scanInclFmax _ _ _ => true
  | .scanInclFmin _ _ _ => true
  | .scanInclIadd _ _ _ => true
  | .scanExclFadd _ _ _ => true
  | .scanExclFmax _ _ _ => true
  | .scanExclFmin _ _ _ => true
  | .scanExclIadd _ _ _ => true
  | .moveTensor _ _ f => f.ok
  | .ldv _ _ f => f.ok
  | .stv _ _ f => f.ok
  | .lddesc _ _ f => f.ok
  | .ldx _ _ f => f.ok
  | .stx _ _ f => f.ok
  | .zpack _ _ f => f.ok
  | .zunpack _ _ f => f.ok
  | .vtensor _ _ f => f.ok
  | .vsplit _ _ f => f.ok
  | .window _ _ f => f.ok
  | .tableExpansion _ _ _ => true
  | .tableCustom _ _ _ => true
  | .tableSwap _ _ _ => true
  | .signalRennet _ _ _ => true
  | .signalRetry _ => true
  | .waitRennet _ _ _ => true
  | .waitSatisfied _ => true
  | .fence _ _ _ => true
  | .randomRaw _ _ f => f.ok
  | .randomUniform _ _ f => f.ok
  | .randomNormal _ _ f => f.ok
  | .randomBernoulli _ _ f => f.ok
  | .nop _ _ _ => true
  | .endProgram _ _ _ => true
  | .br _ _ _ => true
  | .brc _ _ _ => true
  | .loopX _ _ _ => true
  | .xalu _ _ _ => true
  | .ximm _ _ _ => true
  | .dset _ _ _ => true
  | .spillarea _ _ _ => true
  | .xget _ _ _ => true
  | .preempt _ _ => true
  | .attach _ _ f => f.ok
  | .detach _ _ f => f.ok
  | .censusScan _ _ f => f.ok
  | .censusStore _ _ f => f.ok
  | .censusClear _ _ f => f.ok
  | .seal _ _ f => f.ok
  | .preemptIntervalExceeded _ _ => true
  | .launchRun w => w.ok
  | .launchLoad w => w.ok
  | .launchRestore w => w.ok
  | .launchEligible _ => true
  | .loadCopyComplete _ => true
  | .restoreLoadComplete _ => true
  | .contextSaveComplete _ => true
  | .launchOverrun _ => true
  | .preemptCommand w => w.ok
  | .cancelCommand w => w.ok
  | .seedCommand w => w.ok
  | .seedKeyReady _ => true
  | .joinCommand w => w.ok
  | .leaveCommand w => w.ok
  | .growthCommand w => w.ok
  | .layoutCommand w => w.ok
  | .swapAreaCommand w => w.ok
  | .pipeOpen w => w.ok
  | .pipeClose w => w.ok
  | .pipeConfigure w => w.ok
  | .pipeCloseComplete _ => true
  | .pipePacketAdvance _ => true
  | .rennetCommand w => w.ok
  | .unitHold r => r.ok
  | .unitReadmit r => r.ok
  | .unitTailDrop r => r.ok
  | .unitUpdateImage r => r.ok
  | .unitRecalibrate r => r.ok
  | .unitReclaim r => r.ok
  | .unitDrainComplete _ => true
  | .drainLimitPassed _ _ => true
  | .loadingComplete _ _ => true
  | .aggregateReevaluate _ => true
  | .arrayOperandFault _ f => f.ok
  | .laneGroupFault _ _ f => f.ok
  | .cultureFault _ f => f.ok
  | .onchipUncorrectable f => f.ok
  | .linkFlitUncorrectable f => f.ok
  | .correctedErrorThreshold e => fits e.count 48
  | .dieFault d => d.buffer.all fun o => decide (o < 2 ^ 26)
  | .hubFault => true
  | .pageWork _ => true
  | .pageWorkEnd _ => true
  | .swapOutComplete _ => true
  | .swapInComplete _ _ => true
  | .swapTransferFailed _ _ => true
  | .granuleClear _ granule => decide (granule < 2 ^ 25)
  | .scrubPass _ => true
  | .shadowMoveGranule => true
  | .relocateGranule _ => true
  | .hbmStackFailure _ _ => true
  | .beatSymbolReceive _ _ _ => true
  | .beatBegin _ => true
  | .beatSymbolSend _ => true
  | .beatMissed _ => true
  | .holdNotice _ => true
  | .releaseNotice _ => true
  | .memberLossNotice _ => true
  | .groupRequestForward _ => true
  | .ptpMessage _ => true
  | .resultSlotRelease _ slot _ _ => decide (slot < 4096)
  | .bar4Read _ off len _ => decide (0 < len) && decide (off + len ≤ 2 ^ 40)
  | .bar4Write _ off data _ => decide (0 < data.length) && decide (off + data.length ≤ 2 ^ 40)
  | .registerWrite _ w data _ => decide (0 < data.length) && (match w with
    | .bar0 _ => true
    | .config _ => decide (data.length ≤ 2))
  | .hostLinkRecovery _ width => decide (width ≤ 16)
  | .hostLinkBelowMinimum _ width => decide (width ≤ 16)
  | .hostLinkDown => true
  | .flrPhysical => true
  | .flrVirtual _ => true
  | .ideIntegrityFailure _ _ => true
  | .fabricLinkDown _ => true
  | .fabricLinkUp _ => true
  | .psigerData _ g => g.ok
  | .psigerAck _ g => g.ok
  | .psigerNak _ g => g.ok
  | .psigerCredit _ g => g.ok
  | .remoteSignalReceive m => m.ok
  | .remoteSignalOutcome m => m.ok
  | .remoteSignalResend _ _ => true
  | .psigerReconcile _ g => g.ok
  | .psigerProbe _ g => g.ok
  | .psigerProbeReply _ g => g.ok
  | .psigerFaultNotice _ g => g.ok
  | .psigerExport _ g => g.ok
  | .retransmitTimeout _ _ => true
  | .gapTimeout _ => true
  | .ackTimer _ => true
  | .peerLossTimeout _ => true
  | .twinHeartbeat => true
  | .twinLossOfSignal => true
  | .twinFlitTimeout => true
  | .twinProbeTimeout => true
  | .twinFlitCrcFail flit => decide (flit < 256)
  | .shadowData r => r.ok
  | .shadowCommit r => r.ok
  | .shadowAbort r => r.ok
  | .exportComplete => true
  | .encodeFrame _ r => r.ok
  | .decodeAccessUnit _ r => r.ok
  | .codecClose _ r => r.ok
  | .blockRowStart _ _ => true
  | .frameOutput _ _ => true
  | .ringPoll _ _ _ => true
  | .kopRead m => m.ok
  | .kopWrite m => m.ok
  | .commit m => m.ok
  | .returnGeneration m => m.ok
  | .discard m => m.ok
  | .kopStatus m => m.ok
  | .hello m => m.ok
  | .proofMessage m => m.ok
  | .sessionClose m => m.ok
  | .attest m => m.ok
  | .imagePiece m => m.ok
  | .imageVerifyComplete _ => true
  | .sessionIdleTimeout _ => true
  | .proofTimeout _ => true
  | .eventAcknowledge m => m.ok
  | .vatRunState m => m.ok
  | .echoRequest m => m.ok
  | .debugUnlock m => m.ok
  | .macsecKeyWrite m => m.ok
  | .fuseWrite m => m.ok
  | .powerGood p => p.ok
  | .powerLoss => true
  | .throttleNChange _ => true
  | .powerSample _ => true
  | .capDutyStep => true
  | .thermalSample t => t.ok
  | .thermalDutyStep => true
  | .gateFrameBoundary => true
  | .pairRecordTimer => true
  | .commandFrameWrite w => w.ok
  | .croakHoldNChange _ => true
  | .croakRdyRelease _ => true
  | .stretchLimitReached _ => true
  | .hostLinkTrained _ width => decide (width ≤ 16)
  | .vfEnableWrite num _ => decide (num < 2 ^ 16)
  | .msixVectorUnmask _ w => decide (w.vector < 128)
  | .ideKeyProgramming _ _ => true
  | .twinLinkUp m => m.ok
  | .twinFaultNotice => true
  | .twinPipeFlit m => m.ok
  | .pairRecordReceive _ => true
  | .twinAuditRecordReceive words => words.length == 64
  | .debugUnlockComplete => true
  | .testAccessPortClock _ => true
  | .neighbourSolicitation m => m.ok
  | .pauseFrameReceive _ => true

end Sys2Proof
end

