-- ==== Sys2Proof/Safety.lean ====
section
/-! DEFINITION. The terms claims use: when an instruction of a tile program issues, what of the state only reports, and the
invariants of power and of canonical form. -/
namespace Sys2Proof.Machine

/-- Two states alike but for events and their counts, volatile entries, interrupt causes, and what is sent or held for the host. -/
def State.Reported (s t : State) : Prop :=
  t = { s with events := t.events, evCount := t.evCount, evBeat := t.evBeat, raised := t.raised, vol := t.vol, funcs := t.funcs,
               host := t.host, out := t.out }

/-- An instruction issues: the clocks run, it waits for nothing (R142 to R144), its word is loaded, readable and of no reserved class or
operation (R134), and it is not predicated off (R133). -/
def State.issues (s : State) (c : CoreId) (h : Hdr) (cls : Nat) (all : Bool) : Bool :=
  s.power.clocks && s.canIssue c h cls all && s.executes c h

/-- The entry that counts a core's issued instructions, U+8:01 (R150). -/
def issuedKey (c : CoreId) : Nat := ek (unitObj (coreUnit c) 8) 1

/-- A state with one more instruction of a core counted (R150): every volatile entry but that count, the count of dropped
events and that of events not mirrored is as before, and unless the count saturates nothing else is changed at all. -/
structure State.Counted (c : CoreId) (s t : State) : Prop where
  same : s.Reported t
  entries : ∀ key, key ≠ issuedKey c → key ≠ ek 0x9010 3 → key ≠ ek 0x9010 6 → t.volAt key = s.volAt key
  quiet : s.volAt (issuedKey c) + 1 < 2 ^ 48 - 1 → t = { s with vol := t.vol }

/-- An instruction's whole effect is on its own core, which becomes `k`, and on the count of issued instructions. -/
def onCore (i : Instr) (c : CoreId) (s : State) (k : Core) : Prop :=
  ∃ t, exec i s = .next t ∧ (s.updCore c fun _ => k).Counted c t

/-- An instruction completes with an effect on the state with the instruction counted, and the core goes on to the next word. -/
def runsAs (i : Instr) (c : CoreId) (s : State) (eff : State → State) : Prop :=
  exec i s = .next (s.ends ((eff (s.countIssued c)).advance c))

/-- A core after an instruction that writes Vd lane by lane under its mask (R90, R101, R218): an inactive lane keeps its value or
reads zero; lanes written poisoned set POISON in VSTAT and count in the launch census. -/
def withLanes (k : Core) (f : VecF) (g : Nat → Lane) : Core :=
  let mask := k.mask f.mask
  let hot := ((List.range 128).filter fun i => mask.getLsbD i && (g i).poison).length
  { k with
    v := k.v.set f.vd (Vector.ofFn fun i => if mask.getLsbD i then g i else if f.maskZero then Lane.zero else k.v[f.vd][i])
    vstat := if hot = 0 then k.vstat else k.vstat ||| 4#32
    census := if hot = 0 then k.census else k.census.set 15 (k.census[(15 : Fin 16)].add { Counts.none with poisons := hot })
    pc := k.pc + 1 }

/-- Whether no lane written under the mask is poisoned. -/
def cleanLanes (k : Core) (f : VecF) (g : Nat → Lane) : Prop :=
  ∀ i, i < 128 → (k.mask f.mask).getLsbD i = true → (g i).poison = false

/-- An instruction completes with its core as given, and changes nothing else but what reports. -/
def onCoreReports (i : Instr) (c : CoreId) (s : State) (k : Core) : Prop :=
  ∃ t, exec i s = .next t ∧ (s.updCore c fun _ => k).Reported t

/-- Whether none of an instruction's checks stops it. -/
def passes (l : List (Option Stop)) : Bool := (firstStop l).isNone

/-- Clocks run only while the package is powered, and a package without power keeps nothing but fused entries and HBM3E
storage (R425, R426); the frame duty is at most 48/64 (R428). -/
structure State.Powered (s : State) : Prop where
  clocks : s.power.clocks = true → s.power.on = true
  nothing : s.power.on = false → s = s.unpowered
  tripped : s.power.tripped = true → s.power.clocks = false

/-- Every memory of the package, the command frames being assembled and the result slots stand in their one canonical form: keys strictly
rising, and none with what an unlisted key reads as (R236, R282, R293). -/
structure State.Canonical (s : State) : Prop where
  hbm : s.hbm.wf = true
  hub : s.hubBuf.wf = true
  dies : ∀ d : Fin 4, (s.dieBuf[d]).wf = true
  cores : ∀ c : CoreId, (s.cores[c]).buf.wf = true
  frames : ∀ f : FnNo, Sparse.wf 0#8 (s.funcs[f]).frames = true
  results : Sparse.wf RSlot.reset s.results = true

end Sys2Proof.Machine
end

