-- ==== Sys2Proof/Certificates/Slice0/Obligations.lean ====
section
/-! DEFINITION. The statements of this package, and the terms they share. -/
namespace Sys2Proof.Machine

/-- A VECTOR instruction gives each active lane of Vd what `g` says (see `withLanes`), and changes nothing else but what reports;
with no poisoned lane written it changes its core and the count of issued instructions alone. -/
def givesLanes (mk : CoreId → Hdr → VecF → Instr) (g : VecF → Core → Nat → Lane) : Prop :=
  ∀ (c : CoreId) (h : Hdr) (f : VecF) (s : State), s.issues c h clsVector false = true →
    let k := s.cores[c]
    onCoreReports (mk c h f) c s (withLanes k f (g f k))
    ∧ (cleanLanes k f (g f k) → onCore (mk c h f) c s (withLanes k f (g f k)))

/-- FP32 lane operations round once to nearest even, lane by lane, and poison with either operand (R91, R90, R97). -/
def holdsFloatLanes : Prop :=
  givesLanes .fadd (fun f k i => ⟨rne32 ((f32 (k.lane f.va i).val).add (f32 (k.lane f.vb i).val)),
    (k.lane f.va i).poison || (k.lane f.vb i).poison⟩)
  ∧ givesLanes .fsub (fun f k i => ⟨rne32 ((f32 (k.lane f.va i).val).add (f32 (k.lane f.vb i).val).negate),
    (k.lane f.va i).poison || (k.lane f.vb i).poison⟩)
  ∧ givesLanes .fmul (fun f k i => ⟨rne32 ((f32 (k.lane f.va i).val).mul (f32 (k.lane f.vb i).val)),
    (k.lane f.va i).poison || (k.lane f.vb i).poison⟩)
  ∧ givesLanes .ffma (fun f k i =>
    ⟨rne32 (((f32 (k.lane f.va i).val).mul (f32 (k.lane f.vb i).val)).add (f32 (k.lane f.vc i).val)),
      (k.lane f.va i).poison || (k.lane f.vb i).poison || (k.lane f.vc i).poison⟩)
  ∧ givesLanes .fmin (fun f k i => ⟨rne32 (minVal (f32 (k.lane f.va i).val) (f32 (k.lane f.vb i).val)),
    (k.lane f.va i).poison || (k.lane f.vb i).poison⟩)
  ∧ givesLanes .fmax (fun f k i => ⟨rne32 (maxVal (f32 (k.lane f.va i).val) (f32 (k.lane f.vb i).val)),
    (k.lane f.va i).poison || (k.lane f.vb i).poison⟩)

/-- SEL, BCAST and MOV (Table 7-8). -/
def holdsLaneCopies : Prop :=
  givesLanes .selLanes (fun f k i => if (k.mask f.md).getLsbD i then k.lane f.va i else k.lane f.vb i)
  ∧ givesLanes .bcast (fun f k _ => ⟨k.x[f.xd].truncate 32, false⟩)
  ∧ givesLanes .mov (fun f k i => k.lane f.va i)

/-- An INT32 instruction (R91): the exact result of two lanes, saturated or wrapped; a wrap in an active lane sets WRAP. -/
def givesInts (mk : CoreId → Hdr → VecF → Instr) (op : Int → Int → Int) : Prop :=
  ∀ (c : CoreId) (h : Hdr) (f : VecF) (s : State), s.issues c h clsVector false = true →
    let k := s.cores[c]
    let exact_ (i : Nat) : Int := op (k.lane f.va i).val.toInt (k.lane f.vb i).val.toInt
    let out (i : Nat) : Bool := decide (exact_ i < -2147483648) || decide (2147483647 < exact_ i)
    let value (i : Nat) : Word :=
      if f.sat && out i then (if exact_ i < 0 then 0x80000000#32 else 0x7FFFFFFF#32) else BitVec.ofInt 32 (exact_ i)
    let lane (i : Nat) : Lane := ⟨value i, (k.lane f.va i).poison || (k.lane f.vb i).poison⟩
    let wraps := !f.sat && (List.range 128).any fun i => (k.mask f.mask).getLsbD i && out i
    let k1 := withLanes k f lane
    let k2 := { k1 with vstat := if wraps then k1.vstat ||| 2#32 else k1.vstat }
    onCoreReports (mk c h f) c s k2
    ∧ (cleanLanes k f lane → onCore (mk c h f) c s k2)

/-- IADD, ISUB and IMUL (R91). -/
def holdsIntLanes : Prop := givesInts .iadd (· + ·) ∧ givesInts .isub (· - ·) ∧ givesInts .imul (· * ·)

/-- An instruction that writes mask register Md (R90): bit by bit under its mask; M0 ignores the write (R88). -/
def givesMask (mk : CoreId → Hdr → VecF → Instr) (top : Nat) (g : VecF → Core → Nat → Bool) : Prop :=
  ∀ (c : CoreId) (h : Hdr) (f : VecF) (s : State), s.issues c h clsVector false = true → f.cmp.toNat ≤ top →
    ∃ m : BitVec 128,
      onCore (mk c h f) c s
        { s.cores[c] with m := if f.md = 0 then s.cores[c].m else s.cores[c].m.set f.md m, pc := s.cores[c].pc + 1 }
      ∧ ∀ i, i < 128 → m.getLsbD i =
          (let k := s.cores[c]
           if (k.mask f.mask).getLsbD i then g f k i else if f.maskZero then false else (k.mask f.md).getLsbD i)

/-- FCMP and MASKOP (Table 7-7, Table 7-8); a reserved comparison or mask operation stops with EV-0x0700 (R134). -/
def holdsMaskResults : Prop :=
  givesMask .fcmp 6 (fun f k i => fcmp f.cmp.toNat (f32 (k.lane f.va i).val) (f32 (k.lane f.vb i).val))
  ∧ givesMask .maskop 3 (fun f k i => maskOp f.cmp.toNat ((k.mask ⟨f.va.val % 8, by omega⟩).getLsbD i)
      ((k.mask ⟨f.vb.val % 8, by omega⟩).getLsbD i))
  ∧ ∀ (c : CoreId) (h : Hdr) (f : VecF) (s : State), s.issues c h clsVector false = true →
    let stop (op : Nat) : State := s.ends ((s.countIssued c).stopProgram c 0x0700 [(s.cores[c].pc, 2), (5, 1), (op, 1), (88, 2)])
    (6 < f.cmp.toNat → exec (.fcmp c h f) s = .next (stop 0x0C))
    ∧ (3 < f.cmp.toNat → exec (.maskop c h f) s = .next (stop 0x0D))

/-- A reduction (R95 to R98): no active lane poisoned; the result of the active lanes in the low half of Xd, EMPTY set exactly
where no lane is active. -/
def reducesTo (mk : CoreId → Hdr → VecF → Instr) (g : List (Nat × FVal) → Word) : Prop :=
  ∀ (c : CoreId) (h : Hdr) (f : VecF) (s : State), s.issues c h clsVector false = true →
    let k := s.cores[c]
    let act := (List.range 128).filter fun i => (k.mask f.mask).getLsbD i
    (∀ i ∈ act, (k.lane f.va i).poison = false) →
    onCore (mk c h f) c s
      { k with
        x := k.x.set f.xd ((g (act.map fun i => (i, f32 (k.lane f.va i).val))).zeroExtend 64)
        vstat := (k.vstat &&& 0xFFFFFFFE#32) ||| (if act.isEmpty then 1#32 else 0#32)
        pc := k.pc + 1 }

/-- The nine reductions: the sum and product over the fixed tree, the exact extremes, count, mean, variance, and the lowest
lane of an extreme (R95 to R97). -/
def holdsReductions : Prop :=
  reducesTo .sumLanes (fun act => rne32 (sumOf act))
  ∧ reducesTo .prodLanes (fun act => rne32 (treeOf prodOp (lanesOr one act)))
  ∧ reducesTo .vectorMax (fun act => rne32 (maxOf act))
  ∧ reducesTo .vectorMin (fun act => rne32 (minOf act))
  ∧ reducesTo .countLanes (fun act => BitVec.ofNat 32 act.length)
  ∧ reducesTo .meanLanes (fun act => rne32 (meanOf act))
  ∧ reducesTo .varLanes (fun act => rne32 (varOf act))
  ∧ reducesTo .argmax (fun act => argOf (maxOf act) act)
  ∧ reducesTo .argmin (fun act => argOf (minOf act) act)

/-- A reduction over a poisoned active lane stops before it writes anything: EV-0x0704 with the word and Xd, and the program
stops (R101). -/
def holdsReductionStops : Prop :=
  ∀ (c : CoreId) (h : Hdr) (f : VecF) (s : State), s.issues c h clsVector false = true →
    ((List.range 128).any fun i => (s.cores[c].mask f.mask).getLsbD i && (s.cores[c].lane f.va i).poison) = true →
    ∀ mk ∈ [Instr.sumLanes, .prodLanes, .vectorMax, .vectorMin, .countLanes, .meanLanes, .varLanes, .argmax, .argmin],
      exec (mk c h f) s = .next (s.ends ((s.countIssued c).stopProgram c 0x0704 [(s.cores[c].pc, 2), (f.xd.val, 1)]))

/-- A scan (R99): the carry and lanes of the scan over Va, inactive lanes at the identity, written under the mask; the carry
out in Xd. -/
def scansAs (mk : CoreId → Hdr → VecF → Instr) (excl : Bool) (ident : Word) (op : VecF → ScanOp) : Prop :=
  ∀ (c : CoreId) (h : Hdr) (f : VecF) (s : State), s.issues c h clsVector false = true →
    let k := s.cores[c]
    let mask := k.mask f.mask
    let r := scanOf (op f) ident (k.x[f.xd].truncate 32) excl (fun i => f.ms != 0 && k.m[f.ms].getLsbD i)
      ((List.range 128).map fun i => if mask.getLsbD i then k.lane f.va i else ⟨ident, false⟩)
    let lane (i : Nat) : Lane := r.lanes.getD i Lane.zero
    let k1 := withLanes k f lane
    let k2 := { k1 with vstat := if r.wrap then k1.vstat ||| 2#32 else k1.vstat, x := k.x.set f.xd (r.last.val.zeroExtend 64) }
    r.last.poison = false →
    onCoreReports (mk c h f) c s k2
    ∧ (cleanLanes k f lane → onCore (mk c h f) c s k2)

/-- The eight scans (R99). -/
def holdsScans : Prop :=
  scansAs .scanInclFadd false 0#32 (fun _ => fpScan FVal.add) ∧ scansAs .scanInclFmax false negInf32 (fun _ => fpScan maxVal)
  ∧ scansAs .scanInclFmin false inf32 (fun _ => fpScan minVal) ∧ scansAs .scanInclIadd false 0#32 (fun f => intScan f.sat)
  ∧ scansAs .scanExclFadd true 0#32 (fun _ => fpScan FVal.add) ∧ scansAs .scanExclFmax true negInf32 (fun _ => fpScan maxVal)
  ∧ scansAs .scanExclFmin true inf32 (fun _ => fpScan minVal) ∧ scansAs .scanExclIadd true 0#32 (fun f => intScan f.sat)

/-- An instruction waits where it is: it is held behind those its core holds, and nothing else changes (R142, R143). -/
def heldBack (i : Instr) (c : CoreId) (s : State) : Prop :=
  exec i s = .next (s.updCore c fun k => { k with held := k.held ++ [i] })

/-- NOP, XIMM, XALU, XGET, DSET and SPILLAREA complete (R141, Table 7-14): what each leaves in its core; a second operand is Xb or
the immediate, and DSET leaves the reserved bits of a descriptor zero (R3). XGET of VSTAT waits for the earlier writers of it (R143). A
shift by 64 or more is the free value `Config.wideShift` (log entry 40). -/
def holdsControlResults : Prop :=
  ∀ (c : CoreId) (h : Hdr) (f : CtlF) (s : State), s.issues c h clsControl false = true →
    let k := s.cores[c]
    let a := k.x[f.xa]
    let b := if f.useImm then f.imm else k.x[f.xb]
    let leavesCore (i : Instr) (k' : Core) : Prop := ∃ t, exec i s = .next t ∧ (s.updCore c fun _ => k').Counted c t
    leavesCore (.nop c h f) { k with pc := k.pc + 1 }
    ∧ leavesCore (.ximm c h f) { k with x := k.x.set f.xd f.imm, pc := k.pc + 1 }
    ∧ (f.alu.toNat ≤ 10 → ∃ r, leavesCore (.xalu c h f) { k with x := k.x.set f.xd r, pc := k.pc + 1 }
      ∧ (f.alu = 0#4 → r = a + b) ∧ (f.alu = 1#4 → r = a - b) ∧ (f.alu = 2#4 → r = a * b) ∧ (f.alu = 3#4 → r = a &&& b)
      ∧ (f.alu = 4#4 → r = a ||| b) ∧ (f.alu = 5#4 → r = a ^^^ b)
      ∧ (b.toNat < 64 → (f.alu = 6#4 → r = a <<< b.toNat) ∧ (f.alu = 7#4 → r = a >>> b.toNat)
        ∧ (f.alu = 8#4 → r = BitVec.ofInt 64 (a.toInt / 2 ^ b.toNat)))
      ∧ (f.alu = 9#4 → r = BitVec.ofInt 64 (min a.toInt b.toInt)) ∧ (f.alu = 10#4 → r = BitVec.ofInt 64 (max a.toInt b.toInt)))
    ∧ (f.sel.toNat ≤ 3 → (f.sel.toNat = 2 → s.writing c = false) → leavesCore (.xget c h f)
        { k with pc := k.pc + 1, x := k.x.set f.xd (match f.sel.toNat with
          | 0 => BitVec.ofNat 64 (s.lq c) | 1 => BitVec.ofNat 64 (s.stampOf c) | 2 => k.vstat.zeroExtend 64
          | _ => BitVec.ofNat 64 (s.volAt (ek (unitObj (coreUnit c) 9) 4))) })
    ∧ (f.sel.toNat = 2 → s.writing c = true → heldBack (.xget c h f) c s)
    ∧ leavesCore (.dset c h f) { k with
        pc := k.pc + 1, d := k.d.set f.d (cleanDesc (setDWord k.d[f.d] f.word (a.truncate 32)))
        checked := k.checked &&& ~~~(BitVec.twoPow 64 f.d) }
    ∧ (s.issues c h clsControl true = true → k.spilledAny = false → leavesCore (.spillarea c h f)
        { k with pc := k.pc + 1, spillWord := f.imm.truncate 32 &&& 0xFFFF#32 })

/-- A reserved operation of XALU, selector of XGET or condition of BRC, and SPILLAREA with a tile spilled, stop with EV-0x0700 and
the field at fault (R134, R141). -/
def holdsControlStops : Prop :=
  ∀ (c : CoreId) (h : Hdr) (f : CtlF) (s : State), s.issues c h clsControl false = true →
    let stop (op field : Nat) : State := s.ends ((s.countIssued c).stopProgram c 0x0700
      [(s.cores[c].pc, 2), (11, 1), (op, 1), (field, 2)])
    (10 < f.alu.toNat → exec (.xalu c h f) s = .next (stop 5 45))
    ∧ (3 < f.sel.toNat → exec (.xget c h f) s = .next (stop 9 160))
    ∧ (5 < f.cmp.toNat → exec (.brc c h f) s = .next (stop 3 41))
    ∧ (s.issues c h clsControl true = true → s.cores[c].spilledAny = true → exec (.spillarea c h f) s = .next (stop 8 96))

/-- DSET replaces the named word of a descriptor but for its reserved bits, and no other word (R141, R3, Table 7-1). -/
def holdsDescriptorWords : Prop :=
  ∀ (d : BitVec 512) (n m : Fin 16) (w : Word), cleanDesc d = d →
    let kept : Word := if n = 0 then w &&& 0xFF80FFF0#32 else if n = 12 then w &&& 0xFFFF#32 else w
    (cleanDesc (setDWord d n w)).extractLsb' (32 * m.val) 32 = if m = n then kept else d.extractLsb' (32 * m.val) 32

/-- BR, BRC and LOOP (R141): the next word, and LOOP's register. -/
def holdsBranches : Prop :=
  ∀ (c : CoreId) (h : Hdr) (f : CtlF) (s : State), s.issues c h clsControl false = true →
    let k := s.cores[c]
    let there := f.target.toNat
    let b := if f.useImm then f.imm else k.x[f.xb]
    let v := k.x[f.xa] - 1#64
    (there < k.loaded → onCore (.br c h f) c s { k with pc := there })
    ∧ (f.cmp.toNat ≤ 5 → (xcmp f.cmp.toNat k.x[f.xa] b = true → there < k.loaded) →
        onCore (.brc c h f) c s { k with pc := if xcmp f.cmp.toNat k.x[f.xa] b then there else k.pc + 1 })
    ∧ ((v ≠ 0#64 → there < k.loaded) →
        onCore (.loopX c h f) c s { k with x := k.x.set f.xa v, pc := if v = 0#64 then k.pc + 1 else there })

/-- A taken branch past the last word loaded stops the program with EV-0x0702, its target in the detail, and writes nothing
(R141). -/
def holdsBranchStops : Prop :=
  ∀ (c : CoreId) (h : Hdr) (f : CtlF) (s : State), s.issues c h clsControl false = true →
    s.cores[c].loaded ≤ f.target.toNat →
    let stop := s.ends ((s.countIssued c).stopProgram c 0x0702 [(s.cores[c].pc, 2), (f.target.toNat, 2)])
    exec (.br c h f) s = .next stop
    ∧ (f.cmp.toNat ≤ 5 → xcmp f.cmp.toNat s.cores[c].x[f.xa] (if f.useImm then f.imm else s.cores[c].x[f.xb]) = true →
        exec (.brc c h f) s = .next stop)
    ∧ (s.cores[c].x[f.xa] ≠ 1#64 → exec (.loopX c h f) s = .next stop)

/-- A sweep of a class (R135): its descriptors, formats, arrays and tile pass their checks, and the sweep runs; while it would read of
the core buffer what an outstanding MOVE has still to write it waits (R143, Table 7-16). -/
def sweepsAs (mk : CoreId → Hdr → SweepF → Instr) (cls op : Nat)
    (mode : State → CoreId → Desc → Desc → Except Stop (SweepOp × Feed × Feed)) : Prop :=
  ∀ (c : CoreId) (h : Hdr) (f : SweepF) (s : State), s.issues c h cls false = true →
    let u := s.countIssued c
    let da := s.desc c f.da
    let dw := s.desc c f.dw
    (s.bufferWaits c (s.sweepSpans c f) = true → heldBack (mk c h f) c s)
    ∧ ∀ (o : SweepOp) (fa fw : Feed), s.bufferWaits c (s.sweepSpans c f) = false →
    f.k ≠ 0 → passes [u.descStop c cls op f.da [2], u.descStop c cls op f.dw [2]] = true → mode u c da dw = .ok (o, fa, fw) →
    passes [alignStop (s.wordOf c) cls op o da dw (s.xi c f.xk), u.arrayStop c f.enable, u.bindStop c [f.tile]] = true →
    exec (mk c h f) s = .next (s.ends (u.sweepRun c f o fa fw))

/-- SWEEP multiplies and accumulates, the semirings combine as R69 says; each on one of its own codes (R135, R69). -/
def holdsSweepsRun : Prop :=
  sweepsAs .sweep clsSweep 0 (fun s c da dw => s.sweepMode c da dw)
  ∧ sweepsAs .minPlus clsSemiring 0 (fun s c da dw => s.semiringMode c .minPlus da dw)
  ∧ sweepsAs .maxPlus clsSemiring 1 (fun s c da dw => s.semiringMode c .maxPlus da dw)
  ∧ sweepsAs .l1Sweep clsSemiring 2 (fun s c da dw => s.semiringMode c .l1 da dw)
  ∧ sweepsAs .squaredL2 clsSemiring 3 (fun s c da dw => s.semiringMode c .squaredL2 da dw)

/-- A sweep that names an array out of service stops with EV-0x0404 and its enable mask, and one with K = 0 with EV-0x0700 at
field W3[23:0] (R65, R134, Table 7-4). -/
def holdsSweepStops : Prop :=
  ∀ (c : CoreId) (h : Hdr) (f : SweepF) (s : State), s.issues c h clsSweep false = true →
    s.bufferWaits c (s.sweepSpans c f) = false →
    let u := s.countIssued c
    passes [u.descStop c clsSweep 0 f.da [2], u.descStop c clsSweep 0 f.dw [2]] = true →
    (f.k = 0 → exec (.sweep c h f) s = .next (s.ends (u.stopProgram c 0x0700 [(s.cores[c].pc, 2), (1, 1), (0, 1), (96, 2)])))
    ∧ (∀ o fa fw, f.k ≠ 0 → u.sweepMode c (s.desc c f.da) (s.desc c f.dw) = .ok (o, fa, fw) →
        alignStop (s.wordOf c) clsSweep 0 o (s.desc c f.da) (s.desc c f.dw) (s.xi c f.xk) = none →
        (∃ a : Fin 4, f.enable.getLsbD a = true ∧ s.arrayUp c a = false) →
        exec (.sweep c h f) s = .next (s.ends (u.stopProgram c 0x0404
          [(f.enable.toNat, 1), (((List.finRange 4).filter fun a => s.arrayUp c a).length, 1)])))

/-- An element-wise operation (R71): the tiles it names are bound in operand order and each enabled array's part of Td is
replaced by what `g` gives, the others kept; its coarse scales as `scales` says. While `sp`, what it reads of the core buffer, overlaps what
an outstanding MOVE has still to write it waits (R143). -/
def accopAs (mk : CoreId → Hdr → AccF → Instr) (names : AccF → List TileNo)
    (own : AccF → CoreId → State → List (Option Stop)) (pre : AccF → CoreId → State → State)
    (scales : AccF → CoreId → State → (Word × Word) × State) (g : AccF → CoreId → State → Fin 4 → TileArr × Bool)
    (sp : AccF → CoreId → State → Spans := fun _ _ _ => []) : Prop :=
  ∀ (c : CoreId) (h : Hdr) (f : AccF) (s : State), s.issues c h clsAccop false = true →
    let u := s.countIssued c
    let r := scales f c (pre f c (u.bound c (names f)))
    let b := r.2
    (s.bufferWaits c (sp f c s) = true → heldBack (mk c h f) c s)
    ∧ (s.bufferWaits c (sp f c s) = false → passes (own f c u ++ [u.arrayStop c f.enable, u.bindStop c (names f)]) = true →
    runsAs (mk c h f) c s (fun _ =>
      let w := b.setTile c f.td
        ⟨Vector.ofFn fun a => if f.enable.getLsbD a then (g f c b a).1 else (b.tileOf c f.td).arr[a],
          r.1.1, r.1.2⟩
      if (enabled f.enable).any fun a => (g f c b a).2 then w.countTile c 4 else w))

/-- Two source tiles, element by element. -/
def accop2As (mk : CoreId → Hdr → AccF → Instr) (op : FVal → FVal → FVal × Bool) : Prop :=
  accopAs mk (fun f => [f.ta, f.tb, f.td]) (fun _ _ _ => []) (fun _ _ s => s) (fun f c s => scalesOf c f.ta f.td s)
    fun f c s a => elementwise (s.tileOf c f.ta).arr[a] (s.tileOf c f.td).arr[a] (s.tileOf c f.tb).arr[a].poison
      fun n x => op x (if h : n < 16384 then ofA38 ((s.tileOf c f.tb).arr[a]).vals[n] else .zero)

/-- CLEAR, FILL, COPY, ADD, SUB, MAX and MIN (R71, R72). -/
def holdsTileOps : Prop :=
  accopAs .clearTile (fun f => [f.td]) (fun _ _ _ => []) (fun _ _ s => s) (fun _ _ s => freeScales s)
    (fun _ _ _ _ => (⟨Vector.replicate 16384 0#40, false, false⟩, false))
  ∧ accopAs .fillTile (fun f => [f.td]) (fun _ _ _ => []) (fun _ _ s => s) (fun _ _ s => freeScales s)
    (fun f c s _ => (⟨Vector.replicate 16384 (toA38 (s.scalar c f.xs)).1, false, false⟩, false))
  ∧ accopAs .copyTile (fun f => [f.ta, f.td]) (fun _ _ _ => []) (fun _ _ s => s) (fun f c s => scalesOf c f.ta f.td s)
    (fun f c s a => ((s.tileOf c f.ta).arr[a], false))
  ∧ accop2As .addTile a38Add ∧ accop2As .subTile (fun x y => a38Add x y.negate)
  ∧ accop2As .accopMax (fun x y => (maxVal x y, false)) ∧ accop2As .accopMin (fun x y => (minVal x y, false))

/-- SCALE, SCALE_ROW, SCALE_COL, ADD_COL and LOAD (R71). -/
def holdsTileScales : Prop :=
  accopAs .scaleTile (fun f => [f.ta, f.td]) (fun _ _ _ => []) (fun _ _ s => s) (fun f c s => scalesOf c f.ta f.td s)
    (fun f c s a => elementwise (s.tileOf c f.ta).arr[a] (s.tileOf c f.td).arr[a] false fun _ x => accMul x (s.scalar c f.xs))
  ∧ accopAs .scaleRow (fun f => [f.ta, f.td]) (fun f c s => [rowBaseStop (s.wordOf c) 8 f.v]) (fun _ _ s => s)
    (fun f c s => scalesOf c f.ta f.td s)
    (fun f c s a => elementwise (s.tileOf c f.ta).arr[a] (s.tileOf c f.td).arr[a]
      ((List.range 128).any fun i => (s.cores[c].rowLane f.v a i).poison)
      fun n x => accMul x (s.cores[c].rowLane f.v a (n / 128)).f)
  ∧ accopAs .scaleCol (fun f => [f.ta, f.td]) (fun _ _ _ => []) (fun _ _ s => s) (fun f c s => scalesOf c f.ta f.td s)
    (fun f c s a => elementwise (s.tileOf c f.ta).arr[a] (s.tileOf c f.td).arr[a]
      ((List.range 128).any fun j => (s.cores[c].lane f.v j).poison) fun n x => accMul x (s.cores[c].lane f.v (n % 128)).f)
  ∧ accopAs .addCol (fun f => [f.ta, f.td]) (fun _ _ _ => []) (fun _ _ s => s) (fun f c s => scalesOf c f.ta f.td s)
    (fun f c s a => elementwise (s.tileOf c f.ta).arr[a] (s.tileOf c f.td).arr[a]
      ((List.range 128).any fun j => (s.cores[c].lane f.v j).poison) fun n x => a38Add x (s.cores[c].lane f.v (n % 128)).f)
  ∧ accopAs .accopLoad (fun f => [f.td])
    (fun f c s => [s.descStop c clsAccop 11 f.d [2], stopIf ((s.desc c f.d).ctl.dst != 0x0#4)
      (badFormat (s.wordOf c) clsAccop (atDesc 0 12) (s.desc c f.d).ctl.dst.toNat)])
    (fun f c s => (enabled f.enable).foldl (fun s a =>
      s.openSpans c 2 ((s.desc c f.d).spans (s.xi c f.xr + (128 * a.val : Nat)) 128 (s.xi c f.xc) 128)) (s.markChecked c f.d))
    (fun _ _ s => freeScales s)
    (fun f c s a =>
      let e (n : Nat) : Elem := readElem (s.peek c 2 []) (s.desc c f.d)
        (s.xi c f.xr + (128 * a.val + n / 128 : Nat)) (s.xi c f.xc + (n % 128 : Nat))
      (⟨Vector.ofFn fun n => (toA38 (f32 (BitVec.ofNat 32 (e n.val).code))).1,
        (List.range 16384).any fun n => (e n).poison, false⟩, false))
    (fun f c s => (enabled f.enable).flatMap fun a =>
      (s.desc c f.d).spans (s.xi c f.xr + (128 * a.val : Nat)) 128 (s.xi c f.xc) 128)

/-- A chain (R92, R136): with its operands legal, the rows of its source stream through the enabled stages. -/
def holdsChainsRun : Prop :=
  ∀ (c : CoreId) (h : Hdr) (f : ChainF) (s : State), s.issues c h clsChain false = true →
    let u := s.countIssued c
    f.regOnly = false → passes (f.operandStops ++ u.chainStops c f) = true →
    ∀ mk ∈ [Instr.chainDrain, .chainTensor, .chainRegister], runsAs (mk c h f) c s fun s => s.chainRun c f

/-- A register-only chain (R120 to R123): with function code `code`, the profile bit of the instruction kept. -/
def regOnlyAs (mk : CoreId → Hdr → ChainF → Instr) (code : BitVec 6) : Prop :=
  ∀ (c : CoreId) (h : Hdr) (f : ChainF) (s : State), s.issues c h clsChain false = true →
    let g := { f with fn := true, fnCode := (f.fnCode &&& 0x20#6) ||| code }
    g.regOnly = true →
    passes (g.operandStops ++ (s.countIssued c).chainCtlStops c g) = true →
    runsAs (mk c h f) c s fun s => s.regRun c g

/-- SMAX_END and the four NSTAT codes (Table 6-1). -/
def holdsRegisterChains : Prop :=
  regOnlyAs .smaxEnd 0x18#6 ∧ regOnlyAs .nstatFast 0x19#6 ∧ regOnlyAs .nstatMean 0x1C#6 ∧ regOnlyAs .nstatStable 0x1A#6
  ∧ regOnlyAs .nstatRms 0x1B#6

/-- VECTOR CVT (R89): its formats legal, the packed conversion runs. -/
def holdsPackedConversion : Prop :=
  ∀ (c : CoreId) (h : Hdr) (f : VecF) (s : State), s.issues c h clsVector false = true →
    passes (cvtStops (s.wordOf c) f) = true → runsAs (.vectorCvt c h f) c s fun s => s.cvtRun c f

/-- The state in which a move has the bytes of its pipe in hand. -/
def State.moveFrom (s : State) (c : CoreId) (f : MoveF) : State :=
  if (s.desc c f.ds).loc = 3 then s.pipeTake c (s.desc c f.ds).pipe (s.pipeNeed c f) else s

/-- A tensor move of one operation (R137, R227), issued and with its checks passed: with all the bytes of its pipe in hand it runs and the
next word follows; without, it takes those it finds, waits for the rest under the registers it read, and the next word follows too
(R142, R257). -/
def movesAs (mk : CoreId → Hdr → MoveF → Instr) (stops : State → CoreId → MoveF → List (Option Stop))
    (may : State → CoreId → Prop) : Prop :=
  ∀ (c : CoreId) (h : Hdr) (f : MoveF) (s : State), s.issues c h clsMove false = true → may s c →
    passes (stops (s.countIssued c) c f) = true →
    (s.headShort c f = false → runsAs (mk c h f) c s fun s => (s.moveFrom c f).moveRun c f)
    ∧ (s.headShort c f = true → runsAs (mk c h f) c s (fun s => s.moveWaits c f)
      ∧ ∃ t, exec (mk c h f) s = .next t ∧ t.cores[c].pc = s.cores[c].pc + 1
        ∧ t.cores[c].moving = some ⟨f, s.cores[c].x, s.cores[c].d, s.cores[c].pc⟩
        ∧ t.cores[c].x = s.cores[c].x ∧ t.cores[c].v = s.cores[c].v ∧ t.cores[c].buf = s.cores[c].buf
        ∧ (∀ d, d ≠ c → t.cores[d] = s.cores[d]) ∧ t.hbm = s.hbm ∧ t.dieBuf = s.dieBuf ∧ t.hubBuf = s.hubBuf
        ∧ ∀ q, q ≠ (s.desc c f.ds).pipe → t.pipes[q] = s.pipes[q])

/-- VTENSOR and VSPLIT complete under a GOOD verdict (R227, R228): the move runs, the split runs, and the next word follows. -/
def holdsGoodStores : Prop :=
  movesAs .vtensor (fun s c f => s.moveStops c 8 f ++ [s.verdictStop c f]) (fun s c => s.verdicts[s.vatOf c].bad = false)
  ∧ ∀ (c : CoreId) (h : Hdr) (f : MoveF) (s : State), s.issues c h clsMove false = true → s.verdicts[s.vatOf c].bad = false →
    passes ((s.countIssued c).splitStops c f) = true →
    exec (.vsplit c h f) s = .next (s.ends (((s.countIssued c).splitRun c f).advance c))

/-- Under a BAD verdict VTENSOR and VSPLIT with their checks passed complete and write nothing but the marks of their checked
descriptors: no memory, no pipe and no register (R227, R228). -/
def holdsBadStores : Prop :=
  ∀ (c : CoreId) (h : Hdr) (f : MoveF) (s : State), s.issues c h clsMove false = true → s.verdicts[s.vatOf c].bad = true →
    let u := s.countIssued c
    let k := s.cores[c]
    let ds := BitVec.twoPow 64 f.ds.val ||| BitVec.twoPow 64 f.dd.val
    (passes (u.moveStops c 8 f ++ [u.verdictStop c f]) = true →
      ∃ t, exec (.vtensor c h f) s = .next t
        ∧ (s.updCore c fun _ => { k with checked := k.checked ||| ds, pc := k.pc + 1 }).Counted c t)
    ∧ (passes (u.splitStops c f) = true →
      ∃ t, exec (.vsplit c h f) s = .next t
        ∧ (s.updCore c fun _ => { k with checked := k.checked ||| ds ||| BitVec.twoPow 64 f.reg.val, pc := k.pc + 1 }).Counted c t)

/-- A conditional store, VTENSOR or VSPLIT, whose sequence is not the vat's last sealed verdict's stops with EV-0x0C03, the word, the
sequence it names and the one sealed, whatever the verdict (R227, R228). -/
def holdsVerdictMismatch : Prop :=
  ∀ (c : CoreId) (h : Hdr) (f : MoveF) (s : State), s.issues c h clsMove false = true →
    let u := s.countIssued c
    let stop := s.ends (u.stopProgram c 0x0C03
      [(s.cores[c].pc, 2), (f.w5.toNat, 4), ((s.verdicts[s.vatOf c].seq).toNat, 4)])
    f.w5 ≠ s.verdicts[s.vatOf c].seq →
    (passes (u.moveStops c 8 f) = true → exec (.vtensor c h f) s = .next stop)
    ∧ (passes (u.splitStops c f).dropLast = true → exec (.vsplit c h f) s = .next stop)

/-- The address of a single-register form: the descriptor's base, Xsr and the offset (R137). -/
def formAddr (s : State) (c : CoreId) (d : DReg) (f : MoveF) : Int :=
  ((Desc.ofBits s.cores[c].d[d]).base : Int) + (s.cores[c].x[f.xsr]).toInt + (f.w5.toNat : Int)

/-- Whether no word that a range of a memory touches is marked. -/
def cleanAt (m : Mem) (a n : Nat) : Prop := ∀ p ∈ m.marks, ¬(a < 16 * p.1 + 16 ∧ 16 * p.1 < a + n)

/-- What a store of `bs` at `a` in a core's buffer leaves: those bytes where the words were clean, every other byte of the buffer
and every other memory as before, and the core's registers. -/
def storesAt (c : CoreId) (s t : State) (a : Nat) (bs : List Byte) : Prop :=
  t.cores[c].pc = s.cores[c].pc + 1
  ∧ (∀ b, b < a ∨ a + bs.length ≤ b → (t.cores[c].buf.read b).1 = (s.cores[c].buf.read b).1)
  ∧ (s.cores[c].buf.wf = true → cleanAt s.cores[c].buf a bs.length →
      ∀ i, i < bs.length → (t.cores[c].buf.read (a + i)).1 = bs.getD i 0#8)
  ∧ t.hbm = s.hbm ∧ t.dieBuf = s.dieBuf ∧ t.hubBuf = s.hubBuf ∧ (∀ d, d ≠ c → t.cores[d] = s.cores[d])
  ∧ t.cores[c].x = s.cores[c].x ∧ t.cores[c].v = s.cores[c].v ∧ t.cores[c].m = s.cores[c].m ∧ t.cores[c].d = s.cores[c].d

/-- CENSUS (R216 to R219): ATTACH, DETACH and CLEAR change their core alone; ATTACH to slot 15 stops with EV-0x0700. -/
def holdsCensusSlots : Prop :=
  ∀ (c : CoreId) (h : Hdr) (f : CenF) (s : State), s.issues c h clsCensus false = true →
    let k := s.cores[c]
    (f.slot ≠ 15 → onCore (.attach c h f) c s { k with attach := k.attach.set f.d (some f.slot), pc := k.pc + 1 })
    ∧ (f.slot = 15 → exec (.attach c h f) s = .next (s.ends ((s.countIssued c).stopProgram c 0x0700
        [(k.pc, 2), (13, 1), (0, 1), (60, 2)])))
    ∧ onCore (.detach c h f) c s { k with attach := k.attach.set f.d none, pc := k.pc + 1 }
    ∧ onCore (.censusClear c h f) c s
        { k with census := k.census.set f.slot ⟨Vector.replicate 9 0#64, 0#32, 0#32⟩, pc := k.pc + 1 }

/-- SCAN, STORE and SEAL with their checks passed (R218, R219, R223); SCAN and STORE wait while what they touch of the core buffer
overlaps what an outstanding MOVE has still to write (R143). -/
def holdsCensusRecords : Prop :=
  ∀ (c : CoreId) (h : Hdr) (f : CenF) (s : State), s.issues c h clsCensus false = true →
    let u := s.countIssued c
    let d := s.desc c f.d
    let v := s.vatOf c
    (s.bufferWaits c (s.scanSpans c f) = true → heldBack (.censusScan c h f) c s)
    ∧ (d.loc = 2 → s.bufferWaits c [(s.storeAddr c f, 128)] = true → heldBack (.censusStore c h f) c s)
    ∧ (d.loc = 3 → s.tailWaits c h d.pipe = true → heldBack (.censusStore c h f) c s)
    ∧ (s.bufferWaits c (s.scanSpans c f) = false → passes [u.descStop c clsCensus 2 f.d [0, 1, 2], int2Stop (s.wordOf c) clsCensus d] = true →
      runsAs (.censusScan c h f) c s fun s =>
        let p := (s.markChecked c f.d).reader c d (s.xi c f.xr) f.rows 0 d.n0
        let row (i : Nat) : Int := s.xi c f.xr + (i : Int)
        let cell (i j : Nat) : Item := memItem (p.1.peek c d.loc p.2) d (row i) (j : Int)
        p.1.addCensus c (s.slotOf c f.d)
          (((List.range f.rows).filter fun i => decide (0 ≤ row i ∧ row i < (d.rows : Int))).foldl (fun n i =>
            (List.range d.n0).foldl (fun n j => n.add (cenCounts ((cell i j).value d) (cell i j).poison)) n) Counts.none))
    ∧ ((d.loc = 3 → s.tailWaits c h d.pipe = false) → (d.loc = 2 → s.bufferWaits c [(s.storeAddr c f, 128)] = false) →
        passes (u.censusStops c f) = true →
        let z := s.cores[c].census[f.slot]
        runsAs (.censusStore c h f) c s fun s =>
          let m := s.markChecked c f.d
          let bs := z.record (s.lq c) f.slot
          let t := if d.loc = 3 then m.pipeWrite c d.pipe (bs.map fun b => (b, false))
            else m.storeCells c d.loc (cellsAt (d.base + (s.xr c f.xr).toNat % 2 ^ 32) bs) []
          if f.slot.val < 8 then t.updCore c fun k => { k with folds := k.folds ++ [z] } else t)
    ∧ (u.inRegions v.val (u.verdictAddr v) 32 = true → runsAs (.seal c h f) c s fun s => s.sealVerdict v)

/-- SIGNAL (R261, R264): to a rennet of the package, refused or not, and to a peer with room, each after every earlier write where F
is set. A local signal that fits adds its tokens and nothing else; one that does not is kept for its retries. WAIT (R262) joins the
queue of its rennet with its threshold. FENCE (R144) leaves no write unordered. Where the synchronisation unit is not free to start it, a SYNC
that issues joins the unit's queue and the next word follows (R142, Table 7-17). -/
def holdsSyncRuns : Prop :=
  ∀ (c : CoreId) (h : Hdr) (f : SyncF) (s : State), s.issues c h clsSync false = true →
    let u := s.countIssued c
    let n := f.rennet.toNat
    let k := s.cores[c]
    let legal := f.count ≠ 0#32 ∧ s.rennetIn (s.vatOf c) n = true ∧ f.count.toNat ≤ (s.rennet n).max ∧ (s.rennet n).max ≠ 0
    let far := (f.target = 1#2 ∨ f.target = 2#2) ∧ f.count ≠ 0#32
    let after : State := if f.f then u.fenceCore c else u
    let queued (op : Fin 3) (i : Instr) : Prop := onCore i c s { k with syncQ := k.syncQ ++ [⟨op, f, k.pc⟩], pc := k.pc + 1 }
    (s.syncIdle c = true → (f.f = true → s.writing c = false) →
      (f.target = 0#2 → legal →
        exec (.signalRennet c h f) s = .next (s.ends ((after.signalLocal (.core c) (corePath c) n f.count.toNat).advance c)))
      ∧ (f.target = 0#2 → legal → f.f = false → s.rennetAway n = false → (s.rennet n).count + f.count.toNat ≤ (s.rennet n).max →
        ∃ t, exec (.signalRennet c h f) s = .next t ∧ (t.rennet n).count = (s.rennet n).count + f.count.toNat
          ∧ (t.rennet n).max = (s.rennet n).max ∧ (∀ m, m ≠ n → t.rennet m = s.rennet m)
          ∧ t.cores[c] = { k with pc := k.pc + 1 } ∧ (∀ d, d ≠ c → t.cores[d] = s.cores[d])
          ∧ t.hbm = s.hbm ∧ t.retries = s.retries)
      ∧ (f.target = 0#2 → legal → f.f = false → s.rennetAway n = true →
        ∃ t, exec (.signalRennet c h f) s = .next t ∧ t.rennet n = s.rennet n ∧ t.retries = s.retries ++ [⟨n, f.count.toNat, .core c, false⟩])
      ∧ (f.target = 0#2 → legal → f.f = false → s.rennetAway n = false → (s.rennet n).max < (s.rennet n).count + f.count.toNat →
        ∃ t, exec (.signalRennet c h f) s = .next t ∧ t.rennet n = s.rennet n ∧ t.retries = s.retries ++ [⟨n, f.count.toNat, .core c, true⟩])
      ∧ (far → s.peerRoom (syncPeer f) (s.vatOf c) = true →
        exec (.signalRennet c h f) s = .next (s.ends ((after.signalRemote (syncPeer f) (after.vatOf c) n f.count.toNat).advance c))))
    ∧ (s.syncIdle c = true → f.target ≠ 3#2 → legal →
      exec (.waitRennet c h f) s = .next (s.ends ((u.advance c).startWait c f k.pc))
      ∧ (f.p = false → ∃ t, exec (.waitRennet c h f) s = .next t ∧ t.waitQ = s.waitQ ++ [(n, c)]
        ∧ t.cores[c] = { k with pc := k.pc + 1, wait := some ⟨n, f.count.toNat, f.f, false, k.pc⟩ }))
    ∧ (s.syncIdle c = true → s.writing c = false →
      ∃ t, exec (.fence c h f) s = .next t ∧ t.cores[c] = { k with unfenced := [], folds := [], pc := k.pc + 1 })
    ∧ (((f.target = 0#2 ∧ legal) ∨ far) → (k.syncQ ≠ [] ∨ s.syncStarts c 0 f = false) → queued 0 (.signalRennet c h f))
    ∧ (f.target ≠ 3#2 → legal → (k.syncQ ≠ [] ∨ s.syncStarts c 1 f = false) → queued 1 (.waitRennet c h f))
    ∧ ((k.syncQ ≠ [] ∨ s.syncStarts c 2 f = false) → queued 2 (.fence c h f))

/-- A SIGNAL or WAIT of a reserved target or of no token stops with EV-0x0700, and one that its rennet cannot take with EV-0x0E03 and
the reason, 2 before 1 before 3 (R134, R261). -/
def holdsSyncStops : Prop :=
  ∀ (c : CoreId) (h : Hdr) (f : SyncF) (s : State), s.issues c h clsSync false = true →
    let u := s.countIssued c
    let n := f.rennet.toNat
    let stop (code : Nat) (detail : List (Nat × Nat)) (i : Instr) : Prop := exec i s = .next (s.ends (u.stopProgram c code detail))
    (f.target = 3#2 → stop 0x0700 [(s.cores[c].pc, 2), (9, 1), (0, 1), (45, 2)] (.signalRennet c h f)
      ∧ stop 0x0700 [(s.cores[c].pc, 2), (9, 1), (1, 1), (45, 2)] (.waitRennet c h f))
    ∧ (f.target ≠ 3#2 → f.count = 0#32 → stop 0x0700 [(s.cores[c].pc, 2), (9, 1), (0, 1), (64, 2)] (.signalRennet c h f)
      ∧ stop 0x0700 [(s.cores[c].pc, 2), (9, 1), (1, 1), (64, 2)] (.waitRennet c h f))
    ∧ ∀ why, why = (if s.rennetIn (s.vatOf c) n = false then 2 else if (s.rennet n).max = 0 then 1
        else if (s.rennet n).max < f.count.toNat then 3 else 0) → why ≠ 0 → f.target ≠ 3#2 → f.count ≠ 0#32 →
      (f.target = 0#2 → stop 0x0E03 [(s.cores[c].pc, 2), (n, 2), (why, 1)] (.signalRennet c h f))
      ∧ stop 0x0E03 [(s.cores[c].pc, 2), (n, 2), (why, 1)] (.waitRennet c h f)

/-- SIGNAL_RETRY (R261): accepted as soon as the rennet has room, unchanged while the rennet's die is away (Table 22-7, R275), and where it
is full it stays, its refusal reported the first time. WAIT_SATISFIED (R262): the head waiter consumes its threshold and leaves the queue. -/
def holdsRennetService : Prop :=
  (∀ (c : CoreId) (s : State) (r : Retry), s.power.clocks = true → s.retries.find? (fun x => x.src == .core c) = some r →
    (s.rennetAway r.rennet = true → exec (.signalRetry c) s = .next s)
    ∧ (s.rennetAway r.rennet = false → r.count + (s.rennet r.rennet).count ≤ (s.rennet r.rennet).max →
      exec (.signalRetry c) s = .next (({ s with retries := s.retries.erase r } : State).addTokens r.rennet r.count))
    ∧ (s.rennetAway r.rennet = false → (s.rennet r.rennet).max < r.count + (s.rennet r.rennet).count →
      (r.told = true → exec (.signalRetry c) s = .next s)
      ∧ (r.told = false → exec (.signalRetry c) s = .next (s.ends
          (({ s with retries := s.retries.map fun q => if q = r then { q with told := true } else q } : State).signalRefused
            (corePath c) r.rennet)))))
  ∧ ∀ (n : Fin 65536) (c : CoreId) (w : CoreWait) (s : State), s.power.clocks = true →
    s.waitQ = [(n.val, c)] → s.cores[c].wait = some w → w.rennet = n.val → (s.rennet n).max ≠ 0 →
    (w.count ≤ (s.rennet n).count → s.rennetAway n = false →
      ∃ t, exec (.waitSatisfied n) s = .next t ∧ t.waitQ = [] ∧ t.cores[c].wait = none
        ∧ (t.rennet n).count = (s.rennet n).count - w.count)
    ∧ (((s.rennet n).count < w.count ∨ s.rennetAway n = true) → exec (.waitSatisfied n) s = .next s)

/-- A property of every tile-program instruction of a core under a header, whatever its fields. -/
def everyTile (c : CoreId) (h : Hdr) (P : Instr → Prop) : Prop :=
    (∀ f, ∀ mk ∈ [Instr.sweep, .minPlus, .maxPlus, .l1Sweep, .squaredL2], P (mk c h f))
    ∧ (∀ f, ∀ mk ∈ [Instr.clearTile, .fillTile, .copyTile, .addTile, .subTile, .accopMax, .accopMin, .scaleTile, .scaleRow,
        .scaleCol, .addCol, .accopLoad], P (mk c h f))
    ∧ (∀ f, ∀ mk ∈ [Instr.chainDrain, .chainTensor, .chainRegister, .smaxEnd, .nstatFast, .nstatMean, .nstatStable, .nstatRms],
        P (mk c h f))
    ∧ (∀ f, ∀ mk ∈ [Instr.fadd, .fsub, .fmul, .ffma, .fmin, .fmax, .iadd, .isub, .imul, .selLanes, .bcast, .mov, .fcmp, .maskop,
        .vectorCvt, .sumLanes, .prodLanes, .vectorMax, .vectorMin, .countLanes, .meanLanes, .varLanes, .argmax, .argmin,
        .scanInclFadd, .scanInclFmax, .scanInclFmin, .scanInclIadd, .scanExclFadd, .scanExclFmax, .scanExclFmin, .scanExclIadd],
        P (mk c h f))
    ∧ (∀ f, ∀ mk ∈ [Instr.moveTensor, .ldv, .stv, .lddesc, .ldx, .stx, .zpack, .zunpack, .vtensor, .vsplit], P (mk c h f))
    ∧ (∀ f, P (.window c h f))
    ∧ (∀ f, ∀ mk ∈ [Instr.tableExpansion, .tableCustom], P (mk c h f))
    ∧ (∀ f, ∀ mk ∈ [Instr.signalRennet, .waitRennet, .fence], P (mk c h f))
    ∧ (∀ f, ∀ mk ∈ [Instr.randomRaw, .randomUniform, .randomNormal, .randomBernoulli], P (mk c h f))
    ∧ (∀ f, ∀ mk ∈ [Instr.nop, .endProgram, .br, .brc, .loopX, .xalu, .ximm, .dset, .spillarea, .xget], P (mk c h f))
    ∧ P (.preempt c h)
    ∧ (∀ f, ∀ mk ∈ [Instr.attach, .detach, .censusScan, .censusStore, .censusClear, .seal], P (mk c h f))

/-- A word of a reserved class or operation stops with EV-0x0700, the field at fault 27 or 21, and whatever instruction the core is at has
no effect of its own (R134, Table 7-2, Table 7-3). -/
def holdsReservedWords : Prop :=
  ∀ (c : CoreId) (h : Hdr) (s : State) (field : Nat), s.power.clocks = true → s.runs c = true → s.cores[c].held = [] →
    s.quiet c = true → s.cores[c].pc < s.cores[c].loaded → s.cores[c].progBad.contains s.cores[c].pc = false → h.pred = false →
    reservedField s.cores[c].word = some field →
    let w := s.cores[c].word.toNat
    let stop := s.ends ((s.countIssued c).stopProgram c 0x0700
      [(s.cores[c].pc, 2), (w / 2 ^ 27 % 32, 1), (w / 2 ^ 21 % 64, 1), (field, 2)])
    (field = 27 ↔ w / 2 ^ 27 % 32 = 0 ∨ 14 ≤ w / 2 ^ 27 % 32) ∧ (field = 27 ∨ field = 21)
    ∧ everyTile c h fun i => exec i s = .next stop

/-- The state with a write's bytes in their assembly buffers, a write across a frame boundary split there (R282, R327). -/
def State.written (s : State) (w : FrameWrite) : State := (s.frameBody w).frameStore (lastPart w)

/-- The command a frame write completes: the 512 assembled bytes of the frame it ends in (R282). -/
def State.cmdOf (s : State) (w : FrameWrite) : Cmd :=
  ⟨w.fn, w.vat, (lastPart w).frame,
    (List.range 512).map fun i => Sparse.get 0#8 ((s.written w).funcs[w.fn]).frames (frameKey (lastPart w) + i)⟩

/-- The state in which a command's frame is cleared (R282). -/
def State.cleared (s : State) (w : FrameWrite) : State := (s.written w).frameClear (lastPart w)

/-- The state in which a command is counted and its slot PENDING (R292). -/
def State.takenAt (s : State) (w : FrameWrite) : State :=
  ((s.cleared w).countVat w.vat 1).slotPending (s.cmdOf w).slot (s.cmdOf w).code

/-- A command comes whole: its TLP is accepted and its last part covers bytes 0 to 3 of a frame of its function's aperture (R282,
R327, R333). -/
def State.comes (s : State) (w : FrameWrite) : Bool := s.frameOk w && s.ideOk w.fn w.secure && frameCovers (lastPart w)

/-- What an aperture command of one row does (R284, R281): while the package takes none, or others wait, it waits (Table 22-7);
otherwise it is dropped with EV-0x0F02, refused with reason 7 in a stopped vat, refused with the reason of the first of `checks` that
holds, and else taken with the effect `post`. -/
def takesAs (mk : FrameWrite → Instr) (mine : Cmd → Bool) (checks : State → Cmd → List (Bool × Nat))
    (post : State → Cmd → State) : Prop :=
  ∀ (w : FrameWrite) (s : State), s.power.clocks = true → s.comes w = true → mine (s.cmdOf w) = true →
    let c := s.cmdOf w
    let t := s.takenAt w
    let z := s.cleared w
    ((s.takesNone = true ∨ s.host.waiting ≠ []) →
      exec (mk w) s = .next (s.ends { z with host := { z.host with waiting := z.host.waiting ++ [c] } }))
    ∧ (s.takesNone = false → s.host.waiting = [] →
      ((s.slotIn c.vat c.slot = false ∨ (s.rslot c.slot).state ≠ 0) →
        exec (mk w) s = .next (s.ends ((z.raiseVat c.vat 0x0F02 0x5000
          [(c.vat.val, 1), (c.frame, 2), (c.code, 1), (c.slot, 2)]).countVat c.vat 3)))
      ∧ (s.slotIn c.vat c.slot = true → (s.rslot c.slot).state = 0 →
          (t.vatRunning c.vat = false → whileStopped c.code = false →
            exec (mk w) s = .next (s.ends (t.refuseCmd c ⟨7, none⟩)))
          ∧ ((t.vatRunning c.vat || whileStopped c.code) = true →
            (∀ b, ((checks t c).find? fun p => p.1) = some b → exec (mk w) s = .next (s.ends (t.refuseCmd c ⟨b.2, none⟩)))
            ∧ (((checks t c).all fun p => !p.1) = true → exec (mk w) s = .next (s.ends (post t c))))))

/-- LAUNCH of each kind (R286): refused in the order of the rule's list, or waiting with its dispatch slot held. -/
def holdsLaunchCommands : Prop :=
  let waits (s : State) (c : Cmd) : State := { s with launches := s.launches ++ [s.newLaunch c] }
  takesAs .launchRun (fun c => c.code == 1 && (c.kind == 0 || c.kind == 3)) (fun s c => s.launchChecks c) waits
  ∧ takesAs .launchLoad (fun c => c.code == 1 && c.kind == 1) (fun s c => s.launchChecks c) waits
  ∧ takesAs .launchRestore (fun c => c.code == 1 && c.kind == 2) (fun s c => s.launchChecks c) waits

/-- PREEMPT, CANCEL and SEED (Table 15-2, R298, R301, R203). -/
def holdsLaunchControl : Prop :=
  let target (c : Cmd) : Nat := c.field 1 11 0
  let waiting (s : State) (c : Cmd) : Option Launch :=
    s.launches.find? fun l => l.slot == target c && l.vat == c.vat && !l.started
  let joining (s : State) (c : Cmd) : Option JoinRec := s.joins.find? fun j => j.slot == target c && j.vat == c.vat
  takesAs .preemptCommand (fun c => c.code == 2)
    (fun s c => [(!s.slotIn c.vat (target c), 2), ((s.launchAt (target c)).all fun l => !l.started || l.vat != c.vat, 6)])
    (fun s c => (s.updLaunch (target c) fun l => { l with preSlots := l.preSlots ++ [c.slot] }).requestPreempt (target c))
  ∧ takesAs .cancelCommand (fun c => c.code == 3)
    (fun s c => [(!s.slotIn c.vat (target c), 2), ((waiting s c).isNone && (joining s c).isNone, 6)])
    (fun s c => (match waiting s c, joining s c with
      | some l, _ => s.cancelLaunch l 0
      | none, some j => s.cancelJoin j 0
      | none, none => s).doneCmd c)
  ∧ takesAs .seedCommand (fun c => c.code == 4) (fun _ _ => [])
    (fun s c =>
      let pend := s.seeds[c.vat].pend ++ [⟨c.fn, c.slot, BitVec.ofNat 64 (c.pair 1)⟩]
      { s with seeds := s.seeds.set c.vat { s.seeds[c.vat] with pend := pend } })

/-- SWAPAREA and RENNET (Table 15-2, R260): DONE at once with their entries written. -/
def holdsAreaAndRennetCommands : Prop :=
  let number (c : Cmd) : Nat := c.field 1 15 0
  let record (c : Cmd) : Rennet :=
    if c.word 2 = 0 then { Rennet.reset with vat := c.vat, remote := (c.word 3).testBit 0 }
    else ⟨0, c.word 2, c.vat, (c.word 3).testBit 0⟩
  takesAs .swapAreaCommand (fun c => c.code == 9)
    (fun s c => [(s.seqs.toList.any fun q => q.vat == c.vat && (q.state == 2 || q.state == 3 || q.state == 4), 6)])
    (fun s c => ((s.setVol (ek 0xD806 (c.vat.val + 1)) (c.pair 1)).setVol (ek 0xD807 (c.vat.val + 1)) (c.word 3)).doneCmd c)
  ∧ takesAs .rennetCommand (fun c => c.code == 11)
    (fun s c => [(!s.rennetIn c.vat (number c), 2),
      ((s.rennet (number c)).count != 0 || s.waitQ.any (fun q => q.1 == number c) || s.retries.any (fun q => q.rennet == number c)
        || s.peers.any (fun p => p.early.any fun g => g.2.rennet.val == number c), 16)])
    (fun s c => (((s.setRennet (number c) (record c)).poolChange 2 (s.rennet (number c)).max (record c).max).auditCmd c.vat
      (0x2200 + number c / 128) (number c % 128 + 1) (s.rennet (number c)).words (record c).words).doneCmd c)

/-- LAYOUT (R169, Table 15-2): a legal layout no sequence uses is written; otherwise reason 16 with EV-0x0908 standing. -/
def holdsLayoutCommand : Prop :=
  ∀ (w : FrameWrite) (s : State), s.power.clocks = true → s.comes w = true → (s.cmdOf w).code = 8 → s.takesNone = false →
    s.host.waiting = [] →
    let c := s.cmdOf w
    let t := s.takenAt w
    let n := c.field 1 3 0
    s.slotIn c.vat c.slot = true → (s.rslot c.slot).state = 0 →
    let bad := (PageLayout.ofNat (c.pair 2)).bad || t.seqs.toList.any fun q => q.state != 0 && q.vat == c.vat && q.layout == n
    (bad = false → exec (.layoutCommand w) s = .next (s.ends
      (({ t with layouts := Sparse.set 0 t.layouts (c.vat.val * 16 + n) (c.pair 2) } : State).doneCmd c)))
    ∧ (bad = true → ∃ r, exec (.layoutCommand w) s = .next (s.ends (t.refuseCmd c ⟨16, some (0x0908, 0x5000, [(n, 2), (r, 1)])⟩)))

/-- PIPE (R253, R254, R259): opened, configured, or closing with its command's slot kept until it is unconfigured. -/
def holdsPipeCommands : Prop :=
  let op (c : Cmd) : Nat := c.field 1 11 10
  takesAs .pipeOpen (fun c => c.code == 10 && (op c == 0 || op c == 3))
    (fun s c => (op c == 3, 1) :: s.pipeChecks c c.newPipe (s.pipes[c.pipe].state != 0))
    (fun s c => (s.pipeSet c.vat c.pipe c.newPipe).doneCmd c)
  ∧ takesAs .pipeClose (fun c => c.code == 10 && op c == 1)
    (fun s c => [(s.pipes[c.pipe].state != 0 && s.pipes[c.pipe].vat != c.vat, 2),
      (s.pipes[c.pipe].state == 0 || s.pipes[c.pipe].state == 2 || s.pipes[c.pipe].slotDone.isSome, 6)])
    (fun s c => s.pipeSet c.vat c.pipe { s.pipes[c.pipe] with
      state := if s.pipes[c.pipe].state = 1 then 2 else s.pipes[c.pipe].state, slotDone := some (c.fn, c.slot) })
  ∧ takesAs .pipeConfigure (fun c => c.code == 10 && op c == 2)
    (fun s c =>
      let p := s.pipes[c.pipe]
      let q := c.newPipe
      s.pipeChecks c q (p.state != 1 || (!(p.empty && !s.pipeRead c.pipe)
        && !(p.k == q.k && p.wheyBase == q.wheyBase && p.whey == q.whey && p.prodHub == q.prodHub && p.prod == q.prod
          && p.consHub == q.consHub && p.cons == q.cons))))
    (fun s c =>
      let q := c.newPipe
      (s.pipeSet c.vat c.pipe { s.pipes[c.pipe] with
        k := q.k, short := q.short, threshold := q.threshold, prodHub := q.prodHub, prod := q.prod, consHub := q.consHub
        cons := q.cons, wheyBase := q.wheyBase, whey := q.whey, notice := q.notice, noticeOn := q.noticeOn
        head := if s.pipes[c.pipe].noticeOn then s.pipes[c.pipe].head
          else s.pipes[c.pipe].head.map fun k => { k with noticed := true } }).doneCmd c)

/-- A frame write that completes no other row's command (R282, R333): without bytes 0 to 3 its bytes accumulate and nothing else
changes; outside a required IDE stream it is discarded; with a reserved code the command is refused with reason 1, or 7 in a stopped
vat, and a UNITOP with a reserved operation is a request of its unit (Table 15-2, R26). -/
def holdsFrameWrites : Prop :=
  (∀ (w : FrameWrite) (s : State), s.power.clocks = true → s.frameOk w = true → s.ideOk w.fn w.secure = true →
    frameCovers (lastPart w) = false →
    ∃ t, exec (.commandFrameWrite w) s = .next t
      ∧ t = { s with funcs := t.funcs }
      ∧ (∀ g, g ≠ w.fn → t.funcs[g] = s.funcs[g])
      ∧ t.funcs[w.fn] = { s.funcs[w.fn] with frames := (t.funcs[w.fn]).frames }
      ∧ (∀ k, k < frameKey w + w.off ∨ frameKey w + w.off + w.data.length ≤ k →
          Sparse.get 0#8 (t.funcs[w.fn]).frames k = Sparse.get 0#8 (s.funcs[w.fn]).frames k)
      ∧ (Sparse.wf 0#8 (s.funcs[w.fn]).frames = true → ∀ i, i < w.data.length →
          Sparse.get 0#8 (t.funcs[w.fn]).frames (frameKey w + w.off + i) = w.data.getD i 0#8))
  ∧ (∀ (w : FrameWrite) (s : State), s.power.clocks = true → s.frameOk w = true → s.ideOk w.fn w.secure = false →
    exec (.commandFrameWrite w) s = .next (s.ends (s.discardTlp w.fn 2)))
  ∧ ∀ (w : FrameWrite) (s : State), s.power.clocks = true → s.comes w = true → s.takesNone = false → s.host.waiting = [] →
    let c := s.cmdOf w
    let t := s.takenAt w
    s.slotIn c.vat c.slot = true → (s.rslot c.slot).state = 0 →
    ((c.code = 0 ∨ 12 < c.code) → exec (.commandFrameWrite w) s = .next (s.ends (t.refuseCmd c ⟨if t.vatRunning c.vat then 1 else 7, none⟩)))
    ∧ ∀ u, c.code = 12 → (c.field 1 23 16 = 0 ∨ 6 < c.field 1 23 16) → c.fn = 0 → unitOfPath (c.field 1 15 0) = some u →
      t.foreign c.vat u = false →
      exec (.commandFrameWrite w) s = .next (s.ends (t.submitReq ⟨u, BitVec.ofNat 8 (c.field 1 23 16), c.pair 2,
        BitVec.ofNat 16 (c.field 4 15 0), .driver, 0#16, List.replicate 8 0#8, 4, some ⟨c.fn, c.slot, c.vat, c.frame⟩⟩))

/-- A command word whose slot is RELEASED and in its vat becomes PENDING with its generation kept and W2 to W15 zero (R292). -/
def holdsSlotPending : Prop :=
  ∀ (s : State) (r code : Nat), code < 256 →
    let t := s.slotPending r code
    (t.rslot r).state = 1 ∧ (t.rslot r).w[0] = (s.rslot r).w[0] ∧ (t.rslot r).w[1] = BitVec.ofNat 32 (2 ^ 28 + code * 2 ^ 20)
    ∧ (∀ i : Fin 16, 2 ≤ i.val → (t.rslot r).w[i] = 0#32) ∧ (∀ q, q ≠ r → t.rslot q = s.rslot q) ∧ t = { s with results := t.results }

/-- A command whose whole effect, with the clocks running, is to leave `t`. -/
def leaves (i : Instr) (s t : State) : Prop := s.power.clocks = true → exec i s = .next (s.ends t)

/-- A launch that may start waits for its rennets and starts when they cover what it takes; one that may not is unchanged
(R262, R287). Of launches eligible together those of earlier records start before it (R13). -/
def holdsLaunchEligibility : Prop :=
  ∀ (slot : Fin 4096) (s : State) (l : Launch), s.launchAt slot = some l →
    (s.mayStart l = false → leaves (.launchEligible slot) s s)
    ∧ (s.mayStart l = true → (s.serveFor l).preHold l = false → leaves (.launchEligible slot) s s)
    ∧ (s.mayStart l = true → (s.serveFor l).preHold l = true →
        let earlier := s.launches.takeWhile fun k => k.slot != l.slot
        ((∀ k ∈ earlier, s.eligible k = false) → leaves (.launchEligible slot) s ((s.serveFor l).startLaunch l))
        ∧ ∀ k, earlier = [k] → s.eligible k = true →
            leaves (.launchEligible slot) s (((s.serveFor k).startLaunch k).tryStart l))

/-- The end of a LOAD's copy, a RESTORE's transfer and a save (R288, R299, R300): every core doing it ends or goes on, and the
launch is over when all its cores are. -/
def holdsTransfersComplete : Prop :=
  ∀ (slot : Fin 4096) (s : State) (l : Launch), s.launchAt slot = some l →
    (s.coresDoing l .loading ≠ [] →
      let r := s.agentRead l.vat l.image (32 * l.count) 2
      leaves (.loadCopyComplete slot) s (State.finishIfOver ((s.coresDoing l .loading).foldl (fun s c =>
        (if l.transferEnd c = .ended then s.loadWords l r.1 c else s).partOver c (l.transferEnd c) id) r.2) slot))
    ∧ (s.coresDoing l .restoring ≠ [] →
      let t := (s.coresDoing l .restoring).foldl (fun s c => s.restoreCore l c) s
      leaves (.restoreLoadComplete slot) s
        ((if (t.launchAt slot).any fun l => l.reason != 0 then t.stopOthers slot else t).finishIfOver slot))
    ∧ (s.coresDoing l .saving ≠ [] → (l.cores.all fun e => e.fin.past || e.fin == .saving) = true →
        (s.coresDoing l .saving).all s.quiet = true →
        leaves (.contextSaveComplete slot) s
          (((s.coresDoing l .saving).foldl (fun s c => s.savePart slot c) s).finishIfOver slot))

/-- A launch that passes its bound runs on with OVERRUN set, EV-0x0F00 with the core's path and 0x8500+v:05 raised once (R290). -/
def holdsOverrunOnce : Prop :=
  ∀ (c : CoreId) (s : State) (l : Launch), s.power.clocks = true → s.cores[c].launch.bind s.launchAt = some l →
    ∃ t, exec (.launchOverrun c) s = .next t ∧ t.cores = s.cores
      ∧ ((t.launchAt l.slot).any fun k => k.overrun) = true
      ∧ (l.overrun = true → t = { s with launches := t.launches })
      ∧ (l.overrun = false → ∃ u : State, t = s.ends (((u.raiseVat l.vat 0x0F00 (corePath c)
          [(l.vat.val, 1), (l.slot, 2), (l.bound, 6)]).countVat l.vat 5).vatCause l.vat 5 4) ∧ u = { s with launches := t.launches })

/-- A SEED command completes DONE when its key is ready: its seed is the vat's, the others keep their turns, and no
core and no byte of HBM3E changes (R203). -/
def holdsSeedReady : Prop :=
  ∀ (v : VatNo) (s : State) (r : SeedReq) (rest : List SeedReq), s.power.clocks = true → s.seeds[v].pend = r :: rest →
    ∃ t, exec (.seedKeyReady v) s = .next t ∧ t.seeds[v] = ⟨r.seed, rest, false⟩ ∧ (∀ w, w ≠ v → t.seeds[w] = s.seeds[w])
      ∧ (t.rslot r.slot).state = 2 ∧ (t.rslot r.slot).w[0] = (s.rslot r.slot).w[0] + 1 ∧ t.cores = s.cores ∧ t.hbm = s.hbm

/-- A unit operation asked for by a command (R26, R280, Table 15-2): refused with reason 10 outside the physical function, with reason 16
where the path names no unit, with reason 2 for a unit of another vat, each with an audit record (R390), and otherwise submitted as the
driver's request. -/
def unitopAs (mk : UnitSrc → Instr) (op : Nat) : Prop :=
  takesAs (fun w => mk (.frame w)) (fun c => c.code == 12 && c.field 1 23 16 == op)
    (fun _ _ => []) fun s c =>
    let refused (outcome reason : Nat) : State :=
      (s.auditRec { AuditEntry.plain 8 4 4 outcome with vat := c.vat.val, path := c.field 1 15 0 }).refuseCmd c ⟨reason, none⟩
    if c.fn ≠ 0 then refused 10 10
    else match unitOfPath (c.field 1 15 0) with
    | none => refused 2 16
    | some u => if s.foreign c.vat u then refused 2 2 else s.submitReq ⟨u, BitVec.ofNat 8 op, c.pair 2, BitVec.ofNat 16 (c.field 4 15 0), .driver, 0#16,
        List.replicate 8 0#8, 4, some ⟨c.fn, c.slot, c.vat, c.frame⟩⟩

/-- A transition of a unit in both views replaces its state and causes, raises its version by one, records the beat, counts in U+4:01
and raises EV-0x0200 (R23) unless sixteen of the beat went before (R411); no other unit changes. A transition made on one path, whose view
alone it changes until the beat (R31), is HoldArray's. -/
def holdsTransitionsCount : Prop :=
  ∀ (s : State) (u : UnitNo) (new : Fin 9) (causes : Byte),
    let t := s.transition u new causes
    t.units[u].mg = ⟨new, causes, (s.view u).version + 1⟩ ∧ t.units[u].dp = t.units[u].mg ∧ t.units[u].lastBeat = s.beat
    ∧ (∀ m, m ≠ u → t.units[m] = s.units[m])
    ∧ (s.volAt (ek (unitObj u 4) 1) + 1 < 2 ^ 48 - 1 → t.volAt (ek (unitObj u 4) 1) = s.volAt (ek (unitObj u 4) 1) + 1)
    ∧ (raisedCount s.evBeat (unitPath u, 0x0200) < 16 →
        (⟨s.beat, 0x0200, unitPath u % 65536, packDetail
          [((s.view u).state.val, 1), (new.val, 1), (((s.view u).version + 1).toNat, 2), (causes.toNat, 1)]⟩ : EventRec) ∈ t.raised)

/-- Draining, its limit, loading and re-evaluation of a unit (R23, R25, R29, R398); a unit that does not drain keeps its state. -/
def holdsUnitProgress : Prop :=
  ∀ (u : UnitNo) (s : State),
    (s.ust u = stDraining → s.atBoundary u = true →
      leaves (.unitDrainComplete u) s (s.drained u)
        ∧ let goal := (s.units[u].drainTo).getD stHeld
          (s.drained u).ust u = if goal = stHeld ∧ (s.view u).causes = 0#8 then stReady else goal)
    ∧ (s.ust u = stDraining → s.atBoundary u = false → leaves (.unitDrainComplete u) s s)
    ∧ (s.ust u ≠ stDraining → leaves (.unitDrainComplete u) s s ∧ ∀ n, leaves (.drainLimitPassed u n) s s)
    ∧ (∀ n, s.ust u = stDraining → s.cfgAt (ek (unitObj u 1) 7) ≤ n →
        leaves (.drainLimitPassed u n) s ((s.raise 0x0206 (unitPath u) [(n, 4)]).enterFaulted u 0x0206))
    ∧ (∀ n, n < s.cfgAt (ek (unitObj u 1) 7) → leaves (.drainLimitPassed u n) s s)
    ∧ (∀ r, s.ust u = stLoading → leaves (.loadingComplete u r) s (s.endLoading u r))
    ∧ (∀ r, s.ust u ≠ stLoading → leaves (.loadingComplete u r) s s)
    ∧ leaves (.aggregateReevaluate u) s (s.reevaluate u)

/-- A load of a unit that is no array and no core ends READY with no cause exactly where its image and self-test pass and FAULTED
otherwise, its pending operation done either way (R398, R436). -/
def holdsLoadOutcome : Prop :=
  ∀ (u : UnitNo) (r : SelfTest) (s : State), s.power.clocks = true → s.ust u = stLoading → 260 ≤ u.val → s.units[u].doomed = false →
    ∃ t, exec (.loadingComplete u r) s = .next t
      ∧ ((r.passed && (r.imageOk || !s.units[u].streaming)) = true → t.ust u = stReady ∧ t.units[u].mg.causes = 0#8)
      ∧ ((r.passed && (r.imageOk || !s.units[u].streaming)) = false → t.ust u = stFaulted)
      ∧ t.units[u].opSlot = none ∧ t.units[u].streaming = false

/-- A core in whose instruction an array or its operands fail stops: EV-0x0400 raised, the array where the fault arose FAULTED (R85).
What the instruction was writing is poisoned: the tile of a sweep, whose performed steps count, or of an element-wise operation, and the
destinations of a drain; a spill the fault met leaves its frames poisoned (R86, R158). -/
def holdsOperandFaults : Prop :=
  ∀ (c : CoreId) (f : OperandFault) (s : State),
    (s.cores[c].run ≠ .running → leaves (.arrayOperandFault c f) s s)
    ∧ (s.cores[c].run = .running →
      let t := s.stopWork c f
      (f.origin = .weightPoison →
        leaves (.arrayOperandFault c f) s (t.poisonArrived c f.work.tile f.k 0xFF (enabled f.work.enable)))
      ∧ (∀ a row, f.origin = .activationPoison a row →
          leaves (.arrayOperandFault c f) s (t.poisonArrived c f.work.tile f.k row.toNat [a]))
      ∧ (∀ a row cause, f.origin = .array a row cause →
          let u := (t.countArray c a 2).raise 0x0400 (unitPath (arrayUnit c a))
            [(f.work.tile.val, 1), (f.k, 4), (row.toNat, 1), (cause.val, 1)]
          leaves (.arrayOperandFault c f) s
            (((u.enterFaulted (arrayUnit c a) 0x0400).aggregate (coreUnit c)).haltCore c 0x0400 (t.wordOf c))))
    ∧ (let b := s.bound c f.work.names
      let p := match f.spilling with
        | some v => b.poisonFrames c v
        | none => b
      (∀ kind g, f.work = .sweep kind g → s.stopWork c f = (p.countStopped c kind g f.k).poisonTile c g.tile)
      ∧ (∀ sources td e, f.work = .accop sources td e → s.stopWork c f = p.poisonTile c td)
      ∧ ∀ tile ds, f.work = .drain tile ds → s.stopWork c f = p.poisonDests c ds)

/-- A lane group's or the Culture unit's fault poisons every destination of the instruction not yet written, holds its core at once with
cause [2], a draining one too, and stops its program (R106, R214); one that drains for a tail-drop enters FAULTED (R419). A lane's group
is the one bound to it (R104), and a fault while the core loads is a self-test failure; a core that is absent has none. -/
def holdsLaneAndCultureFaults : Prop :=
  ∀ (c : CoreId) (g : Fin 9) (f : UnitFault) (s : State),
    let u := coreUnit c
    (s.ust u = stAbsent → leaves (.laneGroupFault c g f) s s ∧ leaves (.cultureFault c f) s s)
    ∧ (s.ust u = stLoading →
      ((s.retiredGroups u).getLsbD g.val = true → leaves (.laneGroupFault c g f) s s)
      ∧ ((s.retiredGroups u).getLsbD g.val = false → leaves (.laneGroupFault c g f) s
          (((s.setVol (ek (unitObj u 9) 5) g.val).raise 0x0501 (corePath c)
            [(g.val, 1), ((groupsNot (s.retiredGroups u)).length, 1)]).failLoad u 2))
      ∧ ∃ n, n < 64 ∧ leaves (.cultureFault c f) s
          (((({ s with freeIx := s.freeIx + 1 } : State).setVol (ek (unitObj u 12) 3) n).raise 0x0B01 (corePath c) [(n, 1)]).failLoad u 2))
    ∧ (s.ust u ≠ stAbsent → s.ust u ≠ stLoading →
      (boundGroup s.units[u].groups (s.volAt (ek (unitObj u 9) 3)) f.lane ≠ some g.val → leaves (.laneGroupFault c g f) s s)
      ∧ (boundGroup s.units[u].groups (s.volAt (ek (unitObj u 9) 3)) f.lane = some g.val → ∃ kind, leaves (.laneGroupFault c g f) s
        ((((({ s with freeIx := s.freeIx + 1 } : State).poisonDests c f.dests).setVol (ek (unitObj u 9) 5) g.val).raise
          0x0500 (corePath c) [(g.val, 1), (kind, 1), (f.lane, 1)]).holdFaulty c 0x0500))
      ∧ leaves (.cultureFault c f) s (((s.poisonDests c f.dests).raise 0x0B00 (corePath c)
          [(s.wordOf c, 2), (f.counter.toNat % 2 ^ 32, 4), (f.lane, 1)]).holdFaulty c 0x0B00))
    ∧ (∀ ev, s.cores[c].launch = none →
        let drops := s.ust u = stDraining ∧ s.units[u].drainTo = some stShed
        (¬drops → (s.ust u = stReady ∨ s.ust u = stRunning ∨ s.ust u = stDraining) →
          (s.holdFaulty c ev).ust u = stHeld ∧ ((s.holdFaulty c ev).view u).causes = (s.view u).causes ||| 4#8)
        ∧ (drops → (s.holdFaulty c ev).ust u = stFaulted))

/-- A die's or the hub's fault takes it to FAULTED under EV-0x1602, and the hub's takes the package with it (R414, R416); a word of a die
buffer has a hard fault only where it was last written whole. What EV-0x1602 gives for a router or the hub's logic is the model's choice:
log entry 102. -/
def holdsDieAndHubFaults : Prop :=
  (∀ (d : DieError) (s : State), s.power.clocks = true → s.ust (dieUnit ⟨d.die.val, by omega⟩) ≠ stAbsent →
    (d.buffer.all fun o => s.dieBuf[d.die].hard o) = true →
    ∃ t, exec (.dieFault d) s = .next t ∧ t.ust (dieUnit ⟨d.die.val, by omega⟩) = stFaulted)
  ∧ (∀ (d : DieError) (o : Nat) (s : State), d.buffer = some o →
    let u := dieUnit ⟨d.die.val, by omega⟩
    (s.dieBuf[d.die].hard o = true →
      leaves (.dieFault d) s ((s.raise 0x1602 (unitPath u) [(3, 1), (o, 5)]).enterFaulted u 0x1602))
    ∧ (s.dieBuf[d.die].hard o = false → leaves (.dieFault d) s s))
  ∧ (∀ (s : State), s.power.clocks = true → s.ust uHub ≠ stAbsent → s.ust uPackage ≠ stAbsent →
    ∃ t, exec .hubFault s = .next t ∧ t.ust uHub = stFaulted ∧ t.ust uPackage = stFaulted)

/-- An uncorrectable on-chip word of a unit: its counter, EV-0x1600 with the structure, and where the fault is hard, as `whole` says, the
unit FAULTED under EV-0x1602 (R414, Table 22-4). -/
def State.chipWord (s : State) (whole : Bool) (f : ChipError) (u : UnitNo) (obj sub structure_ word : Nat) : State :=
  let t := (s.countErr u obj sub).raise 0x1600 (unitPath u) [(structure_, 1), (f.offset, 5), (word, 2)]
  if whole then t.hardFault u structure_ f.offset else t

/-- The same of the hub die. -/
def State.hubWord (s : State) (whole : Bool) (f : ChipError) : State := s.chipWord whole f uHub 6 2 4 0xFFFF

/-- An uncorrectable error in an on-chip memory (R414, R235, Table 22-4): a word of a buffer poisoned, a program word not issued and its
program stopped, an image slot discarded, an audit or event record blanked, a pipe's bytes poisoned; told and counted, the owner
FAULTED where the fault is hard, which it is where the word was last written whole. Otherwise a buffer's error changes no other byte, no
core's registers and no unit's state. -/
def holdsBufferErrors : Prop :=
  ∀ (f : ChipError) (s : State),
    (∀ c, f.mem = .core c → leaves (.onchipUncorrectable f) s
      ((s.setMem (.core c) (s.cores[c].buf.poison [f.offset])).chipWord (s.cores[c].buf.hard f.offset) f (coreUnit c) 14 2 1 0xFFFF))
    ∧ (∀ c, f.mem = .program c → s.cores[c].progBad.contains (f.offset / 32) = false → leaves (.onchipUncorrectable f) s
      (let w := f.offset / 32
       let t := (((s.updCore c fun k => { k with progBad := k.progBad ++ [w] }).countErr (coreUnit c) 14 4).raise 0x1600 (corePath c)
         [(2, 1), (f.offset, 5), (w, 2)]).haltCore c 0x1600 w
       if w < s.cores[c].loaded then t.hardFault (coreUnit c) 2 f.offset else t))
    ∧ (∀ d, f.mem = .die d → leaves (.onchipUncorrectable f) s
      ((s.setMem (.die d) (s.dieBuf[d].poison [f.offset])).chipWord (s.dieBuf[d].hard f.offset) f (dieUnit ⟨d.val, by omega⟩) 6 2 3 0xFFFF))
    ∧ (f.mem = .hub → leaves (.onchipUncorrectable f) s
      (({ s with hubBuf := s.hubBuf.poison [f.offset] } : State).hubWord (s.hubBuf.hard f.offset) f))
    ∧ (∀ k, f.mem = .hubImage k → leaves (.onchipUncorrectable f) s ((s.setVol (ek 0xA050 (k.val + 1)) 4).hubWord f.hard f))
    ∧ (∀ k, f.mem = .hubAudit k → leaves (.onchipUncorrectable f) s ((s.blankAudit k.val).hubWord true f))
    ∧ (∀ k, f.mem = .hubEvent k → leaves (.onchipUncorrectable f) s ((s.blankEvent k.val).hubWord true f))
    ∧ (∀ n, f.mem = .pipeEnd n true → s.pipes[n].consHub = true →
        leaves (.onchipUncorrectable f) s ((s.poisonEnd n true f.offset).hubWord f.hard f))
    ∧ (∀ n (q : Fin 48), f.mem = .pipeEnd n false → s.pipes[n].prodHub = false → s.pipes[n].prod = q.val →
        leaves (.onchipUncorrectable f) s
          ((s.poisonEnd n false f.offset).chipWord f.hard f (dieUnit ⟨q.val / 12, by omega⟩) 6 2 3 0xFFFF))
    ∧ (s.power.clocks = true →
      (∀ c, f.mem = .core c → s.cores[c].buf.hard f.offset = false → ∃ t, exec (.onchipUncorrectable f) s = .next t
        ∧ t.cores[c].buf = s.cores[c].buf.poison [f.offset] ∧ (∀ d, d ≠ c → t.cores[d] = s.cores[d])
        ∧ t.cores[c].x = s.cores[c].x ∧ t.units = s.units ∧ t.hbm = s.hbm)
      ∧ (∀ d, f.mem = .die d → s.dieBuf[d].hard f.offset = false → ∃ t, exec (.onchipUncorrectable f) s = .next t
        ∧ t.dieBuf[d] = s.dieBuf[d].poison [f.offset] ∧ t.cores = s.cores ∧ t.units = s.units ∧ t.hbm = s.hbm)
      ∧ (f.mem = .hub → s.hubBuf.hard f.offset = false → ∃ t, exec (.onchipUncorrectable f) s = .next t
        ∧ t.hubBuf = s.hubBuf.poison [f.offset] ∧ t.cores = s.cores ∧ t.units = s.units ∧ t.hbm = s.hbm))

/-- The entry that counts corrected errors of a structure of a unit (Table 4-8, Table 5-6, Table 22-4). -/
def correctedKey (u : UnitNo) (place : CorrectedIn) : Option Nat :=
  if u.val < 208 then (if place = .lanes then some (ek (unitObj u 7) 1) else none)
  else if u.val < 260 then
    match place with
    | .lanes => some (ek (unitObj u 9) 6)
    | .buffer => some (ek (unitObj u 14) 1)
    | .program => some (ek (unitObj u 14) 3)
    | .links => none
  else if 276 ≤ u.val ∧ u.val < 281 then
    match place with
    | .buffer => some (ek (unitObj u 6) 1)
    | .links => some (ek (unitObj u 6) 3)
    | _ => none
  else none

/-- Uncorrectable flits on one on-die link are resent; a second failure delivers poison where the flit was bound; the seventeenth of a
beat holds the die with cause [2] under EV-0x1604 (R414). Corrected errors count in their structure's entry, and a rise above 0x2060:01
is told by EV-0x1601 once until a window's beats have passed (R81, R105, R415; log entry 129). -/
def holdsLinkAndThreshold : Prop :=
  (∀ (f : LinkError) (s : State), s.power.clocks = true →
    let k := f.die.val * 4 + f.link % 4
    (f.second = false → Sparse.get 0 s.linkBeat k ≠ 16 →
      ∃ t, exec (.linkFlitUncorrectable f) s = .next t ∧ Sparse.get 0 t.linkBeat k = Sparse.get 0 s.linkBeat k + 1
        ∧ t.units = s.units ∧ t.cores = s.cores ∧ t.hbm = s.hbm)
    ∧ (∀ c o, f.second = true → f.target = some (.core c, o) → Sparse.get 0 s.linkBeat k ≠ 16 →
      ∃ t, exec (.linkFlitUncorrectable f) s = .next t
        ∧ t.cores[c].buf = s.cores[c].buf.poison ((List.range 4).map fun i => o / 64 * 64 + 16 * i)
        ∧ (∀ d, d ≠ c → t.cores[d] = s.cores[d]) ∧ t.units = s.units ∧ t.hbm = s.hbm)
    ∧ (f.second = false → Sparse.get 0 s.linkBeat k = 16 → s.ust (dieUnit f.die) = stReady →
      ∃ t, exec (.linkFlitUncorrectable f) s = .next t ∧ t.ust (dieUnit f.die) = stHeld
        ∧ (t.view (dieUnit f.die)).causes = (s.view (dieUnit f.die)).causes ||| 4#8))
  ∧ (∀ (e : CorrectedErrors) (s : State),
    let v := s.countCorrected e.unit e.place e.count
    let n := v.correctedSum e.unit - v.windowStart e.unit
    ((n ≤ v.cfgAt (ek 0x2060 1) ∨ 0 < v.units[e.unit].corrTold) → leaves (.correctedErrorThreshold e) s v)
    ∧ (v.cfgAt (ek 0x2060 1) < n → v.units[e.unit].corrTold = 0 → leaves (.correctedErrorThreshold e) s
      ((v.raise 0x1601 (unitPath e.unit) [(n, 4), (v.cfgAt (ek 0x2060 2), 8)]).updUnit e.unit fun r => { r with
        corrTold := max 1 (v.cfgAt (ek 0x2060 2)), corrHold := v.cfgAt (ek 0x2060 3) == 1 })))
  ∧ ∀ (u : UnitNo) (place : CorrectedIn) (n : Nat) (s : State),
    (correctedKey u place = none → s.countCorrected u place n = s)
    ∧ ∀ k, correctedKey u place = some k → 0 < n → s.volAt k + n < 2 ^ 48 - 1 → s.countCorrected u place n = s.setVol k (s.volAt k + n)

/-- Page work (R181): while the hub die works it begins for the first due beat once no earlier launch runs, with leaves, inserts, joins and demands in
that order; it ends when no swap-out it waits for is outbound and its demands are met. A closing pipe with nothing in it becomes
unconfigured (R259). -/
def holdsPageWork : Prop :=
  (∀ (v : VatNo) (s : State) (n : Nat) (rest : List Nat), s.work[v].due = n :: rest → s.work[v].now = none →
    (s.earlierLaunch v n = true → leaves (.pageWork v) s s)
    ∧ (s.hubWorks = false → leaves (.pageWork v) s s ∧ leaves (.pageWorkEnd v) s s)
    ∧ (s.hubWorks = true → s.earlierLaunch v n = false → leaves (.pageWork v) s
        (((((s.updWork v fun w => { w with due := rest, now := some n, begun := n, demanded := false, demands := [], waitFor := [] }
          ).runLeaves v n).runInserts v n).runJoins v n).demandStep v)))
  ∧ (∀ (v : VatNo) (s : State) (n : Nat), s.work[v].now = some n → s.work[v].demanded = true → s.hubWorks = true →
    ((∀ b : Fin 64, b.val ∈ s.work[v].waitFor → s.seqs[b].state ≠ 2) →
      let u := State.runDemands v n (s.work[v].demands.filterMap fun i => if h : i < 64 then some ⟨i, h⟩ else none) 0 [] [] [] s
      (u.work[v].demands = [] → leaves (.pageWorkEnd v) s (u.endWork v n))
      ∧ (u.work[v].demands ≠ [] → leaves (.pageWorkEnd v) s u))
    ∧ ∀ b : Fin 64, b.val ∈ s.work[v].waitFor → s.seqs[b].state = 2 → leaves (.pageWorkEnd v) s s)
  ∧ ∀ (n : Fin 1024) (s : State), (s.pipeDone n = true → leaves (.pipeCloseComplete n) s ((s.stopWriter n).pipeGone n))
    ∧ (s.pipeDone n = false → leaves (.pipeCloseComplete n) s s)

/-- The end of a swap (R184 to R186): a swap-out's frames are free and its sequence swapped, a swap-in's sequence resident again,
a failed swap undone under EV-0x0907; a failure named for a slot that is not swapping only ends its reads. -/
def holdsSwaps : Prop :=
  ∀ (b : Fin 64) (s : State), s.power.clocks = true →
    let q := s.seqs[b]
    let e := s.readsEnd q.vat (s.inHostFrames q)
    (q.state = 2 → s.hostHeld q.vat = false → leaves (.swapOutComplete b) s ((s.swapReads b).swapOutDone b)
      ∧ ∃ t, exec (.swapOutComplete b) s = .next t ∧ t.seqs[b] = { q with state := 3, moving := [], priv := t.seqs[b].priv }
        ∧ (∀ d, d ≠ b → t.seqs[d] = s.seqs[d]) ∧ t.cores = s.cores)
    ∧ (∀ data : List Byte, q.state = 4 → s.hostHeld q.vat = false → data.length = 65536 * q.hostFrames.length →
        leaves (.swapInComplete b data) s (((s.swapReads b).swapInDone b data).endResume b true))
    ∧ (∀ status, q.state = 2 → leaves (.swapTransferFailed b status) s
        (((q.moving.foldl (fun s f => s.setFrame f { s.frame f with state := 1 })
          (e.raise 0x0907 0x5000 [(b.val, 1), (0, 1), (status, 1)])).setSeq b
            { q with state := 1, moving := [], hostFrames := [] }).park b 0))
    ∧ (∀ status, q.state = 4 → leaves (.swapTransferFailed b status) s
        (((q.moving.foldl (fun s f => s.setFrame f Frame.free)
          (e.raise 0x0907 0x5000 [(b.val, 1), (1, 1), (status, 1)])).setSeq b
            { q with state := 3, moving := [] }).endResume b false))
    ∧ (q.state ≠ 2 → q.state ≠ 4 → ∀ status, leaves (.swapTransferFailed b status) s e)

/-- Symbols on the bus (R306 to R308, R312, R316, R317): one that is not whole or not marked is discarded and counted; a member accepts
any other, a master only counts its own and yields to another's; the master sends at the next beat's lead, at once or stretched; a
member counts each period without one; and on the timing port, in the clock's domain, a Sync is kept and answered by a delay request, and a delay response gives the offset, which
beyond 1 µs is a holdover in modes 3 and 4 (R313, R339, R340). The forms of the messages and the servo are log entry 132's. -/
def holdsBusSymbols : Prop :=
  (∀ (sym : BitVec 192) (mark : Bool) (n : Nat) (s : State), s.croakRuns = true → s.croakMode ≠ 0 → s.croakMode ≠ 4 →
    symField sym 176 16 = 0xC3A5 →
    let good := symField sym 0 16 == (symbolCrc sym).toNat
    (good = false → leaves (.beatSymbolReceive sym mark n) s (s.discardSymbol 1))
    ∧ (good = true → mark = false → leaves (.beatSymbolReceive sym mark n) s (s.discardSymbol 2))
    ∧ (good = true → mark = true → s.isMaster = false → leaves (.beatSymbolReceive sym mark n) s (s.acceptSymbol sym n))
    ∧ (good = true → mark = true → s.isMaster = true →
      (∀ a, s.croak.symbol = some (sym, a) → leaves (.beatSymbolReceive sym mark n) s (s.countCroak 1 1))
      ∧ (s.croak.symbol = none →
        let u := (s.countCroak 1 1).raise 0x1002 0x300A [((s.countCroak 1 1).beat, 8), ((Symbol.of sym).beat, 8), (3, 1)]
        leaves (.beatSymbolReceive sym mark n) s
          ((u.updCroak fun k => { k with yields := true, symbol := none, waiting := none }).setVol (ek 0xB010 5) 2))))
  ∧ (∀ (p : BusSample) (s : State), s.isMaster = true → s.croakRuns = true → s.croak.yields = false → s.croak.symbol = none →
    s.croak.waiting = none →
    let b := s.nextBeat
    let rdy := p.rdy && s.ownReady
    let u := (s.setVol (ek 0xB010 4) (b2n rdy)).sampleHold p.holdN
    b.2.1 ≤ p.now + 3920 →
    (rdy = true → leaves (.beatSymbolSend p) s (u.sendSymbol b.1 b.2.1 b.2.2 false))
    ∧ (rdy = false → u.cfgAt (ek 0xB000 6) = 0 → leaves (.beatSymbolSend p) s ((u.countCroak 5 1).sendSymbol b.1 b.2.1 b.2.2 false))
    ∧ (rdy = false → u.cfgAt (ek 0xB000 6) ≠ 0 → leaves (.beatSymbolSend p) s (u.updCroak fun k => { k with waiting := some p.now })))
  ∧ (∀ (now w : Nat) (s : State), s.croak.waiting = some w → s.isMaster = true → s.croakRuns = true →
    (w ≤ now → s.ownReady = true → leaves (.croakRdyRelease now) s ((s.setVol (ek 0xB010 4) 1).sendStretched w now))
    ∧ (w + 1000 * s.cfgAt (ek 0xB000 7) ≤ now → leaves (.stretchLimitReached now) s (s.sendStretched w now)))
  ∧ (∀ (now : Nat) (s : State), s.power.clocks = true → s.croakMode = 1 → s.croakRuns = true → s.croak.begun = true →
    s.croak.stopSeen = false → s.croak.symbol = none →
    s.beatInstant + s.periodNs + max 10000 (s.periodNs / 64) + s.croak.missed * s.periodNs ≤ now →
    ∃ t, exec (.beatMissed now) s = .next t ∧ t.croak = { s.croak with
        missed := s.croak.missed + 1, discarded := false
        stopTold := s.croak.stopTold || decide (s.cfgAt (ek 0xB000 8) ≤ s.croak.missed + 1) }
      ∧ t.cores = s.cores ∧ t.units = s.units)
  ∧ ∀ (m : PtpMessage) (s : State), s.power.clocks = true → s.cfgAt (ek 0xC000 4) < 8 →
    s.volAt (ek (0xC008 + s.cfgAt (ek 0xC000 4)) 5) = 2 →
    let p : Fin 8 := Fin.ofNat 8 (s.cfgAt (ek 0xC000 4))
    (s.macsecOk p m.sa = false → leaves (.ptpMessage m) s (s.macsecDiscard p))
    ∧ (s.macsecOk p m.sa = true →
      (m.domain.toNat ≠ s.cfgAt (ek 0xC000 5) → leaves (.ptpMessage m) s s)
      ∧ (m.domain.toNat = s.cfgAt (ek 0xC000 5) →
        (∀ t1 t2, m.body = .sync t1 t2 → leaves (.ptpMessage m) s
          ((s.updCroak fun k => { k with servo := { k.servo with sync := some (t1, t2) } }).send
            ⟨.fabric, 2, [p.val, m.domain.toNat, s.txSa p], []⟩))
        ∧ ∀ t3 t4, m.body = .response t3 t4 →
          (s.croak.servo.sync = none → leaves (.ptpMessage m) s s)
          ∧ ∀ t1 t2, s.croak.servo.sync = some (t1, t2) → ∃ t, exec (.ptpMessage m) s = .next t
            ∧ t.croak.servo.sync = none ∧ t.volAt (ek 0xB010 3) = (ptpOffset t1 t2 t3 t4 / 8 % 2 ^ 64).toNat
            ∧ ((s.croakMode = 3 ∨ s.croakMode = 4) → t.croak.holdover = decide (8000 < (ptpOffset t1 t2 t3 t4).natAbs))
            ∧ (s.croakMode ≠ 3 → s.croakMode ≠ 4 → t.croak = { s.croak with servo := { s.croak.servo with sync := none } })
            ∧ t.cores = s.cores ∧ t.units = s.units))

/-- What members tell the master (R304, R309, R310): the line's fall counts the group again, its return empties the set of standing
notices; each notice changes the list it names and re-evaluates the group; a package
that is not the master ignores it, and so does one whose management port is down (R435). -/
def holdsGroupNotices : Prop :=
  ∀ (node : Fin 32) (r : GroupRequest) (high : Bool) (s : State),
    (s.isMaster = false → leaves (.croakHoldNChange high) s s)
    ∧ ((s.isMaster = false ∨ s.mgmtUp = false) → leaves (.holdNotice node) s s ∧ leaves (.releaseNotice node) s s
      ∧ leaves (.memberLossNotice node) s s ∧ leaves (.groupRequestForward r) s s)
    ∧ (s.isMaster = true →
      (high = false → leaves (.croakHoldNChange high) s ((s.sampleHold false).reevaluate uGroup))
      ∧ (high = true → leaves (.croakHoldNChange high) s s.releaseHold))
    ∧ (s.isMaster = true → s.mgmtUp = true →
      (s.holdStanding.contains node.val = false →
          leaves (.holdNotice node) s (State.reevaluate { s with holdStanding := s.holdStanding ++ [node.val] } uGroup))
      ∧ leaves (.releaseNotice node) s
          (State.reevaluate { s with holdStanding := s.holdStanding.filter fun n => n != node.val } uGroup)
      ∧ (s.lostMembers.contains node.val = false →
          leaves (.memberLossNotice node) s (State.reevaluate { s with lostMembers := s.lostMembers ++ [node.val] } uGroup))
      ∧ leaves (.groupRequestForward r) s (s.submitReq ⟨uGroup, r.op, r.target.toNat, r.version, roleOf r.role.val, 0#16,
          List.replicate 8 0#8, 1, none⟩))

/-- A BAR4 read or write through a window (R326): the device bytes at the window base plus the offset, or, refused, a poisoned
completion of 0xFF bytes and a write discarded. -/
def holdsBar4 : Prop :=
  ∀ (fn : FnNo) (off : Nat) (secure : Bool) (s : State), s.ideOk fn secure = true →
    let a := s.funcs[fn].winBase * 2 ^ 30 + off
    (∀ n, s.inBar4 fn off n = true →
      (∀ code, s.bar4Refusal fn a n = some code →
        leaves (.bar4Read fn off n secure) s ((s.bar4Refused fn a n code).complete fn off true (List.replicate n 0xFF#8)))
      ∧ (s.bar4Refusal fn a n = none →
        let r := s.readHbm a n 5
        ((r.1.any fun p => p.2) = false → leaves (.bar4Read fn off n secure) s (r.2.complete fn off false (r.1.map Prod.fst)))
        ∧ ((r.1.any fun p => p.2) = true →
          leaves (.bar4Read fn off n secure) s (r.2.complete fn off true (List.replicate n 0xFF#8)))))
    ∧ ∀ data : List Byte, s.inBar4 fn off data.length = true →
      (∀ code, s.bar4Refusal fn a data.length = some code → leaves (.bar4Write fn off data secure) s (s.bar4Refused fn a data.length code))
      ∧ (s.bar4Refusal fn a data.length = none → leaves (.bar4Write fn off data secure) s (s.writeHbm a data 5))

/-- Registers, mailbox, MSI-X and configuration space (R322, R324, R325, R330, R333, Tables 17-1, 17-2, 17-4): a cause is cleared by
writing 1, a request length submits the mailbox unless Busy is 1, an unmasked vector that was pending becomes one message, a TLP outside a
required IDE stream is discarded under EV-0x1103, a function whose BAR0 has no address takes none, and a size or an address the tables allow is
taken by the physical function. The model's choices in
it: log entry 112. -/
def holdsHostRegisters : Prop :=
  ∀ (fn : FnNo) (secure : Bool) (s : State), s.power.clocks = true → s.fnExists fn = true →
    (s.barOn fn 0 = false → (∀ off data, leaves (.registerWrite fn (.bar0 off) data secure) s s)
      ∧ ∀ v, leaves (.msixVectorUnmask fn ⟨v, secure⟩) s s)
    ∧ (s.barOn fn 0 = true → s.ideOk fn secure = false → ∀ off data, exec (.registerWrite fn (.bar0 off) data secure) s = .next (s.ends (s.discardTlp fn 0)))
    ∧ (s.barOn fn 0 = true → s.ideOk fn secure = true →
      (∀ b : Byte, ∃ t, exec (.registerWrite fn (.bar0 0x18) [b] secure) s = .next t
        ∧ t.funcs[fn] = { s.funcs[fn] with causes := s.funcs[fn].causes &&& ~~~BitVec.ofNat 6 b.toNat } ∧ t = { s with funcs := t.funcs })
      ∧ (∀ b : Byte, ∃ t, exec (.registerWrite fn (.bar0 0x10) [b] secure) s = .next t
        ∧ t.funcs[fn] = { s.funcs[fn] with enables := BitVec.ofNat 6 b.toNat } ∧ t = { s with funcs := t.funcs })
      ∧ (∀ n, 0 < n → n < 65536 → s.funcs[fn].busy = false →
        ∃ t, exec (.registerWrite fn (.bar0 0x30) (leBytes n 2) secure) s = .next t
          ∧ t.funcs[fn] = { s.funcs[fn] with busy := true, reqLen := n }
          ∧ t = { s with funcs := t.funcs })
      ∧ (∀ n, 0 < n → n < 65536 → s.funcs[fn].busy = true →
        leaves (.registerWrite fn (.bar0 0x30) (leBytes n 2) secure) s (s.countHost 6 1)))
    ∧ (∀ v, v < vectorsOf fn → s.barOn fn 0 = true → s.ideOk fn secure = false →
      leaves (.msixVectorUnmask fn ⟨v, secure⟩) s (s.discardTlp fn 0))
    ∧ (∀ v, v < vectorsOf fn → s.barOn fn 0 = true → s.ideOk fn secure = true →
      ∃ t, exec (.msixVectorUnmask fn ⟨v, secure⟩) s = .next t ∧ (t.funcs[fn]).masked.getLsbD v = false
      ∧ ((s.funcs[fn].masked.getLsbD v && s.funcs[fn].pend.getLsbD v) = true →
          t = s.ends (State.toHost { s with funcs := t.funcs } fn 16 ⟨.msix, 0, [fn.val, v], []⟩) ∧ (t.funcs[fn]).pend.getLsbD v = false)
      ∧ ((s.funcs[fn].masked.getLsbD v && s.funcs[fn].pend.getLsbD v) = false →
          t = { s with funcs := t.funcs } ∧ (t.funcs[fn]).pend = s.funcs[fn].pend))
    ∧ ∀ data : List Byte,
      let n := leNat data
      (fn ≠ 0 → ∀ r, leaves (.registerWrite fn (.config r) data secure) s s)
      ∧ (fn = 0 → s.portPowered = true →
        (n ∈ [128, 256, 512] → leaves (.registerWrite fn (.config .maxPayload) data secure) s { s with host := { s.host with maxPayload := n } })
        ∧ (n ∈ [128, 256, 512, 1024, 2048, 4096] →
          leaves (.registerWrite fn (.config .maxReadRequest) data secure) s { s with host := { s.host with maxRead := n } })
        ∧ (30 ≤ n → n ≤ 39 → leaves (.registerWrite fn (.config .barSize) data secure) s (s.setVol (ek 0x1100 5) n))
        ∧ (∀ k : Fin 3, ∃ t, exec (.registerWrite fn (.config (.bar k)) data secure) s = .next t ∧ (t.host.bars)[k].isSome = true
          ∧ t = { s with host := { s.host with bars := t.host.bars } } ∧ ∀ j : Fin 3, j ≠ k → (t.host.bars)[j] = s.host.bars[j])
        ∧ (30 ≤ n → n ≤ 39 → leaves (.registerWrite fn (.config .vfBarSize) data secure) s { s with host := { s.host with vfBar := n } }))

/-- The host link (R332, R334, Table 17-5): trained, below its minimum and in recovery it carries what was held, an interrupt before any
payload; down, every function's registers and frames are reset and no virtual function exists. -/
def holdsHostLink : Prop :=
  ∀ (rate width : Nat) (s : State),
    (s.portPowered = true → linkMode rate width = true → s.linkEnough rate width = true → leaves (.hostLinkTrained rate width) s (s.setLink 2 rate width).flushHost)
    ∧ (s.portPowered = true → linkMode rate width = true → s.linkEnough rate width = false → leaves (.hostLinkBelowMinimum rate width) s
        ((s.setLink 2 rate width).raise 0x1101 0x3000 [(rate, 1), (width, 1)]).flushHost)
    ∧ (s.hostUp = true → linkMode rate width = true → leaves (.hostLinkRecovery rate width) s ((((s.setLink 2 rate width).countHost 1 1).raise 0x1100
        0x3000 [(s.volAt (ek 0x1100 1), 1), (s.volAt (ek 0x1100 2), 1), (rate, 1), (width, 1)]).flushHost))
    ∧ (s.hostUp = false ∨ linkMode rate width = false → leaves (.hostLinkRecovery rate width) s s)
    ∧ (∀ a m : HostBound, s.power.clocks = true → s.portPowered = true → linkMode rate width = true → s.linkEnough rate width = true → s.away 260 = false →
        s.host.held = [a, m] → a.isMsix = false → m.isMsix = true → s.readRoom a = true → s.funcs[a.fn].ideHold = false → s.funcs[m.fn].ideHold = false →
        ∃ t, exec (.hostLinkTrained rate width) s = .next t ∧ t.out = s.out ++ [m.msg, a.msg] ∧ t.host.held = [])
    ∧ (s.power.clocks = true → s.portPowered = true →
        ∃ t, exec .hostLinkDown s = .next t ∧ t.host.vfEnable = false
          ∧ (∀ f : FnNo, (t.funcs[f]).frames = [] ∧ (t.funcs[f]).secure = false ∧ (t.funcs[f]).enables = Func.reset.enables)
          ∧ t.cores = s.cores ∧ t.launches = s.launches)

/-- Function resets and virtual functions (R324, R334): an FLR resets its function, whose causes then are those of the events of the
reset itself; a virtual one's vat is stopped at the next beat under EV-0x1104. -/
def holdsFunctionResets : Prop :=
  ∀ (s : State), s.power.clocks = true →
    (s.portPowered = true → ∃ t, exec .flrPhysical s = .next t ∧ t.host.vfEnable = false 
      ∧ (∀ f : FnNo, t.funcs[f] = { Func.reset with causes := (t.funcs[f]).causes, pend := (t.funcs[f]).pend })
      ∧ (s.host.held = [] → (∀ b : Fin 64, s.seqs[b].state ≠ 2 ∧ s.seqs[b].state ≠ 4) → ∀ f : FnNo, t.funcs[f] = Func.reset)
      ∧ t.cores = s.cores ∧ t.launches = s.launches)
    ∧ (∀ n : Fin 16, s.fnExists ⟨n.val + 1, by omega⟩ = true →
      ∃ t, exec (.flrVirtual n) s = .next t ∧ t.runReq = s.runReq ++ [(n.val, 0)] ∧ t.cores = s.cores ∧ t.launches = s.launches)
    ∧ (∀ (n : Nat) (on : Bool), n ≤ 16 → ∃ t, exec (.vfEnableWrite n on) s = .next t ∧ t.host = { s.host with vfEnable := on }
        ∧ (0 < n → on = true → t.volAt (ek 0x1100 4) = n) ∧ t.cores = s.cores)
    ∧ (∀ (k : Nat) (fn : FnNo), (s.funcs[fn].secure = false → exec (.ideIntegrityFailure k fn) s = .next s)
      ∧ (s.funcs[fn].secure = true →
        ∃ t, exec (.ideIntegrityFailure k fn) s = .next t ∧ (t.funcs[fn]).secure = false ∧ (t.funcs[fn]).ideHold = true ∧ t.cores = s.cores)
      ∧ (s.fnExists fn = true → ∃ t, exec (.ideKeyProgramming k fn) s = .next t
        ∧ t.funcs = s.funcs.set fn { s.funcs[fn] with secure := true, ideHold := false } ∧ t.cores = s.cores ∧ t.results = s.results))

/-- A segment of one type at a port that is up (R339, R342, R344): discarded without MACsec under a key in force where the port requires
it, counted as malformed where it or its binding is not right, and otherwise counted, its acknowledgement taken and its effect made. -/
def segmentAs (mk : Fin 8 → Segment → Instr) (typ : Nat) (eff : State → Fin 8 → Segment → Nat → State) : Prop :=
  ∀ (p : Fin 8) (g : Segment) (s : State), s.volAt (ek (0xC008 + p.val) 5) = 2 → segType g = typ →
    let b := segBinding g
    (s.macsecOk p g.sa = false → leaves (mk p g) s (s.macsecDiscard p))
    ∧ (s.macsecOk p g.sa = true → (segWellFormed g && s.bindingTakes b) = false → leaves (mk p g) s (s.countFabric 5 1))
    ∧ (s.macsecOk p g.sa = true → (segWellFormed g && s.bindingTakes b) = true →
        leaves (mk p g) s (eff ((s.countFabric 2 1).ackUpTo b (BitVec.ofNat 32 (segWord g 5))) p g b))

/-- Segments of every type (Table 18-2, R345, R346, R350): data, credits, signals and their outcomes, reconciliations, fault notices
and exports in sequence; acknowledgements, negative ones, probes and replies at once. -/
def holdsSegments : Prop :=
  let ordered (s : State) (p : Fin 8) (g : Segment) (b : Nat) : State := s.sequenced p b g
  segmentAs .psigerData 0 ordered ∧ segmentAs .psigerCredit 3 ordered ∧ segmentAs .psigerReconcile 6 ordered
  ∧ segmentAs .psigerFaultNotice 9 ordered ∧ segmentAs .psigerExport 10 ordered
  ∧ segmentAs (fun p g => .remoteSignalReceive (.fabric p g)) 4 ordered
  ∧ segmentAs (fun p g => .remoteSignalOutcome (.fabric p g)) 5 ordered
  ∧ segmentAs .psigerAck 1 (fun s _ g b =>
      let t := s.creditBack (segPipe g).val (BitVec.ofNat 32 (segWord g 6))
      if t.cfgAt (ek 0xC310 1) = b then State.exportMore 1024 t else t)
  ∧ segmentAs .psigerNak 2 (fun s _ g b => s.resend b (BitVec.ofNat 32 (segWord g 5) + 1#32))
  ∧ segmentAs .psigerProbe 7 (fun s _ _ b => s.psigerControl b 8 1 0 0 [])
  ∧ segmentAs .psigerProbeReply 8 (fun s _ _ b =>
      if s.twin.probing = true ∧ b = s.cfgAt (ek 0xC010 2) then
        (State.holdFor { s with twin := { s.twin with probing := false } } (hubUnit 9) 4#8).raise 0x1204 0x3009
          [(s.cfgAt (ek 0xC010 1), 4)]
      else s)

/-- A segment in its turn with none kept ahead of it (R339, R345): counted, its acknowledgement taken, the binding moved past its
sequence number, and its own effect made. -/
def inTurnAs (mk : Fin 8 → Segment → Instr) (typ : Nat) (eff : State → Fin 8 → Nat → Segment → State → Prop) : Prop :=
  ∀ (p : Fin 8) (g : Segment) (s : State), s.power.clocks = true → s.volAt (ek (0xC008 + p.val) 5) = 2 → segType g = typ →
    s.macsecOk p g.sa = true → segWellFormed g = true → s.bindingTakes (segBinding g) = true →
    let b := segBinding g
    let t := (s.countFabric 2 1).ackUpTo b (BitVec.ofNat 32 (segWord g 5))
    (t.binding b).early = [] → (segSeq g - (t.binding b).last).toNat = 1 →
    let u := t.updBinding b fun r => { r with last := segSeq g, ackDue := true, early := [] }
    ∀ v, eff u p b g v → exec (mk p g) s = .next (s.ends v)

/-- What each type of segment does in its turn (Table 18-2, R265, R346, R350, R355): data go to the pipe their binding feeds, credits return,
a signal is received and an outcome settles one, a reconciliation is held against the peer's, a notice marks the peer's fault, and exported
bytes land. -/
def holdsSegmentEffects : Prop :=
  inTurnAs .psigerData 0 (fun u _ b g v => u.inbound (segPipe g) false b = true ∧
    v = u.takeInbound (segPipe g) g.payload ((segWord g 7).testBit 21))
  ∧ inTurnAs .psigerCredit 3 (fun u _ _ g v => v = u.creditBack (segPipe g).val (BitVec.ofNat 32 (segWord g 6)))
  ∧ inTurnAs (fun p g => .remoteSignalReceive (.fabric p g)) 4 (fun u _ b g v =>
      v = u.receiveSignal (u.peerOf b) b (signalOf (u.peerOf b) g.payload))
  ∧ inTurnAs (fun p g => .remoteSignalOutcome (.fabric p g)) 5 (fun u p b g v =>
      v = u.settle (u.peerOf b) p.val (payWord g.payload 0) (outcomeOf (payWord g.payload 1).toNat))
  ∧ inTurnAs .psigerReconcile 6 (fun u p b g v =>
      v = ((u.reconcileWith (u.peerOf b) p.val (reconcileOf g.payload)).updBinding b fun r =>
        { r with state := 2, heard := true }).endReconcile b)
  ∧ inTurnAs .psigerFaultNotice 9 (fun u _ b _ v => v = u.noticeFrom b)
  ∧ inTurnAs .psigerExport 10 (fun u p b g v => v = u.importBytes p b g)

/-- The order of a binding's segments (R345): one already taken is acknowledged again and counted, one ahead of its turn is kept once
within the window of 1,024, and neither delivers anything. -/
def holdsSegmentOrder : Prop :=
  ∀ (p : Fin 8) (b : Nat) (g : Segment) (s : State),
    let r := s.binding b
    let d := (segSeq g - r.last).toNat
    ((d = 0 ∨ 2 ^ 31 ≤ d) → s.sequenced p b g = (s.updBinding b fun r => { r with ackDue := true }).countFabric 4 1)
    ∧ (1 < d → d < 2 ^ 31 → (1024 < d ∨ (r.early.any fun e => segSeq e == segSeq g) = true) → s.sequenced p b g = s)
    ∧ (1 < d → d ≤ 1024 → (r.early.any fun e => segSeq e == segSeq g) = false →
      ∃ t, t = s.sequenced p b g ∧ (t.binding b).early = r.early ++ [g] ∧ (t.binding b).ackDue = true ∧ (t.binding b).last = r.last
        ∧ t = { s with bindings := t.bindings })

/-- The twin link (R268, R348 to R350): messages leave against credits of their class and wait without, heartbeats carry credits, loss takes it down, a probe without reply loses the partner, a failed
flit is sent again, and a link that comes up reconciles. -/
def holdsTwinLink : Prop :=
  ∀ (s : State),
    let up := s.volAt (ek 0xC010 3) = 2
    (up →
      let h := ((s.toTell true 0).foldl (fun s c =>
        s.send ⟨.twin, 10, [mapRemote (s.pipeMap c.1.val), c.2.toNat], []⟩) (s.send ⟨.twin, 0, [], []⟩)).told (s.toTell true 0)
      ((h.twinPool.owe.toList.all fun n => n == 0) = true → leaves .twinHeartbeat s h)
      ∧ ((h.twinPool.owe.toList.all fun n => n == 0) = false → leaves .twinHeartbeat s
          (State.send { h with twinPool := { h.twinPool with owe := Vector.replicate 4 0 } } ⟨.twin, 13, h.twinPool.owe.toList, []⟩)))
    ∧ leaves .twinLossOfSignal s s.twinDown ∧ leaves .twinFlitTimeout s s.twinDown
    ∧ (¬up → s.twinDown = s)
    ∧ (s.twin.probing = true → leaves .twinProbeTimeout s (s.partnerLost 1))
    ∧ (s.twin.probing = false → leaves .twinProbeTimeout s s)
    ∧ (∀ n m, up → n < 256 → (((s.out.filter fun m => m.dest == .twin).flatMap fun m => (List.range m.flits).map m.flit).reverse)[n]? = some m →
        leaves (.twinFlitCrcFail n) s (s.send m))
    ∧ (∀ m r, s.volAt (ek 0xC010 3) < 2 → (s.ust (hubUnit 9) = stReady ∨ s.ust (hubUnit 9) = stRunning) →
        s.peer .twin = some r → r.reconciling = false →
        leaves (.twinLinkUp m) s (State.catchUpAudit { s.setVol (ek 0xC010 3) 2 with twin := { s.twin with probing := false } }))
    ∧ (∀ m r, s.volAt (ek 0xC010 3) < 2 → (s.ust (hubUnit 9) = stReady ∨ s.ust (hubUnit 9) = stRunning) →
        s.peer .twin = some r → r.reconciling = true →
        let u : State := { s.setVol (ek 0xC010 3) 2 with twin := { s.twin with probing := false } }
        leaves (.twinLinkUp m) s
          ((((u.owe 3 (reconcilePayload m).length).sendTwin 3 ⟨.twin, 11, [], reconcilePayload (u.reconcileMsg .twin true 0)⟩).reconcileWith .twin 0 m).catchUpAudit))
    ∧ (s.cfgAt (ek 0xC010 1) ≠ 0 → s.volAt (ek 0xC010 3) ≠ 3 → leaves .twinFaultNotice s (s.partnerLost 2))
    ∧ (∀ n bs last, up →
        let o := s.owe 0 bs.length
        leaves (.twinPipeFlit (.data n bs last)) s (if o.inbound n true 0 then o.takeInbound n bs last else o))
    ∧ (∀ n w, up → mapTwin (s.pipeMap n.val) = true → s.outbound n.val = true → leaves (.twinPipeFlit (.credit n w)) s (s.creditBack n.val w))
    ∧ (∀ c0 c1 c2 c3, up → leaves (.twinPipeFlit (.returns c0 c1 c2 c3)) s (s.twinReturns #v[c0, c1, c2, c3]))
    ∧ (∀ cls (m : OutMsg), m.flits ≤ s.twinPool.free[cls] → s.away 269 = false → s.ust 269 ≠ stFaulted → (s.twinPool.waiting.any fun w => w.1 == cls) = false →
        (s.sendTwin cls m).out = s.out ++ [m] ∧ (s.sendTwin cls m).twinPool.free[cls] = s.twinPool.free[cls] - m.flits)
    ∧ (∀ cls (m : OutMsg), s.twinPool.free[cls] < m.flits → (s.sendTwin cls m).out = s.out
        ∧ (s.sendTwin cls m).twinPool.waiting = s.twinPool.waiting ++ [(cls, m)])

/-- The twin pair (R30, R391): a pair record goes out at each timer while beats are absent, and one from the partner gives how the partner
stands and the requests that entered it, and brings the pair to READY when both records name each other, and a whole audit record is kept in its slot of the twin's ring. -/
def holdsTwinPair : Prop :=
  ∀ (s : State), s.power.clocks = true →
    (s.beatsAbsent = true → leaves .pairRecordTimer s s.sendPair)
    ∧ (s.beatsAbsent = false → leaves .pairRecordTimer s s)
    ∧ (∀ r, s.volAt (ek 0xC010 3) = 2 → s.cfgAt (ek 0xC010 1) ≠ 0 →
      let u : State := { (s.owe 3 0).takePairReqs r.requests with partner := ⟨r.member, r.memberCauses, 0#16⟩ }
      (s.ust uPair ≠ stCold → s.ust uPair ≠ stLoading →
        leaves (.pairRecordReceive r) s (State.reevaluate { u with twin := { u.twin with record := some r } } uPair))
      ∧ (s.ust uPair = stLoading → r.names.toNat = s.cfgAt (ek 0xC000 1) → r.sender.toNat = s.cfgAt (ek 0xC010 1) →
        leaves (.pairRecordReceive r) s ((u.transition uPair stReady 0#8).reevaluate uPair))
      ∧ (s.ust uPair = stLoading → (r.names.toNat ≠ s.cfgAt (ek 0xC000 1) ∨ r.sender.toNat ≠ s.cfgAt (ek 0xC010 1)) → leaves (.pairRecordReceive r) s u))
    ∧ (∀ ws : List Word, ws.length = 64 → s.volAt (ek 0xC010 3) = 2 →
      let slot := ((ws.headD 0#32).toNat + 2 ^ 32 - 1) % 4096
      ∃ t, exec (.twinAuditRecordReceive ws) s = .next t ∧ t = { s.owe 0 256 with twinAudit := t.twinAudit }
        ∧ Sparse.get [] t.twinAudit slot = wordsLE ws ∧ ∀ k, k ≠ slot → Sparse.get [] t.twinAudit k = Sparse.get [] s.twinAudit k)

/-- Codec records (R362, R363, R365, R367, R368): an entry read from an input ring advances its consumer index; an idle engine takes a legal record
of its kind, refuses another under EV-0x1300, and closes a context; a busy engine keeps the record behind the others; frames whose
lookahead the arrival completes leave. -/
def holdsCodecRecords : Prop :=
  ∀ (k : Fin 4) (r : FrameRecord) (s : State),
    let takes (mk : Fin 4 → FrameRecord → Instr) (e : Fin 8) : Prop :=
      let u := s.entryRead (sliceOf e) r
      let g := u.codecs[e]
      let go (t : State) : State := t.letGo e (recCtx r)
      (g.work.isSome = true → leaves (mk k r) s (go ((u.updEngine e fun g => { g with queue := g.queue ++ [r] }).putAll e none)))
      ∧ (g.work = none → g.queue = [] → u.sliceTakes k = true → (u.ctx (recCtx r)).state ≠ 2 → u.earlierElsewhere e r = false →
        (∀ why, u.recordRefused k (encodes e) r = some why →
          leaves (mk k r) s (go ((u.raise 0x1300 (slicePath k) [(recCtx r, 2), ((recNumber r).toNat, 4), (why, 1)]).countCodec k 3)))
        ∧ (u.recordRefused k (encodes e) r = none → recKind r ≠ 2 → leaves (mk k r) s (go ((u.takeRecord e r).putAll e none)))
        ∧ (u.recordRefused k (encodes e) r = none → recKind r = 2 →
            leaves (mk k r) s (go (u.updCtx (recCtx r) fun _ => CodecCtx.closed))))
    (recKind r = 0 → takes .encodeFrame (engineNo k true)) ∧ (recKind r = 1 → takes .decodeAccessUnit (engineNo k false))
    ∧ (recKind r = 2 → takes .codecClose (engineNo k (s.ctx (recCtx r)).enc)) ∧ (r.ring = none → ∀ j, s.entryRead j r = s)

/-- Codec frames (R367, R371): a frame starts its block rows one at a time, is output once all have started, and its entries leave
for the host ring as there is room. -/
def holdsCodecFrames : Prop :=
  ∀ (k : Fin 4) (enc : Bool) (s : State),
    let e := engineNo k enc
    (s.retries.all fun r => r.src != .codec e) = true →
    (s.codecs[e].work = none → leaves (.blockRowStart k enc) s (s.takeWork e) ∧ leaves (.frameOutput k enc) s s
      ∧ ∀ c, leaves (.ringPoll k enc c) s s)
    ∧ ∀ w, s.codecs[e].work = some w →
    (w.rows < blockRows (s.ctx w.ctx).words →
      leaves (.blockRowStart k enc) s (s.updEngine e fun g => { g with work := some { w with rows := w.rows + 1 } })
      ∧ leaves (.frameOutput k enc) s s)
    ∧ (blockRows (s.ctx w.ctx).words ≤ w.rows → leaves (.blockRowStart k enc) s s
      ∧ (w.finished = false → leaves (.frameOutput k enc) s ((s.finishFrame e w).drainEntries e none))
      ∧ (w.finished = true → leaves (.frameOutput k enc) s s))
    ∧ (∀ c, (w.waits = false → leaves (.ringPoll k enc c) s s)
      ∧ (w.waits = true → leaves (.ringPoll k enc c) s (s.drainEntries e (some c))))

/-- A message of one row of the object protocol (R381, R402): what its front says is final; served, its effect is made and answered
with its status and data, or status 0x02 where session 0 does not accept it; a message of another row changes nothing. -/
def kopAs (mk : KopMsg → Instr) (row : KopRow) (body : State → Session → KopMsg → State × Nat × List Byte) : Prop :=
  ∀ (m : KopMsg) (s : State),
    (rowOf m ≠ row → leaves (mk m) s s)
    ∧ (rowOf m = row →
      (∀ t, s.kopFront m = .done t → leaves (mk m) s t)
      ∧ ∀ x, s.kopFront m = .serve x →
        let shut := x.id == 0 && !zeroAccepts m
        (shut = true → leaves (mk m) s ((s.auditRec { x.audit m.via 7 2 (idxOf m) (subOf m) (auditVat (idxOf m) (subOf m)) with
          path := entryPath (ek (idxOf m) (subOf m)) }).answer x m 2 []))
        ∧ (shut = false → leaves (mk m) s ((body s x m).1.answer x m (body s x m).2.1 (body s x m).2.2)))

/-- A message of an open session comes whole, in its order and rightly authenticated on the management port, while the management core is up
(R378, R381). -/
def State.hears (s : State) (x : Session) (m : KopMsg) : Prop :=
  m.via = .port ∧ (s.ust (hubUnit 11) = stReady ∨ s.ust (hubUnit 11) = stRunning) ∧ m.magic = 0x4B4F#32 ∧ m.session = x.id
    ∧ x.id ≠ 0 ∧ s.session x.id = some x ∧ x.half = false ∧ m.auth = authOf x.key (msgBytes m) ∧ seqNewer m.seq x.last = true

/-- What a message of an open session does where nothing refuses it: `eff` says when, and what state, status and data it comes to. -/
def kopDone (mk : KopMsg → Instr) (row : KopRow) (eff : State → Session → KopMsg → State → Nat → List Byte → Prop) : Prop :=
  ∀ (m : KopMsg) (s : State) (x : Session) (v : State) (status : Nat) (data : List Byte), s.power.clocks = true → s.hears x m →
    rowOf m = row → eff s x m v status data → exec (mk m) s = .next (s.ends (v.answer x m status data))

/-- A session may write a whole value to an entry, and the state once it has (R375, R376, R379, R384; log entry 130). -/
def State.mayWrite (s : State) (x : Session) (m : KopMsg) (r : EntryRow) (v : Nat) (t : State) : Prop :=
  viaVat x.via = none ∧ subOf m ≠ 0 ∧ entryRow (idxOf m) (subOf m) = some r ∧ r.access x.role ≠ .ro ∧ r.access x.role ≠ .no
    ∧ x.covers (idxOf m) (subOf m) = true ∧ m.offset = 0
    ∧ (m.data.length = r.bytes ∨ (8 ≤ r.typ ∧ 0xA300 ≤ idxOf m ∧ idxOf m < 0xA308))
    ∧ (r.typ = 7 → leNat m.data ≤ 1) ∧ inRange (idxOf m) (subOf m) (leNat m.data) = true
    ∧ v = keepBits (idxOf m) (leNat m.data)
    ∧ t = if r.typ < 8 ∨ x.pieces.isSome = true then s else s.updSession x.id fun y => { y with pieces := none }

/-- A unit operation that nothing refuses: the request of its row's code, target beat and version is PENDING, or in effect where its beat has
come (R26). -/
def unitDone (mk : KopMsg → Instr) (code : Nat) : Prop :=
  kopDone mk (.unitOp code) fun s x m v status data => ∃ r n k t, s.mayWrite x m r k t ∧ unitIndex (idxOf m) = some (n, 2)
    ∧ unitOf n ≠ uPair ∧ unitOf n ≠ uGroup ∧ status = 0 ∧ data = [] ∧
    let a := (t.auditWrite x m 2 r [] []).updSession x.id fun y =>
      { y with targets := Sparse.del y.targets n, versions := Sparse.del y.versions n }
    let beat := Sparse.get 0 x.targets n
    let q : UnitReq := ⟨unitOf n, BitVec.ofNat 8 k, if beat = 0 then a.beat + 1 else beat, BitVec.ofNat 16 (Sparse.get 0 x.versions n),
      x.role, x.mask, x.keyId, 1, none⟩
    let b := ((a.opStatus q.unit 1).auditReq q 8 0)
    (a.asSeen false [q.unit]).whyRefused q.unit q.op.toNat q.version q.role q.mask = none
      ∧ v = if q.target ≤ b.beat then b.applyReq q else { b with unitReqs := b.unitReqs ++ [q] }

/-- Reads, staged writes and unit operations that nothing refuses (R26, R375 to R379, R384): the entry's value in force, a staged value, the
fields of a unit's next operation, and requests taken. -/
def holdsKopEntryEffects : Prop :=
  kopDone .kopRead .read (fun s x m v status data => ∃ r, m.typ = 0x01#8 ∧ viaVat x.via = none ∧ subOf m ≠ 0 ∧ m.staged = false
    ∧ entryRow (idxOf m) (subOf m) = some r ∧ r.access x.role ≠ .wo ∧ r.access x.role ≠ .no ∧ x.covers (idxOf m) (subOf m) = true
    ∧ m.offset = 0 ∧ v = s ∧ status = 0 ∧ data = (s.entryValue (idxOf m) (subOf m) r).take 1168)
  ∧ kopDone .kopWrite .write (fun s x m v status data => ∃ r k t, s.mayWrite x m r k t ∧ r.pers = .generation
    ∧ x.staging.length < 4096 ∧ status = 0 ∧ data = []
    ∧ v = t.updSession x.id fun y => { y with staging := Sparse.set (k + 1) y.staging (ek (idxOf m) (subOf m)) k })
  ∧ kopDone .kopWrite .write (fun s x m v status data => ∃ r k t n, s.mayWrite x m r k t ∧ r.pers ≠ .generation
    ∧ unitIndex (idxOf m) = some (n, 2) ∧ subOf m ≠ 1 ∧ status = 0 ∧ data = [] ∧ v = t.writeUnitField x m r n k)
  ∧ unitDone (fun m => .unitHold (.kop m)) 1 ∧ unitDone (fun m => .unitReadmit (.kop m)) 2
  ∧ unitDone (fun m => .unitTailDrop (.kop m)) 3 ∧ unitDone (fun m => .unitUpdateImage (.kop m)) 4
  ∧ unitDone (fun m => .unitRecalibrate (.kop m)) 5 ∧ unitDone (fun m => .unitReclaim (.kop m)) 6

/-- Reads, writes and unit operations over the protocol (R26, R375 to R379, R385), each with the answer of its effect. The model's choices in it: log entries 62 and 80. -/
def holdsKopEntryForms : Prop :=
  kopAs .kopRead .read (fun s x m => s.readMsg x m)
  ∧ kopAs .kopWrite .write (fun s x m => s.writeMsg x m fun s r v =>
    if r.pers = .generation then
      match s.session x.id with
      | some y => s.stage y (ek (idxOf m) (subOf m)) v
      | none => (s, 0)
    else match unitIndex (idxOf m) with
      | some (n, 2) => if subOf m = 1 then (s.writeReservedOp x m r n v, 0) else (s.writeUnitField x m r n v, 0)
      | _ => (s, 0))
  ∧ kopAs (fun m => .unitHold (.kop m)) (.unitOp 1) (fun s x m => s.unitWrite x m)
  ∧ kopAs (fun m => .unitReadmit (.kop m)) (.unitOp 2) (fun s x m => s.unitWrite x m)
  ∧ kopAs (fun m => .unitTailDrop (.kop m)) (.unitOp 3) (fun s x m => s.unitWrite x m)
  ∧ kopAs (fun m => .unitUpdateImage (.kop m)) (.unitOp 4) (fun s x m => s.unitWrite x m)
  ∧ kopAs (fun m => .unitRecalibrate (.kop m)) (.unitOp 5) (fun s x m => s.unitWrite x m)
  ∧ kopAs (fun m => .unitReclaim (.kop m)) (.unitOp 6) (fun s x m => s.unitWrite x m)

/-- Writes with an effect of their own (R33, R281, R316, R339, R377, R405, R410): the value in force or kept for the next beat, a
fuse bank more, and an audit record. -/
def holdsKopSpecialWrites : Prop :=
  kopAs .eventAcknowledge .eventAck (fun s x m => s.writeMsg x m fun s r v =>
    if s.volAt (ek 0x9010 2) ≤ v ∧ v < s.evCount then
      ((s.setVol (ek 0x9010 2) v).auditWrite x m 2 r (leBytes (s.volAt (ek 0x9010 2)) r.bytes) (leBytes v r.bytes), 0)
    else (s, 4))
  ∧ kopAs .vatRunState .runState (fun s x m => s.writeMsg x m fun s r v =>
    if v = 1 ∧ s.volAt (ek 0xA000 5) = 1 then (s, 4)
    else (State.auditWrite { s with runReq := s.runReq ++ [(subOf m - 1, v)] } x m 2 r
      (leBytes (s.volAt (ek (idxOf m) (subOf m))) r.bytes) (leBytes v r.bytes), 0))
  ∧ kopAs .echoRequest .echo (fun s x m => s.writeMsg x m fun s r v =>
    (((s.setVol (ek 0xB000 10) v).updCroak fun k => { k with echo := if v = 0xFF then none else some (Fin.ofNat 32 v) }).auditWrite
      x m 2 r (leBytes (s.volAt (ek 0xB000 10)) r.bytes) (leBytes v r.bytes), 0))
  ∧ kopAs .macsecKeyWrite .macsec (fun s x m => s.writeMsg x m fun s r v =>
    let p := idxOf m - 0xA300
    let f := vget FPort.reset s.fports p
    let keys := putKey f.newKeys (leBytes v m.data.length)
    (State.auditWrite { s with fports := vset s.fports p { f with newKeys := keys } } x m 2 r [] [], 0))
  ∧ kopAs .fuseWrite .fuse (fun s x m => s.writeMsg x m fun s r v =>
    let key := ek (idxOf m) (subOf m)
    let banks := Sparse.get [] s.fuseBanks key
    if 4 ≤ banks.length then (s, 4)
    else (State.auditWrite { s with fuseBanks := Sparse.set [] s.fuseBanks key (banks ++ [v]) } x m 3 r
      (leBytes ((banks.getLast?).getD (s.cfgAt key)) r.bytes) (leBytes v r.bytes), 0))
  ∧ kopAs .debugUnlock .debug (fun s x m => s.writeMsg x m fun s r v =>
    let old := s.volAt (ek 0xA000 5)
    let quiet := s.launches.isEmpty && (List.range 16).all fun i => s.volAt (ek 0x2029 (i + 1)) == 0
    if 1 < v ∨ (v = 1 ∧ quiet = false) ∨ (v = 0 ∧ old = 1) then (s, 4)
    else
      let t := s.auditWrite x m 2 r (leBytes old r.bytes) (leBytes v r.bytes)
      (if v = 1 ∧ old = 0 ∧ t.unlocking = none then { t with unlocking := some x.id } else t, 0))

/-- Writes with effects of their own, generations and images that nothing refuses (R281, R316, R339, R377, R385, R387, R397, R405, R412):
the event number acknowledged, a vat's state asked for, an echo asked for, a key kept, a fuse bank more, an unlock begun, a commit or a return
pending or at once in force, staging dropped, the generations told, and a piece of an image in its slot. -/
def holdsKopChangeEffects : Prop :=
  kopDone .eventAcknowledge .eventAck (fun s x m v status data => ∃ r k t, s.mayWrite x m r k t
    ∧ t.volAt (ek 0x9010 2) ≤ k ∧ k < t.evCount ∧ status = 0 ∧ data = []
    ∧ v = (t.setVol (ek 0x9010 2) k).auditWrite x m 2 r (leBytes (t.volAt (ek 0x9010 2)) r.bytes) (leBytes k r.bytes))
  ∧ kopDone .vatRunState .runState (fun s x m v status data => ∃ r k t, s.mayWrite x m r k t ∧ (k ≠ 1 ∨ t.volAt (ek 0xA000 5) ≠ 1)
    ∧ status = 0 ∧ data = [] ∧ v = State.auditWrite { t with runReq := t.runReq ++ [(subOf m - 1, k)] } x m 2 r
      (leBytes (t.volAt (ek (idxOf m) (subOf m))) r.bytes) (leBytes k r.bytes))
  ∧ kopDone .echoRequest .echo (fun s x m v status data => ∃ r k t, s.mayWrite x m r k t ∧ status = 0 ∧ data = []
    ∧ v = ((t.setVol (ek 0xB000 10) k).updCroak fun c => { c with echo := if k = 0xFF then none else some (Fin.ofNat 32 k) }).auditWrite
      x m 2 r (leBytes (t.volAt (ek 0xB000 10)) r.bytes) (leBytes k r.bytes))
  ∧ kopDone .macsecKeyWrite .macsec (fun s x m v status data => ∃ r k t, s.mayWrite x m r k t ∧ status = 0 ∧ data = [] ∧
    let p := idxOf m - 0xA300
    let f := vget FPort.reset t.fports p
    v = State.auditWrite { t with fports := vset t.fports p { f with newKeys := putKey f.newKeys (leBytes k m.data.length) } } x m 2 r [] [])
  ∧ kopDone .fuseWrite .fuse (fun s x m v status data => ∃ r k t, s.mayWrite x m r k t ∧ status = 0 ∧ data = [] ∧
    let key := ek (idxOf m) (subOf m)
    let banks := Sparse.get [] t.fuseBanks key
    banks.length < 4 ∧ v = State.auditWrite { t with fuseBanks := Sparse.set [] t.fuseBanks key (banks ++ [k]) } x m 3 r
      (leBytes ((banks.getLast?).getD (t.cfgAt key)) r.bytes) (leBytes k r.bytes))
  ∧ kopDone .debugUnlock .debug (fun s x m v status data => ∃ r t, s.mayWrite x m r 1 t ∧ t.launches = [] ∧ t.unlocking = none
    ∧ (∀ i, i < 16 → t.volAt (ek 0x2029 (i + 1)) = 0) ∧ t.volAt (ek 0xA000 5) = 0 ∧ status = 0 ∧ data = []
    ∧ v = { t.auditWrite x m 2 r (leBytes 0 r.bytes) (leBytes 1 r.bytes) with unlocking := some x.id })
  ∧ (∀ kind ∈ [(1, Instr.commit, KopRow.commit), (2, .returnGeneration, .ret)], kopDone kind.2.1 kind.2.2 fun s x m v status data =>
    let target := leNat (m.data.take 8)
    let expected := leNat ((m.data.drop 8).take 4)
    let values := if kind.1 = 1 then x.staging else s.returnValues
    let g : PendingGen := ⟨kind.1, x.id, x.role, 1, x.keyId, max target (s.beat + 1), expected, values⟩
    (x.role = .installer ∨ (kind.1 = 2 ∧ x.role = .operator)) ∧ viaVat x.via = none ∧ m.data.length = 524
    ∧ (kind.1 = 2 → s.volAt (ek 0x2000 5) ≠ 0) ∧ verifies x.modulus (signedBytes expected target values) (m.data.drop 12) = true
    ∧ s.pendingGen = none ∧ data = []
    ∧ ((s.beatsAbsent = false ∧ status = 8
        ∧ v = (State.setVol { s with pendingGen := some g } (ek 0x2000 3) g.target).setVol (ek 0x2000 4) kind.1)
      ∨ (s.beatsAbsent = true ∧ (s.applyGen g).2 = true ∧ status = 0 ∧ v = (s.applyGen g).1)))
  ∧ kopDone .discard .discard (fun s x _ v status data =>
    let t := s.updSession x.id fun y => { y with staging := [] }
    status = 0 ∧ data = [] ∧ v = if s.pendingGen.any (fun g => g.session == x.id) then t.clearPending else t)
  ∧ kopDone .kopStatus .status (fun s _ _ v status data => v = s ∧ status = 0
    ∧ data = leBytes (s.volAt (ek 0x2000 1)) 4 ++ leBytes (s.volAt (ek 0x2000 2)) 4 ++ leBytes (s.volAt (ek 0x2000 4)) 1
      ++ leBytes (s.volAt (ek 0x2000 3)) 8)
  ∧ kopDone .imagePiece .image (fun s _ m v status data =>
    let k := idxOf m
    let so := if s.slotState k = 1 then (vget ImageSlot.reset s.images (k - 1)).bytes else []
    let b := if m.offset = 0 then m.data else so ++ m.data
    1 ≤ k ∧ k ≤ 6 ∧ s.slotBusy k = false ∧ (m.offset = 0 ∨ (s.slotState k = 1 ∧ so.length = m.offset)) ∧ b.length ≤ 0x100000
      ∧ status = 0 ∧ data = []
      ∧ (((b.length < 16 ∨ b.length < imgWord b 3) ∧ v = s.setSlot k 1 ⟨b, [], 0⟩)
        ∨ (16 ≤ b.length ∧ b.length = imgWord b 3 ∧ v = s.setSlot k 2 ⟨b, [], 0⟩)))

/-- Generations, status and images (R385 to R389, R398, R400): COMMIT for the installer alone, RETURN for the installer and the
operator, DISCARD of the session's staging and pending commit, STATUS with the generation entries, and image pieces. -/
def holdsKopGenerations : Prop :=
  kopAs .commit .commit (fun s x m => if x.role ≠ .installer then s.denied x m else s.requestGen x m 1 x.staging)
  ∧ kopAs .returnGeneration .ret (fun s x m =>
    if (viaVat x.via).isSome then (s, 1, [])
    else if x.role ≠ .installer ∧ x.role ≠ .operator then s.denied x m
    else s.requestGen x m 2 s.returnValues)
  ∧ kopAs .discard .discard (fun s x _ =>
    let t := s.updSession x.id fun y => { y with staging := [] }
    match s.pendingGen with
    | some g => (if g.session = x.id then t.clearPending else t, 0, [])
    | none => (t, 0, []))
  ∧ kopAs .kopStatus .status (fun s _ _ =>
    (s, 0, leBytes (s.volAt (ek 0x2000 1)) 4 ++ leBytes (s.volAt (ek 0x2000 2)) 4 ++ leBytes (s.volAt (ek 0x2000 4)) 1
      ++ leBytes (s.volAt (ek 0x2000 3)) 8))
  ∧ kopAs .imagePiece .image (fun s _ m =>
    let k := idxOf m
    if (viaVat m.via).isSome ∨ k < 1 ∨ 6 < k then (s, 1, [])
    else if s.slotBusy k then (s, 4, [])
    else ((s.placePiece m k).1, (s.placePiece m k).2, []))

/-- Sessions and attestation (R402, R403, R404): a HELLO of a known role and the right length opens a half, PROOF with a signature
that verifies opens the session, and otherwise the half is dropped with reason 2; CLOSE drops it; ATTEST answers a signed report. The model's choices in it: log entries 64 and 65. -/
def holdsKopSessionForms : Prop :=
  kopAs .hello .hello (fun s _ m =>
    let so := s.helloSoFar m.via
    let b := if m.offset = 0 then m.data else so ++ m.data
    let t := s.keepHello m.via []
    if m.offset ≠ 0 ∧ so.length ≠ m.offset then (t, 3, [])
    else match b.head? with
      | none => (t, 3, [])
      | some r =>
        match helloSize r.toNat with
        | none => (t.sessionRefused r.toNat 1, 6, [])
        | some n =>
          if b.length < n then (t.keepHello m.via b, 0, [])
          else if n < b.length then (t, 3, [])
          else t.openHalf m b (helloOf r.toNat n b))
  ∧ kopAs .proofMessage .proof (fun s x m =>
    match (s.sessions.filter fun y => x.id == 0 && y.half && y.via == m.via).getLast? with
    | none => (s.sessionRefused 0 2, 6, [])
    | some y =>
      if m.offset = 0 ∧ m.data.length = 512 ∧ verifies y.modulus y.transcript m.data then
        ((s.updSession y.id fun z => { z with half := false }).countSecure 1, 0, [])
      else ((s.dropSession y.id).sessionRefused y.role.number 2, 6, []))
  ∧ kopAs .sessionClose .close (fun s x _ => (s.dropSession x.id, 0, []))
  ∧ kopAs .attest .attest (fun s _ m =>
    if m.offset ≠ 0 ∨ m.data.length ≠ 64 then (s, 3, [])
    else (s.countSecure 4, 0, s.report m.data ++ (Config.identitySign (s.report m.data) ++ zeros 512).take 512))

/-- A message on session 0 that the physical function's mailbox holds whole and newer than the last, while the management core is up; session 0
is `x` (R378, R381, R402, Table 17-4). -/
def State.hearsZero (s : State) (x : Session) (m : KopMsg) : Prop :=
  m.via = .pf ∧ s.ust (hubUnit 11) ≠ stAbsent ∧ s.ust (hubUnit 11) ≠ stLoading ∧ s.submitted m = true ∧ s.ideOk 0 m.secure = true
    ∧ m.magic = 0x4B4F#32 ∧ m.session = 0 ∧ x = (s.session 0).getD Session.zero ∧ seqNewer m.seq x.last = true

/-- Sessions open and close, and the package attests (R402, R403, R405): a whole HELLO on session 0 with a credential that holds and a point of
the curve makes a half of its role; a PROOF that verifies opens the latest half; CLOSE ends a session; ATTEST gives the report and its signature. -/
def holdsKopSessionEffects : Prop :=
  (∀ (m : KopMsg) (s : State) (x : Session) (r : Byte) (n : Nat) (role : Role) (modulus : List Byte) (mask : BitVec 16) (q : Nat × Nat),
    s.power.clocks = true → s.hearsZero x m → m.typ = 0x10#8 → m.offset = 0 → m.data.head? = some r → helloSize r.toNat = some n → m.data.length = n →
    (s.sessions.filter fun x => x.id != 0).length < 8 → s.credential .pf (helloOf r.toNat n m.data) = some (role, modulus, mask) →
    pointOf (helloOf r.toNat n m.data).point = some q →
    let o := (s.keepHello .pf []).openHalf m m.data (helloOf r.toNat n m.data)
    exec (.hello m) s = .next (s.ends (o.1.answer x m 0 o.2.2))
      ∧ ∃ y, o.1.sessions = s.sessions ++ [y] ∧ y.half = true ∧ y.role = role ∧ y.modulus = modulus ∧ y.mask = mask ∧ y.via = .pf)
  ∧ (∀ (m : KopMsg) (s : State) (x y : Session), s.power.clocks = true → s.hearsZero x m → m.typ = 0x11#8 →
    (s.sessions.filter fun y => y.half && y.via == .pf).getLast? = some y → m.offset = 0 → m.data.length = 512 →
    verifies y.modulus y.transcript m.data = true →
    exec (.proofMessage m) s = .next (s.ends (((s.updSession y.id fun z => { z with half := false }).countSecure 1).answer x m 0 [])))
  ∧ kopDone .sessionClose .close (fun s x _ v status data => v = s.dropSession x.id ∧ status = 0 ∧ data = [])
  ∧ kopDone .attest .attest (fun s _ m v status data => m.offset = 0 ∧ m.data.length = 64 ∧ v = s.countSecure 4 ∧ status = 0
    ∧ data = s.report m.data ++ (Config.identitySign (s.report m.data) ++ zeros 512).take 512)

/-- Throttling and temperature (R428 to R432): each sample or step changes the duty it names and no core, and at a frame boundary the
largest of the four duties, at most 48, is in force. -/
def holdsPowerSteps : Prop :=
  ∀ (s : State), s.power.clocks = true →
    (∀ w, ∃ t, exec (.powerSample w) s = .next t ∧ t.power = s.power.sampled w ∧ t.cores = s.cores
      ∧ t = { s with vol := t.vol, power := t.power })
    ∧ (∃ t, exec .capDutyStep s = .next t ∧ t.power = s.capStep ∧ t = { s with vol := t.vol, power := t.power }
        ∧ (0 < s.capStep.capDuty → t.volAt (ek 0x1004 3) = s.capStep.sources (s.cfgAt (ek 0x2070 2))))
    ∧ (∃ t, exec .thermalDutyStep s = .next t ∧ t.power = s.thermalSteps ∧ t.cores = s.cores ∧ t.units = s.units
        ∧ (s.power.dieDuty ≤ 48 → t.power.dieDuty ≤ 48) ∧ (s.power.stackDuty ≤ 48 → t.power.stackDuty ≤ 48)
        ∧ ((s.power.dies.any fun d => decide (s.cfgAt (ek 0x2070 4) * 16 ≤ d)) = true →
            t.power.dieDuty = min 48 (s.power.dieDuty + 4)))
    ∧ (∃ t, exec .gateFrameBoundary s = .next t ∧ t.cores = s.cores
        ∧ t.power = { s.power with inputDuty := if s.power.throttleHigh then 0 else s.cfgAt (ek 0x2070 3) }
        ∧ t.power.duty = min 48 (max (max t.power.capDuty t.power.inputDuty) (max t.power.dieDuty t.power.stackDuty))
        ∧ (t.power.duty ≠ 0 → t.volAt (ek 0x1004 2) = t.power.duty))
    ∧ (∀ high, ∃ t, exec (.throttleNChange high) s = .next t ∧ t.power = { s.power with throttleHigh := high }
        ∧ t = { s with vol := t.vol, power := t.power })

/-- A thermal sample (R432): below the trip limits only readings change; at one the clocks stop, THERMTRIP_N is low, and the hub die and
the package are FAULTED. -/
def holdsThermalTrip : Prop :=
  ∀ (r : ThermalReading) (s : State), s.power.clocks = true →
    let trips := r.dies.any (fun d => decide (115 * 16 ≤ d)) || r.stackTemps.any fun d => decide (105 * 16 ≤ d)
    (trips = false → ∃ t, exec (.thermalSample r) s = .next t ∧ t.power = { s.power with dies := r.dies, stackTemps := r.stackTemps }
      ∧ t = { s with vol := t.vol, power := t.power })
    ∧ (trips = true → s.ust uHub ≠ stAbsent → s.ust uPackage ≠ stAbsent →
      ∃ t, exec (.thermalSample r) s = .next t ∧ t.power.clocks = false ∧ t.power.tripped = true ∧ t.power.on = s.power.on
        ∧ t.ust uHub = stFaulted ∧ t.ust uPackage = stFaulted)

/-- A scan whose last lane is poisoned stops as a reduction does (R139). -/
def scanPoisonAs (mk : CoreId → Hdr → VecF → Instr) (excl : Bool) (ident : Word) (op : VecF → ScanOp) : Prop :=
  ∀ (c : CoreId) (h : Hdr) (f : VecF) (s : State), s.issues c h clsVector false = true →
    let k := s.cores[c]
    let mask := k.mask f.mask
    (scanOf (op f) ident (k.x[f.xd].truncate 32) excl (fun i => f.ms != 0 && k.m[f.ms].getLsbD i)
      ((List.range 128).map fun i => if mask.getLsbD i then k.lane f.va i else ⟨ident, false⟩)).last.poison = true →
    exec (mk c h f) s = .next (s.ends ((s.countIssued c).stopProgram c 0x0704 [(k.pc, 2), (f.xd.val, 1)]))

/-- A read of a core's buffer into a register finds poison: every marked word it touches carries the poison marker, and one does. -/
def poisonedRange (m : Mem) (a n : Nat) : Prop :=
  (∀ p ∈ m.marks, a < 16 * p.1 + 16 ∧ 16 * p.1 < a + n → p.2 = 3) ∧ ∃ i, i < n ∧ (m.read (a + i)).2 = true

end Sys2Proof.Machine

open Sys2Proof Sys2Proof.Machine

/-- The lane arithmetic of VECTOR: floating-point and integer results, each on its own core alone (R89 to R91). The model's choices in it: log entry 108. -/
def Obligations.LaneArithmetic : Prop := holdsFloatLanes ∧ holdsIntLanes

/-- Lanes chosen, copied and compared, and mask registers combined (R89, R90). The model's choices in it: log entries 34 and 108. -/
def Obligations.LaneSelection : Prop := holdsLaneCopies ∧ holdsMaskResults

/-- Reductions and scans of the active lanes (R95 to R99). The model's choices in it: log entries 95, 108 and 120. -/
def Obligations.ReductionsAndScans : Prop := holdsReductions ∧ holdsScans

/-- CONTROL operations on registers and descriptors, branches and where they stop, and words of a reserved class or operation (R141, R134). The model's choices in it: log entries 40 and 86. -/
def Obligations.Controls : Prop := holdsControlResults ∧ holdsControlStops ∧ holdsDescriptorWords ∧ holdsReservedWords ∧ holdsBranches ∧ holdsBranchStops

/-- Sweeps, and where they stop (R65, R69, R134, R135). The model's choices in it: log entries 5, 18, 31 and 101. -/
def Obligations.Sweeps : Prop := holdsSweepsRun ∧ holdsSweepStops

/-- The element-wise tile operations (R71, R72). The model's choices in it: log entries 16, 30 and 89. -/
def Obligations.TileElements : Prop := holdsTileOps ∧ holdsTileScales

/-- A bound tile after CLEAR reads zero in every enabled array, keeps every other array's part, and its poison and overflow flags
are clear where it was cleared (R71); everything else of the package is as before but what reports, the recency of tiles, the next word and
the draw of the tile's coarse scales. The tile stays bound: the model's choice, log entry 89. -/
def Obligations.ClearedTile : Prop :=
  ∀ (c : CoreId) (h : Hdr) (f : AccF) (s : State) (n : Fin 8), s.issues c h clsAccop false = true →
    s.cores[c].tiles[f.td] = .bound n → (∀ a : Fin 4, f.enable.getLsbD a = true → s.arrayUp c a = true) →
    ∃ t tile, exec (.clearTile c h f) s = .next t
      ∧ (({ s with freeIx := s.freeIx + 1 } : State).updCore c fun k => { k with
          slots := k.slots.set n tile, recency := k.recency.erase f.td ++ [f.td], pc := k.pc + 1 }).Counted c t
      ∧ (∀ a : Fin 4, tile.arr[a] = if f.enable.getLsbD a then TileArr.zero else s.cores[c].slots[n].arr[a])
      ∧ t.cores[c].tiles = s.cores[c].tiles ∧ t.tileOf c f.td = tile

/-- Chains from a source, register-only chains, and the packed conversion (R89, R92, R120 to R123, R136). The model's choices in it: log entries 16, 20, 21, 32, 33, 34, 120, 121, 122 and 123. -/
def Obligations.Chains : Prop := holdsChainsRun ∧ holdsRegisterChains ∧ holdsPackedConversion

/-- Moves (R137, R198, R200) and WINDOW (R192), each with its checks passed: the effect, then the next word. A move from a pipe that
lacks bytes waits for them behind its issue (R142). The model's choices in it: log entries 5, 12, 14 and 38. -/
def Obligations.MovesRun : Prop :=
  movesAs .moveTensor (fun s c f => s.moveStops c 0 f) (fun _ _ => True)
  ∧ ∀ (c : CoreId) (h : Hdr) (f : MoveF) (s : State), s.issues c h clsMove false = true →
    let u := s.countIssued c
    (passes (u.zpackStops c f) = true → runsAs (.zpack c h f) c s fun s => s.zpackRun c f)
    ∧ (passes (u.zunpackStops c f) = true → (u.zunpackRun c f).2 = none →
        runsAs (.zunpack c h f) c s fun s => (s.zunpackRun c f).1)
    ∧ (∀ m, passes (u.zunpackStops c f) = true → (u.zunpackRun c f).2 = some m →
        exec (.zunpack c h f) s = .next (s.ends ((u.zunpackRun c f).1.stopProgram c 0x0A00
          [(s.cores[c].pc, 2), (m.1, 2), (m.2, 1)])))
    ∧ ∀ w : WinF, s.issues c h clsWindow false = true → passes (u.windowStops c w) = true →
        runsAs (.window c h w) c s fun s => s.windowRun c w

/-- Conditional stores under a good, a bad and a foreign verdict (R227, R228). The model's choices in it: log entry 14. -/
def Obligations.ConditionalStore : Prop := holdsGoodStores ∧ holdsBadStores ∧ holdsVerdictMismatch

/-- STX and STV (R137): the register's bytes, little-endian, at the form's address, and nothing else of any memory. -/
def Obligations.RegisterStores : Prop :=
  ∀ (c : CoreId) (h : Hdr) (f : MoveF) (s : State), s.issues c h clsMove false = true →
    let u := s.countIssued c
    let a := (formAddr s c f.dd f).toNat
    (passes (u.regStops c 5 f.dd f 31 8) = true →
      ∃ t, exec (.stx c h f) s = .next t ∧ storesAt c s t a (leBytes (vget 0#64 s.cores[c].x f.reg.val).toNat 8))
    ∧ (passes (u.regStops c 2 f.dd f 31 512) = true →
      ∃ t, exec (.stv c h f) s = .next t
        ∧ storesAt c s t a ((List.range 128).flatMap fun i => leBytes (s.cores[c].lane f.reg.val i).val.toNat 4))

/-- LDV, LDX and LDDESC from words of the core buffer that are clean (R137, R139): the register takes the bytes little-endian, a
descriptor register but for its reserved bits (R3), and every memory is as before. The model's choices in it: log entry 13. -/
def Obligations.RegisterLoads : Prop :=
  ∀ (c : CoreId) (h : Hdr) (f : MoveF) (s : State), s.issues c h clsMove false = true →
    let u := s.countIssued c
    let a := (formAddr s c f.ds f).toNat
    let byte (i : Nat) : Byte := (s.cores[c].buf.read (a + i)).1
    let k := s.cores[c]
    cleanAt k.buf a 512 →
    let passed := k.checked ||| (1#64 <<< f.ds.val)
    (passes (u.regStops c 4 f.ds f 31 8) = true → onCore (.ldx c h f) c s
      { k with pc := k.pc + 1, checked := passed, x := vset k.x f.reg.val (BitVec.ofNat 64 (leNat ((List.range 8).map byte))) })
    ∧ (passes (u.regStops c 3 f.ds f 63 64) = true → onCore (.lddesc c h f) c s
      { k with pc := k.pc + 1, d := k.d.set f.reg (cleanDesc (BitVec.ofNat 512 (leNat ((List.range 64).map byte))))
               checked := passed &&& ~~~(BitVec.twoPow 64 f.reg.val) })
    ∧ (passes (u.regStops c 1 f.ds f 31 512) = true → onCore (.ldv c h f) c s
      { k with pc := k.pc + 1, checked := passed
               v := vset k.v f.reg.val (Vector.ofFn fun i =>
                 ⟨BitVec.ofNat 32 (leNat ((List.range 4).map fun j => byte (4 * i.val + j))), false⟩) })

/-- TABLE (R140, R118): a good image fills the table's shadow copy, while that copy is full or the image still to be written by an
outstanding MOVE it waits; TABLE_SWAP (R57) puts it in force with the version one
higher. The model's choices in it: log entry 39. -/
def Obligations.TableLoads : Prop :=
  ∀ (c : CoreId) (h : Hdr) (f : TabF) (s : State), s.power.clocks = true →
    let u := s.countIssued c
    let image (n : Nat) := (u.markChecked c f.ds).imageBytes c ((s.desc c f.ds).base + f.off.toNat) n
    let k := s.cores[c]
    let waits (n : Nat) : Bool := s.bufferWaits c [((s.desc c f.ds).base + f.off.toNat, n)]
    (s.issues c h clsTable false = true → (waits 64 = true ∨ k.expShadow[f.table] ≠ none) → heldBack (.tableExpansion c h f) c s)
    ∧ (s.issues c h clsTable false = true → (waits 272 = true ∨ k.custShadow[f.table] ≠ none) → heldBack (.tableCustom c h f) c s)
    ∧ (s.issues c h clsTable false = true → waits 64 = false → k.expShadow[f.table] = none → passes (u.tableStops c 0 f 64) = true →
      expImageStop (s.wordOf c) (image 64).1 = none →
      exec (.tableExpansion c h f) s = .next (s.ends (((image 64).2.updCore c fun k =>
        { k with expShadow := k.expShadow.set f.table (some (expImage (image 64).1)) }).advance c)))
    ∧ (s.issues c h clsTable false = true → waits 272 = false → k.custShadow[f.table] = none → passes (u.tableStops c 1 f 272) = true →
      custImageStop f.table (image 272).1 = none →
      exec (.tableCustom c h f) s = .next (s.ends (((image 272).2.updCore c fun k =>
        { k with custShadow := k.custShadow.set f.table (some (custImage (image 272).1)) }).advance c)))
    ∧ (∀ t v, k.expShadow[t] = some v → exec (.tableSwap c false t) s = .next (s.updCore c fun k =>
        { k with exps := k.exps.set t v, expShadow := k.expShadow.set t none, expVer := k.expVer.set t (k.expVer[t] + 1) }))
    ∧ (∀ t v, k.custShadow[t] = some v → exec (.tableSwap c true t) s = .next (s.updCore c fun k =>
        { k with custs := k.custs.set t v, custShadow := k.custShadow.set t none, custVer := k.custVer.set t (k.custVer[t] + 1) }))

/-- RANDOM of every kind (R207 to R209): with its checks passed the draws are written; to a vector register every lane. The model's choices in it: log entries 35 and 36. -/
def Obligations.RandomRuns : Prop :=
  ∀ (c : CoreId) (h : Hdr) (f : RandF) (s : State), s.issues c h clsRandom false = true →
    let u := s.countIssued c
    ∀ p ∈ [(Instr.randomRaw, 0), (.randomUniform, 1), (.randomNormal, 2), (.randomBernoulli, 3)],
      passes (u.randomStops c p.2 f) = true →
      runsAs (p.1 c h f) c s (fun s => s.randomRun c p.2 f)
      ∧ (f.dstKind = 1#2 →
          let v := u.randomVals c p.2 f ((List.range 128).map fun i => (((s.xr c f.xi).toNat + i) % 2 ^ 64, i))
          runsAs (p.1 c h f) c s fun _ => v.2.writeV c f.dst.toNat (BitVec.allOnes 128) false fun i => ⟨v.1.getD i 0#32, false⟩)

/-- Census slots and records, and SEAL (R216 to R219, R223). The model's choices in it: log entries 36 and 37. -/
def Obligations.Census : Prop := holdsCensusSlots ∧ holdsCensusRecords

/-- SIGNAL, WAIT and FENCE, and the rennets that serve them (R144, R261, R262). The model's choices in it: log entries 37, 41, 42, 43 and 117. -/
def Obligations.SignalsAndWaits : Prop := holdsSyncRuns ∧ holdsSyncStops ∧ holdsRennetService

/-- PREEMPT (R146): with no request and no other core ending the launch, a point only ends the interval and goes on; EV-0x0703 is
raised and counted in U+8:02 once for an interval past 8,192 cycles, a second report of the same interval changes nothing (R147, R150). The model's choices in it: log entry 15. -/
def Obligations.PreemptPoints : Prop :=
  (∀ (c : CoreId) (h : Hdr) (s : State) (l : Launch), s.issues c h clsPreempt false = true →
    s.cores[c].launch.bind s.launchAt = some l → s.cores[c].preReq = false →
    (l.cores.all fun k => k.phys != some c || k.fin != .stopping) = true →
    ∃ t, exec (.preempt c h) s = .next t ∧ t.cores[c] = { s.cores[c] with
      pc := s.cores[c].pc + 1, interval := 0, intervalRaised := false, lastPoint := s.cores[c].pc }
      ∧ (∀ d, d ≠ c → t.cores[d] = s.cores[d]) ∧ t.launches = s.launches ∧ t.hbm = s.hbm)
  ∧ (∀ (c : CoreId) (cycles : Nat) (s : State), s.power.clocks = true →
    (8192 < cycles → s.cores[c].run = .running → s.cores[c].intervalRaised = false →
      ∃ t, exec (.preemptIntervalExceeded c cycles) s = .next t
        ∧ t.cores[c] = { s.cores[c] with intervalRaised := true, interval := cycles }
        ∧ t = s.ends (((s.updCore c fun k => { k with intervalRaised := true, interval := cycles }).count
            (ek (unitObj (coreUnit c) 8) 2) 1 0x0406 (corePath c) [(2, 2)]).raise 0x0703 (corePath c) [(s.cores[c].lastPoint, 2), (cycles, 4)])
        ∧ (s.volAt (ek (unitObj (coreUnit c) 8) 2) + 1 < 2 ^ 48 - 1 →
            t.volAt (ek (unitObj (coreUnit c) 8) 2) = s.volAt (ek (unitObj (coreUnit c) 8) 2) + 1))
    ∧ (s.cores[c].intervalRaised = true → exec (.preemptIntervalExceeded c cycles) s = .next s)
    ∧ (cycles ≤ 8192 → exec (.preemptIntervalExceeded c cycles) s = .next s))

/-- END (R141, R289): the core's part of its launch ends: it runs nothing, its tiles are released, and its registers (X, V, M and D) and
every memory are as they were. The model's choices in it: log entries 37 and 47. -/
def Obligations.EndProgram : Prop :=
  ∀ (c : CoreId) (h : Hdr) (f : CtlF) (s : State), s.issues c h clsControl true = true →
    ∃ t, exec (.endProgram c h f) s = .next t ∧ t.cores[c].run = .idle ∧ t.cores[c].launch = none
      ∧ t.cores[c].tiles = Vector.replicate 16 .unbound ∧ t.cores[c].x = s.cores[c].x ∧ t.cores[c].v = s.cores[c].v
      ∧ t.cores[c].d = s.cores[c].d ∧ t.cores[c].m = s.cores[c].m ∧ t.cores[c].buf = s.cores[c].buf ∧ t.hbm = s.hbm
      ∧ t.dieBuf = s.dieBuf ∧ t.hubBuf = s.hubBuf

/-- A predicated instruction whose predicate is off takes its issue cycle, waits for nothing but Xp, and changes nothing but the
next word (R133); a tile instruction of every class. -/
def Obligations.PredicatedOff : Prop :=
  ∀ (c : CoreId) (h : Hdr) (s : State), s.power.clocks = true → s.cores[c].run = .running → s.cores[c].launch.isSome = true →
    s.cores[c].held = [] → s.cores[c].pc < s.cores[c].loaded → s.cores[c].progBad.contains s.cores[c].pc = false →
    h.pred = true → (if h.pneg then s.cores[c].x[h.xp] ≠ 0#64 else s.cores[c].x[h.xp] = 0#64) →
    let off (i : Instr) : Prop := onCore i c s { s.cores[c] with pc := s.cores[c].pc + 1 }
    everyTile c h off

/-- The commands about launches (R286, R298, R301, R203). The model's choices in it: log entry 117. -/
def Obligations.LaunchAperture : Prop := holdsLaunchCommands ∧ holdsLaunchControl

/-- JOIN, LEAVE and GROWTH (R294 to R297, Table 15-2): refused for the listed reasons, or kept for the page work of their stamp. The
model's choices in it: log entries 5 and 51. -/
def Obligations.BatchCommands : Prop :=
  let pendingJoin (s : State) (c : Cmd) : Option JoinRec := s.joins.find? fun j => j.batch == c.batch.val && j.vat == c.vat
  takesAs .joinCommand (fun c => c.code == 5) (fun s c => s.joinChecks (s.newJoin c) c.batch)
    (fun s c => { s with joins := s.joins ++ [s.newJoin c] })
  ∧ takesAs .leaveCommand (fun c => c.code == 6)
    (fun s c => [(!s.batchIn c.vat c.batch.val, 2), (s.seqs[c.batch].state == 0 && (pendingJoin s c).isNone, 6)])
    (fun s c => { s with leaves := s.leaves ++ [⟨c.vat, c.fn, c.slot, c.frame, c.batch.val, c.pair 2, s.beat⟩] })
  ∧ takesAs .growthCommand (fun c => c.code == 7)
    (fun s c => [((List.range 64).any fun b => !s.batchIn c.vat b && c.growth b != 0, 2),
      (decide (c.pair 2 ≤ s.work[c.vat].begun ∧ 0 < s.work[c.vat].begun), 6)])
    (fun s c => { s with growths := s.growths ++ [⟨c.vat, c.fn, c.slot, c.frame, c.pair 2, (List.range 64).map c.growth⟩] })

/-- SWAPAREA, RENNET, LAYOUT and PIPE (Table 15-2). The model's choices in it: log entries 51 and 117. -/
def Obligations.TableCommands : Prop := holdsAreaAndRennetCommands ∧ holdsLayoutCommand ∧ holdsPipeCommands

/-- Frames that are no command yet, and the slot a command takes (R282, R292). The model's choices in it: log entries 54 and 117. -/
def Obligations.CommandFrames : Prop := holdsFrameWrites ∧ holdsSlotPending

/-- An eligible RUN of one core with no precondition and no tag starts (R287, R288, R128): the core runs from the start word
with the record's X registers, V, M and D zero, nothing bound, its tables, program memory and buffer kept. The model's choices in it: log entry 44. -/
def Obligations.RunStarts : Prop :=
  ∀ (slot : Fin 4096) (s : State) (l : Launch) (q : Fin 48) (c : CoreId), s.power.clocks = true →
    s.launchAt slot = some l → (∀ k ∈ s.launches, k.slot ≠ slot.val → s.eligible k = false) → s.mayStart l = true → l.kind = 0 → l.preEn = 0#4 → l.tag = 0#32 → l.reason = 0 →
    l.cores = [⟨q, none, .waiting, 0, false⟩] → s.physOf q = some c →
    ∃ t, exec (.launchEligible slot) s = .next t
      ∧ t.launchAt slot = some { l with started := true, cores := [⟨q, some c, .running, 0, false⟩] }
      ∧ t.cores[c].run = .running ∧ t.cores[c].launch = some slot.val ∧ t.cores[c].pc = l.start ∧ t.cores[c].x = l.xs
      ∧ t.cores[c].v = Vector.replicate 32 (Vector.replicate 128 Lane.zero) ∧ t.cores[c].m = Vector.replicate 8 0#128
      ∧ t.cores[c].d = Vector.replicate 64 0#512 ∧ t.cores[c].tiles = Vector.replicate 16 .unbound
      ∧ t.cores[c].vstat = 0#32 ∧ t.cores[c].buf = s.cores[c].buf ∧ t.cores[c].prog = s.cores[c].prog
      ∧ t.cores[c].exps = s.cores[c].exps ∧ t.cores[c].custs = s.cores[c].custs
      ∧ (∀ d, d ≠ c → t.cores[d] = s.cores[d]) ∧ t.hbm = s.hbm ∧ t.rennets = s.rennets

/-- A launch on its way: eligible, loaded, restored, saved, over its bound, and a seed ready (R203, R287 to R290, R299, R300). The model's choices in it: log entries 11, 45, 46 and 47. -/
def Obligations.LaunchProgress : Prop := holdsLaunchEligibility ∧ holdsTransfersComplete ∧ holdsOverrunOnce ∧ holdsSeedReady

/-- UNITOP with each operation of Table 2-7. The model's choices in it: log entry 54. -/
def Obligations.UnitCommands : Prop :=
  unitopAs .unitHold 1 ∧ unitopAs .unitReadmit 2 ∧ unitopAs .unitTailDrop 3 ∧ unitopAs .unitUpdateImage 4
  ∧ unitopAs .unitRecalibrate 5 ∧ unitopAs .unitReclaim 6

/-- A hold of a READY array that the driver asks for with the array's version and a beat that has come takes effect (R24, R26, R31,
Table 2-6, Table 2-8): HELD with cause [1] and the version one higher on the data path, its command DONE; the management path's view
keeps its state and version until the beat. The model's choices in it: log entries 53, 55 and 106. -/
def Obligations.HoldArray : Prop :=
  ∀ (w : FrameWrite) (s : State) (u : UnitNo), s.power.clocks = true → s.comes w = true →
    let c := s.cmdOf w
    s.takesNone = false → s.host.waiting = [] → s.foreign c.vat u = false →
    c.code = 12 → c.field 1 23 16 = 1 → c.fn = 0 → unitOfPath (c.field 1 15 0) = some u → u.val < 208 →
    s.units[u].dp.state = stReady → BitVec.ofNat 16 (c.field 4 15 0) = s.units[u].dp.version → 0 < c.pair 2 → c.pair 2 ≤ s.beat →
    s.slotIn c.vat c.slot = true → (s.rslot c.slot).state = 0 →
    ∃ t, exec (.unitHold (.frame w)) s = .next t
      ∧ t.units[u].dp = ⟨stHeld, s.units[u].dp.causes ||| 2#8, s.units[u].dp.version + 1⟩
      ∧ t.units[u].mg = { s.units[u].mg with causes := t.units[u].dp.causes }
      ∧ t.units[u].lastBeat = s.beat ∧ t.units[u].opStatus = 2 ∧ (t.rslot c.slot).state = 2
      ∧ (∀ m, m ≠ u → t.units[m] = s.units[m]) ∧ t.cores = s.cores

/-- Units between their states (R23, R25, R29, R398). The model's choices in it: log entries 22, 53 and 127. -/
def Obligations.UnitLife : Prop := holdsTransitionsCount ∧ holdsUnitProgress ∧ holdsLoadOutcome

/-- Faults that arise in units (R85, R106, R214, R416). The model's choices in it: log entries 23, 55, 56, 102 and 128. -/
def Obligations.UnitFaults : Prop := holdsOperandFaults ∧ holdsLaneAndCultureFaults ∧ holdsDieAndHubFaults

/-- Uncorrectable and corrected errors of memories and links (R414, R415). The model's choices in it: log entries 56, 118 and 129. -/
def Obligations.MemoryErrors : Prop := holdsBufferErrors ∧ holdsLinkAndThreshold

/-- The page keeper's work and the ends of swaps (R181, R184 to R186), and a pipe's closing (R259). The model's choices in it: log entries 48, 49 and 50. -/
def Obligations.PagesAndSwaps : Prop := holdsPageWork ∧ holdsSwaps

/-- Clearing, scrubbing, shadowing, relocation and stack failure (R240, R241, R246, R248, R374): GRANULE_CLEAR of the lowest uncleared
granule leaves its bytes zero and its words unmarked, and every other byte and mark as it was; SHADOW_MOVE_GRANULE gives the granule's new
place the bytes of its old one and keeps every other byte. The order of a move is log entry 109's. -/
def Obligations.StorageSteps : Prop :=
  (∀ (d : Fin 4) (g : Nat) (s : State), s.power.clocks = true → s.shadowMove = none →
    s.lowestUncleared d.val = some (d.val * 2 ^ 25 + g) →
    ∃ t, exec (.granuleClear d g) s = .next t
      ∧ (∀ a, a / 4096 = d.val * 2 ^ 25 + g → Sparse.get 0#8 t.hbm.bytes a = 0#8)
      ∧ (∀ a, a / 4096 ≠ d.val * 2 ^ 25 + g → Sparse.get 0#8 t.hbm.bytes a = Sparse.get 0#8 s.hbm.bytes a)
      ∧ (∀ w, w / 256 = d.val * 2 ^ 25 + g → Sparse.get 0 t.hbm.marks w = 0)
      ∧ (∀ w, w / 256 ≠ d.val * 2 ^ 25 + g → Sparse.get 0 t.hbm.marks w = Sparse.get 0 s.hbm.marks w)
      ∧ t.cores = s.cores ∧ t.dieBuf = s.dieBuf ∧ t.vol = s.vol)
  ∧ (∀ (p : ScrubReport) (s : State), s.power.clocks = true → s.cfgAt (ek (0xD040 + p.die.val) 4) ≠ 0 → exec (.scrubPass p) s = .next s)
  ∧ (∀ (p : ScrubReport) (s : State), s.cfgAt (ek (0xD040 + p.die.val) 4) = 0 → s.dieAnswers (p.die.val * 2 ^ 37) = true →
    (s.clearing p.die.val = false → s.reloc[p.die] = none → (s.hbm.marks.all fun k => k.1 / 2 ^ 33 != p.die.val) = true →
      let onDie (s : State) (k n : Nat) : State :=
        s.count (ek (0xD050 + 3 * p.die.val + k) 4) n 0x0D08 (diePath p.die.val) [(0xD050 + 3 * p.die.val + k, 2), (4, 2)]
      leaves (.scrubPass p) s ((onDie (onDie (onDie s 0 p.n0) 1 p.n1) 2 p.n2).scrubDone p.die.val))
    ∧ ((s.clearing p.die.val = true ∨ s.reloc[p.die] ≠ none) → (s.volAt (ek (0xD040 + p.die.val) 8)).testBit 62 = false →
      leaves (.scrubPass p) s (s.setVol (ek (0xD040 + p.die.val) 8) (s.volAt (ek (0xD040 + p.die.val) 8) + 2 ^ 62))))
  ∧ (∀ (s : State) (m : ShadowMove), s.shadowMove = some m → m.early = [] → m.copied + 1 < m.granules → s.power.clocks = true →
    let i := m.place m.copied
    let a := s.rawKey (m.origin i)
    let b := s.rawKey (m.goal i)
    let r := s.resolve .hbm a 4096
    ∃ t, exec .shadowMoveGranule s = .next t ∧ t.shadowMove = some { m with copied := m.copied + 1 } ∧ t.cores = s.cores
      ∧ t.volAt (ek 0xD000 7) = m.granules - (m.copied + 1)
      ∧ (r.dieAnswers a = true → r.dieAnswers b = true → Sparse.wf 0#8 r.hbm.bytes = true →
        (∀ x, x / 4096 = b / 4096 → Sparse.get 0#8 t.hbm.bytes x = Sparse.get 0#8 r.hbm.bytes (a / 4096 * 4096 + x % 4096))
        ∧ ∀ x, x / 4096 ≠ b / 4096 → Sparse.get 0#8 t.hbm.bytes x = Sparse.get 0#8 r.hbm.bytes x))
  ∧ (∀ (d : Fin 4) (s : State) (r : Reloc), s.reloc[d] = some r → r.begun = true → r.next + 1 < setRows → r.early = [] →
    let u : State := { s with reloc := s.reloc.set d (some r) }
    leaves (.relocateGranule d) s (u.relocateRow d r.next))
  ∧ ∀ (k : Fin 12) (cause : Nat) (s : State),
    (s.volAt (ek (0xD050 + k.val) 1) = 2 → leaves (.hbmStackFailure k cause) s s)
    ∧ (s.volAt (ek (0xD050 + k.val) 1) ≠ 2 → leaves (.hbmStackFailure k cause) s
        ((({ s with reloc := s.reloc.set (⟨k.val / 3, by omega⟩ : Fin 4) none } : State).setVol (ek (0xD050 + k.val) 1) 2).raise
          0x0D07 (diePath (k.val / 3)) [(k.val, 1), (cause, 1)]))

/-- A beat begins at its instant (R318): the next beat, or a later one that is announced or follows only missed symbols; an older
or unannounced one is refused under EV-0x1002, and before its instant nothing happens. An echo the last symbol called for is answered
before the beat (R316). The model's choices in it: log entries 59, 85 and 111. -/
def Obligations.Beats : Prop :=
  (∀ (now at_ : Nat) (bits : BitVec 192) (s : State), s.ust uPackage ≠ stAbsent → s.croak.symbol = some (bits, at_) →
    let y := Symbol.of bits
    let e := s.echoDone
    let stop := y.stop && !e.isMaster
    (now < at_ → leaves (.beatBegin now) s s)
    ∧ (at_ ≤ now → e.croak.fresh = false →
      (y.beat = e.beat + 1 → leaves (.beatBegin now) s ((e.beginBeat y.beat at_ .next stop fun s => s.joinGroup y).updCroak
        fun k => { k with op := k.carried, carried := none }))
      ∧ (e.beat + 1 < y.beat → (y.jump = true ∨ y.beat - e.beat - 1 ≤ e.croak.missed) →
        leaves (.beatBegin now) s ((e.beginBeat y.beat at_ .jump stop fun s => s.joinGroup y).updCroak
          fun k => { k with op := k.carried, carried := none }))
      ∧ (y.beat ≤ e.beat → leaves (.beatBegin now) s ((e.updCroak fun k => { k with symbol := none }).raise 0x1002 0x300A
          [(e.beat, 8), (y.beat, 8), (1, 1)]))
      ∧ (e.beat + 1 < y.beat → y.jump = false → e.croak.missed < y.beat - e.beat - 1 →
        leaves (.beatBegin now) s ((e.updCroak fun k => { k with symbol := none }).raise 0x1002 0x300A
          [(e.beat, 8), (y.beat, 8), (2, 1)]))))
  ∧ (∀ s : State, s.croak.echoed = none → s.echoDone = s)
  ∧ ∀ (n : Fin 32) (s : State), s.croak.echoed = some n →
      ∃ d u, s.echoDone = State.raise u 0x1007 0x300A [(n.val, 1), (d, 4)] ∧ u.croak = { s.croak with echoed := none }
        ∧ u.volAt (ek 0xB011 (n.val + 1)) = d ∧ (s.croak.echo = none → u.volAt (ek 0xB000 10) = 0xFF)

/-- Symbols and notices of the Croak interface (R304 to R317). The model's choices in it: log entries 59, 60, 111 and 132. -/
def Obligations.CroakBus : Prop := holdsBusSymbols ∧ holdsGroupNotices

/-- A result slot is released by its current generation while its state is final, and ignores every other write, which counts in
0x8500+v:07 (R293). -/
def Obligations.SlotRelease : Prop :=
  ∀ (fn : FnNo) (r : Nat) (value : Word) (secure : Bool) (s : State), s.power.clocks = true → s.fnExists fn = true →
    s.barOn fn 0 = true → s.ideOk fn secure = true → s.slotSeen fn r = true →
    let ignored : State := match s.slotVat r with
      | some v => s.countVat v 7
      | none => s
    let first : Nat := if fn = 0 then 0 else s.cfgAt (ek 0x2024 fn.val)
    (2 ≤ (s.rslot r).state → value = (s.rslot r).w[0] →
      ∃ t, exec (.resultSlotRelease fn r value secure) s = .next t ∧ t = { s with results := t.results }
        ∧ (Sparse.wf RSlot.reset s.results = true →
          (t.rslot r).state = 0 ∧ (∀ i : Fin 16, i.val ≠ 1 → (t.rslot r).w[i] = (s.rslot r).w[i]))
        ∧ ∀ q, q ≠ r → t.rslot q = s.rslot q)
    ∧ ((s.rslot r).state < 2 ∨ value ≠ (s.rslot r).w[0] →
      leaves (.resultSlotRelease fn r value secure) s ignored
      ∧ ∃ t, exec (.resultSlotRelease fn r value secure) s = .next t ∧ t.results = s.results)
    ∧ ∀ (k : Nat) (bs : List Byte), k < 64 → (k ≠ 0 ∨ bs.length ≠ 4) →
      leaves (.registerWrite fn (.bar0 ((if fn = 0 then 0x100000 else 0x40000) + 64 * (r - first) + k)) bs secure) s ignored

/-- What the host reads and writes (R325, R326, R330, R333). The model's choices in it: log entries 66 and 112. -/
def Obligations.HostAccess : Prop := holdsBar4 ∧ holdsHostRegisters

/-- Link happenings, resets, virtual functions and IDE (R324, R333, R334). The model's choices in it: log entries 66 and 112. -/
def Obligations.HostLinkAndResets : Prop := holdsHostLink ∧ holdsFunctionResets

/-- Psiger segments, what each does in its turn, and their order (R339, R342, R345, R346). The model's choices in it: log entries 25, 67 and 110. -/
def Obligations.Fabric : Prop := holdsSegments ∧ holdsSegmentEffects ∧ holdsSegmentOrder

/-- Fabric timers and links (R337 to R340, R344 to R347, Table 18-7): what each sends, loses or marks; a binding that takes no segments
has no timers; a link that goes down reads 0, leaves every spray set under EV-0x1200, and what it carried is sent again. The model's choices in it: log entries 67 and 69. -/
def Obligations.FabricTimers : Prop :=
  (∀ (b : Fin 4096) (q : Word) (s : State),
    (s.bindingTakes b.val = false → leaves (.retransmitTimeout b q) s s ∧ leaves (.gapTimeout b) s s ∧ leaves (.ackTimer b) s s
      ∧ leaves (.peerLossTimeout b) s s)
    ∧ (s.bindingTakes b.val = true → leaves (.retransmitTimeout b q) s (s.resend b.val q)
      ∧ ((s.binding b.val).early ≠ [] → leaves (.gapTimeout b) s (s.psigerControl b.val 2 1 0 0 []))
      ∧ ((s.binding b.val).sent ≠ [] → leaves (.peerLossTimeout b) s (s.peerLost b.val 1))
      ∧ (let l := s.toTell false b.val
        let t := (s.updBinding b.val fun r => { r with ackDue := false }).told l
        let w7 (n : Fin 1024) : Nat := mapRemote (t.pipeMap n.val) * 2 ^ 22
        (l = [] → (s.binding b.val).ackDue = false → leaves (.ackTimer b) s s)
        ∧ (∀ c rest, l = c :: rest → leaves (.ackTimer b) s (l.foldl (fun s c => s.psigerSend b.val 3 1 c.2.toNat (w7 c.1) [])
            (t.psigerControl b.val 1 1 c.2.toNat (w7 c.1) [])))
        ∧ (l = [] → (s.binding b.val).ackDue = true →
          ((∀ n, s.inbound n false b.val = false) → leaves (.ackTimer b) s (t.psigerControl b.val 1 1 0 0 []))
          ∧ ∀ n, s.inbound n false b.val = true → (∀ m, m < n → s.inbound m false b.val = false) →
            leaves (.ackTimer b) s (t.psigerControl b.val 1 1 (s.freedOf n).toNat (w7 n) [])))))
  ∧ (∀ (p : Fin 8) (sa : Option (Fin 64)) (s : State),
    let st := s.volAt (ek (0xC008 + p.val) 5)
    let can := s.ust (portUnit p) ≠ stAbsent ∧ s.ust (portUnit p) ≠ stCold ∧ s.ust (portUnit p) ≠ stLoading
    let up := (s.setVol (ek (0xC008 + p.val) 5) 2).raise 0x1200 (portPath p.val) [(2, 1)]
    (st = 0 → leaves (.fabricLinkDown p) s s ∧ (can → leaves (.fabricLinkUp p) s up))
    ∧ (st = 1 → can → leaves (.fabricLinkUp p) s { up with fports := up.fports.set p { up.fports[p] with spray := true } })
    ∧ (st = 2 → leaves (.fabricLinkUp p) s s ∧ leaves (.pauseFrameReceive ⟨p, sa⟩) s
        ((if s.macsecOk p sa then s else s.macsecDiscard p).countFabric 7 1))
    ∧ (st ≠ 2 → leaves (.pauseFrameReceive ⟨p, sa⟩) s s)
    ∧ (st ≠ 0 →
      let down := (s.setVol (ek (0xC008 + p.val) 5) 0).raise 0x1200 (portPath p.val) [(0, 1)]
      let u : State := { down with fports := down.fports.set p { down.fports[p] with spray := false } }
      let due := u.bindings.flatMap fun r => (r.2.sent.filter fun g => g.port == some p.val).map fun g => (r.1, g.seq)
      leaves (.fabricLinkDown p) s (due.foldl (fun s d => s.resend d.1 d.2) u).pathsLost
      ∧ (s.power.clocks = true → ∃ t, exec (.fabricLinkDown p) s = .next t ∧ t.volAt (ek (0xC008 + p.val) 5) = 0
        ∧ (t.fports[p]).spray = false ∧ t.cores = s.cores ∧ t.hbm = s.hbm)))
  ∧ ∀ (m : Solicitation) (s : State),
    let own := s.ownAddresses m.port
    let hit := s.portCarries m.port && m.target != zeros 16 && own.1.contains m.target
    (∀ p, m.port = some p → s.portCarries m.port = true → s.macsecOk p m.sa = false →
      leaves (.neighbourSolicitation m) s (s.macsecDiscard p))
    ∧ ((∀ p, m.port = some p → s.macsecOk p m.sa = true) →
      (hit = false → leaves (.neighbourSolicitation m) s s)
      ∧ (hit = true → leaves (.neighbourSolicitation m) s (match m.port with
        | some p => s.send ⟨.fabric, 1, [p.val, own.2, s.txSa p], m.target ++ m.source⟩
        | none => s.send ⟨.mgmt, 4, [own.2], m.target ++ m.source⟩)))

/-- A packet moves along an open pipe (R255, R256, R258), and a remote signal refused for room is sent again under a new sequence
(R266); while the twin link is up its signals are taken (R264, R265). The model's choices in it: log entries 48, 67, 77 and 92. -/
def Obligations.PipesAndSignals : Prop :=
  (∀ (n : Fin 1024) (s : State), (s.retries.all fun r => r.src != .pipe n) = true →
    ((s.pipes[n].state ≠ 1 ∧ s.pipes[n].state ≠ 2) → leaves (.pipePacketAdvance n) s
      ((s.sendNotices n (s.pipes[n].owed + 3)).stopWriter n))
    ∧ (s.pipes[n].waiting = [] → s.stopWriter n = s)
    ∧ ((s.pipes[n].state = 1 ∨ s.pipes[n].state = 2) → leaves (.pipePacketAdvance n) s
        (((((s.moveOne n).sendNotices n (s.pipes[n].owed + 3)).sendPacket n).feedSlice n).updPipe n fun p => Pipe.fill (p.waiting.length + 4) p)))
  ∧ (∀ (q : Peer) (seq : Word) (s : State) (r : PeerRec) (g : SentSignal), s.peer q = some r → r.reconciling = false →
    r.sent.find? (fun g => g.seq == seq && g.full) = some g →
    let h : SentSignal := { g with seq := r.nextSeq, full := false }
    leaves (.remoteSignalResend q seq) s ((s.updPeer q fun r => { r with
      nextSeq := r.nextSeq + 1#32, sent := (r.sent.filter fun x => !(x.seq == seq && x.full)) ++ [h] }).sendSignal q h))
  ∧ ∀ (bs : List Byte) (s : State), s.volAt (ek 0xC010 3) = 2 →
    leaves (.remoteSignalReceive (.twin bs)) s ((s.owe 2 bs.length).receiveSignal .twin 0 (signalOf .twin bs))
    ∧ leaves (.remoteSignalOutcome (.twin bs)) s ((s.owe 1 bs.length).settle .twin 0 (payWord bs 0) (outcomeOf (payWord bs 1).toNat))

/-- The twin link and the pair (R30, R348 to R350, R391). The model's choices in it: log entries 25, 68, 106 and 117. -/
def Obligations.Twin : Prop := holdsTwinLink ∧ holdsTwinPair

/-- Shadow records and exports (R351, R352, R355): bytes that make no record do nothing; data are written into the half of their epoch within its size, a commit names the half
current under EV-0x1207, an abort clears a refusal, and an export is over when all of it is acknowledged. The model's choices in it: log entries 68 and 126. -/
def Obligations.ShadowAndExport : Prop :=
  (∀ (r : ShadowRecord) (i : State), i.volAt (ek 0xC010 3) = 2 →
    let s := i.owe 0 (64 + r.data.length)
    let leaves (c : Instr) (_ t : State) : Prop := leaves c i t
    (wholeRecord r = false → exec (.shadowData r) i = .next i ∧ exec (.shadowCommit r) i = .next i ∧ exec (.shadowAbort r) i = .next i)
    ∧ (wholeRecord r = true →
    let half := s.shadowSize / 2
    let e := shadowEpoch r
    let n := shadowOffset r
    (shadowWord r 0 ≠ 0x4B534844 → shadowKind r = 0 → leaves (.shadowData r) s (s.shadowRefused r 1))
    ∧ (shadowWord r 0 = 0x4B534844 → s.epochOk r = false → shadowKind r ≤ 1 →
        leaves (if shadowKind r = 0 then .shadowData r else .shadowCommit r) s (s.shadowRefused r 2))
    ∧ (shadowWord r 0 = 0x4B534844 → s.epochOk r = true →
      (shadowKind r = 0 → half < n + r.data.length → leaves (.shadowData r) s (s.shadowRefused r 3))
      ∧ (shadowKind r = 0 → n + r.data.length ≤ half →
          leaves (.shadowData r) s ((s.writeShadow (e % 2 * half + n) r.data).countFabric 8 r.data.length))
      ∧ (shadowKind r = 1 → half < n → leaves (.shadowCommit r) s (s.shadowRefused r 4))
      ∧ (shadowKind r = 1 → n ≤ half →
          let t := ((s.setVol (ek 0xC300 1) e).setVol (ek 0xC300 2) n).setVol (ek 0xC300 3) (e % 2)
          leaves (.shadowCommit r) s (((t.setVol (ek 0xC300 4) t.beat).hubSignal .twin r.vat (shadowWord r 6 / 2 ^ 16) 1).raise
            0x1207 0x3009 [(e, 4), (n, 8), (e % 2, 1)]))
      )
    ∧ (shadowWord r 0 = 0x4B534844 → shadowKind r = 2 → (s.epochOk r = true ∨ s.twin.refused.contains (shadowEpoch r) = true) →
      leaves (.shadowAbort r) s { s with twin := { s.twin with refused := s.twin.refused.filter (· != shadowEpoch r) } })))
  ∧ (∀ (s : State), s.exporting = none → leaves .exportComplete s s)
  ∧ ∀ (s : State) (t : Transfer), s.exporting = some t →
    let b := s.cfgAt (ek 0xC310 1)
    let waits := (s.binding b).sent.any (fun g => segType ⟨g.header, [], none⟩ == 10) || (s.binding b).held.any fun h => h.typ == 10
    ((t.done < t.size ∨ waits = true) → leaves .exportComplete s s)
    ∧ (t.size ≤ t.done → waits = false → leaves .exportComplete s
        ((State.setVol { s with exporting := none } (ek 0xC310 2) 2).raise 0x1208 0x3009 [(s.bindPeer b, 4), (t.size, 8), (0, 1)]))

/-- Codec records and frames (R362, R363, R367, R371). The model's choices in it: log entries 29, 70 and 71. -/
def Obligations.Codec : Prop := holdsCodecRecords ∧ holdsCodecFrames

/-- Reads, writes and unit operations over the object protocol: in every form, and where nothing refuses them (R26, R375 to R379, R384). The model's choices in it: log entries 62, 80 and 130. -/
def Obligations.KopEntries : Prop := holdsKopEntryForms ∧ holdsKopEntryEffects

/-- Writes with effects of their own, generations and images (R281, R377, R385 to R389, R398, R406). The model's choices in it: log entries 25, 27, 62 and 65. -/
def Obligations.KopChanges : Prop := holdsKopSpecialWrites ∧ holdsKopGenerations ∧ holdsKopChangeEffects

/-- Sessions and attestation over the object protocol: in every form, and where nothing refuses them (R402, R403, R405). The model's choices in it: log entries 64, 65 and 131. -/
def Obligations.KopSessions : Prop := holdsKopSessionForms ∧ holdsKopSessionEffects

/-- The checks of a message in their order (R381): a wrong magic, an unknown session and a wrong authenticator are dropped with reasons
1, 2 and 3; session 0 is not on this port; an old sequence is answered 0x07, the last one with the stored response, and a newer one is served. The model's choices in it: log entries 62 and 64. -/
def Obligations.KopChecks : Prop :=
  ∀ (m : KopMsg) (s : State), m.via = .port → s.ust (hubUnit 11) = stReady ∨ s.ust (hubUnit 11) = stRunning → rowOf m = .status →
    (m.magic ≠ 0x4B4F#32 → leaves (.kopStatus m) s (s.dropMsg .port 1))
    ∧ (m.magic = 0x4B4F#32 → m.session = 0 → leaves (.kopStatus m) s (s.dropMsg .port 2))
    ∧ (m.magic = 0x4B4F#32 → m.session ≠ 0 →
      (s.session m.session = none → leaves (.kopStatus m) s (s.dropMsg .port 2))
      ∧ ∀ x, s.session m.session = some x →
        (x.half = true → leaves (.kopStatus m) s (s.dropMsg .port 2))
        ∧ (x.half = false → m.auth ≠ authOf x.key (msgBytes m) → leaves (.kopStatus m) s (s.dropMsg .port 3))
        ∧ (x.half = false → m.auth = authOf x.key (msgBytes m) →
          ((m.seq = x.last ∨ m.seq - x.last = 0x80000000#32) → ∀ r, x.reply = some r → leaves (.kopStatus m) s (s.send ⟨.kop, 0, [], r.data⟩))
          ∧ (seqNewer m.seq x.last = false → m.seq ≠ x.last → m.seq - x.last ≠ 0x80000000#32 → x.id ≠ 0 →
            let body := kopHeader 0x4B4F (m.typ.toNat + 0x80) 7 m.session m.seq.toNat (idxOf m) (subOf m) m.staged 0 m.offset
            leaves (.kopStatus m) s ((s.countDict 2).send ⟨.kop, 0, [], body ++ authOf x.key body⟩))
          ∧ (seqNewer m.seq x.last = true → x.id ≠ 0 → leaves (.kopStatus m) s (s.answer x m 0
            (leBytes (s.volAt (ek 0x2000 1)) 4 ++ leBytes (s.volAt (ek 0x2000 2)) 4 ++ leBytes (s.volAt (ek 0x2000 4)) 1
              ++ leBytes (s.volAt (ek 0x2000 3)) 8)))))

/-- Sessions end by timeout, images are verified, and debug unlocks (R398, R403, R405, R406): only an open session idles out and only a
half times out; a verified slot is valid with its hash and version; an unlock
zeroes the buffers, the HBM, the retransmit copies, the seeds, launch and MACsec keys and the operator entries, and closes every other session. The model's choices in it: log entry 65. -/
def Obligations.SecurityTimers : Prop :=
  (∀ (id : Nat) (s : State), s.session id = none → leaves (.sessionIdleTimeout id) s s ∧ leaves (.proofTimeout id) s s)
  ∧ (∀ (id : Nat) (x : Session) (s : State), s.session id = some x →
    ((x.half = true ∨ x.id = 0) → leaves (.sessionIdleTimeout id) s s)
    ∧ (x.half = false → x.id ≠ 0 → leaves (.sessionIdleTimeout id) s (s.dropSession id))
    ∧ (x.half = false → leaves (.proofTimeout id) s s)
    ∧ (x.half = true → leaves (.proofTimeout id) s ((s.dropSession id).sessionRefused x.role.number 3)))
  ∧ (∀ (k : Fin 6) (s : State), (s.slotState (k.val + 1) ≠ 2 → leaves (.imageVerifyComplete k) s s)
    ∧ (s.slotState (k.val + 1) = 2 →
      let b := s.images[k].bytes
      (∀ c, ((s.imageChecks (k.val + 1) b).find? fun c => !c.2) = some c → leaves (.imageVerifyComplete k) s
        (((s.setSlot (k.val + 1) 4 ImageSlot.reset).raise 0x1500 0x5000 [(k.val + 1, 1), (c.1, 1)]).countSecure 3))
      ∧ (((s.imageChecks (k.val + 1) b).all fun c => c.2) = true → leaves (.imageVerifyComplete k) s
        ((s.setSlot (k.val + 1) 3 ⟨b, (b.drop 16).take 64, imgWord b 2⟩).loadCold (k.val + 1)))))
  ∧ (∀ (s : State), s.unlocking = none → leaves .debugUnlockComplete s s)
  ∧ ∀ (s : State) (id : Nat), s.power.clocks = true → s.unlocking = some id →
    ∃ t, exec .debugUnlockComplete s = .next t ∧ t.unlocking = none ∧ t.volAt (ek 0xA000 5) = 1
      ∧ t.sessions = s.sessions.filter (fun x => x.id == 0 || x.id == id) ∧ t.fuseBanks = s.fuseBanks
      ∧ (∀ c : CoreId, (t.cores[c]).buf = Mem.empty) ∧ (∀ d : Fin 4, t.dieBuf[d] = Mem.empty) ∧ t.hubBuf = Mem.empty ∧ t.hbm = Mem.empty
      ∧ (∀ p ∈ t.bindings, ∀ g ∈ p.2.sent, (∀ w ∈ g.header, w = 0#32) ∧ ∀ b ∈ g.payload, b = 0#8)
      ∧ (∀ v : VatNo, (t.seeds[v]).zeroed = true) ∧ (∀ l ∈ t.launches, l.key = 0#128)
      ∧ (∀ p : Fin 8, (t.fports[p]).keys = [] ∧ (t.fports[p]).newKeys = [])
      ∧ ∀ i, i < 256 → t.cfgAt (ek 0xA020 i) = entryDefault (ek 0xA020 i)

/-- Throttling, temperature and the thermal trip (R428 to R432). The model's choices in it: log entries 72 and 79. -/
def Obligations.PowerAndHeat : Prop := holdsPowerSteps ∧ holdsThermalTrip

/-- Power-good and the loss of power (R425, R426, R435): a package that loses power keeps fused entries and HBM3E storage alone, and one
that gains it starts as if new with the units it detects COLD, or LOADING where they need no image. The model's choices in it: log entries 9, 22 and 74. -/
def Obligations.PowerTransitions : Prop :=
  (∀ (s : State), s.power.on = true →
    ∃ t, exec .powerLoss s = .next t ∧ t.power.on = false ∧ t.power.clocks = false
      ∧ t = { State.reset with
        pending := s.pending, out := t.out, freeIx := s.freeIx, fuseBanks := s.fuseBanks, hbm := s.hbm, power := t.power })
  ∧ (∀ (s : State), s.power.on = false → exec .powerLoss s = .next s)
  ∧ (∀ (p : PartStart) (s : State), s.power.on = true → exec (.powerGood p) s = .next s)
  ∧ ∀ (p : PartStart) (s : State), s.power.on = false →
    ∃ t, exec (.powerGood p) s = .next t ∧ t.power.on = true ∧ t.power.clocks = true ∧ t.power.tripped = false
      ∧ t.fuseBanks = s.fuseBanks ∧ t.hbm = s.hbm ∧ t.cores = State.reset.cores ∧ t.sessions = State.reset.sessions
      ∧ t.launches = [] ∧ t.pending = s.pending
      ∧ ∀ u : UnitNo, t.ust u = if u ∈ p.detected ∧ u ≠ uPair ∧ u ≠ uGroup then (if startsAlone u then stLoading else stCold)
          else stAbsent

/-- The test access port (R452): held in Test-Logic-Reset while the package has no power, debug is locked or TRST_N is low; else a rising
edge moves it by TMS, and it touches nothing else of the machine but what it draws. The model's choices in it: log entry 73. -/
def Obligations.TestAccessPort : Prop :=
  ∀ (p : TapPins) (s : State),
    ((s.power.on = false ∨ s.volAt (ek 0xA000 5) = 0 ∨ p.trstN = false) →
      exec (.testAccessPortClock p) s = .next { s with tap := Tap.reset })
    ∧ (s.power.on = true → s.volAt (ek 0xA000 5) ≠ 0 → p.trstN = true →
      (p.rising = true → ∃ t, exec (.testAccessPortClock p) s = .next t ∧ t.tap.state = s.tap.state.next p.tms
        ∧ t.tap.ir = s.tap.ir ∧ t = { s with tap := t.tap, freeIx := s.freeIx + 1 }
        ∧ (s.tap.state = .shiftDr → t.tap.dr = s.tap.dr.tail ++ [p.tdi])
        ∧ (s.tap.state = .shiftIr → t.tap.irShift = s.tap.irShift.tail ++ [p.tdi])
        ∧ (s.tap.state = .captureDr → s.tap.ir = Config.tapIdcode → t.tap.dr = (List.range 32).map fun i => tapId.getLsbD i))
      ∧ (p.rising = false → ∃ t, exec (.testAccessPortClock p) s = .next t ∧ t.tap.state = s.tap.state
        ∧ t = { s with tap := t.tap } ∧ (s.tap.state = .updateIr → t.tap.ir = s.tap.irShift)
        ∧ (s.tap.state = .shiftDr → t.tap.tdo = s.tap.dr.head?)))
    ∧ (((((s.tap.state.next true).next true).next true).next true).next true) = .testLogicReset

/-- A step runs the command at the front of the queue on the state with the queue's rest. The model's choice (log entry 3): a step on an
empty queue tries the commands, messages, signals and instructions held back, and with none of them leaves the state as it is. -/
def Obligations.StepRunsFront : Prop :=
  (∀ (c : Instr) (s : State), s.pending = [] → step s = s.idle ∧ step { s with pending := [c] } = exec c s)
  ∧ (∀ s : State, s.pending = [] → s.host.waiting = [] → s.host.late = [] →
      (∀ c : CoreId, s.cores[c].held = [] ∧ s.cores[c].moving = none ∧ s.cores[c].syncQ = [] ∧ s.cores[c].wait = none) →
      (∀ r ∈ s.peers, r.early = [] ∧ r.queued = []) → step s = .next s)
  ∧ ∀ (c : Instr) (rest : List Instr) (s : State), step { s with pending := c :: rest } = exec c { s with pending := rest }

/-- Every command answers a next state from every state, and leaves the queue as it is. The model's choices in it: log entry 5. -/
def Obligations.EveryCommandAnswers : Prop := ∀ (c : Instr) (s : State), ∃ t, exec c s = .next t ∧ t.pending = s.pending

/-- With the clocks stopped, by a trip or for want of power, every command but the lines of the board and the test access port leaves the
whole state as it is (R425, R432). The model's choices in it: log entries 9 and 73. -/
def Obligations.ClocksStopped : Prop :=
  ∀ (c : Instr) (s : State), s.power.clocks = false → (∀ p, c ≠ .powerGood p) → c ≠ .powerLoss →
    (∀ b, c ≠ .throttleNChange b) → (∀ p, c ≠ .testAccessPortClock p) → exec c s = .next s

/-- Every step keeps the invariant of power (R425, R426, R432): clocks run only in a powered package, a tripped one has none, and a
package without power holds nothing but fused entries and HBM3E storage. The model's choices in it: log entry 9. -/
def Obligations.PowerInvariant : Prop := ∀ s t : State, s.Powered → step s = .next t → t.Powered

/-- Every step keeps the one canonical form of every memory, of the frames being assembled and of the result slots: addresses rising, and nothing
listed that reads as an unlisted address does (R236, R282, R293). The model's choices in it: log entry 7. -/
def Obligations.CanonicalForms : Prop := ∀ s t : State, s.Canonical → step s = .next t → t.Canonical

/-- The invariants of power and of canonical form hold at reset, where nothing is powered, every unit is ABSENT, and no memory lists a byte. The model's choices in it: log entry 9. -/
def Obligations.PowerAtReset : Prop :=
  State.reset.Powered ∧ State.reset.Canonical ∧ State.reset.pending = [] ∧ (∀ u, State.reset.ust u = stAbsent) ∧ State.reset.hbm = Mem.empty
  ∧ (∀ c : CoreId, (State.reset.cores[c]).buf = Mem.empty) ∧ State.reset.launches = [] ∧ State.reset.rennets = []

/-- Memory (R236, Table 13-3): a write is read back and leaves every other byte, in words that are clean; a write of part of a
poisoned word loses its bytes and leaves the word poisoned; a write of all of it clears the poison. The model's choices in it: log entry 7. -/
def Obligations.MemoryWrites : Prop :=
  ∀ (m : Mem) (a : Nat) (bs : List Byte), m.wf = true →
    let t := m.write (cellsAt a bs)
    (∀ b, b < a ∨ a + bs.length ≤ b → (t.read b).1 = (m.read b).1)
    ∧ (cleanAt m a bs.length → ∀ i, i < bs.length → t.read (a + i) = (bs.getD i 0#8, false))
    ∧ (∀ w, a / 16 = w → 0 < bs.length → bs.length < 16 → a % 16 + bs.length ≤ 16 → 2 ≤ Sparse.get 0 m.marks w →
        (∀ i, i < 16 → t.read (16 * w + i) = ((m.read (16 * w + i)).1, true)))
    ∧ (∀ w, a = 16 * w → bs.length = 16 → ∀ i, i < 16 → t.read (a + i) = (bs.getD i 0#8, false))

/-- LDX of poisoned data, LDDESC of a poisoned image, and a reduction or scan whose result would be poisoned, stop before they
write: EV-0x0704 with the word and the register, and the program stopped with a fault result (R139). -/
def Obligations.PoisonedResults : Prop :=
  (∀ (c : CoreId) (h : Hdr) (f : MoveF) (s : State), s.issues c h clsMove false = true →
    let u := s.countIssued c
    let a := (formAddr s c f.ds f).toNat
    let stop := exec (.ldx c h f) s = .next (s.ends ((u.markChecked c f.ds).stopProgram c 0x0704 [(s.cores[c].pc, 2), (f.reg.val, 1)]))
    (poisonedRange s.cores[c].buf a 8 → passes (u.regStops c 4 f.ds f 31 8) = true → stop)
    ∧ (poisonedRange s.cores[c].buf a 64 → passes (u.regStops c 3 f.ds f 63 64) = true →
        exec (.lddesc c h f) s = .next (s.ends ((u.markChecked c f.ds).stopProgram c 0x0704
          [(s.cores[c].pc, 2), (f.reg.val, 1)]))))
  ∧ holdsReductionStops
  ∧ scanPoisonAs .scanInclFadd false 0#32 (fun _ => fpScan FVal.add) ∧ scanPoisonAs .scanInclFmax false negInf32 (fun _ => fpScan maxVal)
  ∧ scanPoisonAs .scanInclFmin false inf32 (fun _ => fpScan minVal) ∧ scanPoisonAs .scanInclIadd false 0#32 (fun f => intScan f.sat)
  ∧ scanPoisonAs .scanExclFadd true 0#32 (fun _ => fpScan FVal.add) ∧ scanPoisonAs .scanExclFmax true negInf32 (fun _ => fpScan maxVal)
  ∧ scanPoisonAs .scanExclFmin true inf32 (fun _ => fpScan minVal) ∧ scanPoisonAs .scanExclIadd true 0#32 (fun f => intScan f.sat)

/-- A reduction of no active lane gives the value of Table 5-3 and sets EMPTY; one of clean active lanes clears EMPTY (R98). -/
def Obligations.EmptyReductions : Prop :=
  ∀ (c : CoreId) (h : Hdr) (f : VecF) (s : State), s.issues c h clsVector false = true →
    let k := s.cores[c]
    let act := (List.range 128).filter fun i => (k.mask f.mask).getLsbD i
    ∀ p ∈ [(Instr.sumLanes, 0#32), (.prodLanes, 0x3F800000#32), (.vectorMax, 0xFF800000#32), (.vectorMin, 0x7F800000#32),
        (.countLanes, 0#32), (.meanLanes, 0#32), (.varLanes, 0#32), (.argmax, 0xFFFFFFFF#32), (.argmin, 0xFFFFFFFF#32)],
      (act = [] → onCore (p.1 c h f) c s
        { k with x := k.x.set f.xd (p.2.zeroExtend 64), vstat := k.vstat ||| 1#32, pc := k.pc + 1 })
      ∧ (act ≠ [] → (∀ i ∈ act, (k.lane f.va i).poison = false) →
        ∃ t, exec (p.1 c h f) s = .next t ∧ t.cores[c].vstat.getLsbD 0 = false
          ∧ ∀ b, b ≠ 0 → t.cores[c].vstat.getLsbD b = k.vstat.getLsbD b)
end

