-- ==== Sys2Proof/Laws/Command.lean ====
section
/-! SUPPORT. What the shared intake of an aperture command does: `State.command` and `State.takeCmd` (R282, R284, R281). -/

set_option Elab.async false
namespace Sys2Proof.Machine

/-- Clearing a command's frame leaves the slots' ranges and every slot as they are. -/
theorem State.cleared_slots (s : State) (w) : (s.cleared w).slotIn = s.slotIn ∧ (s.cleared w).rslot = s.rslot
    ∧ (s.cleared w).takesNone = s.takesNone ∧ (s.cleared w).host.waiting = s.host.waiting := by
  have h : ∃ F, s.cleared w = { s with funcs := F } := by
    unfold State.cleared State.written State.frameBody; split <;> exact ⟨_, rfl⟩
  obtain ⟨F, h⟩ := h
  rw [h]
  refine ⟨?_, ?_, ?_, rfl⟩
  · funext v r; simp only [State.slotIn, State.cfgAt]; exact decide_eq_decide.mpr Iff.rfl
  · funext r; simp only [State.rslot]
  · simp only [State.takesNone, State.away, State.ust, State.view]

/-- A frame write that comes whole and is of the row: its frame cleared, its command taken, or waiting while none is taken. -/
theorem State.command_of (s : State) (w) (mine eff) (hc : s.comes w = true) (hm : mine (s.cmdOf w) = true) :
    s.command w mine eff = if s.takesNone || !s.host.waiting.isEmpty then
      { s.cleared w with host := { (s.cleared w).host with waiting := (s.cleared w).host.waiting ++ [s.cmdOf w] } }
    else (s.cleared w).takeCmd (s.cmdOf w) eff := by
  simp only [State.comes, Bool.and_eq_true] at hc
  obtain ⟨⟨a, b⟩, c⟩ := hc
  obtain ⟨-, -, hn, hw⟩ := s.cleared_slots w
  rw [← hn, ← hw]
  unfold State.cmdOf State.written at hm
  simp only [State.command, a, b, c]
  simp only [hm, if_true, Bool.not_true, Bool.false_eq_true, if_false]
  rfl

/-- A list of checks gives the first refusal, or the effect. -/
theorem checkAll_cases (l : List (Bool × Nat)) (a : State) :
    (∀ b, (l.find? fun p => p.1) = some b → checkAll l (.ok a) = .error ⟨b.2, none⟩)
    ∧ ((l.all fun p => !p.1) = true → checkAll l (.ok a : Except Refused State) = .ok a) := by
  constructor
  · intro b h; simp [checkAll, h, refuse]
  · intro h
    have : l.find? (fun p => p.1) = none := by
      rw [List.find?_eq_none]; intro x hx; have := List.all_eq_true.mp h x hx; simpa using this
    simp [checkAll, this]

/-- A row whose effect is its checks and then `post` takes its command as R284, R281 and Table 22-7 say. -/
theorem takesAs_of {mk : FrameWrite → Instr} {mine checks post} (eff : State → Cmd → Except Refused State)
    (he : ∀ w s, exec (mk w) s = s.clocked (s.command w mine eff))
    (hk : ∀ t c, mine c = true →
      (∀ b, ((checks t c).find? fun p => p.1) = some b → eff t c = .error ⟨b.2, none⟩)
      ∧ (((checks t c).all fun p => !p.1) = true → eff t c = .ok (post t c))) :
    takesAs mk mine checks post := by
  intro w s hclk hcm hm c t z
  have key := he w s
  rw [s.command_of w mine eff hcm hm] at key
  simp only [State.clocked, hclk, if_true] at key
  obtain ⟨hi, hr, -, -⟩ := s.cleared_slots w
  refine ⟨fun h => ?_, fun h1 h2 => ?_⟩
  · have : (s.takesNone || !s.host.waiting.isEmpty) = true := by
      rcases h with h | h
      · simp [h]
      · cases hw : s.host.waiting <;> simp_all
    rw [if_pos this] at key; exact key
  have hno : ¬ (s.takesNone || !s.host.waiting.isEmpty) = true := by simp [h1, h2]
  rw [if_neg hno] at key
  refine ⟨fun h => ?_, fun g1 g2 => ?_⟩
  · rw [key]; congr 2
    have : (!(s.cleared w).slotIn c.vat c.slot || ((s.cleared w).rslot c.slot).state != 0) = true := by
      rcases h with h | h
      · rw [hi, h]; rfl
      · rw [hr]; simp [h]
    unfold State.takeCmd; rw [if_pos this]
  · have hn : ¬ (!(s.cleared w).slotIn c.vat c.slot || ((s.cleared w).rslot c.slot).state != 0) = true := by
      rw [hi, hr, g1, g2]; decide
    have k2 : exec (mk w) s = .next (s.ends (if !t.vatRunning c.vat && !whileStopped c.code then t.refuseCmd c ⟨7, none⟩
      else match eff t c with | .ok s' => s' | .error r => t.refuseCmd c r)) := by
      rw [key]; unfold State.takeCmd; rw [if_neg hn]; rfl
    refine ⟨?_, ?_⟩
    · intro a b; rw [k2]; simp [a, b]
    · intro a
      have hg : ¬ (!t.vatRunning c.vat && !whileStopped c.code) = true := by
        revert a; cases t.vatRunning c.vat <;> cases whileStopped c.code <;> simp
      rw [if_neg hg] at k2
      refine ⟨fun b hb => ?_, fun hb => ?_⟩
      · rw [k2, (hk t c hm).1 b hb]
      · rw [k2, (hk t c hm).2 hb]

end Sys2Proof.Machine
end

