-- ==== Sys2Proof/Laws/Exec.lean ====
section
/-! SUPPORT. The meaning `exec` gives each command, by name, for proofs that need not look at the whole of `exec`. -/

set_option Elab.async false
namespace Sys2Proof.Machine

theorem exec_sweep (c : CoreId) (h : Hdr) (f : SweepF) (s : State) : exec (.sweep c h f) s = execSweep c h f s := rfl
theorem exec_minPlus (c : CoreId) (h : Hdr) (f : SweepF) (s : State) : exec (.minPlus c h f) s = execMinPlus c h f s := rfl
theorem exec_maxPlus (c : CoreId) (h : Hdr) (f : SweepF) (s : State) : exec (.maxPlus c h f) s = execMaxPlus c h f s := rfl
theorem exec_l1Sweep (c : CoreId) (h : Hdr) (f : SweepF) (s : State) : exec (.l1Sweep c h f) s = execL1Sweep c h f s := rfl
theorem exec_squaredL2 (c : CoreId) (h : Hdr) (f : SweepF) (s : State) : exec (.squaredL2 c h f) s = execSquaredL2 c h f s := rfl
theorem exec_clearTile (c : CoreId) (h : Hdr) (f : AccF) (s : State) : exec (.clearTile c h f) s = execClearTile c h f s := rfl
theorem exec_fillTile (c : CoreId) (h : Hdr) (f : AccF) (s : State) : exec (.fillTile c h f) s = execFillTile c h f s := rfl
theorem exec_copyTile (c : CoreId) (h : Hdr) (f : AccF) (s : State) : exec (.copyTile c h f) s = execCopyTile c h f s := rfl
theorem exec_addTile (c : CoreId) (h : Hdr) (f : AccF) (s : State) : exec (.addTile c h f) s = execAddTile c h f s := rfl
theorem exec_subTile (c : CoreId) (h : Hdr) (f : AccF) (s : State) : exec (.subTile c h f) s = execSubTile c h f s := rfl
theorem exec_accopMax (c : CoreId) (h : Hdr) (f : AccF) (s : State) : exec (.accopMax c h f) s = execAccopMax c h f s := rfl
theorem exec_accopMin (c : CoreId) (h : Hdr) (f : AccF) (s : State) : exec (.accopMin c h f) s = execAccopMin c h f s := rfl
theorem exec_scaleTile (c : CoreId) (h : Hdr) (f : AccF) (s : State) : exec (.scaleTile c h f) s = execScaleTile c h f s := rfl
theorem exec_scaleRow (c : CoreId) (h : Hdr) (f : AccF) (s : State) : exec (.scaleRow c h f) s = execScaleRow c h f s := rfl
theorem exec_scaleCol (c : CoreId) (h : Hdr) (f : AccF) (s : State) : exec (.scaleCol c h f) s = execScaleCol c h f s := rfl
theorem exec_addCol (c : CoreId) (h : Hdr) (f : AccF) (s : State) : exec (.addCol c h f) s = execAddCol c h f s := rfl
theorem exec_accopLoad (c : CoreId) (h : Hdr) (f : AccF) (s : State) : exec (.accopLoad c h f) s = execAccopLoad c h f s := rfl
theorem exec_chainDrain (c : CoreId) (h : Hdr) (f : ChainF) (s : State) : exec (.chainDrain c h f) s = execChainDrain c h f s := rfl
theorem exec_chainTensor (c : CoreId) (h : Hdr) (f : ChainF) (s : State) : exec (.chainTensor c h f) s = execChainTensor c h f s := rfl
theorem exec_chainRegister (c : CoreId) (h : Hdr) (f : ChainF) (s : State) : exec (.chainRegister c h f) s = execChainRegister c h f s := rfl
theorem exec_smaxEnd (c : CoreId) (h : Hdr) (f : ChainF) (s : State) : exec (.smaxEnd c h f) s = execSmaxEnd c h f s := rfl
theorem exec_nstatFast (c : CoreId) (h : Hdr) (f : ChainF) (s : State) : exec (.nstatFast c h f) s = execNstatFast c h f s := rfl
theorem exec_nstatMean (c : CoreId) (h : Hdr) (f : ChainF) (s : State) : exec (.nstatMean c h f) s = execNstatMean c h f s := rfl
theorem exec_nstatStable (c : CoreId) (h : Hdr) (f : ChainF) (s : State) : exec (.nstatStable c h f) s = execNstatStable c h f s := rfl
theorem exec_nstatRms (c : CoreId) (h : Hdr) (f : ChainF) (s : State) : exec (.nstatRms c h f) s = execNstatRms c h f s := rfl
theorem exec_fadd (c : CoreId) (h : Hdr) (f : VecF) (s : State) : exec (.fadd c h f) s = execFadd c h f s := rfl
theorem exec_fsub (c : CoreId) (h : Hdr) (f : VecF) (s : State) : exec (.fsub c h f) s = execFsub c h f s := rfl
theorem exec_fmul (c : CoreId) (h : Hdr) (f : VecF) (s : State) : exec (.fmul c h f) s = execFmul c h f s := rfl
theorem exec_ffma (c : CoreId) (h : Hdr) (f : VecF) (s : State) : exec (.ffma c h f) s = execFfma c h f s := rfl
theorem exec_fmin (c : CoreId) (h : Hdr) (f : VecF) (s : State) : exec (.fmin c h f) s = execFmin c h f s := rfl
theorem exec_fmax (c : CoreId) (h : Hdr) (f : VecF) (s : State) : exec (.fmax c h f) s = execFmax c h f s := rfl
theorem exec_iadd (c : CoreId) (h : Hdr) (f : VecF) (s : State) : exec (.iadd c h f) s = execIadd c h f s := rfl
theorem exec_isub (c : CoreId) (h : Hdr) (f : VecF) (s : State) : exec (.isub c h f) s = execIsub c h f s := rfl
theorem exec_imul (c : CoreId) (h : Hdr) (f : VecF) (s : State) : exec (.imul c h f) s = execImul c h f s := rfl
theorem exec_selLanes (c : CoreId) (h : Hdr) (f : VecF) (s : State) : exec (.selLanes c h f) s = execSelLanes c h f s := rfl
theorem exec_bcast (c : CoreId) (h : Hdr) (f : VecF) (s : State) : exec (.bcast c h f) s = execBcast c h f s := rfl
theorem exec_mov (c : CoreId) (h : Hdr) (f : VecF) (s : State) : exec (.mov c h f) s = execMov c h f s := rfl
theorem exec_fcmp (c : CoreId) (h : Hdr) (f : VecF) (s : State) : exec (.fcmp c h f) s = execFcmp c h f s := rfl
theorem exec_maskop (c : CoreId) (h : Hdr) (f : VecF) (s : State) : exec (.maskop c h f) s = execMaskop c h f s := rfl
theorem exec_vectorCvt (c : CoreId) (h : Hdr) (f : VecF) (s : State) : exec (.vectorCvt c h f) s = execVectorCvt c h f s := rfl
theorem exec_sumLanes (c : CoreId) (h : Hdr) (f : VecF) (s : State) : exec (.sumLanes c h f) s = execSumLanes c h f s := rfl
theorem exec_prodLanes (c : CoreId) (h : Hdr) (f : VecF) (s : State) : exec (.prodLanes c h f) s = execProdLanes c h f s := rfl
theorem exec_vectorMax (c : CoreId) (h : Hdr) (f : VecF) (s : State) : exec (.vectorMax c h f) s = execVectorMax c h f s := rfl
theorem exec_vectorMin (c : CoreId) (h : Hdr) (f : VecF) (s : State) : exec (.vectorMin c h f) s = execVectorMin c h f s := rfl
theorem exec_countLanes (c : CoreId) (h : Hdr) (f : VecF) (s : State) : exec (.countLanes c h f) s = execCountLanes c h f s := rfl
theorem exec_meanLanes (c : CoreId) (h : Hdr) (f : VecF) (s : State) : exec (.meanLanes c h f) s = execMeanLanes c h f s := rfl
theorem exec_varLanes (c : CoreId) (h : Hdr) (f : VecF) (s : State) : exec (.varLanes c h f) s = execVarLanes c h f s := rfl
theorem exec_argmax (c : CoreId) (h : Hdr) (f : VecF) (s : State) : exec (.argmax c h f) s = execArgmax c h f s := rfl
theorem exec_argmin (c : CoreId) (h : Hdr) (f : VecF) (s : State) : exec (.argmin c h f) s = execArgmin c h f s := rfl
theorem exec_scanInclFadd (c : CoreId) (h : Hdr) (f : VecF) (s : State) : exec (.scanInclFadd c h f) s = execScanInclFadd c h f s := rfl
theorem exec_scanInclFmax (c : CoreId) (h : Hdr) (f : VecF) (s : State) : exec (.scanInclFmax c h f) s = execScanInclFmax c h f s := rfl
theorem exec_scanInclFmin (c : CoreId) (h : Hdr) (f : VecF) (s : State) : exec (.scanInclFmin c h f) s = execScanInclFmin c h f s := rfl
theorem exec_scanInclIadd (c : CoreId) (h : Hdr) (f : VecF) (s : State) : exec (.scanInclIadd c h f) s = execScanInclIadd c h f s := rfl
theorem exec_scanExclFadd (c : CoreId) (h : Hdr) (f : VecF) (s : State) : exec (.scanExclFadd c h f) s = execScanExclFadd c h f s := rfl
theorem exec_scanExclFmax (c : CoreId) (h : Hdr) (f : VecF) (s : State) : exec (.scanExclFmax c h f) s = execScanExclFmax c h f s := rfl
theorem exec_scanExclFmin (c : CoreId) (h : Hdr) (f : VecF) (s : State) : exec (.scanExclFmin c h f) s = execScanExclFmin c h f s := rfl
theorem exec_scanExclIadd (c : CoreId) (h : Hdr) (f : VecF) (s : State) : exec (.scanExclIadd c h f) s = execScanExclIadd c h f s := rfl
theorem exec_moveTensor (c : CoreId) (h : Hdr) (f : MoveF) (s : State) : exec (.moveTensor c h f) s = execMoveTensor c h f s := rfl
theorem exec_ldv (c : CoreId) (h : Hdr) (f : MoveF) (s : State) : exec (.ldv c h f) s = execLdv c h f s := rfl
theorem exec_stv (c : CoreId) (h : Hdr) (f : MoveF) (s : State) : exec (.stv c h f) s = execStv c h f s := rfl
theorem exec_lddesc (c : CoreId) (h : Hdr) (f : MoveF) (s : State) : exec (.lddesc c h f) s = execLddesc c h f s := rfl
theorem exec_ldx (c : CoreId) (h : Hdr) (f : MoveF) (s : State) : exec (.ldx c h f) s = execLdx c h f s := rfl
theorem exec_stx (c : CoreId) (h : Hdr) (f : MoveF) (s : State) : exec (.stx c h f) s = execStx c h f s := rfl
theorem exec_zpack (c : CoreId) (h : Hdr) (f : MoveF) (s : State) : exec (.zpack c h f) s = execZpack c h f s := rfl
theorem exec_zunpack (c : CoreId) (h : Hdr) (f : MoveF) (s : State) : exec (.zunpack c h f) s = execZunpack c h f s := rfl
theorem exec_vtensor (c : CoreId) (h : Hdr) (f : MoveF) (s : State) : exec (.vtensor c h f) s = execVtensor c h f s := rfl
theorem exec_vsplit (c : CoreId) (h : Hdr) (f : MoveF) (s : State) : exec (.vsplit c h f) s = execVsplit c h f s := rfl
theorem exec_window (c : CoreId) (h : Hdr) (f : WinF) (s : State) : exec (.window c h f) s = execWindow c h f s := rfl
theorem exec_tableExpansion (c : CoreId) (h : Hdr) (f : TabF) (s : State) : exec (.tableExpansion c h f) s = execTableExpansion c h f s := rfl
theorem exec_tableCustom (c : CoreId) (h : Hdr) (f : TabF) (s : State) : exec (.tableCustom c h f) s = execTableCustom c h f s := rfl
theorem exec_tableSwap (c : CoreId) (custom : Bool) (t : Fin 8) (s : State) : exec (.tableSwap c custom t) s = execTableSwap c custom t s := rfl
theorem exec_signalRennet (c : CoreId) (h : Hdr) (f : SyncF) (s : State) : exec (.signalRennet c h f) s = execSignalRennet c h f s := rfl
theorem exec_signalRetry (c : CoreId) (s : State) : exec (.signalRetry c) s = execSignalRetry c s := rfl
theorem exec_waitRennet (c : CoreId) (h : Hdr) (f : SyncF) (s : State) : exec (.waitRennet c h f) s = execWaitRennet c h f s := rfl
theorem exec_waitSatisfied (n : Fin 65536) (s : State) : exec (.waitSatisfied n) s = execWaitSatisfied n s := rfl
theorem exec_fence (c : CoreId) (h : Hdr) (f : SyncF) (s : State) : exec (.fence c h f) s = execFence c h f s := rfl
theorem exec_randomRaw (c : CoreId) (h : Hdr) (f : RandF) (s : State) : exec (.randomRaw c h f) s = execRandomRaw c h f s := rfl
theorem exec_randomUniform (c : CoreId) (h : Hdr) (f : RandF) (s : State) : exec (.randomUniform c h f) s = execRandomUniform c h f s := rfl
theorem exec_randomNormal (c : CoreId) (h : Hdr) (f : RandF) (s : State) : exec (.randomNormal c h f) s = execRandomNormal c h f s := rfl
theorem exec_randomBernoulli (c : CoreId) (h : Hdr) (f : RandF) (s : State) : exec (.randomBernoulli c h f) s = execRandomBernoulli c h f s := rfl
theorem exec_nop (c : CoreId) (h : Hdr) (f : CtlF) (s : State) : exec (.nop c h f) s = execNop c h f s := rfl
theorem exec_endProgram (c : CoreId) (h : Hdr) (f : CtlF) (s : State) : exec (.endProgram c h f) s = execEndProgram c h f s := rfl
theorem exec_br (c : CoreId) (h : Hdr) (f : CtlF) (s : State) : exec (.br c h f) s = execBr c h f s := rfl
theorem exec_brc (c : CoreId) (h : Hdr) (f : CtlF) (s : State) : exec (.brc c h f) s = execBrc c h f s := rfl
theorem exec_loopX (c : CoreId) (h : Hdr) (f : CtlF) (s : State) : exec (.loopX c h f) s = execLoopX c h f s := rfl
theorem exec_xalu (c : CoreId) (h : Hdr) (f : CtlF) (s : State) : exec (.xalu c h f) s = execXalu c h f s := rfl
theorem exec_ximm (c : CoreId) (h : Hdr) (f : CtlF) (s : State) : exec (.ximm c h f) s = execXimm c h f s := rfl
theorem exec_dset (c : CoreId) (h : Hdr) (f : CtlF) (s : State) : exec (.dset c h f) s = execDset c h f s := rfl
theorem exec_spillarea (c : CoreId) (h : Hdr) (f : CtlF) (s : State) : exec (.spillarea c h f) s = execSpillarea c h f s := rfl
theorem exec_xget (c : CoreId) (h : Hdr) (f : CtlF) (s : State) : exec (.xget c h f) s = execXget c h f s := rfl
theorem exec_preempt (c : CoreId) (h : Hdr) (s : State) : exec (.preempt c h) s = execPreempt c h s := rfl
theorem exec_attach (c : CoreId) (h : Hdr) (f : CenF) (s : State) : exec (.attach c h f) s = execAttach c h f s := rfl
theorem exec_detach (c : CoreId) (h : Hdr) (f : CenF) (s : State) : exec (.detach c h f) s = execDetach c h f s := rfl
theorem exec_censusScan (c : CoreId) (h : Hdr) (f : CenF) (s : State) : exec (.censusScan c h f) s = execCensusScan c h f s := rfl
theorem exec_censusStore (c : CoreId) (h : Hdr) (f : CenF) (s : State) : exec (.censusStore c h f) s = execCensusStore c h f s := rfl
theorem exec_censusClear (c : CoreId) (h : Hdr) (f : CenF) (s : State) : exec (.censusClear c h f) s = execCensusClear c h f s := rfl
theorem exec_seal (c : CoreId) (h : Hdr) (f : CenF) (s : State) : exec (.seal c h f) s = execSeal c h f s := rfl
theorem exec_preemptIntervalExceeded (c : CoreId) (cycles : Nat) (s : State) : exec (.preemptIntervalExceeded c cycles) s = execPreemptIntervalExceeded c cycles s := rfl
theorem exec_launchRun (w : FrameWrite) (s : State) : exec (.launchRun w) s = execLaunchRun w s := rfl
theorem exec_launchLoad (w : FrameWrite) (s : State) : exec (.launchLoad w) s = execLaunchLoad w s := rfl
theorem exec_launchRestore (w : FrameWrite) (s : State) : exec (.launchRestore w) s = execLaunchRestore w s := rfl
theorem exec_launchEligible (slot : Fin 4096) (s : State) : exec (.launchEligible slot) s = execLaunchEligible slot s := rfl
theorem exec_loadCopyComplete (slot : Fin 4096) (s : State) : exec (.loadCopyComplete slot) s = execLoadCopyComplete slot s := rfl
theorem exec_restoreLoadComplete (slot : Fin 4096) (s : State) : exec (.restoreLoadComplete slot) s = execRestoreLoadComplete slot s := rfl
theorem exec_contextSaveComplete (slot : Fin 4096) (s : State) : exec (.contextSaveComplete slot) s = execContextSaveComplete slot s := rfl
theorem exec_launchOverrun (c : CoreId) (s : State) : exec (.launchOverrun c) s = execLaunchOverrun c s := rfl
theorem exec_preemptCommand (w : FrameWrite) (s : State) : exec (.preemptCommand w) s = execPreemptCommand w s := rfl
theorem exec_cancelCommand (w : FrameWrite) (s : State) : exec (.cancelCommand w) s = execCancelCommand w s := rfl
theorem exec_seedCommand (w : FrameWrite) (s : State) : exec (.seedCommand w) s = execSeedCommand w s := rfl
theorem exec_seedKeyReady (v : VatNo) (s : State) : exec (.seedKeyReady v) s = execSeedKeyReady v s := rfl
theorem exec_joinCommand (w : FrameWrite) (s : State) : exec (.joinCommand w) s = execJoinCommand w s := rfl
theorem exec_leaveCommand (w : FrameWrite) (s : State) : exec (.leaveCommand w) s = execLeaveCommand w s := rfl
theorem exec_growthCommand (w : FrameWrite) (s : State) : exec (.growthCommand w) s = execGrowthCommand w s := rfl
theorem exec_layoutCommand (w : FrameWrite) (s : State) : exec (.layoutCommand w) s = execLayoutCommand w s := rfl
theorem exec_swapAreaCommand (w : FrameWrite) (s : State) : exec (.swapAreaCommand w) s = execSwapAreaCommand w s := rfl
theorem exec_pipeOpen (w : FrameWrite) (s : State) : exec (.pipeOpen w) s = execPipeOpen w s := rfl
theorem exec_pipeClose (w : FrameWrite) (s : State) : exec (.pipeClose w) s = execPipeClose w s := rfl
theorem exec_pipeConfigure (w : FrameWrite) (s : State) : exec (.pipeConfigure w) s = execPipeConfigure w s := rfl
theorem exec_pipeCloseComplete (p : Fin 1024) (s : State) : exec (.pipeCloseComplete p) s = execPipeCloseComplete p s := rfl
theorem exec_pipePacketAdvance (p : Fin 1024) (s : State) : exec (.pipePacketAdvance p) s = execPipePacketAdvance p s := rfl
theorem exec_rennetCommand (w : FrameWrite) (s : State) : exec (.rennetCommand w) s = execRennetCommand w s := rfl
theorem exec_unitHold (r : UnitSrc) (s : State) : exec (.unitHold r) s = execUnitHold r s := rfl
theorem exec_unitReadmit (r : UnitSrc) (s : State) : exec (.unitReadmit r) s = execUnitReadmit r s := rfl
theorem exec_unitTailDrop (r : UnitSrc) (s : State) : exec (.unitTailDrop r) s = execUnitTailDrop r s := rfl
theorem exec_unitUpdateImage (r : UnitSrc) (s : State) : exec (.unitUpdateImage r) s = execUnitUpdateImage r s := rfl
theorem exec_unitRecalibrate (r : UnitSrc) (s : State) : exec (.unitRecalibrate r) s = execUnitRecalibrate r s := rfl
theorem exec_unitReclaim (r : UnitSrc) (s : State) : exec (.unitReclaim r) s = execUnitReclaim r s := rfl
theorem exec_unitDrainComplete (u : UnitNo) (s : State) : exec (.unitDrainComplete u) s = execUnitDrainComplete u s := rfl
theorem exec_drainLimitPassed (u : UnitNo) (micros : Nat) (s : State) : exec (.drainLimitPassed u micros) s = execDrainLimitPassed u micros s := rfl
theorem exec_loadingComplete (u : UnitNo) (r : SelfTest) (s : State) : exec (.loadingComplete u r) s = execLoadingComplete u r s := rfl
theorem exec_aggregateReevaluate (u : UnitNo) (s : State) : exec (.aggregateReevaluate u) s = execAggregateReevaluate u s := rfl
theorem exec_arrayOperandFault (c : CoreId) (f : OperandFault) (s : State) : exec (.arrayOperandFault c f) s = execArrayOperandFault c f s := rfl
theorem exec_laneGroupFault (c : CoreId) (group : Fin 9) (f : UnitFault) (s : State) : exec (.laneGroupFault c group f) s = execLaneGroupFault c group f s := rfl
theorem exec_cultureFault (c : CoreId) (f : UnitFault) (s : State) : exec (.cultureFault c f) s = execCultureFault c f s := rfl
theorem exec_onchipUncorrectable (f : ChipError) (s : State) : exec (.onchipUncorrectable f) s = execOnchipUncorrectable f s := rfl
theorem exec_linkFlitUncorrectable (f : LinkError) (s : State) : exec (.linkFlitUncorrectable f) s = execLinkFlitUncorrectable f s := rfl
theorem exec_correctedErrorThreshold (e : CorrectedErrors) (s : State) : exec (.correctedErrorThreshold e) s = execCorrectedErrorThreshold e s := rfl
theorem exec_dieFault (d : DieError) (s : State) : exec (.dieFault d) s = execDieFault d s := rfl
theorem exec_hubFault (s : State) : exec .hubFault s = execHubFault s := rfl
theorem exec_pageWork (v : VatNo) (s : State) : exec (.pageWork v) s = execPageWork v s := rfl
theorem exec_pageWorkEnd (v : VatNo) (s : State) : exec (.pageWorkEnd v) s = execPageWorkEnd v s := rfl
theorem exec_swapOutComplete (b : Fin 64) (s : State) : exec (.swapOutComplete b) s = execSwapOutComplete b s := rfl
theorem exec_swapInComplete (b : Fin 64) (data : List Byte) (s : State) : exec (.swapInComplete b data) s = execSwapInComplete b data s := rfl
theorem exec_swapTransferFailed (b : Fin 64) (status : Nat) (s : State) : exec (.swapTransferFailed b status) s = execSwapTransferFailed b status s := rfl
theorem exec_granuleClear (d : Fin 4) (granule : Nat) (s : State) : exec (.granuleClear d granule) s = execGranuleClear d granule s := rfl
theorem exec_scrubPass (p : ScrubReport) (s : State) : exec (.scrubPass p) s = execScrubPass p s := rfl
theorem exec_shadowMoveGranule (s : State) : exec .shadowMoveGranule s = execShadowMoveGranule s := rfl
theorem exec_relocateGranule (d : Fin 4) (s : State) : exec (.relocateGranule d) s = execRelocateGranule d s := rfl
theorem exec_hbmStackFailure (stack : Fin 12) (cause : Nat) (s : State) : exec (.hbmStackFailure stack cause) s = execHbmStackFailure stack cause s := rfl
theorem exec_beatSymbolReceive (sym : BitVec 192) (mark : Bool) (markNs : Nat) (s : State) : exec (.beatSymbolReceive sym mark markNs) s = execBeatSymbolReceive sym mark markNs s := rfl
theorem exec_beatBegin (now : Nat) (s : State) : exec (.beatBegin now) s = execBeatBegin now s := rfl
theorem exec_beatSymbolSend (p : BusSample) (s : State) : exec (.beatSymbolSend p) s = execBeatSymbolSend p s := rfl
theorem exec_beatMissed (now : Nat) (s : State) : exec (.beatMissed now) s = execBeatMissed now s := rfl
theorem exec_holdNotice (node : Fin 32) (s : State) : exec (.holdNotice node) s = execHoldNotice node s := rfl
theorem exec_releaseNotice (node : Fin 32) (s : State) : exec (.releaseNotice node) s = execReleaseNotice node s := rfl
theorem exec_memberLossNotice (node : Fin 32) (s : State) : exec (.memberLossNotice node) s = execMemberLossNotice node s := rfl
theorem exec_groupRequestForward (r : GroupRequest) (s : State) : exec (.groupRequestForward r) s = execGroupRequestForward r s := rfl
theorem exec_ptpMessage (m : PtpMessage) (s : State) : exec (.ptpMessage m) s = execPtpMessage m s := rfl
theorem exec_resultSlotRelease (fn : FnNo) (slot : Nat) (value : Word) (secure : Bool) (s : State) : exec (.resultSlotRelease fn slot value secure) s = execResultSlotRelease fn slot value secure s := rfl
theorem exec_bar4Read (fn : FnNo) (off : Nat) (len : Nat) (secure : Bool) (s : State) : exec (.bar4Read fn off len secure) s = execBar4Read fn off len secure s := rfl
theorem exec_bar4Write (fn : FnNo) (off : Nat) (data : List Byte) (secure : Bool) (s : State) : exec (.bar4Write fn off data secure) s = execBar4Write fn off data secure s := rfl
theorem exec_registerWrite (fn : FnNo) (w : HostReg) (data : List Byte) (secure : Bool) (s : State) : exec (.registerWrite fn w data secure) s = execRegisterWrite fn w data secure s := rfl
theorem exec_hostLinkRecovery (rate : Nat) (width : Nat) (s : State) : exec (.hostLinkRecovery rate width) s = execHostLinkRecovery rate width s := rfl
theorem exec_hostLinkBelowMinimum (rate : Nat) (width : Nat) (s : State) : exec (.hostLinkBelowMinimum rate width) s = execHostLinkBelowMinimum rate width s := rfl
theorem exec_hostLinkDown (s : State) : exec .hostLinkDown s = execHostLinkDown s := rfl
theorem exec_flrPhysical (s : State) : exec .flrPhysical s = execFlrPhysical s := rfl
theorem exec_flrVirtual (n : Fin 16) (s : State) : exec (.flrVirtual n) s = execFlrVirtual n s := rfl
theorem exec_ideIntegrityFailure (stream : Nat) (fn : FnNo) (s : State) : exec (.ideIntegrityFailure stream fn) s = execIdeIntegrityFailure stream fn s := rfl
theorem exec_fabricLinkDown (p : Fin 8) (s : State) : exec (.fabricLinkDown p) s = execFabricLinkDown p s := rfl
theorem exec_fabricLinkUp (p : Fin 8) (s : State) : exec (.fabricLinkUp p) s = execFabricLinkUp p s := rfl
theorem exec_psigerData (p : Fin 8) (g : Segment) (s : State) : exec (.psigerData p g) s = execPsigerData p g s := rfl
theorem exec_psigerAck (p : Fin 8) (g : Segment) (s : State) : exec (.psigerAck p g) s = execPsigerAck p g s := rfl
theorem exec_psigerNak (p : Fin 8) (g : Segment) (s : State) : exec (.psigerNak p g) s = execPsigerNak p g s := rfl
theorem exec_psigerCredit (p : Fin 8) (g : Segment) (s : State) : exec (.psigerCredit p g) s = execPsigerCredit p g s := rfl
theorem exec_remoteSignalReceive (m : FromPeer) (s : State) : exec (.remoteSignalReceive m) s = execRemoteSignalReceive m s := rfl
theorem exec_remoteSignalOutcome (m : FromPeer) (s : State) : exec (.remoteSignalOutcome m) s = execRemoteSignalOutcome m s := rfl
theorem exec_remoteSignalResend (peer : Peer) (seq : Word) (s : State) : exec (.remoteSignalResend peer seq) s = execRemoteSignalResend peer seq s := rfl
theorem exec_psigerReconcile (p : Fin 8) (g : Segment) (s : State) : exec (.psigerReconcile p g) s = execPsigerReconcile p g s := rfl
theorem exec_psigerProbe (p : Fin 8) (g : Segment) (s : State) : exec (.psigerProbe p g) s = execPsigerProbe p g s := rfl
theorem exec_psigerProbeReply (p : Fin 8) (g : Segment) (s : State) : exec (.psigerProbeReply p g) s = execPsigerProbeReply p g s := rfl
theorem exec_psigerFaultNotice (p : Fin 8) (g : Segment) (s : State) : exec (.psigerFaultNotice p g) s = execPsigerFaultNotice p g s := rfl
theorem exec_psigerExport (p : Fin 8) (g : Segment) (s : State) : exec (.psigerExport p g) s = execPsigerExport p g s := rfl
theorem exec_retransmitTimeout (b : Fin 4096) (seq : Word) (s : State) : exec (.retransmitTimeout b seq) s = execRetransmitTimeout b seq s := rfl
theorem exec_gapTimeout (b : Fin 4096) (s : State) : exec (.gapTimeout b) s = execGapTimeout b s := rfl
theorem exec_ackTimer (b : Fin 4096) (s : State) : exec (.ackTimer b) s = execAckTimer b s := rfl
theorem exec_peerLossTimeout (b : Fin 4096) (s : State) : exec (.peerLossTimeout b) s = execPeerLossTimeout b s := rfl
theorem exec_twinHeartbeat (s : State) : exec .twinHeartbeat s = execTwinHeartbeat s := rfl
theorem exec_twinLossOfSignal (s : State) : exec .twinLossOfSignal s = execTwinLossOfSignal s := rfl
theorem exec_twinFlitTimeout (s : State) : exec .twinFlitTimeout s = execTwinFlitTimeout s := rfl
theorem exec_twinProbeTimeout (s : State) : exec .twinProbeTimeout s = execTwinProbeTimeout s := rfl
theorem exec_twinFlitCrcFail (flit : Nat) (s : State) : exec (.twinFlitCrcFail flit) s = execTwinFlitCrcFail flit s := rfl
theorem exec_shadowData (r : ShadowRecord) (s : State) : exec (.shadowData r) s = execShadowData r s := rfl
theorem exec_shadowCommit (r : ShadowRecord) (s : State) : exec (.shadowCommit r) s = execShadowCommit r s := rfl
theorem exec_shadowAbort (r : ShadowRecord) (s : State) : exec (.shadowAbort r) s = execShadowAbort r s := rfl
theorem exec_exportComplete (s : State) : exec .exportComplete s = execExportComplete s := rfl
theorem exec_encodeFrame (k : Fin 4) (r : FrameRecord) (s : State) : exec (.encodeFrame k r) s = execEncodeFrame k r s := rfl
theorem exec_decodeAccessUnit (k : Fin 4) (r : FrameRecord) (s : State) : exec (.decodeAccessUnit k r) s = execDecodeAccessUnit k r s := rfl
theorem exec_codecClose (k : Fin 4) (r : FrameRecord) (s : State) : exec (.codecClose k r) s = execCodecClose k r s := rfl
theorem exec_blockRowStart (k : Fin 4) (enc : Bool) (s : State) : exec (.blockRowStart k enc) s = execBlockRowStart k enc s := rfl
theorem exec_frameOutput (k : Fin 4) (enc : Bool) (s : State) : exec (.frameOutput k enc) s = execFrameOutput k enc s := rfl
theorem exec_ringPoll (k : Fin 4) (enc : Bool) (consumer : Word) (s : State) : exec (.ringPoll k enc consumer) s = execRingPoll k enc consumer s := rfl
theorem exec_kopRead (m : KopMsg) (s : State) : exec (.kopRead m) s = execKopRead m s := rfl
theorem exec_kopWrite (m : KopMsg) (s : State) : exec (.kopWrite m) s = execKopWrite m s := rfl
theorem exec_commit (m : KopMsg) (s : State) : exec (.commit m) s = execCommit m s := rfl
theorem exec_returnGeneration (m : KopMsg) (s : State) : exec (.returnGeneration m) s = execReturnGeneration m s := rfl
theorem exec_discard (m : KopMsg) (s : State) : exec (.discard m) s = execDiscard m s := rfl
theorem exec_kopStatus (m : KopMsg) (s : State) : exec (.kopStatus m) s = execKopStatus m s := rfl
theorem exec_hello (m : KopMsg) (s : State) : exec (.hello m) s = execHello m s := rfl
theorem exec_proofMessage (m : KopMsg) (s : State) : exec (.proofMessage m) s = execProofMessage m s := rfl
theorem exec_sessionClose (m : KopMsg) (s : State) : exec (.sessionClose m) s = execSessionClose m s := rfl
theorem exec_attest (m : KopMsg) (s : State) : exec (.attest m) s = execAttest m s := rfl
theorem exec_imagePiece (m : KopMsg) (s : State) : exec (.imagePiece m) s = execImagePiece m s := rfl
theorem exec_imageVerifyComplete (kind : Fin 6) (s : State) : exec (.imageVerifyComplete kind) s = execImageVerifyComplete kind s := rfl
theorem exec_sessionIdleTimeout (session : Nat) (s : State) : exec (.sessionIdleTimeout session) s = execSessionIdleTimeout session s := rfl
theorem exec_proofTimeout (session : Nat) (s : State) : exec (.proofTimeout session) s = execProofTimeout session s := rfl
theorem exec_eventAcknowledge (m : KopMsg) (s : State) : exec (.eventAcknowledge m) s = execEventAcknowledge m s := rfl
theorem exec_vatRunState (m : KopMsg) (s : State) : exec (.vatRunState m) s = execVatRunState m s := rfl
theorem exec_echoRequest (m : KopMsg) (s : State) : exec (.echoRequest m) s = execEchoRequest m s := rfl
theorem exec_debugUnlock (m : KopMsg) (s : State) : exec (.debugUnlock m) s = execDebugUnlock m s := rfl
theorem exec_macsecKeyWrite (m : KopMsg) (s : State) : exec (.macsecKeyWrite m) s = execMacsecKeyWrite m s := rfl
theorem exec_fuseWrite (m : KopMsg) (s : State) : exec (.fuseWrite m) s = execFuseWrite m s := rfl
theorem exec_powerGood (p : PartStart) (s : State) : exec (.powerGood p) s = execPowerGood p s := rfl
theorem exec_powerLoss (s : State) : exec .powerLoss s = execPowerLoss s := rfl
theorem exec_throttleNChange (high : Bool) (s : State) : exec (.throttleNChange high) s = execThrottleNChange high s := rfl
theorem exec_powerSample (watts : Word) (s : State) : exec (.powerSample watts) s = execPowerSample watts s := rfl
theorem exec_capDutyStep (s : State) : exec .capDutyStep s = execCapDutyStep s := rfl
theorem exec_thermalSample (t : ThermalReading) (s : State) : exec (.thermalSample t) s = execThermalSample t s := rfl
theorem exec_thermalDutyStep (s : State) : exec .thermalDutyStep s = execThermalDutyStep s := rfl
theorem exec_gateFrameBoundary (s : State) : exec .gateFrameBoundary s = execGateFrameBoundary s := rfl
theorem exec_pairRecordTimer (s : State) : exec .pairRecordTimer s = execPairRecordTimer s := rfl
theorem exec_commandFrameWrite (w : FrameWrite) (s : State) : exec (.commandFrameWrite w) s = execCommandFrameWrite w s := rfl
theorem exec_croakHoldNChange (high : Bool) (s : State) : exec (.croakHoldNChange high) s = execCroakHoldNChange high s := rfl
theorem exec_croakRdyRelease (now : Nat) (s : State) : exec (.croakRdyRelease now) s = execCroakRdyRelease now s := rfl
theorem exec_stretchLimitReached (now : Nat) (s : State) : exec (.stretchLimitReached now) s = execStretchLimitReached now s := rfl
theorem exec_hostLinkTrained (rate : Nat) (width : Nat) (s : State) : exec (.hostLinkTrained rate width) s = execHostLinkTrained rate width s := rfl
theorem exec_vfEnableWrite (num : Nat) (enable : Bool) (s : State) : exec (.vfEnableWrite num enable) s = execVfEnableWrite num enable s := rfl
theorem exec_msixVectorUnmask (fn : FnNo) (w : VectorUnmask) (s : State) :
    exec (.msixVectorUnmask fn w) s = execMsixVectorUnmask fn w s := rfl
theorem exec_ideKeyProgramming (stream : Nat) (fn : FnNo) (s : State) : exec (.ideKeyProgramming stream fn) s = execIdeKeyProgramming stream fn s := rfl
theorem exec_twinLinkUp (m : Reconcile) (s : State) : exec (.twinLinkUp m) s = execTwinLinkUp m s := rfl
theorem exec_twinFaultNotice (s : State) : exec .twinFaultNotice s = execTwinFaultNotice s := rfl
theorem exec_twinPipeFlit (m : PipeFlit) (s : State) : exec (.twinPipeFlit m) s = execTwinPipeFlit m s := rfl
theorem exec_pairRecordReceive (r : PairRecord) (s : State) : exec (.pairRecordReceive r) s = execPairRecordReceive r s := rfl
theorem exec_twinAuditRecordReceive (words : List Word) (s : State) : exec (.twinAuditRecordReceive words) s = execTwinAuditRecordReceive words s := rfl
theorem exec_debugUnlockComplete (s : State) : exec .debugUnlockComplete s = execDebugUnlockComplete s := rfl
theorem exec_testAccessPortClock (p : TapPins) (s : State) : exec (.testAccessPortClock p) s = execTestAccessPortClock p s := rfl
theorem exec_neighbourSolicitation (m : Solicitation) (s : State) : exec (.neighbourSolicitation m) s = execNeighbourSolicitation m s := rfl
theorem exec_pauseFrameReceive (f : PauseFrame) (s : State) :
    exec (.pauseFrameReceive f) s = execPauseFrameReceive f s := rfl

end Sys2Proof.Machine
end

