-- ==== Sys2Proof/Laws/State.lean ====
section
/-! SUPPORT. What each plain update of the state leaves of each field, and what it writes. -/

set_option Elab.async false
namespace Sys2Proof.Machine

@[simp] theorem State.setVol_pending (s : State) (k v : Nat) : (s.setVol k v).pending = s.pending := rfl
@[simp] theorem State.setVol_cores (s : State) (k v : Nat) : (s.setVol k v).cores = s.cores := rfl
@[simp] theorem State.setVol_units (s : State) (k v : Nat) : (s.setVol k v).units = s.units := rfl
@[simp] theorem State.setVol_unitReqs (s : State) (k v : Nat) : (s.setVol k v).unitReqs = s.unitReqs := rfl
@[simp] theorem State.setVol_launches (s : State) (k v : Nat) : (s.setVol k v).launches = s.launches := rfl
@[simp] theorem State.setVol_results (s : State) (k v : Nat) : (s.setVol k v).results = s.results := rfl
@[simp] theorem State.setVol_verdicts (s : State) (k v : Nat) : (s.setVol k v).verdicts = s.verdicts := rfl
@[simp] theorem State.setVol_events (s : State) (k v : Nat) : (s.setVol k v).events = s.events := rfl
@[simp] theorem State.setVol_evCount (s : State) (k v : Nat) : (s.setVol k v).evCount = s.evCount := rfl
@[simp] theorem State.setVol_evBeat (s : State) (k v : Nat) : (s.setVol k v).evBeat = s.evBeat := rfl
@[simp] theorem State.setVol_raised (s : State) (k v : Nat) : (s.setVol k v).raised = s.raised := rfl
@[simp] theorem State.setVol_out (s : State) (k v : Nat) : (s.setVol k v).out = s.out := rfl
@[simp] theorem State.setVol_cfg (s : State) (k v : Nat) : (s.setVol k v).cfg = s.cfg := rfl
@[simp] theorem State.setVol_prevCfg (s : State) (k v : Nat) : (s.setVol k v).prevCfg = s.prevCfg := rfl
@[simp] theorem State.setVol_vol (s : State) (k v : Nat) : (s.setVol k v).vol = Sparse.set (volDefault k) s.vol k v := rfl
@[simp] theorem State.setVol_freeIx (s : State) (k v : Nat) : (s.setVol k v).freeIx = s.freeIx := rfl
@[simp] theorem State.setVol_partner (s : State) (k v : Nat) : (s.setVol k v).partner = s.partner := rfl
@[simp] theorem State.setVol_holdStanding (s : State) (k v : Nat) : (s.setVol k v).holdStanding = s.holdStanding := rfl
@[simp] theorem State.setVol_lostMembers (s : State) (k v : Nat) : (s.setVol k v).lostMembers = s.lostMembers := rfl
@[simp] theorem State.setVol_lostCores (s : State) (k v : Nat) : (s.setVol k v).lostCores = s.lostCores := rfl
@[simp] theorem State.setVol_linkBeat (s : State) (k v : Nat) : (s.setVol k v).linkBeat = s.linkBeat := rfl
@[simp] theorem State.setVol_layouts (s : State) (k v : Nat) : (s.setVol k v).layouts = s.layouts := rfl
@[simp] theorem State.setVol_seqs (s : State) (k v : Nat) : (s.setVol k v).seqs = s.seqs := rfl
@[simp] theorem State.setVol_frames (s : State) (k v : Nat) : (s.setVol k v).frames = s.frames := rfl
@[simp] theorem State.setVol_work (s : State) (k v : Nat) : (s.setVol k v).work = s.work := rfl
@[simp] theorem State.setVol_joins (s : State) (k v : Nat) : (s.setVol k v).joins = s.joins := rfl
@[simp] theorem State.setVol_resumes (s : State) (k v : Nat) : (s.setVol k v).resumes = s.resumes := rfl
@[simp] theorem State.setVol_leaves (s : State) (k v : Nat) : (s.setVol k v).leaves = s.leaves := rfl
@[simp] theorem State.setVol_growths (s : State) (k v : Nat) : (s.setVol k v).growths = s.growths := rfl
@[simp] theorem State.setVol_seeds (s : State) (k v : Nat) : (s.setVol k v).seeds = s.seeds := rfl
@[simp] theorem State.setVol_runReq (s : State) (k v : Nat) : (s.setVol k v).runReq = s.runReq := rfl
@[simp] theorem State.setVol_hbm (s : State) (k v : Nat) : (s.setVol k v).hbm = s.hbm := rfl
@[simp] theorem State.setVol_dieBuf (s : State) (k v : Nat) : (s.setVol k v).dieBuf = s.dieBuf := rfl
@[simp] theorem State.setVol_hubBuf (s : State) (k v : Nat) : (s.setVol k v).hubBuf = s.hubBuf := rfl
@[simp] theorem State.setVol_uncleared (s : State) (k v : Nat) : (s.setVol k v).uncleared = s.uncleared := rfl
@[simp] theorem State.setVol_shadowMove (s : State) (k v : Nat) : (s.setVol k v).shadowMove = s.shadowMove := rfl
@[simp] theorem State.setVol_reloc (s : State) (k v : Nat) : (s.setVol k v).reloc = s.reloc := rfl
@[simp] theorem State.setVol_scrubCount (s : State) (k v : Nat) : (s.setVol k v).scrubCount = s.scrubCount := rfl
@[simp] theorem State.setVol_agentBeat (s : State) (k v : Nat) : (s.setVol k v).agentBeat = s.agentBeat := rfl
@[simp] theorem State.setVol_pipes (s : State) (k v : Nat) : (s.setVol k v).pipes = s.pipes := rfl
@[simp] theorem State.setVol_rennets (s : State) (k v : Nat) : (s.setVol k v).rennets = s.rennets := rfl
@[simp] theorem State.setVol_waitQ (s : State) (k v : Nat) : (s.setVol k v).waitQ = s.waitQ := rfl
@[simp] theorem State.setVol_retries (s : State) (k v : Nat) : (s.setVol k v).retries = s.retries := rfl
@[simp] theorem State.setVol_peers (s : State) (k v : Nat) : (s.setVol k v).peers = s.peers := rfl
@[simp] theorem State.setVol_poolTotal (s : State) (k v : Nat) : (s.setVol k v).poolTotal = s.poolTotal := rfl
@[simp] theorem State.setVol_poolFault (s : State) (k v : Nat) : (s.setVol k v).poolFault = s.poolFault := rfl
@[simp] theorem State.setVol_lostNext (s : State) (k v : Nat) : (s.setVol k v).lostNext = s.lostNext := rfl
@[simp] theorem State.setVol_croak (s : State) (k v : Nat) : (s.setVol k v).croak = s.croak := rfl
@[simp] theorem State.setVol_funcs (s : State) (k v : Nat) : (s.setVol k v).funcs = s.funcs := rfl
@[simp] theorem State.setVol_host (s : State) (k v : Nat) : (s.setVol k v).host = s.host := rfl
@[simp] theorem State.setVol_bindings (s : State) (k v : Nat) : (s.setVol k v).bindings = s.bindings := rfl
@[simp] theorem State.setVol_credits (s : State) (k v : Nat) : (s.setVol k v).credits = s.credits := rfl
@[simp] theorem State.setVol_fports (s : State) (k v : Nat) : (s.setVol k v).fports = s.fports := rfl
@[simp] theorem State.setVol_twin (s : State) (k v : Nat) : (s.setVol k v).twin = s.twin := rfl
@[simp] theorem State.setVol_twinPool (s : State) (k v : Nat) : (s.setVol k v).twinPool = s.twinPool := rfl
@[simp] theorem State.setVol_exporting (s : State) (k v : Nat) : (s.setVol k v).exporting = s.exporting := rfl
@[simp] theorem State.setVol_importing (s : State) (k v : Nat) : (s.setVol k v).importing = s.importing := rfl
@[simp] theorem State.setVol_codecs (s : State) (k v : Nat) : (s.setVol k v).codecs = s.codecs := rfl
@[simp] theorem State.setVol_contexts (s : State) (k v : Nat) : (s.setVol k v).contexts = s.contexts := rfl
@[simp] theorem State.setVol_rings (s : State) (k v : Nat) : (s.setVol k v).rings = s.rings := rfl
@[simp] theorem State.setVol_codecIn (s : State) (k v : Nat) : (s.setVol k v).codecIn = s.codecIn := rfl
@[simp] theorem State.setVol_sessions (s : State) (k v : Nat) : (s.setVol k v).sessions = s.sessions := rfl
@[simp] theorem State.setVol_pendingGen (s : State) (k v : Nat) : (s.setVol k v).pendingGen = s.pendingGen := rfl
@[simp] theorem State.setVol_fuseBanks (s : State) (k v : Nat) : (s.setVol k v).fuseBanks = s.fuseBanks := rfl
@[simp] theorem State.setVol_images (s : State) (k v : Nat) : (s.setVol k v).images = s.images := rfl
@[simp] theorem State.setVol_measurement (s : State) (k v : Nat) : (s.setVol k v).measurement = s.measurement := rfl
@[simp] theorem State.setVol_dropBeat (s : State) (k v : Nat) : (s.setVol k v).dropBeat = s.dropBeat := rfl
@[simp] theorem State.setVol_mirrorBeat (s : State) (k v : Nat) : (s.setVol k v).mirrorBeat = s.mirrorBeat := rfl
@[simp] theorem State.setVol_unlocking (s : State) (k v : Nat) : (s.setVol k v).unlocking = s.unlocking := rfl
@[simp] theorem State.setVol_helloPieces (s : State) (k v : Nat) : (s.setVol k v).helloPieces = s.helloPieces := rfl
@[simp] theorem State.setVol_audit (s : State) (k v : Nat) : (s.setVol k v).audit = s.audit := rfl
@[simp] theorem State.setVol_twinAudit (s : State) (k v : Nat) : (s.setVol k v).twinAudit = s.twinAudit := rfl
@[simp] theorem State.setVol_power (s : State) (k v : Nat) : (s.setVol k v).power = s.power := rfl
@[simp] theorem State.setVol_tap (s : State) (k v : Nat) : (s.setVol k v).tap = s.tap := rfl

@[simp] theorem State.send_pending (s : State) (m : OutMsg) : (s.send m).pending = s.pending := rfl
@[simp] theorem State.send_cores (s : State) (m : OutMsg) : (s.send m).cores = s.cores := rfl
@[simp] theorem State.send_units (s : State) (m : OutMsg) : (s.send m).units = s.units := rfl
@[simp] theorem State.send_unitReqs (s : State) (m : OutMsg) : (s.send m).unitReqs = s.unitReqs := rfl
@[simp] theorem State.send_launches (s : State) (m : OutMsg) : (s.send m).launches = s.launches := rfl
@[simp] theorem State.send_results (s : State) (m : OutMsg) : (s.send m).results = s.results := rfl
@[simp] theorem State.send_verdicts (s : State) (m : OutMsg) : (s.send m).verdicts = s.verdicts := rfl
@[simp] theorem State.send_events (s : State) (m : OutMsg) : (s.send m).events = s.events := rfl
@[simp] theorem State.send_evCount (s : State) (m : OutMsg) : (s.send m).evCount = s.evCount := rfl
@[simp] theorem State.send_evBeat (s : State) (m : OutMsg) : (s.send m).evBeat = s.evBeat := rfl
@[simp] theorem State.send_raised (s : State) (m : OutMsg) : (s.send m).raised = s.raised := rfl
@[simp] theorem State.send_out (s : State) (m : OutMsg) : (s.send m).out = s.out ++ [m] := rfl
@[simp] theorem State.send_cfg (s : State) (m : OutMsg) : (s.send m).cfg = s.cfg := rfl
@[simp] theorem State.send_prevCfg (s : State) (m : OutMsg) : (s.send m).prevCfg = s.prevCfg := rfl
@[simp] theorem State.send_vol (s : State) (m : OutMsg) : (s.send m).vol = s.vol := rfl
@[simp] theorem State.send_freeIx (s : State) (m : OutMsg) : (s.send m).freeIx = s.freeIx := rfl
@[simp] theorem State.send_partner (s : State) (m : OutMsg) : (s.send m).partner = s.partner := rfl
@[simp] theorem State.send_holdStanding (s : State) (m : OutMsg) : (s.send m).holdStanding = s.holdStanding := rfl
@[simp] theorem State.send_lostMembers (s : State) (m : OutMsg) : (s.send m).lostMembers = s.lostMembers := rfl
@[simp] theorem State.send_lostCores (s : State) (m : OutMsg) : (s.send m).lostCores = s.lostCores := rfl
@[simp] theorem State.send_linkBeat (s : State) (m : OutMsg) : (s.send m).linkBeat = s.linkBeat := rfl
@[simp] theorem State.send_layouts (s : State) (m : OutMsg) : (s.send m).layouts = s.layouts := rfl
@[simp] theorem State.send_seqs (s : State) (m : OutMsg) : (s.send m).seqs = s.seqs := rfl
@[simp] theorem State.send_frames (s : State) (m : OutMsg) : (s.send m).frames = s.frames := rfl
@[simp] theorem State.send_work (s : State) (m : OutMsg) : (s.send m).work = s.work := rfl
@[simp] theorem State.send_joins (s : State) (m : OutMsg) : (s.send m).joins = s.joins := rfl
@[simp] theorem State.send_resumes (s : State) (m : OutMsg) : (s.send m).resumes = s.resumes := rfl
@[simp] theorem State.send_leaves (s : State) (m : OutMsg) : (s.send m).leaves = s.leaves := rfl
@[simp] theorem State.send_growths (s : State) (m : OutMsg) : (s.send m).growths = s.growths := rfl
@[simp] theorem State.send_seeds (s : State) (m : OutMsg) : (s.send m).seeds = s.seeds := rfl
@[simp] theorem State.send_runReq (s : State) (m : OutMsg) : (s.send m).runReq = s.runReq := rfl
@[simp] theorem State.send_hbm (s : State) (m : OutMsg) : (s.send m).hbm = s.hbm := rfl
@[simp] theorem State.send_dieBuf (s : State) (m : OutMsg) : (s.send m).dieBuf = s.dieBuf := rfl
@[simp] theorem State.send_hubBuf (s : State) (m : OutMsg) : (s.send m).hubBuf = s.hubBuf := rfl
@[simp] theorem State.send_uncleared (s : State) (m : OutMsg) : (s.send m).uncleared = s.uncleared := rfl
@[simp] theorem State.send_shadowMove (s : State) (m : OutMsg) : (s.send m).shadowMove = s.shadowMove := rfl
@[simp] theorem State.send_reloc (s : State) (m : OutMsg) : (s.send m).reloc = s.reloc := rfl
@[simp] theorem State.send_scrubCount (s : State) (m : OutMsg) : (s.send m).scrubCount = s.scrubCount := rfl
@[simp] theorem State.send_agentBeat (s : State) (m : OutMsg) : (s.send m).agentBeat = s.agentBeat := rfl
@[simp] theorem State.send_pipes (s : State) (m : OutMsg) : (s.send m).pipes = s.pipes := rfl
@[simp] theorem State.send_rennets (s : State) (m : OutMsg) : (s.send m).rennets = s.rennets := rfl
@[simp] theorem State.send_waitQ (s : State) (m : OutMsg) : (s.send m).waitQ = s.waitQ := rfl
@[simp] theorem State.send_retries (s : State) (m : OutMsg) : (s.send m).retries = s.retries := rfl
@[simp] theorem State.send_peers (s : State) (m : OutMsg) : (s.send m).peers = s.peers := rfl
@[simp] theorem State.send_poolTotal (s : State) (m : OutMsg) : (s.send m).poolTotal = s.poolTotal := rfl
@[simp] theorem State.send_poolFault (s : State) (m : OutMsg) : (s.send m).poolFault = s.poolFault := rfl
@[simp] theorem State.send_lostNext (s : State) (m : OutMsg) : (s.send m).lostNext = s.lostNext := rfl
@[simp] theorem State.send_croak (s : State) (m : OutMsg) : (s.send m).croak = s.croak := rfl
@[simp] theorem State.send_funcs (s : State) (m : OutMsg) : (s.send m).funcs = s.funcs := rfl
@[simp] theorem State.send_host (s : State) (m : OutMsg) : (s.send m).host = s.host := rfl
@[simp] theorem State.send_bindings (s : State) (m : OutMsg) : (s.send m).bindings = s.bindings := rfl
@[simp] theorem State.send_credits (s : State) (m : OutMsg) : (s.send m).credits = s.credits := rfl
@[simp] theorem State.send_fports (s : State) (m : OutMsg) : (s.send m).fports = s.fports := rfl
@[simp] theorem State.send_twin (s : State) (m : OutMsg) : (s.send m).twin = s.twin := rfl
@[simp] theorem State.send_twinPool (s : State) (m : OutMsg) : (s.send m).twinPool = s.twinPool := rfl
@[simp] theorem State.send_exporting (s : State) (m : OutMsg) : (s.send m).exporting = s.exporting := rfl
@[simp] theorem State.send_importing (s : State) (m : OutMsg) : (s.send m).importing = s.importing := rfl
@[simp] theorem State.send_codecs (s : State) (m : OutMsg) : (s.send m).codecs = s.codecs := rfl
@[simp] theorem State.send_contexts (s : State) (m : OutMsg) : (s.send m).contexts = s.contexts := rfl
@[simp] theorem State.send_rings (s : State) (m : OutMsg) : (s.send m).rings = s.rings := rfl
@[simp] theorem State.send_codecIn (s : State) (m : OutMsg) : (s.send m).codecIn = s.codecIn := rfl
@[simp] theorem State.send_sessions (s : State) (m : OutMsg) : (s.send m).sessions = s.sessions := rfl
@[simp] theorem State.send_pendingGen (s : State) (m : OutMsg) : (s.send m).pendingGen = s.pendingGen := rfl
@[simp] theorem State.send_fuseBanks (s : State) (m : OutMsg) : (s.send m).fuseBanks = s.fuseBanks := rfl
@[simp] theorem State.send_images (s : State) (m : OutMsg) : (s.send m).images = s.images := rfl
@[simp] theorem State.send_measurement (s : State) (m : OutMsg) : (s.send m).measurement = s.measurement := rfl
@[simp] theorem State.send_dropBeat (s : State) (m : OutMsg) : (s.send m).dropBeat = s.dropBeat := rfl
@[simp] theorem State.send_mirrorBeat (s : State) (m : OutMsg) : (s.send m).mirrorBeat = s.mirrorBeat := rfl
@[simp] theorem State.send_unlocking (s : State) (m : OutMsg) : (s.send m).unlocking = s.unlocking := rfl
@[simp] theorem State.send_helloPieces (s : State) (m : OutMsg) : (s.send m).helloPieces = s.helloPieces := rfl
@[simp] theorem State.send_audit (s : State) (m : OutMsg) : (s.send m).audit = s.audit := rfl
@[simp] theorem State.send_twinAudit (s : State) (m : OutMsg) : (s.send m).twinAudit = s.twinAudit := rfl
@[simp] theorem State.send_power (s : State) (m : OutMsg) : (s.send m).power = s.power := rfl
@[simp] theorem State.send_tap (s : State) (m : OutMsg) : (s.send m).tap = s.tap := rfl

@[simp] theorem State.updCore_pending (s : State) (c : CoreId) (g : Core → Core) : (s.updCore c g).pending = s.pending := rfl
@[simp] theorem State.updCore_cores (s : State) (c : CoreId) (g : Core → Core) : (s.updCore c g).cores = s.cores.set c (g s.cores[c]) := rfl
@[simp] theorem State.updCore_units (s : State) (c : CoreId) (g : Core → Core) : (s.updCore c g).units = s.units := rfl
@[simp] theorem State.updCore_unitReqs (s : State) (c : CoreId) (g : Core → Core) : (s.updCore c g).unitReqs = s.unitReqs := rfl
@[simp] theorem State.updCore_launches (s : State) (c : CoreId) (g : Core → Core) : (s.updCore c g).launches = s.launches := rfl
@[simp] theorem State.updCore_results (s : State) (c : CoreId) (g : Core → Core) : (s.updCore c g).results = s.results := rfl
@[simp] theorem State.updCore_verdicts (s : State) (c : CoreId) (g : Core → Core) : (s.updCore c g).verdicts = s.verdicts := rfl
@[simp] theorem State.updCore_events (s : State) (c : CoreId) (g : Core → Core) : (s.updCore c g).events = s.events := rfl
@[simp] theorem State.updCore_evCount (s : State) (c : CoreId) (g : Core → Core) : (s.updCore c g).evCount = s.evCount := rfl
@[simp] theorem State.updCore_evBeat (s : State) (c : CoreId) (g : Core → Core) : (s.updCore c g).evBeat = s.evBeat := rfl
@[simp] theorem State.updCore_raised (s : State) (c : CoreId) (g : Core → Core) : (s.updCore c g).raised = s.raised := rfl
@[simp] theorem State.updCore_out (s : State) (c : CoreId) (g : Core → Core) : (s.updCore c g).out = s.out := rfl
@[simp] theorem State.updCore_cfg (s : State) (c : CoreId) (g : Core → Core) : (s.updCore c g).cfg = s.cfg := rfl
@[simp] theorem State.updCore_prevCfg (s : State) (c : CoreId) (g : Core → Core) : (s.updCore c g).prevCfg = s.prevCfg := rfl
@[simp] theorem State.updCore_vol (s : State) (c : CoreId) (g : Core → Core) : (s.updCore c g).vol = s.vol := rfl
@[simp] theorem State.updCore_freeIx (s : State) (c : CoreId) (g : Core → Core) : (s.updCore c g).freeIx = s.freeIx := rfl
@[simp] theorem State.updCore_partner (s : State) (c : CoreId) (g : Core → Core) : (s.updCore c g).partner = s.partner := rfl
@[simp] theorem State.updCore_holdStanding (s : State) (c : CoreId) (g : Core → Core) : (s.updCore c g).holdStanding = s.holdStanding := rfl
@[simp] theorem State.updCore_lostMembers (s : State) (c : CoreId) (g : Core → Core) : (s.updCore c g).lostMembers = s.lostMembers := rfl
@[simp] theorem State.updCore_lostCores (s : State) (c : CoreId) (g : Core → Core) : (s.updCore c g).lostCores = s.lostCores := rfl
@[simp] theorem State.updCore_linkBeat (s : State) (c : CoreId) (g : Core → Core) : (s.updCore c g).linkBeat = s.linkBeat := rfl
@[simp] theorem State.updCore_layouts (s : State) (c : CoreId) (g : Core → Core) : (s.updCore c g).layouts = s.layouts := rfl
@[simp] theorem State.updCore_seqs (s : State) (c : CoreId) (g : Core → Core) : (s.updCore c g).seqs = s.seqs := rfl
@[simp] theorem State.updCore_frames (s : State) (c : CoreId) (g : Core → Core) : (s.updCore c g).frames = s.frames := rfl
@[simp] theorem State.updCore_work (s : State) (c : CoreId) (g : Core → Core) : (s.updCore c g).work = s.work := rfl
@[simp] theorem State.updCore_joins (s : State) (c : CoreId) (g : Core → Core) : (s.updCore c g).joins = s.joins := rfl
@[simp] theorem State.updCore_resumes (s : State) (c : CoreId) (g : Core → Core) : (s.updCore c g).resumes = s.resumes := rfl
@[simp] theorem State.updCore_leaves (s : State) (c : CoreId) (g : Core → Core) : (s.updCore c g).leaves = s.leaves := rfl
@[simp] theorem State.updCore_growths (s : State) (c : CoreId) (g : Core → Core) : (s.updCore c g).growths = s.growths := rfl
@[simp] theorem State.updCore_seeds (s : State) (c : CoreId) (g : Core → Core) : (s.updCore c g).seeds = s.seeds := rfl
@[simp] theorem State.updCore_runReq (s : State) (c : CoreId) (g : Core → Core) : (s.updCore c g).runReq = s.runReq := rfl
@[simp] theorem State.updCore_hbm (s : State) (c : CoreId) (g : Core → Core) : (s.updCore c g).hbm = s.hbm := rfl
@[simp] theorem State.updCore_dieBuf (s : State) (c : CoreId) (g : Core → Core) : (s.updCore c g).dieBuf = s.dieBuf := rfl
@[simp] theorem State.updCore_hubBuf (s : State) (c : CoreId) (g : Core → Core) : (s.updCore c g).hubBuf = s.hubBuf := rfl
@[simp] theorem State.updCore_uncleared (s : State) (c : CoreId) (g : Core → Core) : (s.updCore c g).uncleared = s.uncleared := rfl
@[simp] theorem State.updCore_shadowMove (s : State) (c : CoreId) (g : Core → Core) : (s.updCore c g).shadowMove = s.shadowMove := rfl
@[simp] theorem State.updCore_reloc (s : State) (c : CoreId) (g : Core → Core) : (s.updCore c g).reloc = s.reloc := rfl
@[simp] theorem State.updCore_scrubCount (s : State) (c : CoreId) (g : Core → Core) : (s.updCore c g).scrubCount = s.scrubCount := rfl
@[simp] theorem State.updCore_agentBeat (s : State) (c : CoreId) (g : Core → Core) : (s.updCore c g).agentBeat = s.agentBeat := rfl
@[simp] theorem State.updCore_pipes (s : State) (c : CoreId) (g : Core → Core) : (s.updCore c g).pipes = s.pipes := rfl
@[simp] theorem State.updCore_rennets (s : State) (c : CoreId) (g : Core → Core) : (s.updCore c g).rennets = s.rennets := rfl
@[simp] theorem State.updCore_waitQ (s : State) (c : CoreId) (g : Core → Core) : (s.updCore c g).waitQ = s.waitQ := rfl
@[simp] theorem State.updCore_retries (s : State) (c : CoreId) (g : Core → Core) : (s.updCore c g).retries = s.retries := rfl
@[simp] theorem State.updCore_peers (s : State) (c : CoreId) (g : Core → Core) : (s.updCore c g).peers = s.peers := rfl
@[simp] theorem State.updCore_poolTotal (s : State) (c : CoreId) (g : Core → Core) : (s.updCore c g).poolTotal = s.poolTotal := rfl
@[simp] theorem State.updCore_poolFault (s : State) (c : CoreId) (g : Core → Core) : (s.updCore c g).poolFault = s.poolFault := rfl
@[simp] theorem State.updCore_lostNext (s : State) (c : CoreId) (g : Core → Core) : (s.updCore c g).lostNext = s.lostNext := rfl
@[simp] theorem State.updCore_croak (s : State) (c : CoreId) (g : Core → Core) : (s.updCore c g).croak = s.croak := rfl
@[simp] theorem State.updCore_funcs (s : State) (c : CoreId) (g : Core → Core) : (s.updCore c g).funcs = s.funcs := rfl
@[simp] theorem State.updCore_host (s : State) (c : CoreId) (g : Core → Core) : (s.updCore c g).host = s.host := rfl
@[simp] theorem State.updCore_bindings (s : State) (c : CoreId) (g : Core → Core) : (s.updCore c g).bindings = s.bindings := rfl
@[simp] theorem State.updCore_credits (s : State) (c : CoreId) (g : Core → Core) : (s.updCore c g).credits = s.credits := rfl
@[simp] theorem State.updCore_fports (s : State) (c : CoreId) (g : Core → Core) : (s.updCore c g).fports = s.fports := rfl
@[simp] theorem State.updCore_twin (s : State) (c : CoreId) (g : Core → Core) : (s.updCore c g).twin = s.twin := rfl
@[simp] theorem State.updCore_twinPool (s : State) (c : CoreId) (g : Core → Core) : (s.updCore c g).twinPool = s.twinPool := rfl
@[simp] theorem State.updCore_exporting (s : State) (c : CoreId) (g : Core → Core) : (s.updCore c g).exporting = s.exporting := rfl
@[simp] theorem State.updCore_importing (s : State) (c : CoreId) (g : Core → Core) : (s.updCore c g).importing = s.importing := rfl
@[simp] theorem State.updCore_codecs (s : State) (c : CoreId) (g : Core → Core) : (s.updCore c g).codecs = s.codecs := rfl
@[simp] theorem State.updCore_contexts (s : State) (c : CoreId) (g : Core → Core) : (s.updCore c g).contexts = s.contexts := rfl
@[simp] theorem State.updCore_rings (s : State) (c : CoreId) (g : Core → Core) : (s.updCore c g).rings = s.rings := rfl
@[simp] theorem State.updCore_codecIn (s : State) (c : CoreId) (g : Core → Core) : (s.updCore c g).codecIn = s.codecIn := rfl
@[simp] theorem State.updCore_sessions (s : State) (c : CoreId) (g : Core → Core) : (s.updCore c g).sessions = s.sessions := rfl
@[simp] theorem State.updCore_pendingGen (s : State) (c : CoreId) (g : Core → Core) : (s.updCore c g).pendingGen = s.pendingGen := rfl
@[simp] theorem State.updCore_fuseBanks (s : State) (c : CoreId) (g : Core → Core) : (s.updCore c g).fuseBanks = s.fuseBanks := rfl
@[simp] theorem State.updCore_images (s : State) (c : CoreId) (g : Core → Core) : (s.updCore c g).images = s.images := rfl
@[simp] theorem State.updCore_measurement (s : State) (c : CoreId) (g : Core → Core) : (s.updCore c g).measurement = s.measurement := rfl
@[simp] theorem State.updCore_dropBeat (s : State) (c : CoreId) (g : Core → Core) : (s.updCore c g).dropBeat = s.dropBeat := rfl
@[simp] theorem State.updCore_mirrorBeat (s : State) (c : CoreId) (g : Core → Core) : (s.updCore c g).mirrorBeat = s.mirrorBeat := rfl
@[simp] theorem State.updCore_unlocking (s : State) (c : CoreId) (g : Core → Core) : (s.updCore c g).unlocking = s.unlocking := rfl
@[simp] theorem State.updCore_helloPieces (s : State) (c : CoreId) (g : Core → Core) : (s.updCore c g).helloPieces = s.helloPieces := rfl
@[simp] theorem State.updCore_audit (s : State) (c : CoreId) (g : Core → Core) : (s.updCore c g).audit = s.audit := rfl
@[simp] theorem State.updCore_twinAudit (s : State) (c : CoreId) (g : Core → Core) : (s.updCore c g).twinAudit = s.twinAudit := rfl
@[simp] theorem State.updCore_power (s : State) (c : CoreId) (g : Core → Core) : (s.updCore c g).power = s.power := rfl
@[simp] theorem State.updCore_tap (s : State) (c : CoreId) (g : Core → Core) : (s.updCore c g).tap = s.tap := rfl

@[simp] theorem State.updUnit_pending (s : State) (u : UnitNo) (g : UnitRec → UnitRec) : (s.updUnit u g).pending = s.pending := rfl
@[simp] theorem State.updUnit_cores (s : State) (u : UnitNo) (g : UnitRec → UnitRec) : (s.updUnit u g).cores = s.cores := rfl
@[simp] theorem State.updUnit_units (s : State) (u : UnitNo) (g : UnitRec → UnitRec) : (s.updUnit u g).units = s.units.set u (g s.units[u]) := rfl
@[simp] theorem State.updUnit_unitReqs (s : State) (u : UnitNo) (g : UnitRec → UnitRec) : (s.updUnit u g).unitReqs = s.unitReqs := rfl
@[simp] theorem State.updUnit_launches (s : State) (u : UnitNo) (g : UnitRec → UnitRec) : (s.updUnit u g).launches = s.launches := rfl
@[simp] theorem State.updUnit_results (s : State) (u : UnitNo) (g : UnitRec → UnitRec) : (s.updUnit u g).results = s.results := rfl
@[simp] theorem State.updUnit_verdicts (s : State) (u : UnitNo) (g : UnitRec → UnitRec) : (s.updUnit u g).verdicts = s.verdicts := rfl
@[simp] theorem State.updUnit_events (s : State) (u : UnitNo) (g : UnitRec → UnitRec) : (s.updUnit u g).events = s.events := rfl
@[simp] theorem State.updUnit_evCount (s : State) (u : UnitNo) (g : UnitRec → UnitRec) : (s.updUnit u g).evCount = s.evCount := rfl
@[simp] theorem State.updUnit_evBeat (s : State) (u : UnitNo) (g : UnitRec → UnitRec) : (s.updUnit u g).evBeat = s.evBeat := rfl
@[simp] theorem State.updUnit_raised (s : State) (u : UnitNo) (g : UnitRec → UnitRec) : (s.updUnit u g).raised = s.raised := rfl
@[simp] theorem State.updUnit_out (s : State) (u : UnitNo) (g : UnitRec → UnitRec) : (s.updUnit u g).out = s.out := rfl
@[simp] theorem State.updUnit_cfg (s : State) (u : UnitNo) (g : UnitRec → UnitRec) : (s.updUnit u g).cfg = s.cfg := rfl
@[simp] theorem State.updUnit_prevCfg (s : State) (u : UnitNo) (g : UnitRec → UnitRec) : (s.updUnit u g).prevCfg = s.prevCfg := rfl
@[simp] theorem State.updUnit_vol (s : State) (u : UnitNo) (g : UnitRec → UnitRec) : (s.updUnit u g).vol = s.vol := rfl
@[simp] theorem State.updUnit_freeIx (s : State) (u : UnitNo) (g : UnitRec → UnitRec) : (s.updUnit u g).freeIx = s.freeIx := rfl
@[simp] theorem State.updUnit_partner (s : State) (u : UnitNo) (g : UnitRec → UnitRec) : (s.updUnit u g).partner = s.partner := rfl
@[simp] theorem State.updUnit_holdStanding (s : State) (u : UnitNo) (g : UnitRec → UnitRec) : (s.updUnit u g).holdStanding = s.holdStanding := rfl
@[simp] theorem State.updUnit_lostMembers (s : State) (u : UnitNo) (g : UnitRec → UnitRec) : (s.updUnit u g).lostMembers = s.lostMembers := rfl
@[simp] theorem State.updUnit_lostCores (s : State) (u : UnitNo) (g : UnitRec → UnitRec) : (s.updUnit u g).lostCores = s.lostCores := rfl
@[simp] theorem State.updUnit_linkBeat (s : State) (u : UnitNo) (g : UnitRec → UnitRec) : (s.updUnit u g).linkBeat = s.linkBeat := rfl
@[simp] theorem State.updUnit_layouts (s : State) (u : UnitNo) (g : UnitRec → UnitRec) : (s.updUnit u g).layouts = s.layouts := rfl
@[simp] theorem State.updUnit_seqs (s : State) (u : UnitNo) (g : UnitRec → UnitRec) : (s.updUnit u g).seqs = s.seqs := rfl
@[simp] theorem State.updUnit_frames (s : State) (u : UnitNo) (g : UnitRec → UnitRec) : (s.updUnit u g).frames = s.frames := rfl
@[simp] theorem State.updUnit_work (s : State) (u : UnitNo) (g : UnitRec → UnitRec) : (s.updUnit u g).work = s.work := rfl
@[simp] theorem State.updUnit_joins (s : State) (u : UnitNo) (g : UnitRec → UnitRec) : (s.updUnit u g).joins = s.joins := rfl
@[simp] theorem State.updUnit_resumes (s : State) (u : UnitNo) (g : UnitRec → UnitRec) : (s.updUnit u g).resumes = s.resumes := rfl
@[simp] theorem State.updUnit_leaves (s : State) (u : UnitNo) (g : UnitRec → UnitRec) : (s.updUnit u g).leaves = s.leaves := rfl
@[simp] theorem State.updUnit_growths (s : State) (u : UnitNo) (g : UnitRec → UnitRec) : (s.updUnit u g).growths = s.growths := rfl
@[simp] theorem State.updUnit_seeds (s : State) (u : UnitNo) (g : UnitRec → UnitRec) : (s.updUnit u g).seeds = s.seeds := rfl
@[simp] theorem State.updUnit_runReq (s : State) (u : UnitNo) (g : UnitRec → UnitRec) : (s.updUnit u g).runReq = s.runReq := rfl
@[simp] theorem State.updUnit_hbm (s : State) (u : UnitNo) (g : UnitRec → UnitRec) : (s.updUnit u g).hbm = s.hbm := rfl
@[simp] theorem State.updUnit_dieBuf (s : State) (u : UnitNo) (g : UnitRec → UnitRec) : (s.updUnit u g).dieBuf = s.dieBuf := rfl
@[simp] theorem State.updUnit_hubBuf (s : State) (u : UnitNo) (g : UnitRec → UnitRec) : (s.updUnit u g).hubBuf = s.hubBuf := rfl
@[simp] theorem State.updUnit_uncleared (s : State) (u : UnitNo) (g : UnitRec → UnitRec) : (s.updUnit u g).uncleared = s.uncleared := rfl
@[simp] theorem State.updUnit_shadowMove (s : State) (u : UnitNo) (g : UnitRec → UnitRec) : (s.updUnit u g).shadowMove = s.shadowMove := rfl
@[simp] theorem State.updUnit_reloc (s : State) (u : UnitNo) (g : UnitRec → UnitRec) : (s.updUnit u g).reloc = s.reloc := rfl
@[simp] theorem State.updUnit_scrubCount (s : State) (u : UnitNo) (g : UnitRec → UnitRec) : (s.updUnit u g).scrubCount = s.scrubCount := rfl
@[simp] theorem State.updUnit_agentBeat (s : State) (u : UnitNo) (g : UnitRec → UnitRec) : (s.updUnit u g).agentBeat = s.agentBeat := rfl
@[simp] theorem State.updUnit_pipes (s : State) (u : UnitNo) (g : UnitRec → UnitRec) : (s.updUnit u g).pipes = s.pipes := rfl
@[simp] theorem State.updUnit_rennets (s : State) (u : UnitNo) (g : UnitRec → UnitRec) : (s.updUnit u g).rennets = s.rennets := rfl
@[simp] theorem State.updUnit_waitQ (s : State) (u : UnitNo) (g : UnitRec → UnitRec) : (s.updUnit u g).waitQ = s.waitQ := rfl
@[simp] theorem State.updUnit_retries (s : State) (u : UnitNo) (g : UnitRec → UnitRec) : (s.updUnit u g).retries = s.retries := rfl
@[simp] theorem State.updUnit_peers (s : State) (u : UnitNo) (g : UnitRec → UnitRec) : (s.updUnit u g).peers = s.peers := rfl
@[simp] theorem State.updUnit_poolTotal (s : State) (u : UnitNo) (g : UnitRec → UnitRec) : (s.updUnit u g).poolTotal = s.poolTotal := rfl
@[simp] theorem State.updUnit_poolFault (s : State) (u : UnitNo) (g : UnitRec → UnitRec) : (s.updUnit u g).poolFault = s.poolFault := rfl
@[simp] theorem State.updUnit_lostNext (s : State) (u : UnitNo) (g : UnitRec → UnitRec) : (s.updUnit u g).lostNext = s.lostNext := rfl
@[simp] theorem State.updUnit_croak (s : State) (u : UnitNo) (g : UnitRec → UnitRec) : (s.updUnit u g).croak = s.croak := rfl
@[simp] theorem State.updUnit_funcs (s : State) (u : UnitNo) (g : UnitRec → UnitRec) : (s.updUnit u g).funcs = s.funcs := rfl
@[simp] theorem State.updUnit_host (s : State) (u : UnitNo) (g : UnitRec → UnitRec) : (s.updUnit u g).host = s.host := rfl
@[simp] theorem State.updUnit_bindings (s : State) (u : UnitNo) (g : UnitRec → UnitRec) : (s.updUnit u g).bindings = s.bindings := rfl
@[simp] theorem State.updUnit_credits (s : State) (u : UnitNo) (g : UnitRec → UnitRec) : (s.updUnit u g).credits = s.credits := rfl
@[simp] theorem State.updUnit_fports (s : State) (u : UnitNo) (g : UnitRec → UnitRec) : (s.updUnit u g).fports = s.fports := rfl
@[simp] theorem State.updUnit_twin (s : State) (u : UnitNo) (g : UnitRec → UnitRec) : (s.updUnit u g).twin = s.twin := rfl
@[simp] theorem State.updUnit_twinPool (s : State) (u : UnitNo) (g : UnitRec → UnitRec) : (s.updUnit u g).twinPool = s.twinPool := rfl
@[simp] theorem State.updUnit_exporting (s : State) (u : UnitNo) (g : UnitRec → UnitRec) : (s.updUnit u g).exporting = s.exporting := rfl
@[simp] theorem State.updUnit_importing (s : State) (u : UnitNo) (g : UnitRec → UnitRec) : (s.updUnit u g).importing = s.importing := rfl
@[simp] theorem State.updUnit_codecs (s : State) (u : UnitNo) (g : UnitRec → UnitRec) : (s.updUnit u g).codecs = s.codecs := rfl
@[simp] theorem State.updUnit_contexts (s : State) (u : UnitNo) (g : UnitRec → UnitRec) : (s.updUnit u g).contexts = s.contexts := rfl
@[simp] theorem State.updUnit_rings (s : State) (u : UnitNo) (g : UnitRec → UnitRec) : (s.updUnit u g).rings = s.rings := rfl
@[simp] theorem State.updUnit_codecIn (s : State) (u : UnitNo) (g : UnitRec → UnitRec) : (s.updUnit u g).codecIn = s.codecIn := rfl
@[simp] theorem State.updUnit_sessions (s : State) (u : UnitNo) (g : UnitRec → UnitRec) : (s.updUnit u g).sessions = s.sessions := rfl
@[simp] theorem State.updUnit_pendingGen (s : State) (u : UnitNo) (g : UnitRec → UnitRec) : (s.updUnit u g).pendingGen = s.pendingGen := rfl
@[simp] theorem State.updUnit_fuseBanks (s : State) (u : UnitNo) (g : UnitRec → UnitRec) : (s.updUnit u g).fuseBanks = s.fuseBanks := rfl
@[simp] theorem State.updUnit_images (s : State) (u : UnitNo) (g : UnitRec → UnitRec) : (s.updUnit u g).images = s.images := rfl
@[simp] theorem State.updUnit_measurement (s : State) (u : UnitNo) (g : UnitRec → UnitRec) : (s.updUnit u g).measurement = s.measurement := rfl
@[simp] theorem State.updUnit_dropBeat (s : State) (u : UnitNo) (g : UnitRec → UnitRec) : (s.updUnit u g).dropBeat = s.dropBeat := rfl
@[simp] theorem State.updUnit_mirrorBeat (s : State) (u : UnitNo) (g : UnitRec → UnitRec) : (s.updUnit u g).mirrorBeat = s.mirrorBeat := rfl
@[simp] theorem State.updUnit_unlocking (s : State) (u : UnitNo) (g : UnitRec → UnitRec) : (s.updUnit u g).unlocking = s.unlocking := rfl
@[simp] theorem State.updUnit_helloPieces (s : State) (u : UnitNo) (g : UnitRec → UnitRec) : (s.updUnit u g).helloPieces = s.helloPieces := rfl
@[simp] theorem State.updUnit_audit (s : State) (u : UnitNo) (g : UnitRec → UnitRec) : (s.updUnit u g).audit = s.audit := rfl
@[simp] theorem State.updUnit_twinAudit (s : State) (u : UnitNo) (g : UnitRec → UnitRec) : (s.updUnit u g).twinAudit = s.twinAudit := rfl
@[simp] theorem State.updUnit_power (s : State) (u : UnitNo) (g : UnitRec → UnitRec) : (s.updUnit u g).power = s.power := rfl
@[simp] theorem State.updUnit_tap (s : State) (u : UnitNo) (g : UnitRec → UnitRec) : (s.updUnit u g).tap = s.tap := rfl

@[simp] theorem State.updFunc_pending (s : State) (f : FnNo) (g : Func → Func) : (s.updFunc f g).pending = s.pending := rfl
@[simp] theorem State.updFunc_cores (s : State) (f : FnNo) (g : Func → Func) : (s.updFunc f g).cores = s.cores := rfl
@[simp] theorem State.updFunc_units (s : State) (f : FnNo) (g : Func → Func) : (s.updFunc f g).units = s.units := rfl
@[simp] theorem State.updFunc_unitReqs (s : State) (f : FnNo) (g : Func → Func) : (s.updFunc f g).unitReqs = s.unitReqs := rfl
@[simp] theorem State.updFunc_launches (s : State) (f : FnNo) (g : Func → Func) : (s.updFunc f g).launches = s.launches := rfl
@[simp] theorem State.updFunc_results (s : State) (f : FnNo) (g : Func → Func) : (s.updFunc f g).results = s.results := rfl
@[simp] theorem State.updFunc_verdicts (s : State) (f : FnNo) (g : Func → Func) : (s.updFunc f g).verdicts = s.verdicts := rfl
@[simp] theorem State.updFunc_events (s : State) (f : FnNo) (g : Func → Func) : (s.updFunc f g).events = s.events := rfl
@[simp] theorem State.updFunc_evCount (s : State) (f : FnNo) (g : Func → Func) : (s.updFunc f g).evCount = s.evCount := rfl
@[simp] theorem State.updFunc_evBeat (s : State) (f : FnNo) (g : Func → Func) : (s.updFunc f g).evBeat = s.evBeat := rfl
@[simp] theorem State.updFunc_raised (s : State) (f : FnNo) (g : Func → Func) : (s.updFunc f g).raised = s.raised := rfl
@[simp] theorem State.updFunc_out (s : State) (f : FnNo) (g : Func → Func) : (s.updFunc f g).out = s.out := rfl
@[simp] theorem State.updFunc_cfg (s : State) (f : FnNo) (g : Func → Func) : (s.updFunc f g).cfg = s.cfg := rfl
@[simp] theorem State.updFunc_prevCfg (s : State) (f : FnNo) (g : Func → Func) : (s.updFunc f g).prevCfg = s.prevCfg := rfl
@[simp] theorem State.updFunc_vol (s : State) (f : FnNo) (g : Func → Func) : (s.updFunc f g).vol = s.vol := rfl
@[simp] theorem State.updFunc_freeIx (s : State) (f : FnNo) (g : Func → Func) : (s.updFunc f g).freeIx = s.freeIx := rfl
@[simp] theorem State.updFunc_partner (s : State) (f : FnNo) (g : Func → Func) : (s.updFunc f g).partner = s.partner := rfl
@[simp] theorem State.updFunc_holdStanding (s : State) (f : FnNo) (g : Func → Func) : (s.updFunc f g).holdStanding = s.holdStanding := rfl
@[simp] theorem State.updFunc_lostMembers (s : State) (f : FnNo) (g : Func → Func) : (s.updFunc f g).lostMembers = s.lostMembers := rfl
@[simp] theorem State.updFunc_lostCores (s : State) (f : FnNo) (g : Func → Func) : (s.updFunc f g).lostCores = s.lostCores := rfl
@[simp] theorem State.updFunc_linkBeat (s : State) (f : FnNo) (g : Func → Func) : (s.updFunc f g).linkBeat = s.linkBeat := rfl
@[simp] theorem State.updFunc_layouts (s : State) (f : FnNo) (g : Func → Func) : (s.updFunc f g).layouts = s.layouts := rfl
@[simp] theorem State.updFunc_seqs (s : State) (f : FnNo) (g : Func → Func) : (s.updFunc f g).seqs = s.seqs := rfl
@[simp] theorem State.updFunc_frames (s : State) (f : FnNo) (g : Func → Func) : (s.updFunc f g).frames = s.frames := rfl
@[simp] theorem State.updFunc_work (s : State) (f : FnNo) (g : Func → Func) : (s.updFunc f g).work = s.work := rfl
@[simp] theorem State.updFunc_joins (s : State) (f : FnNo) (g : Func → Func) : (s.updFunc f g).joins = s.joins := rfl
@[simp] theorem State.updFunc_resumes (s : State) (f : FnNo) (g : Func → Func) : (s.updFunc f g).resumes = s.resumes := rfl
@[simp] theorem State.updFunc_leaves (s : State) (f : FnNo) (g : Func → Func) : (s.updFunc f g).leaves = s.leaves := rfl
@[simp] theorem State.updFunc_growths (s : State) (f : FnNo) (g : Func → Func) : (s.updFunc f g).growths = s.growths := rfl
@[simp] theorem State.updFunc_seeds (s : State) (f : FnNo) (g : Func → Func) : (s.updFunc f g).seeds = s.seeds := rfl
@[simp] theorem State.updFunc_runReq (s : State) (f : FnNo) (g : Func → Func) : (s.updFunc f g).runReq = s.runReq := rfl
@[simp] theorem State.updFunc_hbm (s : State) (f : FnNo) (g : Func → Func) : (s.updFunc f g).hbm = s.hbm := rfl
@[simp] theorem State.updFunc_dieBuf (s : State) (f : FnNo) (g : Func → Func) : (s.updFunc f g).dieBuf = s.dieBuf := rfl
@[simp] theorem State.updFunc_hubBuf (s : State) (f : FnNo) (g : Func → Func) : (s.updFunc f g).hubBuf = s.hubBuf := rfl
@[simp] theorem State.updFunc_uncleared (s : State) (f : FnNo) (g : Func → Func) : (s.updFunc f g).uncleared = s.uncleared := rfl
@[simp] theorem State.updFunc_shadowMove (s : State) (f : FnNo) (g : Func → Func) : (s.updFunc f g).shadowMove = s.shadowMove := rfl
@[simp] theorem State.updFunc_reloc (s : State) (f : FnNo) (g : Func → Func) : (s.updFunc f g).reloc = s.reloc := rfl
@[simp] theorem State.updFunc_scrubCount (s : State) (f : FnNo) (g : Func → Func) : (s.updFunc f g).scrubCount = s.scrubCount := rfl
@[simp] theorem State.updFunc_agentBeat (s : State) (f : FnNo) (g : Func → Func) : (s.updFunc f g).agentBeat = s.agentBeat := rfl
@[simp] theorem State.updFunc_pipes (s : State) (f : FnNo) (g : Func → Func) : (s.updFunc f g).pipes = s.pipes := rfl
@[simp] theorem State.updFunc_rennets (s : State) (f : FnNo) (g : Func → Func) : (s.updFunc f g).rennets = s.rennets := rfl
@[simp] theorem State.updFunc_waitQ (s : State) (f : FnNo) (g : Func → Func) : (s.updFunc f g).waitQ = s.waitQ := rfl
@[simp] theorem State.updFunc_retries (s : State) (f : FnNo) (g : Func → Func) : (s.updFunc f g).retries = s.retries := rfl
@[simp] theorem State.updFunc_peers (s : State) (f : FnNo) (g : Func → Func) : (s.updFunc f g).peers = s.peers := rfl
@[simp] theorem State.updFunc_poolTotal (s : State) (f : FnNo) (g : Func → Func) : (s.updFunc f g).poolTotal = s.poolTotal := rfl
@[simp] theorem State.updFunc_poolFault (s : State) (f : FnNo) (g : Func → Func) : (s.updFunc f g).poolFault = s.poolFault := rfl
@[simp] theorem State.updFunc_lostNext (s : State) (f : FnNo) (g : Func → Func) : (s.updFunc f g).lostNext = s.lostNext := rfl
@[simp] theorem State.updFunc_croak (s : State) (f : FnNo) (g : Func → Func) : (s.updFunc f g).croak = s.croak := rfl
@[simp] theorem State.updFunc_funcs (s : State) (f : FnNo) (g : Func → Func) : (s.updFunc f g).funcs = s.funcs.set f (g s.funcs[f]) := rfl
@[simp] theorem State.updFunc_host (s : State) (f : FnNo) (g : Func → Func) : (s.updFunc f g).host = s.host := rfl
@[simp] theorem State.updFunc_bindings (s : State) (f : FnNo) (g : Func → Func) : (s.updFunc f g).bindings = s.bindings := rfl
@[simp] theorem State.updFunc_credits (s : State) (f : FnNo) (g : Func → Func) : (s.updFunc f g).credits = s.credits := rfl
@[simp] theorem State.updFunc_fports (s : State) (f : FnNo) (g : Func → Func) : (s.updFunc f g).fports = s.fports := rfl
@[simp] theorem State.updFunc_twin (s : State) (f : FnNo) (g : Func → Func) : (s.updFunc f g).twin = s.twin := rfl
@[simp] theorem State.updFunc_twinPool (s : State) (f : FnNo) (g : Func → Func) : (s.updFunc f g).twinPool = s.twinPool := rfl
@[simp] theorem State.updFunc_exporting (s : State) (f : FnNo) (g : Func → Func) : (s.updFunc f g).exporting = s.exporting := rfl
@[simp] theorem State.updFunc_importing (s : State) (f : FnNo) (g : Func → Func) : (s.updFunc f g).importing = s.importing := rfl
@[simp] theorem State.updFunc_codecs (s : State) (f : FnNo) (g : Func → Func) : (s.updFunc f g).codecs = s.codecs := rfl
@[simp] theorem State.updFunc_contexts (s : State) (f : FnNo) (g : Func → Func) : (s.updFunc f g).contexts = s.contexts := rfl
@[simp] theorem State.updFunc_rings (s : State) (f : FnNo) (g : Func → Func) : (s.updFunc f g).rings = s.rings := rfl
@[simp] theorem State.updFunc_codecIn (s : State) (f : FnNo) (g : Func → Func) : (s.updFunc f g).codecIn = s.codecIn := rfl
@[simp] theorem State.updFunc_sessions (s : State) (f : FnNo) (g : Func → Func) : (s.updFunc f g).sessions = s.sessions := rfl
@[simp] theorem State.updFunc_pendingGen (s : State) (f : FnNo) (g : Func → Func) : (s.updFunc f g).pendingGen = s.pendingGen := rfl
@[simp] theorem State.updFunc_fuseBanks (s : State) (f : FnNo) (g : Func → Func) : (s.updFunc f g).fuseBanks = s.fuseBanks := rfl
@[simp] theorem State.updFunc_images (s : State) (f : FnNo) (g : Func → Func) : (s.updFunc f g).images = s.images := rfl
@[simp] theorem State.updFunc_measurement (s : State) (f : FnNo) (g : Func → Func) : (s.updFunc f g).measurement = s.measurement := rfl
@[simp] theorem State.updFunc_dropBeat (s : State) (f : FnNo) (g : Func → Func) : (s.updFunc f g).dropBeat = s.dropBeat := rfl
@[simp] theorem State.updFunc_mirrorBeat (s : State) (f : FnNo) (g : Func → Func) : (s.updFunc f g).mirrorBeat = s.mirrorBeat := rfl
@[simp] theorem State.updFunc_unlocking (s : State) (f : FnNo) (g : Func → Func) : (s.updFunc f g).unlocking = s.unlocking := rfl
@[simp] theorem State.updFunc_helloPieces (s : State) (f : FnNo) (g : Func → Func) : (s.updFunc f g).helloPieces = s.helloPieces := rfl
@[simp] theorem State.updFunc_audit (s : State) (f : FnNo) (g : Func → Func) : (s.updFunc f g).audit = s.audit := rfl
@[simp] theorem State.updFunc_twinAudit (s : State) (f : FnNo) (g : Func → Func) : (s.updFunc f g).twinAudit = s.twinAudit := rfl
@[simp] theorem State.updFunc_power (s : State) (f : FnNo) (g : Func → Func) : (s.updFunc f g).power = s.power := rfl
@[simp] theorem State.updFunc_tap (s : State) (f : FnNo) (g : Func → Func) : (s.updFunc f g).tap = s.tap := rfl


end Sys2Proof.Machine
end

