-- ==== Sys2Proof/Laws/Report.lean ====
section
/-! SUPPORT. What raising an event, counting and signalling a cause can change: the event ring and its counts, volatile
entries, the functions' cause registers, the host-bound queue and what is sent; every other field is as before. -/

set_option Elab.async false
namespace Sys2Proof.Machine

theorem State.Reported.refl (s : State) : s.Reported s := rfl

theorem State.Reported.trans {s t u : State} (h : s.Reported t) (k : t.Reported u) : s.Reported u := by
  unfold State.Reported at *
  rw [k, h]

theorem State.reported_send (s : State) (m : OutMsg) : s.Reported (s.send m) := rfl
theorem State.reported_setVol (s : State) (k v : Nat) : s.Reported (s.setVol k v) := rfl
theorem State.reported_updFunc (s : State) (f : FnNo) (g : Func → Func) : s.Reported (s.updFunc f g) := rfl

theorem State.reported_events (s : State) (e : List EventRec) (n : Nat) (b : List ((Nat × Nat) × Nat)) :
    s.Reported { s with events := e, evCount := n, evBeat := b } := rfl

theorem State.reported_asks (s : State) (h : HostBound) : s.Reported (s.asks h) := by
  unfold State.asks; split <;> rfl

theorem State.reported_toHost (s : State) (f : FnNo) (w : Fin 17) (m : OutMsg) : s.Reported (s.toHost f w m) := by
  unfold State.toHost
  dsimp only
  split
  · exact s.reported_asks _
  · rfl

theorem State.reported_signalVector (s : State) (f : FnNo) (v : Nat) : s.Reported (s.signalVector f v) := by
  unfold State.signalVector; split
  · rfl
  · exact s.reported_toHost f _ _

theorem State.reported_cause (s : State) (f : FnNo) (b v : Nat) : s.Reported (s.cause f b v) := by
  unfold State.cause
  dsimp only
  split
  · exact (s.reported_updFunc f _).trans (State.reported_signalVector _ f v)
  · exact s.reported_updFunc f _

theorem State.reported_vatCause (s : State) (v : VatNo) (b k : Nat) : s.Reported (s.vatCause v b k) := by
  unfold State.vatCause
  dsimp only
  split
  · exact s.reported_cause 0 b k
  · exact (s.reported_cause 0 b k).trans (State.reported_cause _ _ b k)

/-- An event told to be written changes the events raised and counted in the beat alone. -/
theorem State.reported_emit (s : State) (code path : Nat) (fs : List (Nat × Nat)) : s.Reported (s.emit code path fs).2 := by
  unfold State.emit
  dsimp only
  split <;> rfl

theorem State.reported_countEvent (s : State) (sub : Nat) : s.Reported (s.countEvent sub) := by
  unfold State.countEvent
  dsimp only
  split
  · rfl
  · split
    · rfl
    · exact (s.reported_setVol _ _).trans (State.reported_emit _ _ _ _)

theorem State.reported_raise (s : State) (code path : Nat) (fs : List (Nat × Nat)) : s.Reported (s.raise code path fs) := by
  unfold State.raise
  dsimp only
  split
  · exact s.reported_emit code path fs
  · exact (s.reported_emit code path fs).trans (State.reported_countEvent _ 3)

theorem State.reported_skipEvent (s : State) : s.Reported s.skipEvent := by
  unfold State.skipEvent
  dsimp only
  split
  · rfl
  · exact State.Reported.trans (t := { s with host := _ }) rfl (State.reported_countEvent _ 6)

/-- An event in its slot and numbered. -/
theorem State.reported_numbered (s : State) (l : List EventRec) (n : Nat) : s.Reported { s with events := l, evCount := n } := rfl

theorem State.reported_writeEvent (s : State) (e : EventRec) : s.Reported (s.writeEvent e) := by
  unfold State.writeEvent
  dsimp only
  split
  · exact (s.reported_skipEvent.trans (State.reported_numbered _ _ _)).trans (State.reported_cause _ 0 1 0)
  · exact ((s.reported_skipEvent.trans (State.reported_numbered _ _ _)).trans (State.reported_cause _ 0 1 0)).trans
      (State.reported_toHost _ 0 _ _)

theorem State.reported_writeEvents (l : List EventRec) (s : State) : s.Reported (l.foldl State.writeEvent s) := by
  induction l generalizing s with
  | nil => rfl
  | cons e l ih => exact (s.reported_writeEvent e).trans (ih _)

theorem State.reported_settleOnce (s : State) (n : Nat) : s.Reported (s.settleOnce n) := by
  unfold State.settleOnce
  exact State.Reported.trans (t := { s with raised := s.raised.take n }) rfl (State.reported_writeEvents _ _)

theorem State.reported_settled (s : State) (n : Nat) : s.Reported (s.settled n) :=
  (s.reported_settleOnce n).trans (State.reported_settleOnce _ n)

/-- Nothing raised since: nothing written. -/
theorem State.settled_quiet (s : State) (n : Nat) (h : s.raised.length ≤ n) : s.settled n = s := by
  have once : s.settleOnce n = s := by
    unfold State.settleOnce
    rw [List.drop_eq_nil_of_le h, List.take_of_length_le h]
    rfl
  unfold State.settled
  rw [once, once]

theorem State.reported_vatEvent (s : State) (v : VatNo) : s.Reported (s.vatEvent v) := by
  unfold State.vatEvent
  split
  · rfl
  · exact s.reported_cause _ 1 0

theorem State.reported_raiseVat (s : State) (v : VatNo) (code path : Nat) (fs : List (Nat × Nat)) :
    s.Reported (s.raiseVat v code path fs) := by
  exact (s.reported_raise code path fs).trans (State.reported_vatEvent _ v)

theorem State.reported_count (s : State) (key n code path : Nat) (fs : List (Nat × Nat)) :
    s.Reported (s.count key n code path fs) := by
  unfold State.count
  dsimp only
  split
  · rfl
  · split
    · rfl
    · exact (s.reported_setVol key _).trans (State.reported_raise _ code path fs)

theorem State.reported_countFor (s : State) (v : VatNo) (key code path sub : Nat) : s.Reported (s.countFor v key code path sub) := by
  unfold State.countFor
  dsimp only
  split
  · exact (s.reported_count key 1 code path _).trans (State.reported_vatEvent _ v)
  · exact s.reported_count key 1 code path _

theorem State.Reported.pending {s t : State} (h : s.Reported t) : t.pending = s.pending := by rw [h]
theorem State.Reported.cores {s t : State} (h : s.Reported t) : t.cores = s.cores := by rw [h]
theorem State.Reported.units {s t : State} (h : s.Reported t) : t.units = s.units := by rw [h]
theorem State.Reported.unitReqs {s t : State} (h : s.Reported t) : t.unitReqs = s.unitReqs := by rw [h]
theorem State.Reported.launches {s t : State} (h : s.Reported t) : t.launches = s.launches := by rw [h]
theorem State.Reported.results {s t : State} (h : s.Reported t) : t.results = s.results := by rw [h]
theorem State.Reported.verdicts {s t : State} (h : s.Reported t) : t.verdicts = s.verdicts := by rw [h]
theorem State.Reported.cfg {s t : State} (h : s.Reported t) : t.cfg = s.cfg := by rw [h]
theorem State.Reported.prevCfg {s t : State} (h : s.Reported t) : t.prevCfg = s.prevCfg := by rw [h]
theorem State.Reported.freeIx {s t : State} (h : s.Reported t) : t.freeIx = s.freeIx := by rw [h]
theorem State.Reported.partner {s t : State} (h : s.Reported t) : t.partner = s.partner := by rw [h]
theorem State.Reported.holdStanding {s t : State} (h : s.Reported t) : t.holdStanding = s.holdStanding := by rw [h]
theorem State.Reported.lostMembers {s t : State} (h : s.Reported t) : t.lostMembers = s.lostMembers := by rw [h]
theorem State.Reported.lostCores {s t : State} (h : s.Reported t) : t.lostCores = s.lostCores := by rw [h]
theorem State.Reported.linkBeat {s t : State} (h : s.Reported t) : t.linkBeat = s.linkBeat := by rw [h]
theorem State.Reported.layouts {s t : State} (h : s.Reported t) : t.layouts = s.layouts := by rw [h]
theorem State.Reported.seqs {s t : State} (h : s.Reported t) : t.seqs = s.seqs := by rw [h]
theorem State.Reported.frames {s t : State} (h : s.Reported t) : t.frames = s.frames := by rw [h]
theorem State.Reported.work {s t : State} (h : s.Reported t) : t.work = s.work := by rw [h]
theorem State.Reported.joins {s t : State} (h : s.Reported t) : t.joins = s.joins := by rw [h]
theorem State.Reported.resumes {s t : State} (h : s.Reported t) : t.resumes = s.resumes := by rw [h]
theorem State.Reported.leaves {s t : State} (h : s.Reported t) : t.leaves = s.leaves := by rw [h]
theorem State.Reported.growths {s t : State} (h : s.Reported t) : t.growths = s.growths := by rw [h]
theorem State.Reported.seeds {s t : State} (h : s.Reported t) : t.seeds = s.seeds := by rw [h]
theorem State.Reported.runReq {s t : State} (h : s.Reported t) : t.runReq = s.runReq := by rw [h]
theorem State.Reported.hbm {s t : State} (h : s.Reported t) : t.hbm = s.hbm := by rw [h]
theorem State.Reported.dieBuf {s t : State} (h : s.Reported t) : t.dieBuf = s.dieBuf := by rw [h]
theorem State.Reported.hubBuf {s t : State} (h : s.Reported t) : t.hubBuf = s.hubBuf := by rw [h]
theorem State.Reported.uncleared {s t : State} (h : s.Reported t) : t.uncleared = s.uncleared := by rw [h]
theorem State.Reported.shadowMove {s t : State} (h : s.Reported t) : t.shadowMove = s.shadowMove := by rw [h]
theorem State.Reported.reloc {s t : State} (h : s.Reported t) : t.reloc = s.reloc := by rw [h]
theorem State.Reported.scrubCount {s t : State} (h : s.Reported t) : t.scrubCount = s.scrubCount := by rw [h]
theorem State.Reported.agentBeat {s t : State} (h : s.Reported t) : t.agentBeat = s.agentBeat := by rw [h]
theorem State.Reported.pipes {s t : State} (h : s.Reported t) : t.pipes = s.pipes := by rw [h]
theorem State.Reported.rennets {s t : State} (h : s.Reported t) : t.rennets = s.rennets := by rw [h]
theorem State.Reported.waitQ {s t : State} (h : s.Reported t) : t.waitQ = s.waitQ := by rw [h]
theorem State.Reported.retries {s t : State} (h : s.Reported t) : t.retries = s.retries := by rw [h]
theorem State.Reported.peers {s t : State} (h : s.Reported t) : t.peers = s.peers := by rw [h]
theorem State.Reported.poolTotal {s t : State} (h : s.Reported t) : t.poolTotal = s.poolTotal := by rw [h]
theorem State.Reported.poolFault {s t : State} (h : s.Reported t) : t.poolFault = s.poolFault := by rw [h]
theorem State.Reported.lostNext {s t : State} (h : s.Reported t) : t.lostNext = s.lostNext := by rw [h]
theorem State.Reported.croak {s t : State} (h : s.Reported t) : t.croak = s.croak := by rw [h]
theorem State.Reported.bindings {s t : State} (h : s.Reported t) : t.bindings = s.bindings := by rw [h]
theorem State.Reported.credits {s t : State} (h : s.Reported t) : t.credits = s.credits := by rw [h]
theorem State.Reported.fports {s t : State} (h : s.Reported t) : t.fports = s.fports := by rw [h]
theorem State.Reported.twin {s t : State} (h : s.Reported t) : t.twin = s.twin := by rw [h]
theorem State.Reported.twinPool {s t : State} (h : s.Reported t) : t.twinPool = s.twinPool := by rw [h]
theorem State.Reported.exporting {s t : State} (h : s.Reported t) : t.exporting = s.exporting := by rw [h]
theorem State.Reported.importing {s t : State} (h : s.Reported t) : t.importing = s.importing := by rw [h]
theorem State.Reported.codecs {s t : State} (h : s.Reported t) : t.codecs = s.codecs := by rw [h]
theorem State.Reported.contexts {s t : State} (h : s.Reported t) : t.contexts = s.contexts := by rw [h]
theorem State.Reported.rings {s t : State} (h : s.Reported t) : t.rings = s.rings := by rw [h]
theorem State.Reported.codecIn {s t : State} (h : s.Reported t) : t.codecIn = s.codecIn := by rw [h]
theorem State.Reported.sessions {s t : State} (h : s.Reported t) : t.sessions = s.sessions := by rw [h]
theorem State.Reported.pendingGen {s t : State} (h : s.Reported t) : t.pendingGen = s.pendingGen := by rw [h]
theorem State.Reported.fuseBanks {s t : State} (h : s.Reported t) : t.fuseBanks = s.fuseBanks := by rw [h]
theorem State.Reported.images {s t : State} (h : s.Reported t) : t.images = s.images := by rw [h]
theorem State.Reported.measurement {s t : State} (h : s.Reported t) : t.measurement = s.measurement := by rw [h]
theorem State.Reported.dropBeat {s t : State} (h : s.Reported t) : t.dropBeat = s.dropBeat := by rw [h]
theorem State.Reported.mirrorBeat {s t : State} (h : s.Reported t) : t.mirrorBeat = s.mirrorBeat := by rw [h]
theorem State.Reported.unlocking {s t : State} (h : s.Reported t) : t.unlocking = s.unlocking := by rw [h]
theorem State.Reported.helloPieces {s t : State} (h : s.Reported t) : t.helloPieces = s.helloPieces := by rw [h]
theorem State.Reported.audit {s t : State} (h : s.Reported t) : t.audit = s.audit := by rw [h]
theorem State.Reported.twinAudit {s t : State} (h : s.Reported t) : t.twinAudit = s.twinAudit := by rw [h]
theorem State.Reported.power {s t : State} (h : s.Reported t) : t.power = s.power := by rw [h]
theorem State.Reported.tap {s t : State} (h : s.Reported t) : t.tap = s.tap := by rw [h]

@[simp] theorem State.raise_pending (s : State) (code path : Nat) (fs : List (Nat × Nat)) : (s.raise code path fs).pending = s.pending := (s.reported_raise code path fs).pending
@[simp] theorem State.raise_cores (s : State) (code path : Nat) (fs : List (Nat × Nat)) : (s.raise code path fs).cores = s.cores := (s.reported_raise code path fs).cores
@[simp] theorem State.raise_units (s : State) (code path : Nat) (fs : List (Nat × Nat)) : (s.raise code path fs).units = s.units := (s.reported_raise code path fs).units
@[simp] theorem State.raise_unitReqs (s : State) (code path : Nat) (fs : List (Nat × Nat)) : (s.raise code path fs).unitReqs = s.unitReqs := (s.reported_raise code path fs).unitReqs
@[simp] theorem State.raise_launches (s : State) (code path : Nat) (fs : List (Nat × Nat)) : (s.raise code path fs).launches = s.launches := (s.reported_raise code path fs).launches
@[simp] theorem State.raise_results (s : State) (code path : Nat) (fs : List (Nat × Nat)) : (s.raise code path fs).results = s.results := (s.reported_raise code path fs).results
@[simp] theorem State.raise_verdicts (s : State) (code path : Nat) (fs : List (Nat × Nat)) : (s.raise code path fs).verdicts = s.verdicts := (s.reported_raise code path fs).verdicts
@[simp] theorem State.raise_cfg (s : State) (code path : Nat) (fs : List (Nat × Nat)) : (s.raise code path fs).cfg = s.cfg := (s.reported_raise code path fs).cfg
@[simp] theorem State.raise_prevCfg (s : State) (code path : Nat) (fs : List (Nat × Nat)) : (s.raise code path fs).prevCfg = s.prevCfg := (s.reported_raise code path fs).prevCfg
@[simp] theorem State.raise_freeIx (s : State) (code path : Nat) (fs : List (Nat × Nat)) : (s.raise code path fs).freeIx = s.freeIx := (s.reported_raise code path fs).freeIx
@[simp] theorem State.raise_partner (s : State) (code path : Nat) (fs : List (Nat × Nat)) : (s.raise code path fs).partner = s.partner := (s.reported_raise code path fs).partner
@[simp] theorem State.raise_holdStanding (s : State) (code path : Nat) (fs : List (Nat × Nat)) : (s.raise code path fs).holdStanding = s.holdStanding := (s.reported_raise code path fs).holdStanding
@[simp] theorem State.raise_lostMembers (s : State) (code path : Nat) (fs : List (Nat × Nat)) : (s.raise code path fs).lostMembers = s.lostMembers := (s.reported_raise code path fs).lostMembers
@[simp] theorem State.raise_lostCores (s : State) (code path : Nat) (fs : List (Nat × Nat)) : (s.raise code path fs).lostCores = s.lostCores := (s.reported_raise code path fs).lostCores
@[simp] theorem State.raise_linkBeat (s : State) (code path : Nat) (fs : List (Nat × Nat)) : (s.raise code path fs).linkBeat = s.linkBeat := (s.reported_raise code path fs).linkBeat
@[simp] theorem State.raise_layouts (s : State) (code path : Nat) (fs : List (Nat × Nat)) : (s.raise code path fs).layouts = s.layouts := (s.reported_raise code path fs).layouts
@[simp] theorem State.raise_seqs (s : State) (code path : Nat) (fs : List (Nat × Nat)) : (s.raise code path fs).seqs = s.seqs := (s.reported_raise code path fs).seqs
@[simp] theorem State.raise_frames (s : State) (code path : Nat) (fs : List (Nat × Nat)) : (s.raise code path fs).frames = s.frames := (s.reported_raise code path fs).frames
@[simp] theorem State.raise_work (s : State) (code path : Nat) (fs : List (Nat × Nat)) : (s.raise code path fs).work = s.work := (s.reported_raise code path fs).work
@[simp] theorem State.raise_joins (s : State) (code path : Nat) (fs : List (Nat × Nat)) : (s.raise code path fs).joins = s.joins := (s.reported_raise code path fs).joins
@[simp] theorem State.raise_resumes (s : State) (code path : Nat) (fs : List (Nat × Nat)) : (s.raise code path fs).resumes = s.resumes := (s.reported_raise code path fs).resumes
@[simp] theorem State.raise_leaves (s : State) (code path : Nat) (fs : List (Nat × Nat)) : (s.raise code path fs).leaves = s.leaves := (s.reported_raise code path fs).leaves
@[simp] theorem State.raise_growths (s : State) (code path : Nat) (fs : List (Nat × Nat)) : (s.raise code path fs).growths = s.growths := (s.reported_raise code path fs).growths
@[simp] theorem State.raise_seeds (s : State) (code path : Nat) (fs : List (Nat × Nat)) : (s.raise code path fs).seeds = s.seeds := (s.reported_raise code path fs).seeds
@[simp] theorem State.raise_runReq (s : State) (code path : Nat) (fs : List (Nat × Nat)) : (s.raise code path fs).runReq = s.runReq := (s.reported_raise code path fs).runReq
@[simp] theorem State.raise_hbm (s : State) (code path : Nat) (fs : List (Nat × Nat)) : (s.raise code path fs).hbm = s.hbm := (s.reported_raise code path fs).hbm
@[simp] theorem State.raise_dieBuf (s : State) (code path : Nat) (fs : List (Nat × Nat)) : (s.raise code path fs).dieBuf = s.dieBuf := (s.reported_raise code path fs).dieBuf
@[simp] theorem State.raise_hubBuf (s : State) (code path : Nat) (fs : List (Nat × Nat)) : (s.raise code path fs).hubBuf = s.hubBuf := (s.reported_raise code path fs).hubBuf
@[simp] theorem State.raise_uncleared (s : State) (code path : Nat) (fs : List (Nat × Nat)) : (s.raise code path fs).uncleared = s.uncleared := (s.reported_raise code path fs).uncleared
@[simp] theorem State.raise_shadowMove (s : State) (code path : Nat) (fs : List (Nat × Nat)) : (s.raise code path fs).shadowMove = s.shadowMove := (s.reported_raise code path fs).shadowMove
@[simp] theorem State.raise_reloc (s : State) (code path : Nat) (fs : List (Nat × Nat)) : (s.raise code path fs).reloc = s.reloc := (s.reported_raise code path fs).reloc
@[simp] theorem State.raise_scrubCount (s : State) (code path : Nat) (fs : List (Nat × Nat)) : (s.raise code path fs).scrubCount = s.scrubCount := (s.reported_raise code path fs).scrubCount
@[simp] theorem State.raise_agentBeat (s : State) (code path : Nat) (fs : List (Nat × Nat)) : (s.raise code path fs).agentBeat = s.agentBeat := (s.reported_raise code path fs).agentBeat
@[simp] theorem State.raise_pipes (s : State) (code path : Nat) (fs : List (Nat × Nat)) : (s.raise code path fs).pipes = s.pipes := (s.reported_raise code path fs).pipes
@[simp] theorem State.raise_rennets (s : State) (code path : Nat) (fs : List (Nat × Nat)) : (s.raise code path fs).rennets = s.rennets := (s.reported_raise code path fs).rennets
@[simp] theorem State.raise_waitQ (s : State) (code path : Nat) (fs : List (Nat × Nat)) : (s.raise code path fs).waitQ = s.waitQ := (s.reported_raise code path fs).waitQ
@[simp] theorem State.raise_retries (s : State) (code path : Nat) (fs : List (Nat × Nat)) : (s.raise code path fs).retries = s.retries := (s.reported_raise code path fs).retries
@[simp] theorem State.raise_peers (s : State) (code path : Nat) (fs : List (Nat × Nat)) : (s.raise code path fs).peers = s.peers := (s.reported_raise code path fs).peers
@[simp] theorem State.raise_poolTotal (s : State) (code path : Nat) (fs : List (Nat × Nat)) : (s.raise code path fs).poolTotal = s.poolTotal := (s.reported_raise code path fs).poolTotal
@[simp] theorem State.raise_poolFault (s : State) (code path : Nat) (fs : List (Nat × Nat)) : (s.raise code path fs).poolFault = s.poolFault := (s.reported_raise code path fs).poolFault
@[simp] theorem State.raise_lostNext (s : State) (code path : Nat) (fs : List (Nat × Nat)) : (s.raise code path fs).lostNext = s.lostNext := (s.reported_raise code path fs).lostNext
@[simp] theorem State.raise_croak (s : State) (code path : Nat) (fs : List (Nat × Nat)) : (s.raise code path fs).croak = s.croak := (s.reported_raise code path fs).croak
@[simp] theorem State.raise_bindings (s : State) (code path : Nat) (fs : List (Nat × Nat)) : (s.raise code path fs).bindings = s.bindings := (s.reported_raise code path fs).bindings
@[simp] theorem State.raise_credits (s : State) (code path : Nat) (fs : List (Nat × Nat)) : (s.raise code path fs).credits = s.credits := (s.reported_raise code path fs).credits
@[simp] theorem State.raise_fports (s : State) (code path : Nat) (fs : List (Nat × Nat)) : (s.raise code path fs).fports = s.fports := (s.reported_raise code path fs).fports
@[simp] theorem State.raise_twin (s : State) (code path : Nat) (fs : List (Nat × Nat)) : (s.raise code path fs).twin = s.twin := (s.reported_raise code path fs).twin
@[simp] theorem State.raise_twinPool (s : State) (code path : Nat) (fs : List (Nat × Nat)) : (s.raise code path fs).twinPool = s.twinPool := (s.reported_raise code path fs).twinPool
@[simp] theorem State.raise_exporting (s : State) (code path : Nat) (fs : List (Nat × Nat)) : (s.raise code path fs).exporting = s.exporting := (s.reported_raise code path fs).exporting
@[simp] theorem State.raise_importing (s : State) (code path : Nat) (fs : List (Nat × Nat)) : (s.raise code path fs).importing = s.importing := (s.reported_raise code path fs).importing
@[simp] theorem State.raise_codecs (s : State) (code path : Nat) (fs : List (Nat × Nat)) : (s.raise code path fs).codecs = s.codecs := (s.reported_raise code path fs).codecs
@[simp] theorem State.raise_contexts (s : State) (code path : Nat) (fs : List (Nat × Nat)) : (s.raise code path fs).contexts = s.contexts := (s.reported_raise code path fs).contexts
@[simp] theorem State.raise_rings (s : State) (code path : Nat) (fs : List (Nat × Nat)) : (s.raise code path fs).rings = s.rings := (s.reported_raise code path fs).rings
@[simp] theorem State.raise_codecIn (s : State) (code path : Nat) (fs : List (Nat × Nat)) : (s.raise code path fs).codecIn = s.codecIn := (s.reported_raise code path fs).codecIn
@[simp] theorem State.raise_sessions (s : State) (code path : Nat) (fs : List (Nat × Nat)) : (s.raise code path fs).sessions = s.sessions := (s.reported_raise code path fs).sessions
@[simp] theorem State.raise_pendingGen (s : State) (code path : Nat) (fs : List (Nat × Nat)) : (s.raise code path fs).pendingGen = s.pendingGen := (s.reported_raise code path fs).pendingGen
@[simp] theorem State.raise_fuseBanks (s : State) (code path : Nat) (fs : List (Nat × Nat)) : (s.raise code path fs).fuseBanks = s.fuseBanks := (s.reported_raise code path fs).fuseBanks
@[simp] theorem State.raise_images (s : State) (code path : Nat) (fs : List (Nat × Nat)) : (s.raise code path fs).images = s.images := (s.reported_raise code path fs).images
@[simp] theorem State.raise_measurement (s : State) (code path : Nat) (fs : List (Nat × Nat)) : (s.raise code path fs).measurement = s.measurement := (s.reported_raise code path fs).measurement
@[simp] theorem State.raise_dropBeat (s : State) (code path : Nat) (fs : List (Nat × Nat)) : (s.raise code path fs).dropBeat = s.dropBeat := (s.reported_raise code path fs).dropBeat
@[simp] theorem State.raise_mirrorBeat (s : State) (code path : Nat) (fs : List (Nat × Nat)) : (s.raise code path fs).mirrorBeat = s.mirrorBeat := (s.reported_raise code path fs).mirrorBeat
@[simp] theorem State.raise_unlocking (s : State) (code path : Nat) (fs : List (Nat × Nat)) : (s.raise code path fs).unlocking = s.unlocking := (s.reported_raise code path fs).unlocking
@[simp] theorem State.raise_helloPieces (s : State) (code path : Nat) (fs : List (Nat × Nat)) : (s.raise code path fs).helloPieces = s.helloPieces := (s.reported_raise code path fs).helloPieces
@[simp] theorem State.raise_audit (s : State) (code path : Nat) (fs : List (Nat × Nat)) : (s.raise code path fs).audit = s.audit := (s.reported_raise code path fs).audit
@[simp] theorem State.raise_twinAudit (s : State) (code path : Nat) (fs : List (Nat × Nat)) : (s.raise code path fs).twinAudit = s.twinAudit := (s.reported_raise code path fs).twinAudit
@[simp] theorem State.raise_power (s : State) (code path : Nat) (fs : List (Nat × Nat)) : (s.raise code path fs).power = s.power := (s.reported_raise code path fs).power
@[simp] theorem State.raise_tap (s : State) (code path : Nat) (fs : List (Nat × Nat)) : (s.raise code path fs).tap = s.tap := (s.reported_raise code path fs).tap

@[simp] theorem State.count_pending (s : State) (key n code path : Nat) (fs : List (Nat × Nat)) : (s.count key n code path fs).pending = s.pending := (s.reported_count key n code path fs).pending
@[simp] theorem State.count_cores (s : State) (key n code path : Nat) (fs : List (Nat × Nat)) : (s.count key n code path fs).cores = s.cores := (s.reported_count key n code path fs).cores
@[simp] theorem State.count_units (s : State) (key n code path : Nat) (fs : List (Nat × Nat)) : (s.count key n code path fs).units = s.units := (s.reported_count key n code path fs).units
@[simp] theorem State.count_unitReqs (s : State) (key n code path : Nat) (fs : List (Nat × Nat)) : (s.count key n code path fs).unitReqs = s.unitReqs := (s.reported_count key n code path fs).unitReqs
@[simp] theorem State.count_launches (s : State) (key n code path : Nat) (fs : List (Nat × Nat)) : (s.count key n code path fs).launches = s.launches := (s.reported_count key n code path fs).launches
@[simp] theorem State.count_results (s : State) (key n code path : Nat) (fs : List (Nat × Nat)) : (s.count key n code path fs).results = s.results := (s.reported_count key n code path fs).results
@[simp] theorem State.count_verdicts (s : State) (key n code path : Nat) (fs : List (Nat × Nat)) : (s.count key n code path fs).verdicts = s.verdicts := (s.reported_count key n code path fs).verdicts
@[simp] theorem State.count_cfg (s : State) (key n code path : Nat) (fs : List (Nat × Nat)) : (s.count key n code path fs).cfg = s.cfg := (s.reported_count key n code path fs).cfg
@[simp] theorem State.count_prevCfg (s : State) (key n code path : Nat) (fs : List (Nat × Nat)) : (s.count key n code path fs).prevCfg = s.prevCfg := (s.reported_count key n code path fs).prevCfg
@[simp] theorem State.count_freeIx (s : State) (key n code path : Nat) (fs : List (Nat × Nat)) : (s.count key n code path fs).freeIx = s.freeIx := (s.reported_count key n code path fs).freeIx
@[simp] theorem State.count_partner (s : State) (key n code path : Nat) (fs : List (Nat × Nat)) : (s.count key n code path fs).partner = s.partner := (s.reported_count key n code path fs).partner
@[simp] theorem State.count_holdStanding (s : State) (key n code path : Nat) (fs : List (Nat × Nat)) : (s.count key n code path fs).holdStanding = s.holdStanding := (s.reported_count key n code path fs).holdStanding
@[simp] theorem State.count_lostMembers (s : State) (key n code path : Nat) (fs : List (Nat × Nat)) : (s.count key n code path fs).lostMembers = s.lostMembers := (s.reported_count key n code path fs).lostMembers
@[simp] theorem State.count_lostCores (s : State) (key n code path : Nat) (fs : List (Nat × Nat)) : (s.count key n code path fs).lostCores = s.lostCores := (s.reported_count key n code path fs).lostCores
@[simp] theorem State.count_linkBeat (s : State) (key n code path : Nat) (fs : List (Nat × Nat)) : (s.count key n code path fs).linkBeat = s.linkBeat := (s.reported_count key n code path fs).linkBeat
@[simp] theorem State.count_layouts (s : State) (key n code path : Nat) (fs : List (Nat × Nat)) : (s.count key n code path fs).layouts = s.layouts := (s.reported_count key n code path fs).layouts
@[simp] theorem State.count_seqs (s : State) (key n code path : Nat) (fs : List (Nat × Nat)) : (s.count key n code path fs).seqs = s.seqs := (s.reported_count key n code path fs).seqs
@[simp] theorem State.count_frames (s : State) (key n code path : Nat) (fs : List (Nat × Nat)) : (s.count key n code path fs).frames = s.frames := (s.reported_count key n code path fs).frames
@[simp] theorem State.count_work (s : State) (key n code path : Nat) (fs : List (Nat × Nat)) : (s.count key n code path fs).work = s.work := (s.reported_count key n code path fs).work
@[simp] theorem State.count_joins (s : State) (key n code path : Nat) (fs : List (Nat × Nat)) : (s.count key n code path fs).joins = s.joins := (s.reported_count key n code path fs).joins
@[simp] theorem State.count_resumes (s : State) (key n code path : Nat) (fs : List (Nat × Nat)) : (s.count key n code path fs).resumes = s.resumes := (s.reported_count key n code path fs).resumes
@[simp] theorem State.count_leaves (s : State) (key n code path : Nat) (fs : List (Nat × Nat)) : (s.count key n code path fs).leaves = s.leaves := (s.reported_count key n code path fs).leaves
@[simp] theorem State.count_growths (s : State) (key n code path : Nat) (fs : List (Nat × Nat)) : (s.count key n code path fs).growths = s.growths := (s.reported_count key n code path fs).growths
@[simp] theorem State.count_seeds (s : State) (key n code path : Nat) (fs : List (Nat × Nat)) : (s.count key n code path fs).seeds = s.seeds := (s.reported_count key n code path fs).seeds
@[simp] theorem State.count_runReq (s : State) (key n code path : Nat) (fs : List (Nat × Nat)) : (s.count key n code path fs).runReq = s.runReq := (s.reported_count key n code path fs).runReq
@[simp] theorem State.count_hbm (s : State) (key n code path : Nat) (fs : List (Nat × Nat)) : (s.count key n code path fs).hbm = s.hbm := (s.reported_count key n code path fs).hbm
@[simp] theorem State.count_dieBuf (s : State) (key n code path : Nat) (fs : List (Nat × Nat)) : (s.count key n code path fs).dieBuf = s.dieBuf := (s.reported_count key n code path fs).dieBuf
@[simp] theorem State.count_hubBuf (s : State) (key n code path : Nat) (fs : List (Nat × Nat)) : (s.count key n code path fs).hubBuf = s.hubBuf := (s.reported_count key n code path fs).hubBuf
@[simp] theorem State.count_uncleared (s : State) (key n code path : Nat) (fs : List (Nat × Nat)) : (s.count key n code path fs).uncleared = s.uncleared := (s.reported_count key n code path fs).uncleared
@[simp] theorem State.count_shadowMove (s : State) (key n code path : Nat) (fs : List (Nat × Nat)) : (s.count key n code path fs).shadowMove = s.shadowMove := (s.reported_count key n code path fs).shadowMove
@[simp] theorem State.count_reloc (s : State) (key n code path : Nat) (fs : List (Nat × Nat)) : (s.count key n code path fs).reloc = s.reloc := (s.reported_count key n code path fs).reloc
@[simp] theorem State.count_scrubCount (s : State) (key n code path : Nat) (fs : List (Nat × Nat)) : (s.count key n code path fs).scrubCount = s.scrubCount := (s.reported_count key n code path fs).scrubCount
@[simp] theorem State.count_agentBeat (s : State) (key n code path : Nat) (fs : List (Nat × Nat)) : (s.count key n code path fs).agentBeat = s.agentBeat := (s.reported_count key n code path fs).agentBeat
@[simp] theorem State.count_pipes (s : State) (key n code path : Nat) (fs : List (Nat × Nat)) : (s.count key n code path fs).pipes = s.pipes := (s.reported_count key n code path fs).pipes
@[simp] theorem State.count_rennets (s : State) (key n code path : Nat) (fs : List (Nat × Nat)) : (s.count key n code path fs).rennets = s.rennets := (s.reported_count key n code path fs).rennets
@[simp] theorem State.count_waitQ (s : State) (key n code path : Nat) (fs : List (Nat × Nat)) : (s.count key n code path fs).waitQ = s.waitQ := (s.reported_count key n code path fs).waitQ
@[simp] theorem State.count_retries (s : State) (key n code path : Nat) (fs : List (Nat × Nat)) : (s.count key n code path fs).retries = s.retries := (s.reported_count key n code path fs).retries
@[simp] theorem State.count_peers (s : State) (key n code path : Nat) (fs : List (Nat × Nat)) : (s.count key n code path fs).peers = s.peers := (s.reported_count key n code path fs).peers
@[simp] theorem State.count_poolTotal (s : State) (key n code path : Nat) (fs : List (Nat × Nat)) : (s.count key n code path fs).poolTotal = s.poolTotal := (s.reported_count key n code path fs).poolTotal
@[simp] theorem State.count_poolFault (s : State) (key n code path : Nat) (fs : List (Nat × Nat)) : (s.count key n code path fs).poolFault = s.poolFault := (s.reported_count key n code path fs).poolFault
@[simp] theorem State.count_lostNext (s : State) (key n code path : Nat) (fs : List (Nat × Nat)) : (s.count key n code path fs).lostNext = s.lostNext := (s.reported_count key n code path fs).lostNext
@[simp] theorem State.count_croak (s : State) (key n code path : Nat) (fs : List (Nat × Nat)) : (s.count key n code path fs).croak = s.croak := (s.reported_count key n code path fs).croak
@[simp] theorem State.count_bindings (s : State) (key n code path : Nat) (fs : List (Nat × Nat)) : (s.count key n code path fs).bindings = s.bindings := (s.reported_count key n code path fs).bindings
@[simp] theorem State.count_credits (s : State) (key n code path : Nat) (fs : List (Nat × Nat)) : (s.count key n code path fs).credits = s.credits := (s.reported_count key n code path fs).credits
@[simp] theorem State.count_fports (s : State) (key n code path : Nat) (fs : List (Nat × Nat)) : (s.count key n code path fs).fports = s.fports := (s.reported_count key n code path fs).fports
@[simp] theorem State.count_twin (s : State) (key n code path : Nat) (fs : List (Nat × Nat)) : (s.count key n code path fs).twin = s.twin := (s.reported_count key n code path fs).twin
@[simp] theorem State.count_twinPool (s : State) (key n code path : Nat) (fs : List (Nat × Nat)) : (s.count key n code path fs).twinPool = s.twinPool := (s.reported_count key n code path fs).twinPool
@[simp] theorem State.count_exporting (s : State) (key n code path : Nat) (fs : List (Nat × Nat)) : (s.count key n code path fs).exporting = s.exporting := (s.reported_count key n code path fs).exporting
@[simp] theorem State.count_importing (s : State) (key n code path : Nat) (fs : List (Nat × Nat)) : (s.count key n code path fs).importing = s.importing := (s.reported_count key n code path fs).importing
@[simp] theorem State.count_codecs (s : State) (key n code path : Nat) (fs : List (Nat × Nat)) : (s.count key n code path fs).codecs = s.codecs := (s.reported_count key n code path fs).codecs
@[simp] theorem State.count_contexts (s : State) (key n code path : Nat) (fs : List (Nat × Nat)) : (s.count key n code path fs).contexts = s.contexts := (s.reported_count key n code path fs).contexts
@[simp] theorem State.count_rings (s : State) (key n code path : Nat) (fs : List (Nat × Nat)) : (s.count key n code path fs).rings = s.rings := (s.reported_count key n code path fs).rings
@[simp] theorem State.count_codecIn (s : State) (key n code path : Nat) (fs : List (Nat × Nat)) : (s.count key n code path fs).codecIn = s.codecIn := (s.reported_count key n code path fs).codecIn
@[simp] theorem State.count_sessions (s : State) (key n code path : Nat) (fs : List (Nat × Nat)) : (s.count key n code path fs).sessions = s.sessions := (s.reported_count key n code path fs).sessions
@[simp] theorem State.count_pendingGen (s : State) (key n code path : Nat) (fs : List (Nat × Nat)) : (s.count key n code path fs).pendingGen = s.pendingGen := (s.reported_count key n code path fs).pendingGen
@[simp] theorem State.count_fuseBanks (s : State) (key n code path : Nat) (fs : List (Nat × Nat)) : (s.count key n code path fs).fuseBanks = s.fuseBanks := (s.reported_count key n code path fs).fuseBanks
@[simp] theorem State.count_images (s : State) (key n code path : Nat) (fs : List (Nat × Nat)) : (s.count key n code path fs).images = s.images := (s.reported_count key n code path fs).images
@[simp] theorem State.count_measurement (s : State) (key n code path : Nat) (fs : List (Nat × Nat)) : (s.count key n code path fs).measurement = s.measurement := (s.reported_count key n code path fs).measurement
@[simp] theorem State.count_dropBeat (s : State) (key n code path : Nat) (fs : List (Nat × Nat)) : (s.count key n code path fs).dropBeat = s.dropBeat := (s.reported_count key n code path fs).dropBeat
@[simp] theorem State.count_mirrorBeat (s : State) (key n code path : Nat) (fs : List (Nat × Nat)) : (s.count key n code path fs).mirrorBeat = s.mirrorBeat := (s.reported_count key n code path fs).mirrorBeat
@[simp] theorem State.count_unlocking (s : State) (key n code path : Nat) (fs : List (Nat × Nat)) : (s.count key n code path fs).unlocking = s.unlocking := (s.reported_count key n code path fs).unlocking
@[simp] theorem State.count_helloPieces (s : State) (key n code path : Nat) (fs : List (Nat × Nat)) : (s.count key n code path fs).helloPieces = s.helloPieces := (s.reported_count key n code path fs).helloPieces
@[simp] theorem State.count_audit (s : State) (key n code path : Nat) (fs : List (Nat × Nat)) : (s.count key n code path fs).audit = s.audit := (s.reported_count key n code path fs).audit
@[simp] theorem State.count_twinAudit (s : State) (key n code path : Nat) (fs : List (Nat × Nat)) : (s.count key n code path fs).twinAudit = s.twinAudit := (s.reported_count key n code path fs).twinAudit
@[simp] theorem State.count_power (s : State) (key n code path : Nat) (fs : List (Nat × Nat)) : (s.count key n code path fs).power = s.power := (s.reported_count key n code path fs).power
@[simp] theorem State.count_tap (s : State) (key n code path : Nat) (fs : List (Nat × Nat)) : (s.count key n code path fs).tap = s.tap := (s.reported_count key n code path fs).tap

@[simp] theorem State.cause_pending (s : State) (f : FnNo) (b v : Nat) : (s.cause f b v).pending = s.pending := (s.reported_cause f b v).pending
@[simp] theorem State.cause_cores (s : State) (f : FnNo) (b v : Nat) : (s.cause f b v).cores = s.cores := (s.reported_cause f b v).cores
@[simp] theorem State.cause_units (s : State) (f : FnNo) (b v : Nat) : (s.cause f b v).units = s.units := (s.reported_cause f b v).units
@[simp] theorem State.cause_unitReqs (s : State) (f : FnNo) (b v : Nat) : (s.cause f b v).unitReqs = s.unitReqs := (s.reported_cause f b v).unitReqs
@[simp] theorem State.cause_launches (s : State) (f : FnNo) (b v : Nat) : (s.cause f b v).launches = s.launches := (s.reported_cause f b v).launches
@[simp] theorem State.cause_results (s : State) (f : FnNo) (b v : Nat) : (s.cause f b v).results = s.results := (s.reported_cause f b v).results
@[simp] theorem State.cause_verdicts (s : State) (f : FnNo) (b v : Nat) : (s.cause f b v).verdicts = s.verdicts := (s.reported_cause f b v).verdicts
@[simp] theorem State.cause_cfg (s : State) (f : FnNo) (b v : Nat) : (s.cause f b v).cfg = s.cfg := (s.reported_cause f b v).cfg
@[simp] theorem State.cause_prevCfg (s : State) (f : FnNo) (b v : Nat) : (s.cause f b v).prevCfg = s.prevCfg := (s.reported_cause f b v).prevCfg
@[simp] theorem State.cause_freeIx (s : State) (f : FnNo) (b v : Nat) : (s.cause f b v).freeIx = s.freeIx := (s.reported_cause f b v).freeIx
@[simp] theorem State.cause_partner (s : State) (f : FnNo) (b v : Nat) : (s.cause f b v).partner = s.partner := (s.reported_cause f b v).partner
@[simp] theorem State.cause_holdStanding (s : State) (f : FnNo) (b v : Nat) : (s.cause f b v).holdStanding = s.holdStanding := (s.reported_cause f b v).holdStanding
@[simp] theorem State.cause_lostMembers (s : State) (f : FnNo) (b v : Nat) : (s.cause f b v).lostMembers = s.lostMembers := (s.reported_cause f b v).lostMembers
@[simp] theorem State.cause_lostCores (s : State) (f : FnNo) (b v : Nat) : (s.cause f b v).lostCores = s.lostCores := (s.reported_cause f b v).lostCores
@[simp] theorem State.cause_linkBeat (s : State) (f : FnNo) (b v : Nat) : (s.cause f b v).linkBeat = s.linkBeat := (s.reported_cause f b v).linkBeat
@[simp] theorem State.cause_layouts (s : State) (f : FnNo) (b v : Nat) : (s.cause f b v).layouts = s.layouts := (s.reported_cause f b v).layouts
@[simp] theorem State.cause_seqs (s : State) (f : FnNo) (b v : Nat) : (s.cause f b v).seqs = s.seqs := (s.reported_cause f b v).seqs
@[simp] theorem State.cause_frames (s : State) (f : FnNo) (b v : Nat) : (s.cause f b v).frames = s.frames := (s.reported_cause f b v).frames
@[simp] theorem State.cause_work (s : State) (f : FnNo) (b v : Nat) : (s.cause f b v).work = s.work := (s.reported_cause f b v).work
@[simp] theorem State.cause_joins (s : State) (f : FnNo) (b v : Nat) : (s.cause f b v).joins = s.joins := (s.reported_cause f b v).joins
@[simp] theorem State.cause_resumes (s : State) (f : FnNo) (b v : Nat) : (s.cause f b v).resumes = s.resumes := (s.reported_cause f b v).resumes
@[simp] theorem State.cause_leaves (s : State) (f : FnNo) (b v : Nat) : (s.cause f b v).leaves = s.leaves := (s.reported_cause f b v).leaves
@[simp] theorem State.cause_growths (s : State) (f : FnNo) (b v : Nat) : (s.cause f b v).growths = s.growths := (s.reported_cause f b v).growths
@[simp] theorem State.cause_seeds (s : State) (f : FnNo) (b v : Nat) : (s.cause f b v).seeds = s.seeds := (s.reported_cause f b v).seeds
@[simp] theorem State.cause_runReq (s : State) (f : FnNo) (b v : Nat) : (s.cause f b v).runReq = s.runReq := (s.reported_cause f b v).runReq
@[simp] theorem State.cause_hbm (s : State) (f : FnNo) (b v : Nat) : (s.cause f b v).hbm = s.hbm := (s.reported_cause f b v).hbm
@[simp] theorem State.cause_dieBuf (s : State) (f : FnNo) (b v : Nat) : (s.cause f b v).dieBuf = s.dieBuf := (s.reported_cause f b v).dieBuf
@[simp] theorem State.cause_hubBuf (s : State) (f : FnNo) (b v : Nat) : (s.cause f b v).hubBuf = s.hubBuf := (s.reported_cause f b v).hubBuf
@[simp] theorem State.cause_uncleared (s : State) (f : FnNo) (b v : Nat) : (s.cause f b v).uncleared = s.uncleared := (s.reported_cause f b v).uncleared
@[simp] theorem State.cause_shadowMove (s : State) (f : FnNo) (b v : Nat) : (s.cause f b v).shadowMove = s.shadowMove := (s.reported_cause f b v).shadowMove
@[simp] theorem State.cause_reloc (s : State) (f : FnNo) (b v : Nat) : (s.cause f b v).reloc = s.reloc := (s.reported_cause f b v).reloc
@[simp] theorem State.cause_scrubCount (s : State) (f : FnNo) (b v : Nat) : (s.cause f b v).scrubCount = s.scrubCount := (s.reported_cause f b v).scrubCount
@[simp] theorem State.cause_agentBeat (s : State) (f : FnNo) (b v : Nat) : (s.cause f b v).agentBeat = s.agentBeat := (s.reported_cause f b v).agentBeat
@[simp] theorem State.cause_pipes (s : State) (f : FnNo) (b v : Nat) : (s.cause f b v).pipes = s.pipes := (s.reported_cause f b v).pipes
@[simp] theorem State.cause_rennets (s : State) (f : FnNo) (b v : Nat) : (s.cause f b v).rennets = s.rennets := (s.reported_cause f b v).rennets
@[simp] theorem State.cause_waitQ (s : State) (f : FnNo) (b v : Nat) : (s.cause f b v).waitQ = s.waitQ := (s.reported_cause f b v).waitQ
@[simp] theorem State.cause_retries (s : State) (f : FnNo) (b v : Nat) : (s.cause f b v).retries = s.retries := (s.reported_cause f b v).retries
@[simp] theorem State.cause_peers (s : State) (f : FnNo) (b v : Nat) : (s.cause f b v).peers = s.peers := (s.reported_cause f b v).peers
@[simp] theorem State.cause_poolTotal (s : State) (f : FnNo) (b v : Nat) : (s.cause f b v).poolTotal = s.poolTotal := (s.reported_cause f b v).poolTotal
@[simp] theorem State.cause_poolFault (s : State) (f : FnNo) (b v : Nat) : (s.cause f b v).poolFault = s.poolFault := (s.reported_cause f b v).poolFault
@[simp] theorem State.cause_lostNext (s : State) (f : FnNo) (b v : Nat) : (s.cause f b v).lostNext = s.lostNext := (s.reported_cause f b v).lostNext
@[simp] theorem State.cause_croak (s : State) (f : FnNo) (b v : Nat) : (s.cause f b v).croak = s.croak := (s.reported_cause f b v).croak
@[simp] theorem State.cause_bindings (s : State) (f : FnNo) (b v : Nat) : (s.cause f b v).bindings = s.bindings := (s.reported_cause f b v).bindings
@[simp] theorem State.cause_credits (s : State) (f : FnNo) (b v : Nat) : (s.cause f b v).credits = s.credits := (s.reported_cause f b v).credits
@[simp] theorem State.cause_fports (s : State) (f : FnNo) (b v : Nat) : (s.cause f b v).fports = s.fports := (s.reported_cause f b v).fports
@[simp] theorem State.cause_twin (s : State) (f : FnNo) (b v : Nat) : (s.cause f b v).twin = s.twin := (s.reported_cause f b v).twin
@[simp] theorem State.cause_twinPool (s : State) (f : FnNo) (b v : Nat) : (s.cause f b v).twinPool = s.twinPool := (s.reported_cause f b v).twinPool
@[simp] theorem State.cause_exporting (s : State) (f : FnNo) (b v : Nat) : (s.cause f b v).exporting = s.exporting := (s.reported_cause f b v).exporting
@[simp] theorem State.cause_importing (s : State) (f : FnNo) (b v : Nat) : (s.cause f b v).importing = s.importing := (s.reported_cause f b v).importing
@[simp] theorem State.cause_codecs (s : State) (f : FnNo) (b v : Nat) : (s.cause f b v).codecs = s.codecs := (s.reported_cause f b v).codecs
@[simp] theorem State.cause_contexts (s : State) (f : FnNo) (b v : Nat) : (s.cause f b v).contexts = s.contexts := (s.reported_cause f b v).contexts
@[simp] theorem State.cause_rings (s : State) (f : FnNo) (b v : Nat) : (s.cause f b v).rings = s.rings := (s.reported_cause f b v).rings
@[simp] theorem State.cause_codecIn (s : State) (f : FnNo) (b v : Nat) : (s.cause f b v).codecIn = s.codecIn := (s.reported_cause f b v).codecIn
@[simp] theorem State.cause_sessions (s : State) (f : FnNo) (b v : Nat) : (s.cause f b v).sessions = s.sessions := (s.reported_cause f b v).sessions
@[simp] theorem State.cause_pendingGen (s : State) (f : FnNo) (b v : Nat) : (s.cause f b v).pendingGen = s.pendingGen := (s.reported_cause f b v).pendingGen
@[simp] theorem State.cause_fuseBanks (s : State) (f : FnNo) (b v : Nat) : (s.cause f b v).fuseBanks = s.fuseBanks := (s.reported_cause f b v).fuseBanks
@[simp] theorem State.cause_images (s : State) (f : FnNo) (b v : Nat) : (s.cause f b v).images = s.images := (s.reported_cause f b v).images
@[simp] theorem State.cause_measurement (s : State) (f : FnNo) (b v : Nat) : (s.cause f b v).measurement = s.measurement := (s.reported_cause f b v).measurement
@[simp] theorem State.cause_dropBeat (s : State) (f : FnNo) (b v : Nat) : (s.cause f b v).dropBeat = s.dropBeat := (s.reported_cause f b v).dropBeat
@[simp] theorem State.cause_mirrorBeat (s : State) (f : FnNo) (b v : Nat) : (s.cause f b v).mirrorBeat = s.mirrorBeat := (s.reported_cause f b v).mirrorBeat
@[simp] theorem State.cause_unlocking (s : State) (f : FnNo) (b v : Nat) : (s.cause f b v).unlocking = s.unlocking := (s.reported_cause f b v).unlocking
@[simp] theorem State.cause_helloPieces (s : State) (f : FnNo) (b v : Nat) : (s.cause f b v).helloPieces = s.helloPieces := (s.reported_cause f b v).helloPieces
@[simp] theorem State.cause_audit (s : State) (f : FnNo) (b v : Nat) : (s.cause f b v).audit = s.audit := (s.reported_cause f b v).audit
@[simp] theorem State.cause_twinAudit (s : State) (f : FnNo) (b v : Nat) : (s.cause f b v).twinAudit = s.twinAudit := (s.reported_cause f b v).twinAudit
@[simp] theorem State.cause_power (s : State) (f : FnNo) (b v : Nat) : (s.cause f b v).power = s.power := (s.reported_cause f b v).power
@[simp] theorem State.cause_tap (s : State) (f : FnNo) (b v : Nat) : (s.cause f b v).tap = s.tap := (s.reported_cause f b v).tap

@[simp] theorem State.ends_pending (s t : State) : (s.ends t).pending = s.pending := rfl
@[simp] theorem State.ends_cores (s t : State) : (s.ends t).cores = t.cores := (t.reported_settled s.raised.length).cores
@[simp] theorem State.ends_units (s t : State) : (s.ends t).units = t.units := (t.reported_settled s.raised.length).units
@[simp] theorem State.ends_unitReqs (s t : State) : (s.ends t).unitReqs = t.unitReqs := (t.reported_settled s.raised.length).unitReqs
@[simp] theorem State.ends_launches (s t : State) : (s.ends t).launches = t.launches := (t.reported_settled s.raised.length).launches
@[simp] theorem State.ends_results (s t : State) : (s.ends t).results = t.results := (t.reported_settled s.raised.length).results
@[simp] theorem State.ends_verdicts (s t : State) : (s.ends t).verdicts = t.verdicts := (t.reported_settled s.raised.length).verdicts
@[simp] theorem State.ends_cfg (s t : State) : (s.ends t).cfg = t.cfg := (t.reported_settled s.raised.length).cfg
@[simp] theorem State.ends_prevCfg (s t : State) : (s.ends t).prevCfg = t.prevCfg := (t.reported_settled s.raised.length).prevCfg
@[simp] theorem State.ends_freeIx (s t : State) : (s.ends t).freeIx = t.freeIx := (t.reported_settled s.raised.length).freeIx
@[simp] theorem State.ends_partner (s t : State) : (s.ends t).partner = t.partner := (t.reported_settled s.raised.length).partner
@[simp] theorem State.ends_holdStanding (s t : State) : (s.ends t).holdStanding = t.holdStanding := (t.reported_settled s.raised.length).holdStanding
@[simp] theorem State.ends_lostMembers (s t : State) : (s.ends t).lostMembers = t.lostMembers := (t.reported_settled s.raised.length).lostMembers
@[simp] theorem State.ends_lostCores (s t : State) : (s.ends t).lostCores = t.lostCores := (t.reported_settled s.raised.length).lostCores
@[simp] theorem State.ends_linkBeat (s t : State) : (s.ends t).linkBeat = t.linkBeat := (t.reported_settled s.raised.length).linkBeat
@[simp] theorem State.ends_layouts (s t : State) : (s.ends t).layouts = t.layouts := (t.reported_settled s.raised.length).layouts
@[simp] theorem State.ends_seqs (s t : State) : (s.ends t).seqs = t.seqs := (t.reported_settled s.raised.length).seqs
@[simp] theorem State.ends_frames (s t : State) : (s.ends t).frames = t.frames := (t.reported_settled s.raised.length).frames
@[simp] theorem State.ends_work (s t : State) : (s.ends t).work = t.work := (t.reported_settled s.raised.length).work
@[simp] theorem State.ends_joins (s t : State) : (s.ends t).joins = t.joins := (t.reported_settled s.raised.length).joins
@[simp] theorem State.ends_resumes (s t : State) : (s.ends t).resumes = t.resumes := (t.reported_settled s.raised.length).resumes
@[simp] theorem State.ends_leaves (s t : State) : (s.ends t).leaves = t.leaves := (t.reported_settled s.raised.length).leaves
@[simp] theorem State.ends_growths (s t : State) : (s.ends t).growths = t.growths := (t.reported_settled s.raised.length).growths
@[simp] theorem State.ends_seeds (s t : State) : (s.ends t).seeds = t.seeds := (t.reported_settled s.raised.length).seeds
@[simp] theorem State.ends_runReq (s t : State) : (s.ends t).runReq = t.runReq := (t.reported_settled s.raised.length).runReq
@[simp] theorem State.ends_hbm (s t : State) : (s.ends t).hbm = t.hbm := (t.reported_settled s.raised.length).hbm
@[simp] theorem State.ends_dieBuf (s t : State) : (s.ends t).dieBuf = t.dieBuf := (t.reported_settled s.raised.length).dieBuf
@[simp] theorem State.ends_hubBuf (s t : State) : (s.ends t).hubBuf = t.hubBuf := (t.reported_settled s.raised.length).hubBuf
@[simp] theorem State.ends_uncleared (s t : State) : (s.ends t).uncleared = t.uncleared := (t.reported_settled s.raised.length).uncleared
@[simp] theorem State.ends_shadowMove (s t : State) : (s.ends t).shadowMove = t.shadowMove := (t.reported_settled s.raised.length).shadowMove
@[simp] theorem State.ends_reloc (s t : State) : (s.ends t).reloc = t.reloc := (t.reported_settled s.raised.length).reloc
@[simp] theorem State.ends_scrubCount (s t : State) : (s.ends t).scrubCount = t.scrubCount := (t.reported_settled s.raised.length).scrubCount
@[simp] theorem State.ends_agentBeat (s t : State) : (s.ends t).agentBeat = t.agentBeat := (t.reported_settled s.raised.length).agentBeat
@[simp] theorem State.ends_pipes (s t : State) : (s.ends t).pipes = t.pipes := (t.reported_settled s.raised.length).pipes
@[simp] theorem State.ends_rennets (s t : State) : (s.ends t).rennets = t.rennets := (t.reported_settled s.raised.length).rennets
@[simp] theorem State.ends_waitQ (s t : State) : (s.ends t).waitQ = t.waitQ := (t.reported_settled s.raised.length).waitQ
@[simp] theorem State.ends_retries (s t : State) : (s.ends t).retries = t.retries := (t.reported_settled s.raised.length).retries
@[simp] theorem State.ends_peers (s t : State) : (s.ends t).peers = t.peers := (t.reported_settled s.raised.length).peers
@[simp] theorem State.ends_poolTotal (s t : State) : (s.ends t).poolTotal = t.poolTotal := (t.reported_settled s.raised.length).poolTotal
@[simp] theorem State.ends_poolFault (s t : State) : (s.ends t).poolFault = t.poolFault := (t.reported_settled s.raised.length).poolFault
@[simp] theorem State.ends_lostNext (s t : State) : (s.ends t).lostNext = t.lostNext := (t.reported_settled s.raised.length).lostNext
@[simp] theorem State.ends_croak (s t : State) : (s.ends t).croak = t.croak := (t.reported_settled s.raised.length).croak
@[simp] theorem State.ends_bindings (s t : State) : (s.ends t).bindings = t.bindings := (t.reported_settled s.raised.length).bindings
@[simp] theorem State.ends_credits (s t : State) : (s.ends t).credits = t.credits := (t.reported_settled s.raised.length).credits
@[simp] theorem State.ends_fports (s t : State) : (s.ends t).fports = t.fports := (t.reported_settled s.raised.length).fports
@[simp] theorem State.ends_twin (s t : State) : (s.ends t).twin = t.twin := (t.reported_settled s.raised.length).twin
@[simp] theorem State.ends_twinPool (s t : State) : (s.ends t).twinPool = t.twinPool := (t.reported_settled s.raised.length).twinPool
@[simp] theorem State.ends_exporting (s t : State) : (s.ends t).exporting = t.exporting := (t.reported_settled s.raised.length).exporting
@[simp] theorem State.ends_importing (s t : State) : (s.ends t).importing = t.importing := (t.reported_settled s.raised.length).importing
@[simp] theorem State.ends_codecs (s t : State) : (s.ends t).codecs = t.codecs := (t.reported_settled s.raised.length).codecs
@[simp] theorem State.ends_contexts (s t : State) : (s.ends t).contexts = t.contexts := (t.reported_settled s.raised.length).contexts
@[simp] theorem State.ends_rings (s t : State) : (s.ends t).rings = t.rings := (t.reported_settled s.raised.length).rings
@[simp] theorem State.ends_codecIn (s t : State) : (s.ends t).codecIn = t.codecIn := (t.reported_settled s.raised.length).codecIn
@[simp] theorem State.ends_sessions (s t : State) : (s.ends t).sessions = t.sessions := (t.reported_settled s.raised.length).sessions
@[simp] theorem State.ends_pendingGen (s t : State) : (s.ends t).pendingGen = t.pendingGen := (t.reported_settled s.raised.length).pendingGen
@[simp] theorem State.ends_fuseBanks (s t : State) : (s.ends t).fuseBanks = t.fuseBanks := (t.reported_settled s.raised.length).fuseBanks
@[simp] theorem State.ends_images (s t : State) : (s.ends t).images = t.images := (t.reported_settled s.raised.length).images
@[simp] theorem State.ends_measurement (s t : State) : (s.ends t).measurement = t.measurement := (t.reported_settled s.raised.length).measurement
@[simp] theorem State.ends_dropBeat (s t : State) : (s.ends t).dropBeat = t.dropBeat := (t.reported_settled s.raised.length).dropBeat
@[simp] theorem State.ends_mirrorBeat (s t : State) : (s.ends t).mirrorBeat = t.mirrorBeat := (t.reported_settled s.raised.length).mirrorBeat
@[simp] theorem State.ends_unlocking (s t : State) : (s.ends t).unlocking = t.unlocking := (t.reported_settled s.raised.length).unlocking
@[simp] theorem State.ends_helloPieces (s t : State) : (s.ends t).helloPieces = t.helloPieces := (t.reported_settled s.raised.length).helloPieces
@[simp] theorem State.ends_audit (s t : State) : (s.ends t).audit = t.audit := (t.reported_settled s.raised.length).audit
@[simp] theorem State.ends_twinAudit (s t : State) : (s.ends t).twinAudit = t.twinAudit := (t.reported_settled s.raised.length).twinAudit
@[simp] theorem State.ends_power (s t : State) : (s.ends t).power = s.power := rfl
@[simp] theorem State.ends_tap (s t : State) : (s.ends t).tap = t.tap := (t.reported_settled s.raised.length).tap

end Sys2Proof.Machine
end

