-- ==== Sys2Proof/Laws/Sparse.lean ====
section
/-! SUPPORT. Laws of sparse maps: what a key reads as after a write, and that writes keep the canonical form. -/

set_option Elab.async false
namespace Sys2Proof.Machine

theorem Sparse.get_put {α : Type} (d : α) (m : Sparse α) (k j : Nat) (v : α) :
    Sparse.get d (Sparse.put m k v) j = if j = k then v else Sparse.get d m j := by
  induction m with
  | nil => simp only [Sparse.put, Sparse.get]; split <;> split <;> simp_all
  | cons p m ih =>
    simp only [Sparse.put]
    split
    · simp only [Sparse.get]
      by_cases h : k = j
      · simp [h]
      · rw [if_neg h, if_neg (Ne.symm h)]
    · split
      · next e =>
        simp only [Sparse.get]
        by_cases h : k = j
        · simp [h]
        · rw [if_neg h, if_neg (Ne.symm h), if_neg (by omega)]
      · next e =>
        simp only [Sparse.get, ih]
        by_cases h : j = k
        · subst h; rw [if_neg e, if_pos rfl, if_pos rfl]
        · rw [if_neg h, if_neg h]

theorem Sparse.get_del_ne {α : Type} (d : α) (m : Sparse α) {k j : Nat} (h : j ≠ k) :
    Sparse.get d (Sparse.del m k) j = Sparse.get d m j := by
  induction m with
  | nil => rfl
  | cons p m ih =>
    simp only [Sparse.del]
    split
    · simp only [Sparse.get]; rw [if_neg]; omega
    · simp only [Sparse.get, ih]

/-- A key below every listed key reads as the default. -/
theorem Sparse.get_of_above {α : Type} (d : α) (m : Sparse α) (b j : Nat) (h : Sparse.above b m = true) (hj : j < b) :
    Sparse.get d m j = d := by
  induction m generalizing b with
  | nil => rfl
  | cons p m ih =>
    simp only [Sparse.above, Bool.and_eq_true, decide_eq_true_eq] at h
    simp only [Sparse.get]
    rw [if_neg (by omega)]
    exact ih _ h.2 (by omega)

theorem Sparse.get_del_self {α : Type} (d : α) (m : Sparse α) (b k : Nat) (h : Sparse.above b m = true) :
    Sparse.get d (Sparse.del m k) k = d := by
  induction m generalizing b with
  | nil => rfl
  | cons p m ih =>
    simp only [Sparse.above, Bool.and_eq_true, decide_eq_true_eq] at h
    simp only [Sparse.del]
    split
    · exact Sparse.get_of_above d m _ _ h.2 (by omega)
    · simp only [Sparse.get]; rw [if_neg (by omega)]; exact ih _ h.2

/-- Another key reads as before a write. -/
theorem Sparse.get_set_ne {α : Type} [DecidableEq α] (d : α) (m : Sparse α) (k j : Nat) (v : α) (h : j ≠ k) :
    Sparse.get d (Sparse.set d m k v) j = Sparse.get d m j := by
  unfold Sparse.set
  split
  · exact Sparse.get_del_ne d m h
  · rw [Sparse.get_put, if_neg h]

/-- A written key reads as written, in a map of canonical form. -/
theorem Sparse.get_set_self {α : Type} [DecidableEq α] (d : α) (m : Sparse α) (k : Nat) (v : α) (h : Sparse.above 0 m = true) :
    Sparse.get d (Sparse.set d m k v) k = v := by
  unfold Sparse.set
  split
  · next hv => subst hv; exact Sparse.get_del_self _ m 0 k h
  · rw [Sparse.get_put, if_pos rfl]

theorem Sparse.above_mono {α : Type} (m : Sparse α) (b c : Nat) (h : Sparse.above c m = true) (hb : b ≤ c) :
    Sparse.above b m = true := by
  cases m with
  | nil => rfl
  | cons p m =>
    simp only [Sparse.above, Bool.and_eq_true, decide_eq_true_eq] at *
    exact ⟨by omega, h.2⟩

theorem Sparse.above_put {α : Type} (m : Sparse α) (b k : Nat) (v : α) (h : Sparse.above b m = true) (hk : b ≤ k) :
    Sparse.above b (Sparse.put m k v) = true := by
  induction m generalizing b with
  | nil => simp [Sparse.put, Sparse.above, hk]
  | cons p m ih =>
    simp only [Sparse.above, Bool.and_eq_true, decide_eq_true_eq] at h
    simp only [Sparse.put]
    split
    · simp only [Sparse.above, Bool.and_eq_true, decide_eq_true_eq]
      exact ⟨hk, by omega, h.2⟩
    · split
      · next e => simp only [Sparse.above, Bool.and_eq_true, decide_eq_true_eq]; exact ⟨hk, by rw [← e]; exact h.2⟩
      · simp only [Sparse.above, Bool.and_eq_true, decide_eq_true_eq]
        exact ⟨h.1, ih _ h.2 (by omega)⟩

theorem Sparse.above_del {α : Type} (m : Sparse α) (b k : Nat) (h : Sparse.above b m = true) :
    Sparse.above b (Sparse.del m k) = true := by
  induction m generalizing b with
  | nil => rfl
  | cons p m ih =>
    simp only [Sparse.above, Bool.and_eq_true, decide_eq_true_eq] at h
    simp only [Sparse.del]
    split
    · exact Sparse.above_mono _ _ _ h.2 (by omega)
    · simp only [Sparse.above, Bool.and_eq_true, decide_eq_true_eq]; exact ⟨h.1, ih _ h.2⟩

theorem Sparse.all_put {α : Type} (q : Nat × α → Bool) (m : Sparse α) (k : Nat) (v : α) (h : m.all q = true)
    (hv : q (k, v) = true) : (Sparse.put m k v).all q = true := by
  induction m with
  | nil => simp [Sparse.put, hv]
  | cons p m ih =>
    simp only [List.all_cons, Bool.and_eq_true] at h
    simp only [Sparse.put]
    split
    · simp [hv, h.1, h.2]
    · split
      · simp [hv, h.2]
      · simp [h.1, ih h.2]

theorem Sparse.all_del {α : Type} (q : Nat × α → Bool) (m : Sparse α) (k : Nat) (h : m.all q = true) :
    (Sparse.del m k).all q = true := by
  induction m with
  | nil => rfl
  | cons p m ih =>
    simp only [List.all_cons, Bool.and_eq_true] at h
    simp only [Sparse.del]
    split
    · exact h.2
    · simp [h.1, ih h.2]

/-- A write keeps the canonical form. -/
theorem Sparse.wf_set {α : Type} [DecidableEq α] (d : α) (m : Sparse α) (k : Nat) (v : α) (h : Sparse.wf d m = true) :
    Sparse.wf d (Sparse.set d m k v) = true := by
  simp only [Sparse.wf, Bool.and_eq_true] at *
  unfold Sparse.set
  split
  · exact ⟨Sparse.above_del m 0 k h.1, Sparse.all_del _ m k h.2⟩
  · next hv => exact ⟨Sparse.above_put m 0 k v h.1 (by omega), Sparse.all_put _ m k v h.2 (by simp [hv])⟩

/-- A selection of a map keeps the canonical form. -/
theorem Sparse.above_filter {α : Type} (q : Nat × α → Bool) (m : Sparse α) (b : Nat) (h : Sparse.above b m = true) :
    Sparse.above b (m.filter q) = true := by
  induction m generalizing b with
  | nil => rfl
  | cons p m ih =>
    simp only [Sparse.above, Bool.and_eq_true, decide_eq_true_eq] at h
    simp only [List.filter_cons]
    split
    · simp only [Sparse.above, Bool.and_eq_true, decide_eq_true_eq]; exact ⟨h.1, ih _ h.2⟩
    · exact Sparse.above_mono _ _ _ (ih _ h.2) (by omega)

theorem Sparse.wf_filter {α : Type} [DecidableEq α] (d : α) (q : Nat × α → Bool) (m : Sparse α) (h : Sparse.wf d m = true) :
    Sparse.wf d (m.filter q) = true := by
  simp only [Sparse.wf, Bool.and_eq_true] at *
  refine ⟨Sparse.above_filter q m 0 h.1, ?_⟩
  simp only [List.all_eq_true] at *
  exact fun x hx => h.2 x (List.mem_filter.mp hx).1

end Sys2Proof.Machine
end

