-- ==== Sys2Proof/Laws/Issue.lean ====
section
/-! SUPPORT. What issue and the clocks leave to the effect of an instruction. -/

set_option Elab.async false
namespace Sys2Proof.Machine

/-- A state that keeps the queue and power, with no event raised, is the answer itself. -/
theorem State.ends_eq {s t : State} (hp : t.pending = s.pending) (hw : t.power = s.power) (hr : t.raised = s.raised) :
    s.ends t = t := by
  unfold State.ends State.endsPower
  rw [State.settled_quiet t _ (Nat.le_of_eq (congrArg List.length hr)), ← hp, ← hw]

/-- Whatever a command raised, its answer differs from the state it left only in what reporting changes. -/
theorem State.reported_ends {s t : State} (h : s.Reported t) : s.Reported (s.ends t) := by
  have k := h.trans (t.reported_settled s.raised.length)
  unfold State.ends State.endsPower
  rw [← k.pending, ← k.power]
  exact k

theorem State.clocked_of {s t : State} (h : s.power.clocks = true) : s.clocked t = .next (s.ends t) := by
  simp [State.clocked, h]

theorem State.clocked_off {s t : State} (h : s.power.clocks = false) : s.clocked t = .next s := by
  simp [State.clocked, h]

theorem State.issues_clocks {s : State} {c : CoreId} {h : Hdr} {cls : Nat} {all : Bool} (hi : s.issues c h cls all = true) :
    s.power.clocks = true := by
  simp only [State.issues, Bool.and_eq_true] at hi
  exact hi.1.1

/-- An instruction that issues runs its effect on the state with the instruction counted. -/
theorem State.issue_of {s : State} {c : CoreId} {h : Hdr} {cls : Nat} {all : Bool} (i : Instr) (hi : s.issues c h cls all = true)
    (body : State → State) : s.issue i c h cls all body = body (s.countIssued c) := by
  simp only [State.issues, State.executes, Bool.and_eq_true, Bool.not_eq_true', decide_eq_true_eq] at hi
  obtain ⟨⟨_, hc⟩, ⟨⟨hl, hb⟩, ho⟩, hw⟩ := hi
  rw [Option.isNone_iff_eq_none] at hw
  unfold State.issue
  rw [hc, if_neg (by simp), if_neg (by omega), hb, if_neg (by simp), ho, if_neg (by simp), hw]

theorem State.clocked_issue {s : State} {c : CoreId} {h : Hdr} {cls : Nat} {all : Bool} (i : Instr) (hi : s.issues c h cls all = true)
    (body : State → State) : s.clocked (s.issue i c h cls all body) = .next (s.ends (body (s.countIssued c))) := by
  rw [State.clocked_of (State.issues_clocks hi), State.issue_of i hi]

theorem State.checked_of {s : State} {c : CoreId} {l : List (Option Stop)} {eff : State → State} (h : passes l = true) :
    s.checked c l eff = (eff s).advance c := by
  simp only [passes, Option.isNone_iff_eq_none] at h
  simp [State.checked, h]

theorem Sparse.get_set_other {α : Type} [DecidableEq α] (d e : α) (m : Sparse α) (k j : Nat) (v : α) (h : j ≠ k) :
    Sparse.get e (Sparse.set d m k v) j = Sparse.get e m j := by
  unfold Sparse.set
  split
  · exact Sparse.get_del_ne e m h
  · rw [Sparse.get_put, if_neg h]

theorem State.volAt_setVol_ne (s : State) {k j : Nat} (v : Nat) (h : j ≠ k) : (s.setVol k v).volAt j = s.volAt j :=
  Sparse.get_set_other (volDefault k) (volDefault j) s.vol k j v h

theorem State.Reported.updCore {s t : State} (h : s.Reported t) (c : CoreId) (g : Core → Core) :
    (s.updCore c g).Reported (t.updCore c g) := by
  unfold State.Reported at *
  unfold State.updCore
  rw [h]

theorem State.volAt_of_vol {s t : State} {j : Nat} (h : t.vol = s.vol) : t.volAt j = s.volAt j := by
  unfold State.volAt; rw [h]

theorem State.volAt_toHost (s : State) (f : FnNo) (w : Fin 17) (m : OutMsg) (j : Nat) : (s.toHost f w m).volAt j = s.volAt j := by
  unfold State.toHost
  dsimp only
  split
  · unfold State.asks; split <;> rfl
  · rfl

theorem State.volAt_signalVector (s : State) (f : FnNo) (v j : Nat) : (s.signalVector f v).volAt j = s.volAt j := by
  unfold State.signalVector; split
  · rfl
  · exact s.volAt_toHost f _ _ j

theorem State.volAt_cause (s : State) (f : FnNo) (b v j : Nat) : (s.cause f b v).volAt j = s.volAt j := by
  unfold State.cause
  dsimp only
  split
  · exact State.volAt_signalVector _ f v j
  · rfl

theorem State.volAt_emit (s : State) (code path : Nat) (fs : List (Nat × Nat)) (j : Nat) :
    (s.emit code path fs).2.volAt j = s.volAt j := by
  unfold State.emit
  dsimp only
  split <;> rfl

/-- A count of the event ring changes no other volatile entry. -/
theorem State.volAt_countEvent (s : State) {sub j : Nat} (h : j ≠ ek 0x9010 sub) : (s.countEvent sub).volAt j = s.volAt j := by
  unfold State.countEvent
  dsimp only
  split
  · rfl
  · split
    · exact State.volAt_setVol_ne _ _ h
    · exact (State.volAt_emit _ _ _ _ j).trans (State.volAt_setVol_ne _ _ h)

/-- An event changes no volatile entry but the count of dropped events. -/
theorem State.volAt_raise (s : State) (code path : Nat) (fs : List (Nat × Nat)) {j : Nat} (h : j ≠ ek 0x9010 3) :
    (s.raise code path fs).volAt j = s.volAt j := by
  unfold State.raise
  dsimp only
  split
  · exact s.volAt_emit code path fs j
  · exact (State.volAt_countEvent _ h).trans (s.volAt_emit code path fs j)

theorem State.volAt_skipEvent (s : State) {j : Nat} (h : j ≠ ek 0x9010 6) : s.skipEvent.volAt j = s.volAt j := by
  unfold State.skipEvent
  dsimp only
  split
  · rfl
  · exact State.volAt_countEvent _ h

theorem State.volAt_numbered (s : State) (l : List EventRec) (n j : Nat) :
    State.volAt { s with events := l, evCount := n } j = s.volAt j := rfl

/-- A written event changes no volatile entry but the count of events not mirrored. -/
theorem State.volAt_writeEvent (s : State) (e : EventRec) {j : Nat} (h : j ≠ ek 0x9010 6) : (s.writeEvent e).volAt j = s.volAt j := by
  unfold State.writeEvent
  dsimp only
  split
  · rw [State.volAt_cause, State.volAt_numbered, s.volAt_skipEvent h]
  · rw [State.volAt_toHost, State.volAt_cause, State.volAt_numbered, s.volAt_skipEvent h]

theorem State.volAt_writeEvents (l : List EventRec) (s : State) {j : Nat} (h : j ≠ ek 0x9010 6) :
    (l.foldl State.writeEvent s).volAt j = s.volAt j := by
  induction l generalizing s with
  | nil => rfl
  | cons e l ih => exact (ih _).trans (s.volAt_writeEvent e h)

theorem State.volAt_settleOnce (s : State) (n : Nat) {j : Nat} (h : j ≠ ek 0x9010 6) : (s.settleOnce n).volAt j = s.volAt j :=
  State.volAt_writeEvents _ _ h

theorem State.volAt_ends (s t : State) {j : Nat} (h : j ≠ ek 0x9010 6) : (s.ends t).volAt j = t.volAt j :=
  ((State.volAt_of_vol (s := t.settled s.raised.length) rfl).trans (State.volAt_settleOnce _ _ h)).trans
    (State.volAt_settleOnce _ _ h)

/-- A count changes no other volatile entry but the count of dropped events. -/
theorem State.volAt_count (s : State) (key n code path : Nat) (fs : List (Nat × Nat)) {j : Nat} (hk : j ≠ key)
    (h : j ≠ ek 0x9010 3) : (s.count key n code path fs).volAt j = s.volAt j := by
  unfold State.count
  dsimp only
  split
  · rfl
  · split
    · exact State.volAt_setVol_ne _ _ hk
    · exact (State.volAt_raise _ code path fs h).trans (State.volAt_setVol_ne _ _ hk)

/-- A count below saturation changes volatile entries alone. -/
theorem State.count_quiet (s : State) (key n code path : Nat) (fs : List (Nat × Nat)) (h : s.volAt key + n < 2 ^ 48 - 1) :
    s.count key n code path fs = { s with vol := (s.count key n code path fs).vol } := by
  unfold State.count
  dsimp only
  split
  · rfl
  · rfl

theorem State.counted_countIssued (s : State) (c : CoreId) : s.Counted c (s.countIssued c) where
  same := s.reported_count _ _ _ _ _
  entries := fun _ h1 h2 _ => s.volAt_count _ _ _ _ _ h1 h2
  quiet := fun h => s.count_quiet _ _ _ _ _ h

/-- A change of the core beside the count. -/
theorem State.Counted.updCore {c : CoreId} {s t : State} (h : s.Counted c t) (g : Core → Core) :
    (s.updCore c g).Counted c (t.updCore c g) where
  same := h.same.updCore c g
  entries := h.entries
  quiet := fun hq => by
    have := h.quiet hq
    unfold State.updCore
    rw [this]

@[simp] theorem State.countIssued_cores (s : State) (c : CoreId) : (s.countIssued c).cores = s.cores := by simp [State.countIssued]
@[simp] theorem State.countIssued_pending (s : State) (c : CoreId) : (s.countIssued c).pending = s.pending := by
  simp [State.countIssued]
@[simp] theorem State.countIssued_power (s : State) (c : CoreId) : (s.countIssued c).power = s.power := by
  simp [State.countIssued]
@[simp] theorem State.countIssued_launches (s : State) (c : CoreId) : (s.countIssued c).launches = s.launches := by
  simp [State.countIssued]
@[simp] theorem State.countIssued_xr (s : State) (c d : CoreId) (r : XReg) : (s.countIssued c).xr d r = s.xr d r := by
  simp [State.xr]
@[simp] theorem State.countIssued_wordOf (s : State) (c d : CoreId) : (s.countIssued c).wordOf d = s.wordOf d := by
  simp [State.wordOf]
@[simp] theorem State.countIssued_second (s : State) (c d : CoreId) (f : CtlF) :
    (s.countIssued c).second d f = s.second d f := by simp [State.second]
@[simp] theorem State.countIssued_desc (s : State) (c d : CoreId) (r : DReg) : (s.countIssued c).desc d r = s.desc d r := by
  simp [State.desc]
@[simp] theorem State.countIssued_vatOf (s : State) (c d : CoreId) : (s.countIssued c).vatOf d = s.vatOf d := by
  simp [State.vatOf, State.launchAt]
@[simp] theorem State.countIssued_lq (s : State) (c d : CoreId) : (s.countIssued c).lq d = s.lq d := by
  simp [State.lq, State.launchAt]

/-- Two changes of a core are one. -/
theorem State.updCore_updCore (s : State) (c : CoreId) (f g : Core → Core) :
    (s.updCore c f).updCore c g = s.updCore c fun k => g (f k) := by
  simp [State.updCore]

/-- The answer of a command that has only counted. -/
theorem State.Counted.ends {c : CoreId} {s t : State} (h : s.Counted c t) : s.Counted c (s.ends t) where
  same := State.reported_ends h.same
  entries := fun k h1 h2 h3 => (State.volAt_ends s t h3).trans (h.entries k h1 h2 h3)
  quiet := fun hq => by
    have e := h.quiet hq
    rw [State.ends_eq (by rw [e]) (by rw [e]) (by rw [e])]
    exact e

/-- An instruction whose effect is a change of its own core (see `onCore`). -/
theorem onCore_of {i : Instr} {c : CoreId} {s : State} {g : Core → Core}
    (h : exec i s = .next (s.ends ((s.countIssued c).updCore c g))) : onCore i c s (g s.cores[c]) := by
  refine ⟨_, h, ?_⟩
  exact State.Counted.ends ((s.counted_countIssued c).updCore fun k => g k)

end Sys2Proof.Machine
end

