-- ==== Sys2Proof/Laws/Mem.lean ====
section
/-! SUPPORT. Memories: every operation over one keeps its canonical form, and the memories of the reset state have it. -/

set_option Elab.async false
namespace Sys2Proof.Machine

theorem Sparse.wf_foldl_set {α β : Type} [DecidableEq α] (d : α) (f : β → Nat) (g : β → α) (l : List β) (m : Sparse α)
    (h : Sparse.wf d m = true) : Sparse.wf d (l.foldl (fun m c => Sparse.set d m (f c) (g c)) m) = true := by
  induction l generalizing m with
  | nil => exact h
  | cons c l ih => exact ih _ (Sparse.wf_set d m _ _ h)

theorem Sparse.wf_foldl_if {α β : Type} [DecidableEq α] (d : α) (p : β → Bool) (f : β → Nat) (g : β → α) (l : List β)
    (m : Sparse α) (h : Sparse.wf d m = true) :
    Sparse.wf d (l.foldl (fun m c => if p c then m else Sparse.set d m (f c) (g c)) m) = true := by
  induction l generalizing m with
  | nil => exact h
  | cons c l ih =>
    simp only [List.foldl_cons]
    split
    · exact ih _ h
    · exact ih _ (Sparse.wf_set d m _ _ h)

theorem Mem.wf_iff (m : Mem) : m.wf = true ↔ Sparse.wf 0#8 m.bytes = true ∧ Sparse.wf 0 m.marks = true ∧ Sparse.wf 0 m.parts = true := by
  simp [Mem.wf, and_assoc]

theorem Mem.wf_write (m : Mem) (cells : List (Nat × Byte)) (h : m.wf = true) : (m.write cells).wf = true := by
  rw [Mem.wf_iff] at *
  exact ⟨Sparse.wf_foldl_if 0#8 (fun c : Nat × Byte => m.lost cells (c.1 / 16)) Prod.fst Prod.snd cells _ h.1,
    Sparse.wf_foldl_set 0 (fun c : Nat × Byte => c.1 / 16) (fun c => if m.lost cells (c.1 / 16) then 3 else 0) cells _ h.2.1,
    Sparse.wf_foldl_set 0 (fun c : Nat × Byte => c.1 / 16) (fun c => if coversWord cells (c.1 / 16) then 0 else 1) cells _ h.2.2⟩

theorem Mem.wf_poison (m : Mem) (l : List Nat) (h : m.wf = true) : (m.poison l).wf = true := by
  rw [Mem.wf_iff] at *
  exact ⟨h.1, Sparse.wf_foldl_set 0 (fun a => a / 16) (fun _ => 3) l _ h.2.1, h.2.2⟩

/-- A change of one word's mark keeps the form. -/
theorem Mem.wf_setMark (m : Mem) (w v : Nat) (h : m.wf = true) : Mem.wf { m with marks := Sparse.set 0 m.marks w v } = true := by
  rw [Mem.wf_iff] at *
  exact ⟨h.1, Sparse.wf_set 0 m.marks w v h.2.1, h.2.2⟩

/-- A memory with some granules left out keeps the form. -/
theorem Mem.wf_filter (m : Mem) (p : Nat × Byte → Bool) (q : Nat × Nat → Bool) (h : m.wf = true) :
    Mem.wf ⟨m.bytes.filter p, m.marks.filter q, m.parts⟩ = true := by
  rw [Mem.wf_iff] at *
  exact ⟨Sparse.wf_filter 0#8 p m.bytes h.1, Sparse.wf_filter 0 q m.marks h.2.1, h.2.2⟩

theorem Mem.wf_copyGranule (m : Mem) (a b : Nat) (h : m.wf = true) : (m.copyGranule a b).wf = true := by
  have h0 := Mem.wf_filter m (fun p => p.1 / 4096 != b) (fun p => p.1 / 256 != b) h
  rw [Mem.wf_iff] at *
  exact ⟨Sparse.wf_foldl_set 0#8 (fun p : Nat × Byte => b * 4096 + p.1 % 4096) Prod.snd _ _ h0.1,
    Sparse.wf_foldl_set 0 (fun p : Nat × Nat => b * 256 + p.1 % 256) Prod.snd _ _ h0.2.1, h0.2.2⟩

/-- Reporting an error of the HBM leaves its bytes. -/
theorem State.hbmCorrected_hbm (s : State) (k : Nat) : (s.hbmCorrected k).hbm = s.hbm := by
  unfold State.hbmCorrected State.countMem
  dsimp only
  split
  · rw [State.raise_hbm]; simp only [State.count_hbm]
  · simp only [State.count_hbm]

theorem State.hbmUncorrectable_hbm (s : State) (k n : Nat) : (s.hbmUncorrectable k n).hbm = s.hbm := by
  simp [State.hbmUncorrectable, State.hbmEvent, State.countMem]

theorem State.wf_resolveWord (s : State) (w : Nat) (h : s.hbm.wf = true) : (s.resolveWord .hbm w).hbm.wf = true := by
  unfold State.resolveWord
  dsimp only
  split
  · rw [State.hbmCorrected_hbm]; exact Mem.wf_setMark s.hbm w 0 h
  · rw [State.hbmUncorrectable_hbm]; exact Mem.wf_setMark s.hbm w 3 h
  · exact h

theorem State.wf_resolve (s : State) (a n : Nat) (h : s.hbm.wf = true) : (s.resolve .hbm a n).hbm.wf = true := by
  unfold State.resolve
  generalize (s.mem .hbm).marked a n = l
  induction l generalizing s with
  | nil => exact h
  | cons w l ih => exact ih _ (s.wf_resolveWord w h)

theorem State.wf_copyShadow (s : State) (m : ShadowMove) (i : Nat) (h : s.hbm.wf = true) : (s.copyShadow m i).hbm.wf = true := by
  have k := s.wf_resolve (s.rawKey (m.origin i)) 4096 h
  unfold State.copyShadow
  dsimp only
  split
  · rw [State.raise_hbm]
    dsimp only [State.setVol]
    split
    · exact k
    · split
      · exact Mem.wf_copyGranule _ _ _ k
      · exact Mem.wf_poison _ _ k
  · dsimp only [State.setVol]
    split
    · exact k
    · split
      · exact Mem.wf_copyGranule _ _ _ k
      · exact Mem.wf_poison _ _ k

theorem State.wf_copyAhead (n : Nat) (s : State) (g : Nat) (h : s.hbm.wf = true) : (State.copyAhead n s g).hbm.wf = true := by
  induction n generalizing s g with
  | zero => exact h
  | succ n ih =>
    unfold State.copyAhead
    split
    · exact h
    · split
      · exact h
      · dsimp only
        split
        · exact h
        · split
          · exact State.wf_copyShadow _ _ _ (ih _ _ h)
          · exact ih _ _ h

theorem State.wf_clearGranule (s : State) (g : Nat) (h : s.hbm.wf = true) : (s.clearGranule g).hbm.wf = true :=
  Mem.wf_filter _ _ _ (State.wf_copyAhead 128 s g h)

theorem Sparse.above_filterMap {α : Type} (g : Nat → Option (Nat × α)) (hg : ∀ a p, g a = some p → p.1 = a) (n b : Nat) :
    Sparse.above b ((List.range' b n).filterMap g) = true := by
  induction n generalizing b with
  | zero => rfl
  | succ n ih =>
    simp only [List.range'_succ, List.filterMap_cons]
    split
    · exact Sparse.above_mono _ _ _ (ih (b + 1)) (by omega)
    · next e =>
      simp only [Sparse.above, Bool.and_eq_true, decide_eq_true_eq, hg _ _ e]
      exact ⟨Nat.le_refl b, ih (b + 1)⟩

/-- The core buffer of a context image is in the form. -/
theorem imageBuffer_wf (rd : Nat → Byte × Bool) : (imageBuffer rd).wf = true := by
  rw [Mem.wf_iff]
  simp only [imageBuffer, Sparse.wf, Bool.and_eq_true, List.range_eq_range']
  refine ⟨⟨Sparse.above_filterMap _ ?_ _ _, ?_⟩, ⟨Sparse.above_filterMap _ ?_ _ _, ?_⟩, by simp [Sparse.above]⟩
  · intro a p h; split at h <;> simp_all; rw [← h]
  · simp only [List.all_eq_true, List.mem_filterMap]
    rintro x ⟨a, _, h⟩; split at h <;> simp_all; rw [← h]; simp_all
  · intro a p h; split at h <;> simp_all; rw [← h]
  · simp only [List.all_eq_true, List.mem_filterMap]
    rintro x ⟨a, _, h⟩; split at h <;> simp_all; rw [← h]; simp

theorem State.reset_hbm_wf : State.reset.hbm.wf = true := rfl
theorem State.reset_hubBuf_wf : State.reset.hubBuf.wf = true := rfl
theorem State.reset_dieBuf_wf (d : Fin 4) : (State.reset.dieBuf[d]).wf = true := by
  simp only [State.reset, Fin.getElem_fin, Vector.getElem_replicate]; rfl
theorem State.reset_core_wf (c : CoreId) : (State.reset.cores[c]).buf.wf = true := by
  simp only [State.reset, Fin.getElem_fin, Vector.getElem_replicate]; rfl

end Sys2Proof.Machine
end

