-- ==== Sys2Proof/Laws/Vector.lean ====
section
/-! SUPPORT. What the shared operations of VECTOR leave: `State.lanes` (R90, R101) and `State.reduce` (R95 to R98). -/

set_option Elab.async false
namespace Sys2Proof.Machine

/-- A lane operation completes with its register written lane by lane under the mask (R90, R101, R218), for all operands. -/
theorem runsAs_lanes (i : Instr) (c : CoreId) (h : Hdr) (f : VecF) (s : State) (g : Core → Nat → Lane)
    (hi : s.issues c h clsVector false = true) (he : exec i s = s.clocked (s.lanes i c h f g)) :
    runsAs i c s fun t => t.putV c f.vd (t.cores[c].mask f.mask) f.maskZero (g t.cores[c]) := by
  unfold runsAs
  rw [he]; unfold State.lanes
  rw [State.clocked_issue i hi]

/-- Whether some element meets a test, told by how many do. -/
theorem any_eq_count {α : Type} (p : α → Bool) (l : List α) : l.any p = decide ((l.filter p).length ≠ 0) := by
  induction l with
  | nil => rfl
  | cons a l ih => cases h : p a <;> simp [h, ih]

/-- What `putV` writes: the register under its mask, VSTAT's POISON and the launch census for lanes written poisoned; the rest of
the state only reports. -/
theorem State.reported_putV (s : State) (c : CoreId) (f : VecF) (g : Nat → Lane) :
    (s.updCore c fun k => { withLanes k f g with pc := k.pc }).Reported
      (s.putV c f.vd (s.cores[c].mask f.mask) f.maskZero g) := by
  unfold State.putV
  generalize hn : ((List.range 128).filter fun i => (s.cores[c].mask f.mask).getLsbD i && (g i).poison).length = n
  have ha : ((List.range 128).any fun i => (s.cores[c].mask f.mask).getLsbD i && (g i).poison) = decide (n ≠ 0) := by
    rw [any_eq_count, hn]
  have hw : (s.writeV c f.vd (s.cores[c].mask f.mask) f.maskZero g)
      = s.updCore c fun k => { withLanes k f g with pc := k.pc, census := k.census } := by
    unfold State.writeV
    dsimp only
    rw [ha]
    unfold State.updCore
    congr 1
    congr 1
    simp only [withLanes, hn, vset, vget, maskedReg, f.vd.isLt, dite_true, Core.orStat]
    by_cases h : n = 0 <;> simp [h]
  dsimp only
  rw [hw]
  by_cases h : n = 0
  · rw [if_pos h]
    unfold State.Reported State.updCore withLanes
    simp only [hn, h, if_true]
  · rw [if_neg h]
    have key : ∀ (l : List (Fin 9)) (u : State), u.Reported (l.foldl (fun s i => s.raise 0x0C00 (corePath c)
        [((15 : Fin 16).val, 1), (i.val, 2)]) u) := by
      intro l
      induction l with
      | nil => intro u; exact State.Reported.refl u
      | cons a l ih => intro u; exact (u.reported_raise _ _ _).trans (ih _)
    unfold State.addCensus
    refine State.Reported.trans ?_ (key _ _)
    rw [State.updCore_updCore]
    unfold State.Reported State.updCore
    simp only [withLanes, hn, if_neg h]
    simp only [Fin.getElem_fin, Vector.getElem_set_self]
    rfl

/-- A lane operation completes: its core's register, VSTAT and census as `withLanes` says, the next word, and nothing else but what
reports. -/
theorem onCoreReports_lanes (i : Instr) (c : CoreId) (h : Hdr) (f : VecF) (s : State) (g : Core → Nat → Lane)
    (hi : s.issues c h clsVector false = true) (he : exec i s = s.clocked (s.lanes i c h f g)) :
    onCoreReports i c s (withLanes s.cores[c] f (g s.cores[c])) := by
  refine ⟨_, runsAs_lanes i c h f s g hi he, State.reported_ends ?_⟩
  have a := ((s.countIssued c).reported_putV c f (g s.cores[c])).updCore c fun k => { k with pc := k.pc + 1 }
  rw [State.updCore_updCore] at a
  have b : (s.updCore c fun k => { withLanes k f (g s.cores[c]) with pc := k.pc + 1 }).Reported
      ((s.countIssued c).updCore c fun k => { withLanes k f (g s.cores[c]) with pc := k.pc + 1 }) :=
    State.Reported.updCore (s.reported_count _ _ _ _ _) c _
  have e : (s.updCore c fun _ => withLanes s.cores[c] f (g s.cores[c]))
      = s.updCore c fun k => { withLanes k f (g s.cores[c]) with pc := k.pc + 1 } := rfl
  rw [e]
  have d := b.trans a
  simp only [State.countIssued_cores] at d ⊢
  exact d

/-- With no poisoned lane written, its effect is on its own core: the register and the next word. -/
theorem onCore_lanes (i : Instr) (c : CoreId) (h : Hdr) (f : VecF) (s : State) (g : Core → Nat → Lane)
    (hi : s.issues c h clsVector false = true) (he : exec i s = s.clocked (s.lanes i c h f g))
    (hp : cleanLanes s.cores[c] f (g s.cores[c])) : onCore i c s (withLanes s.cores[c] f (g s.cores[c])) := by
  have hn : ((List.range 128).filter fun j => (s.cores[c].mask f.mask).getLsbD j && (g s.cores[c] j).poison) = [] := by
    rw [List.filter_eq_nil_iff]
    intro j hj
    cases hm : (s.cores[c].mask f.mask).getLsbD j
    · simp
    · rw [hp j (List.mem_range.mp hj) hm]; simp
  have ha : ((List.range 128).any fun j => (s.cores[c].mask f.mask).getLsbD j && (g s.cores[c] j).poison) = false := by
    rw [List.any_eq_false]
    intro j hj
    cases hm : (s.cores[c].mask f.mask).getLsbD j
    · simp
    · rw [hp j (List.mem_range.mp hj) hm]; simp
  have := onCore_of (i := i) (c := c) (s := s) (g := fun _ => withLanes s.cores[c] f (g s.cores[c])) ?_
  · exact this
  · rw [runsAs_lanes i c h f s g hi he]
    congr 2
    unfold State.putV
    simp only [State.countIssued_cores, hn, List.length_nil, if_true]
    simp only [State.writeV, State.advance, State.updCore_updCore, ha, Bool.false_eq_true, if_false]
    unfold State.updCore
    congr 1
    congr 1
    simp only [vset, vget, maskedReg, withLanes, hn, State.countIssued_cores, f.vd.isLt, dite_true, List.length_nil, if_true]
    rfl

/-- A reduction with no active lane poisoned: the low half of Xd, VSTAT EMPTY, the next word. -/
theorem onCore_reduce (i : Instr) (c : CoreId) (h : Hdr) (f : VecF) (s : State) (g : List (Nat × FVal) → Word)
  (hi : s.issues c h clsVector false = true)
  (he : exec i s = s.clocked (s.reduce i c h f g))
  (hp : ∀ i ∈ (List.range 128).filter (fun i => (s.cores[c].mask f.mask).getLsbD i), (s.cores[c].lane f.va i).poison = false) :
    onCore i c s
      (let k := s.cores[c]
       let act := (List.range 128).filter fun i => (k.mask f.mask).getLsbD i
       { k with
        x := k.x.set f.xd ((g (act.map fun i => (i, f32 (k.lane f.va i).val))).zeroExtend 64)
        vstat := (k.vstat &&& 0xFFFFFFFE#32) ||| (if act.isEmpty then 1#32 else 0#32)
        pc := k.pc + 1 }) := by
  have := onCore_of (i := i) (c := c) (s := s) (g := fun k =>
      (let act := (List.range 128).filter fun i => (s.cores[c].mask f.mask).getLsbD i
       { k with
        x := k.x.set f.xd ((g (act.map fun i => (i, f32 (s.cores[c].lane f.va i).val))).zeroExtend 64)
        vstat := (k.vstat &&& 0xFFFFFFFE#32) ||| (if act.isEmpty then 1#32 else 0#32)
        pc := k.pc + 1 })) ?_
  · exact this
  · rw [he]; unfold State.reduce
    rw [State.clocked_issue i hi]
    simp only [State.countIssued_cores]
    rw [State.checked_of]
    · simp only [State.setX, State.advance, State.updCore_updCore]
      rfl
    · have : (((List.range 128).filter fun i => (s.cores[c].mask f.mask).getLsbD i).any fun i => (s.cores[c].lane f.va i).poison) = false := by
        rw [List.any_eq_false]; intro x hx; rw [hp x hx]; simp
      simp only [passes, firstStop, stopIf, this]; rfl

end Sys2Proof.Machine
end

