-- ==== Sys2Proof/Machine/Lands.lean ====
section
/-! DEFINITION. The land grid (R441 to R445, Tables 24-2 to 24-4): which signal or rail each land carries. It gives the package no
state; it says where the lines of its signals lie. -/
namespace Sys2Proof.Machine

/-- A differential signal of Table 24-2: host lane n, twin lane j, lane k of fabric port p, and the reference clocks. -/
inductive Pair where
  | peTx (n : Fin 16)
  | peRx (n : Fin 16)
  | peRefclk
  | sdRefclk0
  | twTx (j : Fin 8)
  | twRx (j : Fin 8)
  | fpTx (p : Fin 8) (k : Fin 4)
  | fpRx (p : Fin 8) (k : Fin 4)
  | sdRefclk1
  deriving DecidableEq, Repr

/-- A single signal of Table 24-3. -/
inductive Line where
  | pwrgd | perstN | throttleN | thermtripN
  | croakClk | croakBeat | croakRdy | croakHoldN
  | tck | tms | tdi | tdo | trstN
  | t1sDp | t1sDn
  | nodeId (i : Fin 5)
  | diodeA (i : Fin 5)
  | diodeK (i : Fin 5)
  deriving DecidableEq, Repr

/-- A supply of Table 24-4. -/
inductive Rail where
  | vss | vddC (c : Fin 4) | vddH | vppHbm | vddHbm | vddqHbm | avddSd | avddhSd | vddio
  deriving DecidableEq, Repr

/-- The lane of a fabric port among the thirty-two (R443). -/
def fabricLane (p : Fin 8) (k : Fin 4) : Nat := 4 * p.val + k.val

/-- The row and column of a pair's _DP land (Table 24-2). -/
def Pair.dp : Pair → Nat × Nat
  | .peTx n => (2, 4 * n.val + 3)
  | .peRx n => (4, 4 * n.val + 3)
  | .peRefclk => (6, 3)
  | .sdRefclk0 => (6, 7)
  | .twTx j => (8, 4 * j.val + 3)
  | .twRx j => (10, 4 * j.val + 3)
  | .fpTx p k => let m := fabricLane p k; if m ≤ 15 then (101, 4 * m + 3) else (97, 4 * m - 61)
  | .fpRx p k => let m := fabricLane p k; if m ≤ 15 then (103, 4 * m + 3) else (99, 4 * m - 61)
  | .sdRefclk1 => (95, 3)

/-- The row and column of a pair's _DN land: the next column. -/
def Pair.dn (q : Pair) : Nat × Nat := (q.dp.1, q.dp.2 + 1)

/-- The land of a single signal (Table 24-3). -/
def Line.land : Line → Nat × Nat
  | .pwrgd => (6, 75)
  | .perstN => (6, 77)
  | .throttleN => (6, 79)
  | .thermtripN => (6, 81)
  | .croakClk => (6, 83)
  | .croakBeat => (6, 85)
  | .croakRdy => (6, 87)
  | .croakHoldN => (6, 89)
  | .tck => (8, 75)
  | .tms => (8, 77)
  | .tdi => (8, 79)
  | .tdo => (8, 81)
  | .trstN => (8, 83)
  | .t1sDp => (8, 85)
  | .t1sDn => (8, 87)
  | .nodeId i => (10, 75 + 2 * i.val)
  | .diodeA i => (12, 75 + 3 * i.val)
  | .diodeK i => (12, 76 + 3 * i.val)

/-- Every differential signal. -/
def pairs : List Pair :=
  [.peRefclk, .sdRefclk0, .sdRefclk1] ++ (List.finRange 16).flatMap (fun n => [.peTx n, .peRx n])
    ++ (List.finRange 8).flatMap (fun j => [.twTx j, .twRx j])
    ++ (List.finRange 8).flatMap fun p => (List.finRange 4).flatMap fun k => [.fpTx p k, .fpRx p k]

/-- Every single signal. -/
def lines : List Line :=
  [.pwrgd, .perstN, .throttleN, .thermtripN, .croakClk, .croakBeat, .croakRdy, .croakHoldN, .tck, .tms, .tdi, .tdo, .trstN, .t1sDp,
    .t1sDn] ++ (List.finRange 5).flatMap fun i => [.nodeId i, .diodeA i, .diodeK i]

/-- The lands of signals. -/
def signalLands : List (Nat × Nat) := pairs.flatMap (fun q => [q.dp, q.dn]) ++ lines.map Line.land

/-- Whether a position of the grid carries a land (R441, R442). -/
def isLand (row col : Nat) : Bool :=
  decide (1 ≤ row ∧ row ≤ 104 ∧ 1 ≤ col ∧ col ≤ 92) && !decide (46 ≤ row ∧ row ≤ 61 ∧ 36 ≤ col ∧ col ≤ 57)

/-- A checkerboard: the rail where row and column add to an even number, ground elsewhere (R445). -/
def checkerboard (row col : Nat) (r : Rail) : Rail := if (row + col) % 2 = 0 then r else .vss

/-- The rail of a strip column counted from the nearer outer edge (Table 24-4). -/
def stripRail (i : Nat) : Rail := if i = 1 then .vppHbm else if i ≤ 5 then .vddHbm else .vddqHbm

/-- The supply of a land that carries no signal (Table 24-4). -/
def regionRail (row col : Nat) : Rail :=
  if row ≤ 12 ∨ 95 ≤ row then .vss
  else if row ≤ 14 ∨ 93 ≤ row then
    if col ≤ 68 then (if row = 13 ∨ row = 94 then .avddSd else .avddhSd) else if row ≤ 14 then .vddio else .vss
  else checkerboard row col
    (if col ≤ 10 then stripRail col
    else if 83 ≤ col then stripRail (93 - col)
    else if 41 ≤ row ∧ row ≤ 66 ∧ 32 ≤ col ∧ col ≤ 61 then .vddH
    else if row ≤ 53 then (if col ≤ 46 then .vddC 0 else .vddC 1)
    else if col ≤ 46 then .vddC 3 else .vddC 2)

/-- The supply a land carries: none where there is no land or a signal's (R445). -/
def railAt (row col : Nat) : Option Rail :=
  if isLand row col && !signalLands.contains (row, col) then some (regionRail row col) else none

/-- The centre of a land from the centre of the body, in half millimetres (R441). -/
def landCentre (row col : Nat) : Int × Int := (2 * (col : Int) - 93, 2 * (row : Int) - 105)

end Sys2Proof.Machine
end

