-- ==== Sys2Proof/Tests/Slice0.lean ====
section
/-! SUPPORT. Tests of this package: ill-formed terms refused, small steps, and a witness for the hypotheses of each statement. -/

set_option Elab.async false
namespace Sys2Proof.Tests

open Sys2Proof Sys2Proof.Machine

/-! ### States -/

/-- A package with power and its clocks running. -/
def live : State := { State.reset with power := { Power.reset with on := true, clocks := true } }

/-- A host port whose apertures have their addresses. -/
def placed : HostPort := { HostPort.reset with bars := #v[some 0, some 0, some 0], vfBars := #v[some 0, some 0, some 0] }

/-- A launch of logical core 0 on physical core 0, running. -/
def aLaunch : Launch where
  vat := 0
  fn := 0
  slot := 0
  kind := 0
  ctx := false
  preEn := 0#4
  start := 0
  cores := [⟨0, some 0, .running, 0, false⟩]
  stamp := 0
  bound := 1000
  rennets := Vector.replicate 4 0
  thresholds := Vector.replicate 4 0
  ctxBase := 0
  image := 0
  count := 0
  loadStart := 0
  pace := 512
  tag := 0#32
  xs := Vector.replicate 32 0#64
  started := true
  preReq := false
  overrun := false
  fallback := false
  poison := false
  summary := 0#4
  reason := 0
  fault := none
  seed := 0#64
  key := 0#128
  keyWait := 0
  frame := 0
  preSlots := []

/-- A core at word 0 of a program of four words, the first a NOP. -/
def aCore : Core := { Core.reset with run := .running, launch := some 0, loaded := 4, prog := [(0, 0x58000000#256)] }

/-- A package whose core 0 runs the launch, as `k` has it. -/
def runs (k : Core) : State := { live with cores := live.cores.set 0 k, launches := [aLaunch] }

/-- An unpredicated header. -/
def hdr : Hdr := ⟨false, false, false, 0⟩

/-! ### Operands -/

/-- SWEEP of one step on all arrays, tile 0. -/
def aSweep : SweepF := ⟨0, 1, 0, 15#4, true, 0, 0, 0, 1⟩
/-- ACCOP on tile 0, all arrays. -/
def anAcc : AccF := ⟨0, 0, 0, 15#4, 0, 0, 0, 0, 0⟩
/-- CHAIN of one row of descriptor 0 into V1, no stage enabled. -/
def aChain : ChainF where
  srcKind := 1#2
  source := 0#6
  release := false
  scl := false
  res := false
  fn := false
  aff := false
  row := false
  cen := false
  cvt := false
  cc := 0#16
  scaleReg := 0
  scaleRow := false
  noScale := true
  biasReg := 0
  biasRow := false
  noBias := true
  resDesc := 0
  fnCode := 0#6
  table := 0
  clampReg := 0
  affBase := 0
  statMax := false
  statSum := false
  statSq := false
  statBase := 0
  dstKind := 1#2
  dst := 1#10
  mask := 0
  maskZero := false
  xdr := 0
  xdc := 0
  xsr := 0
  xsc := 0
  stream := 0#32
  draw := 0#32
  rows := 1
/-- VECTOR V3 from V1 and V2 under M0. -/
def aVec : VecF := ⟨3, 1, 2, 4, 0, false, false, 5, 0, 6, 0#3, 0x1#4, 0x0000#16, 0#32, 0#32⟩
/-- MOVE of one row of four columns from descriptor 0 to descriptor 2; register number 7. -/
def aMove : MoveF := ⟨0, 2, 0, 0, 0, 0, 1, 0#16, 4, 0, 7, 0#32⟩
/-- WINDOW of a 1 × 1 × 1 kernel. -/
def aWin : WinF := ⟨0, 2, 0, 0, 0, 1, 1, 1, 1, 1, 1, 1, 1, 1, 0, 0, 0, 0, 0, 0, 1, 1⟩
/-- TABLE 0 from descriptor 0. -/
def aTab : TabF := ⟨0, 0, 0#32⟩
/-- SYNC on rennet 9 with count 2. -/
def aSync : SyncF := ⟨9#16, false, 0#2, false, 2#32, 0#32⟩
/-- RANDOM to V1. -/
def aRand : RandF := ⟨1#2, 1#6, 0, 0, 0#32, 0#32, 0, 1⟩
/-- CONTROL with X1, X2, X3. -/
def aCtl : CtlF := ⟨1, 2, 3, 0#4, false, 0#3, 2#13, 5#64, 1, 3, 0#4⟩
/-- CENSUS of slot 0 and descriptor 0. -/
def aCen : CenF := ⟨0, 0, 0, 1⟩
/-- A write of four bytes to frame 0 of vat 0 by the physical function. -/
def aFrame : FrameWrite := ⟨0, 0, 0, 0, [1#8, 0#8, 0#8, 0#8], false⟩
/-- A read of 2000:01 in session 0. -/
def aKop : KopMsg := ⟨.port, 0x4B4F#32, 1#8, 0, 1#32, 0x2000#16, 1#8, false, 0, [], [], false⟩
/-- A segment with no payload. -/
def aSegment : Segment := ⟨List.replicate 8 0#32, [], none⟩

/-! ### Ill-formed terms are refused: one for each check of a field -/

theorem test_ill_formed_tile_fields :
    Instr.wellFormed (.sweep 0 hdr { aSweep with k := 2 ^ 24 }) = false
    ∧ Instr.wellFormed (.minPlus 0 hdr { aSweep with k := 2 ^ 24 }) = false
    ∧ Instr.wellFormed (.chainTensor 0 hdr { aChain with rows := 1024 }) = false
    ∧ Instr.wellFormed (.chainTensor 0 hdr { aChain with srcKind := 0#2 }) = false
    ∧ Instr.wellFormed (.chainDrain 0 hdr aChain) = false ∧ Instr.wellFormed (.chainRegister 0 hdr aChain) = false
    ∧ Instr.wellFormed (.moveTensor 0 hdr { aMove with rows := 65536 }) = false
    ∧ Instr.wellFormed (.moveTensor 0 hdr { aMove with cols := 2 ^ 24 }) = false
    ∧ Instr.wellFormed (.ldv 0 hdr { aMove with pace := 1024 }) = false := by decide

theorem test_ill_formed_window_fields :
    Instr.wellFormed (.window 0 hdr { aWin with kt := 16 }) = false ∧ Instr.wellFormed (.window 0 hdr { aWin with right := 16 }) = false
    ∧ Instr.wellFormed (.window 0 hdr { aWin with sw := 8 }) = false ∧ Instr.wellFormed (.window 0 hdr { aWin with dt := 8 }) = false
    ∧ Instr.wellFormed (.window 0 hdr { aWin with positions := 65536 }) = false
    ∧ Instr.wellFormed (.window 0 hdr { aWin with channels := 65536 }) = false := by decide

theorem test_ill_formed_random_census :
    Instr.wellFormed (.randomRaw 0 hdr { aRand with threshold := 65536 }) = false
    ∧ Instr.wellFormed (.randomRaw 0 hdr { aRand with rows := 65536 }) = false
    ∧ Instr.wellFormed (.seal 0 hdr { aCen with rows := 65536 }) = false := by decide

theorem test_ill_formed_host_commands :
    Instr.wellFormed (.launchRun { aFrame with frame := 8192 }) = false
    ∧ Instr.wellFormed (.launchRun { aFrame with data := [] }) = false
    ∧ Instr.wellFormed (.launchRun { aFrame with off := 512 }) = false
    ∧ Instr.wellFormed (.launchRun { aFrame with frame := 8191, off := 509 }) = false
    ∧ Instr.wellFormed (.launchRun { aFrame with data := List.replicate 513 0#8 }) = false
    ∧ Instr.wellFormed (.unitHold (.frame { aFrame with off := 512 })) = false
    ∧ Instr.wellFormed (.unitHold (.kop { aKop with offset := 65536 })) = false
    ∧ Instr.wellFormed (.resultSlotRelease 0 4096 0#32 false) = false
    ∧ Instr.wellFormed (.bar4Read 0 0 0 false) = false ∧ Instr.wellFormed (.bar4Read 0 (2 ^ 40) 1 false) = false
    ∧ Instr.wellFormed (.bar4Write 0 0 [] false) = false ∧ Instr.wellFormed (.bar4Write 0 (2 ^ 40) [0#8] false) = false
    ∧ Instr.wellFormed (.registerWrite 0 (.bar0 0) [] false) = false
    ∧ Instr.wellFormed (.registerWrite 0 (.config .barSize) [0#8, 0#8, 0#8] false) = false ∧ Instr.wellFormed (.vfEnableWrite 65536 true) = false
    ∧ Instr.wellFormed (.msixVectorUnmask 0 ⟨128, true⟩) = false
    ∧ Instr.wellFormed (.hostLinkTrained 6 17) = false ∧ Instr.wellFormed (.hostLinkRecovery 6 17) = false
    ∧ Instr.wellFormed (.hostLinkBelowMinimum 6 17) = false := by decide +kernel

theorem test_ill_formed_messages :
    Instr.wellFormed (.kopRead { aKop with offset := 65536 }) = false
    ∧ Instr.wellFormed (.kopRead { aKop with session := 2 ^ 32 }) = false
    ∧ Instr.wellFormed (.psigerData 0 { aSegment with header := [] }) = false
    ∧ Instr.wellFormed (.remoteSignalReceive (.fabric 0 { aSegment with header := [] })) = false
    ∧ Instr.wellFormed (.remoteSignalReceive (.twin [])) = false
    ∧ Instr.wellFormed (.twinLinkUp ⟨0#32, 0#32, [], [(3, 0#32), (3, 1#32)]⟩) = false
    ∧ Instr.wellFormed (.shadowData ⟨0, [], []⟩) = false ∧ Instr.wellFormed (.encodeFrame 0 ⟨[], [], false, none⟩) = false
    ∧ Instr.wellFormed (.twinFlitCrcFail 256) = false ∧ Instr.wellFormed (.twinPipeFlit (.data 0 [] true)) = false
    ∧ Instr.wellFormed (.twinAuditRecordReceive []) = false
    ∧ Instr.wellFormed (.neighbourSolicitation ⟨none, [], List.replicate 16 0#8, none⟩) = false
    ∧ Instr.wellFormed (.neighbourSolicitation ⟨none, List.replicate 16 0#8, [], none⟩) = false := by decide

theorem test_ill_formed_faults :
    Instr.wellFormed (.arrayOperandFault 0 ⟨.sweep 0 aSweep, 2 ^ 24, .weightPoison, none⟩) = false
    ∧ Instr.wellFormed (.laneGroupFault 0 0 ⟨128, 0#64, []⟩) = false ∧ Instr.wellFormed (.cultureFault 0 ⟨128, 0#64, []⟩) = false
    ∧ Instr.wellFormed (.onchipUncorrectable ⟨.hub, 2 ^ 26, false⟩) = false
    ∧ Instr.wellFormed (.correctedErrorThreshold ⟨208, .buffer, 2 ^ 48⟩) = false ∧ Instr.wellFormed (.dieFault ⟨0, some (2 ^ 26)⟩) = false
    ∧ Instr.wellFormed (.linkFlitUncorrectable ⟨0, 16, false, none⟩) = false
    ∧ Instr.wellFormed (.granuleClear 0 (2 ^ 25)) = false ∧ Instr.wellFormed (.powerGood ⟨0#5, [3, 3]⟩) = false
    ∧ Instr.wellFormed (.thermalSample ⟨[], List.replicate 12 0⟩) = false
    ∧ Instr.wellFormed (.thermalSample ⟨List.replicate 68 0, []⟩) = false := by decide

/-- The operands above are well formed. -/
theorem test_well_formed_operands :
    Instr.wellFormed (.sweep 0 hdr aSweep) = true ∧ Instr.wellFormed (.chainTensor 0 hdr aChain) = true
    ∧ Instr.wellFormed (.moveTensor 0 hdr aMove) = true ∧ Instr.wellFormed (.window 0 hdr aWin) = true
    ∧ Instr.wellFormed (.randomRaw 0 hdr aRand) = true ∧ Instr.wellFormed (.launchRun aFrame) = true
    ∧ Instr.wellFormed (.kopRead aKop) = true ∧ Instr.wellFormed (.psigerData 0 aSegment) = true := by decide

theorem test_ill_formed_payload (d : List Byte) (h : 65472 < d.length) :
    Instr.wellFormed (.kopRead { aKop with data := d }) = false := by
  have h' : decide (d.length ≤ 65472) = false := by rw [decide_eq_false_iff_not]; omega
  show (fits aKop.offset 16 && fits aKop.session 32 && decide (d.length ≤ 65472)) = false
  rw [h', Bool.and_false]

/-! ### Witnesses: tile programs -/

/-- A descriptor image: location, format, base, elements of a row, rows, stride; coarse scale 1.0. -/
def image (loc fmt base n0 n1 s1 : Nat) : BitVec 512 :=
  BitVec.ofNat 512 (loc * 2 ^ 28 + fmt * 2 ^ 12 + base * 2 ^ 32 + n0 * 2 ^ 96 + n1 * 2 ^ 128 + s1 * 2 ^ 224 + 0x3F800000 * 2 ^ 320)

/-- A core with FP32 tensors of 1 × 4 in its buffer under D0 and D2, and one in the die buffer under D5. -/
def aTensorCore : Core :=
  { aCore with d := ((aCore.d.set 0 (image 2 0 0 4 1 16)).set 2 (image 2 0 4096 4 1 16)).set 5 (image 1 0 0 4 1 16) }

/-- The package that runs it. -/
def tensors : State := runs aTensorCore

/-- A poisoned lane. -/
def hot : Lane := ⟨0#32, true⟩

/-- The core with lane 0 of V1 poisoned. -/
def poisoned : State := runs { aCore with v := aCore.v.set 1 ((Vector.replicate 128 Lane.zero).set 0 hot) }

theorem runs_core (k : Core) : (runs k).cores[(0 : CoreId)] = k := by simp [runs]

theorem aCore_lane (v i : Nat) : aCore.lane v i = Lane.zero := by
  have h : vget (Vector.replicate 128 Lane.zero) aCore.v v = Vector.replicate 128 Lane.zero := by
    unfold vget; split
    · exact Vector.getElem_replicate _
    · rfl
  unfold Core.lane
  rw [h]
  unfold vget; split
  · exact Vector.getElem_replicate _
  · rfl

/-- Every statement about an instruction of a tile program: the core issues it. -/
theorem wit_issue :
    (∀ cls ∈ List.range 16, (runs aCore).issues 0 hdr cls false = true ∧ (runs aCore).issues 0 hdr cls true = true) := by decide +kernel

/-- LaneSelection: the predicates at the ends of their ranges. -/
theorem wit_LaneSelection : (6#3).toNat ≤ 6 ∧ (3#3).toNat ≤ 3 ∧ ¬(7#3).toNat ≤ 6 := by decide

/-- ReductionsAndScans: no active lane poisoned. -/
theorem wit_reductions (i : Nat) : ((runs aCore).cores[(0 : CoreId)].lane 1 i).poison = false := by
  rw [runs_core, aCore_lane]; rfl

/-- ReductionsAndScans: a scan of clean lanes has a clean carry out. -/
theorem wit_scan_clean :
    (scanOf (intScan false) 0#32 0#32 false (fun _ => false)
      ((List.range 128).map fun i => (runs aCore).cores[(0 : CoreId)].lane 1 i)).last.poison = false := by
  simp only [runs_core, aCore_lane]
  decide +kernel

/-- PoisonedResults: a poisoned active lane. -/
theorem wit_poisoned_lane :
    ((List.range 128).any fun i => (poisoned.cores[(0 : CoreId)].mask 0).getLsbD i && (poisoned.cores[(0 : CoreId)].lane 1 i).poison)
      = true := by
  rw [List.any_eq_true]
  exact ⟨0, by decide, by decide +kernel⟩

/-- PoisonedResults: a scan over them has a poisoned carry out. -/
theorem wit_poisoned_scan :
    (scanOf (intScan false) 0#32 0#32 false (fun _ => false)
      ((List.range 128).map fun i => poisoned.cores[(0 : CoreId)].lane 1 i)).last.poison = true := by
  simp only [poisoned, runs_core]
  decide +kernel

/-- EmptyReductions: M3 has no lane active, M0 all. -/
theorem wit_EmptyReductions :
    ((List.range 128).filter fun i => ((runs aCore).cores[(0 : CoreId)].mask 3).getLsbD i) = []
    ∧ ((List.range 128).filter fun i => ((runs aCore).cores[(0 : CoreId)].mask 0).getLsbD i) ≠ [] := by
  simp only [runs_core]
  decide +kernel

/-- Every unit READY. -/
def readyUnits : Vector UnitRec 284 :=
  Vector.replicate 284 { UnitRec.reset with mg := ⟨stReady, 0#8, 0#16⟩, dp := ⟨stReady, 0#8, 0#16⟩ }

/-- A vat-0 region of kind 1 over the first GiB, rennets 0 to 15, streams 0 to 15, and slots 0 to 15. -/
def someCfg : Sparse Nat :=
  [(ek 0x2044 1, 0), (ek 0x2045 1, 16), (ek 0x2051 1, 16), (ek 0xD010 1, 2 ^ 96 + 2 ^ 14 * 2 ^ 64)]

/-- The tensors' package with its units READY and that configuration; rennet 9 holds up to 4 tokens. -/
def served : State :=
  { tensors with units := readyUnits, cfg := someCfg, rennets := [(9, ⟨0, 4, 0, false⟩)] }

/-- BF16 operands of 32 columns under D0 and D1. -/
def bf16s : State :=
  { served with cores := served.cores.set 0 { aTensorCore with
      d := (aTensorCore.d.set 0 (image 2 1 0 32 128 64)).set 1 (image 2 1 16384 32 128 64) } }

/-- Sweeps of FP32 by FP32 (D0 by D2) and semirings of BF16 (D0 by D1), the arrays READY and no tile bound. -/
theorem wit_Sweeps :
    (passes [(served.countIssued 0).descStop 0 clsSweep 0 0 [2], (served.countIssued 0).descStop 0 clsSweep 0 2 [2]]
      && (match (served.countIssued 0).sweepMode 0 (served.desc 0 0) (served.desc 0 2) with
        | .ok (o, _, _) => passes [alignStop (served.wordOf 0) clsSweep 0 o (served.desc 0 0) (served.desc 0 2) 0,
            (served.countIssued 0).arrayStop 0 15#4, (served.countIssued 0).bindStop 0 [0]]
        | .error _ => false)) = true
    ∧ (match (bf16s.countIssued 0).semiringMode 0 .minPlus (bf16s.desc 0 0) (bf16s.desc 0 1) with
        | .ok (o, _, _) => passes [(bf16s.countIssued 0).descStop 0 clsSemiring 0 0 [2], (bf16s.countIssued 0).descStop 0 clsSemiring 0 1 [2],
            alignStop (bf16s.wordOf 0) clsSemiring 0 o (bf16s.desc 0 0) (bf16s.desc 0 1) 0,
            (bf16s.countIssued 0).arrayStop 0 15#4, (bf16s.countIssued 0).bindStop 0 [0]]
        | .error _ => false) = true
    ∧ tensors.arrayUp 0 3 = false := by decide +kernel

/-- TileElements: tile 0 alone, and three tiles; SCALE_ROW at its last base; LOAD from D0. -/
theorem wit_TileElements :
    passes [served.arrayStop 0 15#4, served.bindStop 0 [0]] = true
    ∧ passes [served.arrayStop 0 15#4, served.bindStop 0 [0, 1, 2]] = true
    ∧ passes [rowBaseStop (served.wordOf 0) 8 28] = true
    ∧ passes [served.descStop 0 clsAccop 11 0 [2], stopIf ((served.desc 0 0).ctl.dst != 0x0#4)
        (badFormat (served.wordOf 0) clsAccop (atDesc 0 12) (served.desc 0 0).ctl.dst.toNat)] = true := by decide +kernel

/-- ClearedTile: tile 0 bound to slot 3. -/
theorem wit_ClearedTile :
    ({ served with cores := served.cores.set 0 { aCore with tiles := aCore.tiles.set 0 (.bound 3) } } : State).cores[(0 : CoreId)].tiles[
      (0 : TileNo)] = .bound 3
    ∧ ∀ a : Fin 4, served.arrayUp 0 a = true := by decide +kernel

/-- A chain of D0 into V1, a register-only one, and a packed conversion of BF16 to FP32. -/
theorem wit_Chains :
    (aChain.regOnly = false ∧ passes (aChain.operandStops ++ (served.countIssued 0).chainStops 0 aChain) = true)
    ∧ (let g := { aChain with srcKind := 2#2, fn := true, fnCode := 0x18#6 }
       g.regOnly = true ∧ passes g.operandStops = true)
    ∧ passes (cvtStops 0 aVec) = true
    ∧ (aChain.dstKind = 2#2 → served.tailWaits 0 hdr aChain.pipe = false) := by decide +kernel

/-- BranchTargets: word 2 of four, the last word, and the first past it; a loop that ends and one that goes on. -/
theorem wit_BranchTargets :
    aCtl.target.toNat < (runs aCore).cores[(0 : CoreId)].loaded ∧ (3#13).toNat < (runs aCore).cores[(0 : CoreId)].loaded
    ∧ (runs aCore).cores[(0 : CoreId)].loaded ≤ (4#13).toNat
    ∧ xcmp 0 (runs aCore).cores[(0 : CoreId)].x[aCtl.xa] (runs aCore).cores[(0 : CoreId)].x[aCtl.xb] = true
    ∧ (runs aCore).cores[(0 : CoreId)].x[aCtl.xa] ≠ 1#64 := by decide +kernel

/-- Controls: codes and selectors at the ends of their ranges; no area spilled. -/
theorem wit_Controls :
    (10#4).toNat ≤ 10 ∧ (2#4).toNat ≤ 2 ∧ ¬(11#4).toNat ≤ 10 ∧ (runs aCore).cores[(0 : CoreId)].spilledAny = false := by
  decide +kernel

/-- Pipe 0, open in vat 0 with logical core 0 at both ends, 16 bytes waiting in a head packet. -/
def aPipe : Pipe :=
  { Pipe.reset with state := 1, head := [⟨(List.range 16).map fun i => (BitVec.ofNat 8 i, false), 0, true, true⟩] }

/-- The package whose D4 names that pipe. -/
def piped : State :=
  { served with
    cores := served.cores.set 0 { aTensorCore with d := aTensorCore.d.set 4 (image 3 0 0 4 1 0) }
    pipes := served.pipes.set 0 aPipe }

/-- A BAD verdict in vat 0. -/
def badVerdict : State := { served with verdicts := served.verdicts.set 0 { (served.verdicts[(0 : VatNo)]) with bad := true } }

/-- MovesRun: buffer to buffer, from a pipe that holds the row, ZPACK to the die buffer, ZUNPACK of an empty row, WINDOW. -/
theorem wit_MovesRun :
    ((served.desc 0 0).loc ≠ 3 ∧ (served.desc 0 2).loc ≠ 3 ∧ passes ((served.countIssued 0).moveStops 0 0 aMove) = true)
    ∧ passes ((served.countIssued 0).zpackStops 0 { aMove with dd := 5 }) = true
    ∧ (passes ((served.countIssued 0).zunpackStops 0 { aMove with ds := 5 }) = true
      ∧ ((served.countIssued 0).zunpackRun 0 { aMove with ds := 5 }).2 = none)
    ∧ passes ((served.countIssued 0).windowStops 0 aWin) = true := by decide +kernel

theorem wit_moves_from_pipe :
    let f : MoveF := { aMove with ds := 4 }
    let p := piped.pipeTake 0 (piped.desc 0 4).pipe (f.rows * (piped.desc 0 4).pipeRow)
    (piped.desc 0 4).loc = 3 ∧ (piped.desc 0 2).loc ≠ 3 ∧ passes (piped.moveStops 0 0 f) = true ∧ piped.headShort 0 f = false
    ∧ p.issues 0 hdr clsMove false = true ∧ passes ((p.countIssued 0).moveStops 0 0 f) = true := by decide +kernel

/-- ConditionalStore: both verdicts, and a sequence that is not the sealed one. -/
theorem wit_ConditionalStore :
    (served.verdicts[served.vatOf 0].bad = false
      ∧ passes ((served.countIssued 0).moveStops 0 8 aMove ++ [(served.countIssued 0).verdictStop 0 aMove]) = true)
    ∧ (badVerdict.verdicts[badVerdict.vatOf 0].bad = true
      ∧ passes ((badVerdict.countIssued 0).moveStops 0 8 aMove ++ [(badVerdict.countIssued 0).verdictStop 0 aMove]) = true
      ∧ passes ((badVerdict.countIssued 0).splitStops 0 { aMove with reg := 0 }) = true)
    ∧ passes ((served.countIssued 0).splitStops 0 { aMove with reg := 0 }) = true
    ∧ (1#32 ≠ served.verdicts[served.vatOf 0].seq ∧ passes ((served.countIssued 0).moveStops 0 8 { aMove with w5 := 1#32 }) = true) := by
  decide +kernel

/-- The forms of one register at the last register of each and at the last address of the buffer. -/
theorem wit_RegisterForms :
    passes ((served.countIssued 0).regStops 0 5 2 { aMove with reg := 31, w5 := 0xFFEFF8#32 } 31 8) = true
    ∧ passes ((served.countIssued 0).regStops 0 2 2 { aMove with reg := 31 } 31 512) = true
    ∧ passes ((served.countIssued 0).regStops 0 4 0 aMove 31 8) = true
    ∧ passes ((served.countIssued 0).regStops 0 3 0 { aMove with reg := 63 } 63 64) = true
    ∧ passes ((served.countIssued 0).regStops 0 1 0 aMove 31 512) = true
    ∧ served.cores[(0 : CoreId)].buf.marks = [] ∧ served.cores[(0 : CoreId)].buf.wf = true := by decide +kernel

/-- PoisonedResults: the first word of the buffer carries the poison marker. -/
theorem wit_poisoned_word :
    let m := (Mem.empty).poison [0]
    m.marks = [(0, 3)] ∧ (m.read 0).2 = true := by decide +kernel

/-- An expansion table image of zero codes with target 1 (BF16), and a custom one over 0 to 1 with zero knots. -/
def tableBytes : List Byte :=
  (List.replicate 32 0#8 ++ [1#8] ++ List.replicate 31 0#8) ++ leBytes 0 4 ++ leBytes 0x3F800000 4 ++ List.replicate 264 0#8

theorem wit_TableLoads :
    expImageStop 0 (tableBytes.take 64) = none ∧ custImageStop 0 (tableBytes.drop 64) = none
    ∧ passes ((served.countIssued 0).tableStops 0 0 aTab 64) = true ∧ passes ((served.countIssued 0).tableStops 0 1 aTab 272) = true
    ∧ served.cores[(0 : CoreId)].expShadow[aTab.table] = none ∧ served.cores[(0 : CoreId)].custShadow[aTab.table] = none := by
  decide +kernel

/-- RandomRuns: every kind to V1, Bernoulli also to mask register 7. -/
theorem wit_RandomRuns :
    (∀ op ∈ [0, 1, 2, 3], passes ((served.countIssued 0).randomStops 0 op aRand) = true)
    ∧ passes ((served.countIssued 0).randomStops 0 3 { aRand with dstKind := 2#2, dst := 7#6 }) = true := by decide +kernel

/-- Census: D0 in the buffer scanned and stored to, and a verdict address in the region. -/
theorem wit_Census :
    passes [(served.countIssued 0).descStop 0 clsCensus 2 0 [0, 1, 2], int2Stop (served.wordOf 0) clsCensus (served.desc 0 0)] = true
    ∧ ((served.desc 0 0).loc ≠ 3 ∧ passes ((served.countIssued 0).censusStops 0 aCen) = true)
    ∧ (served.countIssued 0).inRegions 0 ((served.countIssued 0).verdictAddr 0) 32 = true := by decide +kernel

/-- A refused signal of core 0 and a waiter on rennet 9, which holds three tokens of four. -/
def signalled : State :=
  { served with
    rennets := [(9, ⟨3, 4, 0, false⟩)], retries := [⟨9, 2, .core 0, true⟩], waitQ := [(9, 1)]
    cores := served.cores.set 1 { Core.reset with wait := some ⟨9, 3, false, false, 0⟩ } }

/-- SignalsAndWaits: a signal to its maximum, past it, a wait, a fence; a retry without room, with room, and a waiter satisfied. -/
theorem wit_SignalsAndWaits :
    (served.rennetIn (served.vatOf 0) 9 = true ∧ (4#32).toNat ≤ (served.rennet 9).max ∧ (served.rennet 9).max ≠ 0
      ∧ (served.rennet 9).count + (4#32).toNat ≤ (served.rennet 9).max)
    ∧ (signalled.rennetIn (signalled.vatOf 0) 9 = true ∧ (signalled.rennet 9).max < (signalled.rennet 9).count + aSync.count.toNat)
    ∧ served.pipeBusy 0 = false
    ∧ (signalled.power.clocks = true ∧ signalled.retries.find? (fun x => x.src == .core 0) = some ⟨9, 2, .core 0, true⟩
      ∧ (signalled.rennet 9).max < 2 + (signalled.rennet 9).count)
    ∧ (signalled.waitQ = [(9, 1)] ∧ signalled.cores[(1 : CoreId)].wait = some ⟨9, 3, false, false, 0⟩ ∧ 3 ≤ (signalled.rennet 9).count) := by
  decide +kernel

/-- PreemptPoints: a launch with no request, and an interval of one cycle past 8,192. -/
theorem wit_PreemptPoints :
    served.cores[(0 : CoreId)].launch.bind served.launchAt = some aLaunch ∧ served.cores[(0 : CoreId)].preReq = false
    ∧ (aLaunch.cores.all fun k => k.phys != some 0 || k.fin != .stopping) = true
    ∧ served.cores[(0 : CoreId)].run = .running ∧ served.cores[(0 : CoreId)].intervalRaised = false ∧ 8192 < 8193 := by decide +kernel

/-- PredicatedOff: X0 is zero and the header predicated on it. -/
theorem wit_PredicatedOff :
    let h : Hdr := ⟨false, true, false, 0⟩
    served.power.clocks = true ∧ served.cores[(0 : CoreId)].run = .running ∧ served.cores[(0 : CoreId)].launch.isSome = true
    ∧ served.cores[(0 : CoreId)].pc < served.cores[(0 : CoreId)].loaded
    ∧ served.cores[(0 : CoreId)].progBad.contains served.cores[(0 : CoreId)].pc = false
    ∧ h.pred = true ∧ served.cores[(0 : CoreId)].x[h.xp] = 0#64 := by decide +kernel

/-! ### Witnesses: the host's commands -/

/-- A command of the physical function in vat 0: its words from W0 on. -/
def command (ws : List Nat) : FrameWrite := ⟨0, 0, 0, 0, ws.flatMap fun w => leBytes w 4, false⟩

/-- W0 of a command with result slot 3. -/
def w0 (code : Nat) : Nat := code * 2 ^ 24 + 3 * 2 ^ 12

/-- Vat 0 running with core 0, eight launches, slots 0 to 15, batch slots 0 to 7, rennets 0 to 15, a GiB of kind 1, and a MiB of
pipe ends in every buffer; batch slot 1 resident, rennet 9 idle. -/
def hosted : State :=
  { live with
    units := readyUnits
    host := placed
    cfg := [(ek 0x2021 1, 1), (ek 0x2023 1, 8), (ek 0x2025 1, 16), (ek 0x2027 1, 8), (ek 0x2051 1, 16), (ek 0x2108 1, 1), (ek 0x2108 2, 1),
      (ek 0x2108 3, 1), (ek 0x2108 4, 1), (ek 0x2108 5, 1), (ek 0xD010 1, 2 ^ 96 + 2 ^ 14 * 2 ^ 64)]
    vol := [(ek 0x2029 1, 1)]
    seqs := live.seqs.set 1 { (live.seqs[(1 : Fin 64)]) with state := 1 }
    rennets := [(9, ⟨0, 4, 0, false⟩)]
    layouts := [(0, 2 ^ 24 + 2 ^ 16 + 0x1 * 2 ^ 10 + 0x1 * 2 ^ 6)] }

/-- The hypotheses of a command that is taken. -/
def taken (s : State) (w : FrameWrite) (mine : Cmd → Bool) (checks : State → Cmd → List (Bool × Nat)) : Bool :=
  let c := s.cmdOf w
  let t := s.takenAt w
  s.power.clocks && s.comes w && mine c && !s.takesNone && s.host.waiting == [] && s.slotIn c.vat c.slot && (s.rslot c.slot).state == 0
    && (t.vatRunning c.vat || whileStopped c.code) && (checks t c).all fun p => !p.1

/-- The hypotheses of one that is refused by its checks. -/
def refused (s : State) (w : FrameWrite) (mine : Cmd → Bool) (checks : State → Cmd → List (Bool × Nat)) : Bool :=
  let c := s.cmdOf w
  let t := s.takenAt w
  s.power.clocks && s.comes w && mine c && !s.takesNone && s.host.waiting == [] && s.slotIn c.vat c.slot && (s.rslot c.slot).state == 0
    && (t.vatRunning c.vat || whileStopped c.code) && (checks t c).any fun p => p.1

/-- LaunchAperture: RUN, LOAD of one word and RESTORE on core 0 with a bound of 1,000; a launch with no core is refused, one in a
stopped vat too, and one whose slot is not the vat's is dropped. -/
theorem wit_LaunchAperture :
    let run : FrameWrite := command [w0 1, 0, 1, 0, 0, 0, 1000, 0]
    let load : FrameWrite := command [w0 1, 2 ^ 30, 1, 0, 0, 0, 1000, 0, 0, 0, 0, 0, 0, 0, 0, 0, 0, 0, 0, 2 ^ 16, 0]
    let restore : FrameWrite := command [w0 1, 2 ^ 31, 1, 0, 0, 0, 1000, 0]
    let stopped : State := { hosted with vol := [] }
    let launched : State := { hosted with launches := [{ aLaunch with slot := 5 }] }
    taken hosted run (fun c => c.code == 1 && (c.kind == 0 || c.kind == 3)) (fun s c => s.launchChecks c) = true
    ∧ taken hosted load (fun c => c.code == 1 && c.kind == 1) (fun s c => s.launchChecks c) = true
    ∧ taken hosted restore (fun c => c.code == 1 && c.kind == 2) (fun s c => s.launchChecks c) = true
    ∧ refused hosted (command [w0 1, 0, 0, 0, 0, 0, 1000, 0]) (fun c => c.code == 1 && (c.kind == 0 || c.kind == 3))
        (fun s c => s.launchChecks c) = true
    ∧ (stopped.comes run = true ∧ (stopped.takenAt run).vatRunning 0 = false ∧ whileStopped (stopped.cmdOf run).code = false)
    ∧ hosted.slotIn 0 (hosted.cmdOf (command [2 ^ 24 + 16 * 2 ^ 12])).slot = false
    ∧ taken launched (command [w0 2, 5]) (fun c => c.code == 2) (fun s c =>
        [(!s.slotIn c.vat (c.field 1 11 0), 2), ((s.launchAt (c.field 1 11 0)).all fun l => !l.started || l.vat != c.vat, 6)]) = true
    ∧ taken hosted (command [w0 4, 7, 0]) (fun c => c.code == 4) (fun _ _ => []) = true := by decide +kernel

/-- CANCEL of a waiting launch, and of a slot that holds none. -/
theorem wit_cancel :
    let checks : State → Cmd → List (Bool × Nat) := fun s c =>
      [(!s.slotIn c.vat (c.field 1 11 0), 2),
        ((s.launches.find? fun l => l.slot == c.field 1 11 0 && l.vat == c.vat && !l.started).isNone
          && (s.joins.find? fun j => j.slot == c.field 1 11 0 && j.vat == c.vat).isNone, 6)]
    taken { hosted with launches := [{ aLaunch with slot := 5, started := false }] } (command [w0 3, 5]) (fun c => c.code == 3) checks = true
    ∧ refused hosted (command [w0 3, 5]) (fun c => c.code == 3) checks = true := by decide +kernel

/-- BatchCommands: a JOIN of slot 2 with layout 0, a LEAVE of the resident slot 1, a GROWTH of none. -/
theorem wit_BatchCommands :
    taken hosted (command [w0 5, 2, 0, 0, 0, 0, 0, 0, 0]) (fun c => c.code == 5) (fun s c => s.joinChecks (s.newJoin c) c.batch) = true
    ∧ refused hosted (command [w0 5, 9, 0, 0, 0, 0, 0, 0, 0]) (fun c => c.code == 5) (fun s c => s.joinChecks (s.newJoin c) c.batch) = true
    ∧ taken hosted (command [w0 6, 1, 0, 0]) (fun c => c.code == 6)
        (fun s c => [(!s.batchIn c.vat c.batch.val, 2), (s.seqs[c.batch].state == 0 && (s.joins.find? fun j =>
          j.batch == c.batch.val && j.vat == c.vat).isNone, 6)]) = true
    ∧ taken hosted (command [w0 7, 0, 1, 0]) (fun c => c.code == 7)
        (fun s c => [((List.range 64).any fun b => !s.batchIn c.vat b && c.growth b != 0, 2),
          (decide (c.pair 2 ≤ s.work[c.vat].begun ∧ 0 < s.work[c.vat].begun), 6)]) = true := by decide +kernel

/-- The same with pipe 0 open. -/
def opened : State := { hosted with pipes := hosted.pipes.set 0 { Pipe.reset with state := 1 } }

/-- TableCommands: SWAPAREA and RENNET, a layout good and bad. -/
theorem wit_TableCommands :
    taken hosted (command [w0 9, 0, 0, 1]) (fun c => c.code == 9)
        (fun s c => [(s.seqs.toList.any fun q => q.vat == c.vat && (q.state == 2 || q.state == 3 || q.state == 4), 6)]) = true
    ∧ taken hosted (command [w0 11, 9, 4, 0]) (fun c => c.code == 11) (fun s c =>
        [(!s.rennetIn c.vat (c.field 1 15 0), 2), ((s.rennet (c.field 1 15 0)).count != 0 || s.waitQ.any (fun q => q.1 == c.field 1 15 0)
          || s.retries.any (fun q => q.rennet == c.field 1 15 0)
          || s.peers.any (fun p => p.early.any fun g => g.2.rennet.val == c.field 1 15 0), 16)]) = true
    ∧ ((hosted.cmdOf (command [w0 8, 3, 2 ^ 24 + 2 ^ 16 + 0x1 * 2 ^ 10 + 0x1 * 2 ^ 6, 0])).code = 8
      ∧ (PageLayout.ofNat (2 ^ 24 + 2 ^ 16 + 0x1 * 2 ^ 10 + 0x1 * 2 ^ 6)).bad = false ∧ (PageLayout.ofNat 0).bad = true) := by
  decide +kernel

theorem no_end_stores {s : State} (h : s.pipes = Vector.replicate 1024 Pipe.reset) (n : Fin 1024) (d : Nat) : s.endStores n d = 0 := by
  unfold State.endStores
  rw [List.map_congr_left (g := fun _ => 0)]
  · generalize List.finRange 1024 = l
    induction l with
    | nil => rfl
    | cons a l ih => simpa [sumNat] using ih
  · intro i _
    simp [h, Pipe.reset]

theorem pipes_takenAt (s : State) (w : FrameWrite) : (s.takenAt w).pipes = s.pipes := by
  have h : (s.frameBody w).pipes = s.pipes := by unfold State.frameBody; split <;> rfl
  have k (s : State) (v : VatNo) (key code path sub : Nat) : (s.countFor v key code path sub).pipes = s.pipes :=
    (s.reported_countFor v key code path sub).pipes
  simp only [State.takenAt, State.slotPending, State.setRslot, State.countVat, k, State.cleared, State.frameClear, State.frameStore, State.written]
  exact h

/-- TableCommands: a pipe opened. -/
theorem wit_pipe_open :
    let w := command [w0 10, 1, 0, 0, 0, 0, 0, 0, 0]
    taken hosted w (fun c => c.code == 10 && (c.field 1 11 10 == 0 || c.field 1 11 10 == 3)) (fun _ _ => []) = true
    ∧ (((hosted.cmdOf w).field 1 11 10 == 3, 1) :: (hosted.takenAt w).pipeChecks (hosted.cmdOf w) (hosted.cmdOf w).newPipe
        ((hosted.takenAt w).pipes[(hosted.cmdOf w).pipe].state != 0)).all (fun p => !p.1) = true := by
  refine ⟨by decide +kernel, ?_⟩
  have h : (hosted.takenAt (command [w0 10, 1, 0, 0, 0, 0, 0, 0, 0])).pipes = Vector.replicate 1024 Pipe.reset := by
    rw [pipes_takenAt]; rfl
  simp only [State.pipeChecks, State.pipeBad, no_end_stores h]
  decide +kernel

/-- TableCommands: a pipe closed and configured. -/
theorem wit_pipe_close :
    taken opened (command [w0 10, 2 ^ 10, 0]) (fun c => c.code == 10 && c.field 1 11 10 == 1)
        (fun s c => [(s.pipes[c.pipe].state != 0 && s.pipes[c.pipe].vat != c.vat, 2),
          (s.pipes[c.pipe].state == 0 || s.pipes[c.pipe].state == 2 || s.pipes[c.pipe].slotDone.isSome, 6)]) = true := by
  decide +kernel

/-- CommandFrames: a write of bytes 4 to 7, and a reserved code. -/
theorem wit_CommandFrames :
    (hosted.power.clocks = true ∧ hosted.frameOk { command [0] with off := 4 } = true ∧ hosted.ideOk 0 false = true
      ∧ frameCovers { command [0] with off := 4 } = false ∧ (hosted.funcs[(0 : FnNo)]).frames = [])
    ∧ refused hosted (command [w0 13]) (fun c => decide (c.code = 0 ∨ 12 < c.code)) (fun _ _ => [(true, 1)]) = true
    ∧ ((hosted.cmdOf (command [w0 13])).code = 13 ∧ hosted.comes (command [w0 13]) = true ∧ (13 : Nat) < 256) := by decide +kernel

/-! ### Witnesses: launches, units, memory -/

/-- A launch of logical core 0 that waits in slot 0, with the configuration that binds it. -/
def waitingLaunch : Launch := { aLaunch with started := false, cores := [⟨0, none, .waiting, 0, false⟩] }
/-- The package with it. -/
def launching : State := { hosted with launches := [waitingLaunch] }

theorem wit_RunStarts :
    launching.power.clocks = true ∧ launching.launchAt 0 = some waitingLaunch ∧ launching.mayStart waitingLaunch = true
    ∧ waitingLaunch.kind = 0 ∧ waitingLaunch.preEn = 0#4 ∧ waitingLaunch.tag = 0#32 ∧ waitingLaunch.reason = 0
    ∧ launching.physOf 0 = some 0 := by decide +kernel

/-- Core 0 doing one thing of the launch. -/
def doing (r : CoreRun) (e : CoreEnd) : State :=
  { hosted with
    cores := hosted.cores.set 0 { aCore with run := r }
    launches := [{ aLaunch with cores := [⟨0, some 0, e, 0, false⟩] }] }

/-- LaunchProgress: a launch before its stamp, eligible, and short of a token; cores loading, restoring and saving; one within its
launch; a seed whose key is being formed. -/
theorem wit_LaunchProgress :
    (launching.launchAt 0 = some waitingLaunch ∧ launching.mayStart { waitingLaunch with stamp := 9 } = false)
    ∧ (launching.mayStart waitingLaunch = true ∧ (launching.serveFor waitingLaunch).preHold waitingLaunch = true)
    ∧ (launching.serveFor waitingLaunch).preHold
        { waitingLaunch with preEn := 1#4, rennets := waitingLaunch.rennets.set 0 9, thresholds := waitingLaunch.thresholds.set 0 1 }
        = false
    ∧ (doing .loading .running).coresDoing { aLaunch with cores := [⟨0, some 0, .running, 0, false⟩] } .loading = [0]
    ∧ (doing .restoring .running).coresDoing { aLaunch with cores := [⟨0, some 0, .running, 0, false⟩] } .restoring = [0]
    ∧ ((doing .saving .saving).coresDoing { aLaunch with cores := [⟨0, some 0, .saving, 0, false⟩] } .saving = [0]
      ∧ (doing .saving .saving).quiet 0 = true)
    ∧ (doing .running .running).cores[(0 : CoreId)].launch.bind (doing .running .running).launchAt = some aLaunch
    ∧ (({ hosted with seeds := hosted.seeds.set 0 ⟨0#64, [⟨0, 3, 7#64⟩], false⟩ } : State).seeds[(0 : VatNo)]).pend = [⟨0, 3, 7#64⟩] := by
  decide +kernel

/-- UnitCommands: every operation on the first array, and on a path that names no unit. -/
theorem wit_UnitCommands :
    (∀ op ∈ [1, 2, 3, 4, 5, 6], taken hosted (command [w0 12, op * 2 ^ 16, 1, 0, 0]) (fun c => c.code == 12 && c.field 1 23 16 == op)
      (fun _ c => [(c.fn != 0, 10)]) = true)
    ∧ unitOfPath 0 = some 0 ∧ unitOfPath 0x7000 = none := by decide +kernel

/-- HoldArray: a hold of array 0, READY at version 0, due by beat 1. -/
theorem wit_HoldArray :
    let s : State := { hosted with vol := [(ek 0x2029 1, 1), (ek 0xB010 1, 1)] }
    let w := command [w0 12, 2 ^ 16, 1, 0, 0]
    let c := s.cmdOf w
    s.power.clocks = true ∧ s.comes w = true ∧ c.code = 12 ∧ c.field 1 23 16 = 1 ∧ c.fn = 0 ∧ unitOfPath (c.field 1 15 0) = some 0
    ∧ s.ust 0 = stReady ∧ BitVec.ofNat 16 (c.field 4 15 0) = s.units[(0 : UnitNo)].mg.version ∧ 0 < c.pair 2 ∧ c.pair 2 ≤ s.beat
    ∧ s.slotIn c.vat c.slot = true ∧ (s.rslot c.slot).state = 0 := by decide +kernel

/-- One unit in a state. -/
def unitIn (u : UnitNo) (x : Fin 9) : State :=
  { hosted with units := hosted.units.set u { UnitRec.reset with mg := ⟨x, 0#8, 0#16⟩, dp := ⟨x, 0#8, 0#16⟩ } }

/-- UnitLife: an array draining at its boundary, and units loading; a loading die (276) has no array and no core. -/
theorem wit_UnitLife :
    ((unitIn 0 stDraining).ust 0 = stDraining ∧ (unitIn 0 stDraining).atBoundary 0 = true
      ∧ (unitIn 0 stDraining).cfgAt (ek (unitObj 0 1) 7) ≤ (unitIn 0 stDraining).cfgAt (ek (unitObj 0 1) 7))
    ∧ hosted.ust 0 ≠ stDraining ∧ hosted.ust 0 ≠ stLoading
    ∧ ((unitIn 276 stLoading).ust 276 = stLoading ∧ 260 ≤ (276 : UnitNo).val ∧ (unitIn 276 stLoading).units[(276 : UnitNo)].doomed = false) := by
  decide +kernel

/-- UnitFaults: a core that runs and one that does not; a core that is absent and one that is not; dies, hub and package present. -/
theorem wit_UnitFaults :
    (runs aCore).cores[(0 : CoreId)].run = .running ∧ (runs aCore).cores[(1 : CoreId)].run ≠ .running
    ∧ live.ust (coreUnit 0) = stAbsent ∧ hosted.ust (coreUnit 0) ≠ stAbsent
    ∧ hosted.ust (dieUnit 3) ≠ stAbsent ∧ hosted.ust uHub ≠ stAbsent ∧ hosted.ust uPackage ≠ stAbsent := by decide +kernel

/-- MemoryErrors: the sixteenth and the seventeenth flit of a link, its die READY; a window that passes its limit and one that does
not. -/
theorem wit_MemoryErrors :
    Sparse.get 0 hosted.linkBeat 0 ≠ 16 ∧ Sparse.get 0 ({ hosted with linkBeat := [(0, 16)] } : State).linkBeat 0 = 16
    ∧ hosted.ust (dieUnit 0) = stReady
    ∧ hosted.correctedSum 0 - (hosted.units[(0 : UnitNo)].corrWindow.head?).getD 0 ≤ hosted.cfgAt (ek 0x2060 1)
    ∧ (let s : State := { hosted with vol := [(ek 0x2029 1, 1), (ek (unitObj 0 7) 1, 2 ^ 40)] }
       s.cfgAt (ek 0x2060 1) < s.correctedSum 0 - (s.units[(0 : UnitNo)].corrWindow.head?).getD 0) := by decide +kernel

/-- PagesAndSwaps: page work due with and without an earlier launch, ended; pipes that close; swaps out and in, of no frame. -/
theorem wit_PagesAndSwaps :
    (let s : State := { hosted with work := hosted.work.set 0 { (hosted.work[(0 : VatNo)]) with due := [1] } }
     s.work[(0 : VatNo)].due = [1] ∧ s.work[(0 : VatNo)].now = none ∧ s.earlierLaunch 0 1 = false
       ∧ ({ s with launches := [aLaunch] } : State).earlierLaunch 0 1 = true)
    ∧ (let s : State := { hosted with work := hosted.work.set 0 { (hosted.work[(0 : VatNo)]) with now := some 1, demanded := true } }
       s.work[(0 : VatNo)].now = some 1 ∧ s.work[(0 : VatNo)].demanded = true ∧ s.work[(0 : VatNo)].waitFor = [])
    ∧ hosted.pipeDone 0 = false
    ∧ ({ hosted with pipes := hosted.pipes.set 0 { Pipe.reset with state := 2 } } : State).pipeDone 0 = true
    ∧ hosted.hostHeld 0 = false
    ∧ (({ hosted with seqs := hosted.seqs.set 0 { (hosted.seqs[(0 : Fin 64)]) with state := 2 } } : State).seqs[(0 : Fin 64)]).state = 2
    ∧ ([] : List Byte).length = 65536 * (hosted.seqs[(0 : Fin 64)]).hostFrames.length := by decide +kernel

/-- StorageSteps: granules of die 1 waiting to be cleared; scrubbing on and off; a move of two granules; a relocation under way; a
stack in service and one that failed. -/
theorem wit_StorageSteps :
    ({ live with uncleared := [(2 ^ 25 + 3, 2 ^ 25 + 5)] } : State).lowestUncleared 1 = some (1 * 2 ^ 25 + 3)
    ∧ live.cfgAt (ek 0xD040 4) = 0 ∧ live.clearing 0 = false ∧ live.reloc[(0 : Fin 4)] = none
    ∧ (live.hbm.marks.all fun p => p.1 / 2 ^ 33 != 0) = true
    ∧ ({ live with cfg := [(ek 0xD040 4, 1)] } : State).cfgAt (ek 0xD040 4) ≠ 0
    ∧ ((⟨0, 2, 4096, 4096, 2, 0, []⟩ : ShadowMove).copied + 1 < (⟨0, 2, 4096, 4096, 2, 0, []⟩ : ShadowMove).granules) ∧ live.shadowMove = none
    ∧ ((⟨0, false, true, 0, [], 0⟩ : Reloc).next + 1 < setRows)
    ∧ live.volAt (ek 0xD050 1) ≠ 2 ∧ ({ live with vol := [(ek 0xD050 1, 2)] } : State).volAt (ek 0xD050 1) = 2 := by decide +kernel

/-! ### Witnesses: time base and host port -/

/-- The same package with entries and volatile entries added in front of the shared ones. -/
def at_ (cfg vol : Sparse Nat) : State := { live with units := readyUnits, host := placed, cfg := cfg, vol := vol }

/-- A symbol of beat 1 with its check word. -/
def aSymbol : BitVec 192 :=
  let y : BitVec 192 := BitVec.ofNat 192 (0xC3A5 * 2 ^ 176 + 2 ^ 112)
  y ||| (symbolCrc y).zeroExtend 192

/-- A member and a master. -/
def member : State := at_ [(ek 0xB000 1, 1)] []
/-- The master of its segment, stretching its symbols. -/
def master : State := at_ [(ek 0xB000 1, 2)] []

theorem wit_CroakBus_symbols :
    (member.croakRuns = true ∧ member.croakMode ≠ 0 ∧ member.croakMode ≠ 4 ∧ symField aSymbol 176 16 = 0xC3A5 ∧ member.isMaster = false)
    ∧ (symField aSymbol 0 16 == (symbolCrc aSymbol).toNat) = true
    ∧ (symField (aSymbol ^^^ 1#192) 0 16 == (symbolCrc (aSymbol ^^^ 1#192)).toNat) = false
    ∧ (master.isMaster = true ∧ master.croakRuns = true ∧ master.croak.yields = false ∧ master.croak.symbol = none
      ∧ master.croak.waiting = none ∧ master.nextBeat.2.1 ≤ 10000000 + 3920 ∧ master.ownReady = true) := by decide +kernel

theorem wit_CroakBus_times :
    (let s : State := { master with croak := { master.croak with waiting := some 5 } }
     s.croak.waiting = some 5 ∧ s.isMaster = true ∧ s.croakRuns = true ∧ s.ownReady = true
       ∧ 5 + 1000 * s.cfgAt (ek 0xB000 7) ≤ 5 + 1000 * s.cfgAt (ek 0xB000 7))
    ∧ (let s : State := { member with croak := { member.croak with begun := true } }
       s.croakMode = 1 ∧ s.croakRuns = true ∧ s.croak.begun = true ∧ s.croak.stopSeen = false ∧ s.croak.symbol = none
         ∧ s.beatInstant + s.periodNs + max 10000 (s.periodNs / 64) + s.croak.missed * s.periodNs ≤ 3 * s.periodNs)
    ∧ (at_ [(ek 0xC000 4, 7)] []).cfgAt (ek 0xC000 4) < 8 ∧ (at_ [(ek 0xB000 1, 3)] []).croakMode = 3
    ∧ member.isMaster = false ∧ master.holdStanding.contains 0 = false ∧ master.lostMembers.contains 0 = false := by decide +kernel

/-- Beats: a symbol for the next beat, one that skips a beat, an old one, before and at its instant. -/
theorem wit_Beats :
    let s : State := { member with croak := { member.croak with symbol := some (aSymbol, 9) } }
    s.ust uPackage ≠ stAbsent ∧ s.croak.symbol = some (aSymbol, 9) ∧ s.croak.fresh = false
    ∧ (Symbol.of aSymbol).beat = s.beat + 1
    ∧ (Symbol.of (aSymbol + BitVec.ofNat 192 (2 ^ 112))).beat = s.beat + 2 ∧ (Symbol.of aSymbol).jump = false
    ∧ (Symbol.of (aSymbol ||| 0x80000000#192)).jump = true
    ∧ (Symbol.of (aSymbol - BitVec.ofNat 192 (2 ^ 112))).beat ≤ s.beat ∧ s.croak.missed < 2 - s.beat - 1 + 1 := by decide +kernel

/-- SlotRelease: a final slot with its generation, one that is PENDING, and the last slot of the table. -/
theorem wit_SlotRelease :
    let s : State := { live with results := [(3, ⟨RSlot.reset.w.set 1 0x20000000#32⟩), (4, ⟨RSlot.reset.w.set 1 0x10000000#32⟩)] }
    s.fnExists 0 = true ∧ s.ideOk 0 false = true ∧ s.slotSeen 0 3 = true ∧ s.slotSeen 0 4095 = true
    ∧ 2 ≤ (s.rslot 3).state ∧ (s.rslot 3).w[0] = 0#32 ∧ 1#32 ≠ (s.rslot 3).w[0] ∧ (s.rslot 4).state < 2
    ∧ Sparse.wf RSlot.reset s.results = true := by decide +kernel

/-- A vat enabled with a GiB, BAR4 of 2^39 bytes, the stacks in service. -/
def windowed : State := at_ [(ek 0x2020 1, 1), (ek 0xD010 1, 2 ^ 96 + 2 ^ 14 * 2 ^ 64)] [(ek 0x1100 3, 2), (ek 0x1100 5, 39)]

theorem wit_HostAccess :
    (windowed.ideOk 0 false = true ∧ windowed.inBar4 0 0 4 = true ∧ windowed.bar4Refusal 0 0 4 = none
      ∧ ((windowed.readHbm 0 4 5).1.any fun p => p.2) = false)
    ∧ (windowed.inBar4 0 (2 ^ 30) 4 = true ∧ windowed.bar4Refusal 0 (2 ^ 30) 4 = some 0x0D03)
    ∧ ((({ windowed with hbm := (Mem.empty).poison [0] } : State).readHbm 0 4 5).1.any fun p => p.2) = true
    ∧ ((at_ [(ek 0x1100 6, 1)] []).ideOk 0 false = false ∧ (at_ [(ek 0x1100 6, 1)] []).fnExists 0 = true)
    ∧ (windowed.funcs[(0 : FnNo)]).busy = false ∧ (127 : Nat) < vectorsOf 0 ∧ ¬(120 : Nat) < vectorsOf 1 := by decide +kernel

/-- Virtual functions in being, the first with a secure stream. -/
def virtual_ : State :=
  { windowed with
    host := { windowed.host with vfEnable := true }, vol := [(ek 0x1100 3, 2), (ek 0x1100 4, 16)]
    funcs := windowed.funcs.set 1 { Func.reset with secure := true } }

theorem wit_HostLinkAndResets :
    windowed.portPowered = true ∧ windowed.linkEnough 128 16 = true ∧ windowed.linkEnough 0 0 = false
    ∧ windowed.volAt (ek 0x1100 3) ≠ 0 ∧ live.volAt (ek 0x1100 3) = 0
    ∧ virtual_.fnExists 1 = true ∧ virtual_.fnExists 16 = true ∧ windowed.fnExists 1 = false
    ∧ (virtual_.funcs[(1 : FnNo)]).secure = true ∧ (virtual_.funcs[(2 : FnNo)]).secure = false := by decide +kernel

/-! ### Witnesses: fabric, twin, codec -/

/-- Ports 0 and 1 up and down, binding 0 bound, the twin link up with package 9 at its other end, pipe 0 mapped to it. -/
def wired : State :=
  { at_ [(ek 0xC010 1, 9), (ek 0xC200 1, 2 ^ 31 + 2 ^ 30)] [(ek 0xC008 5, 2), (ek 0xC010 3, 2)] with
    bindings := [(0, { Binding.unbound with state := 1, ackDue := true, early := [aSegment], sent := [⟨1#32, 0, [], [], none, 0⟩] })]
    peers := [⟨.twin, 5#32, [⟨4#32, 9, 1, 0, false, true⟩], 0#32, [], [], false, 1024, 1023, []⟩] }

/-- A data segment of no bytes for binding 0, sequence 1. -/
def aData : Segment := ⟨[0x10000000#32, 0#32, 0#32, 0#32, 1#32, 0#32, 0#32, 0#32], [], none⟩

theorem wit_Fabric :
    wired.volAt (ek 0xC008 5) = 2 ∧ segType aData = 0 ∧ wired.macsecOk 0 aData.sa = true
    ∧ (segWellFormed aData && wired.bindingTakes (segBinding aData)) = true
    ∧ (segWellFormed aSegment && wired.bindingTakes (segBinding aSegment)) = false
    ∧ ((at_ [(ek 0xC008 4, 1)] [(ek 0xC008 5, 2)]).macsecOk 0 aData.sa = false)
    ∧ (segSeq aData - (wired.binding 0).last).toNat = 1
    ∧ (let d (q : Word) := (segSeq { aData with header := [0x10000000#32, 0#32, 0#32, 0#32, q, 0#32, 0#32, 0#32] } - (wired.binding 0).last).toNat
       d 0#32 = 0 ∧ 2 ^ 31 ≤ d 0xFFFFFFFF#32 ∧ d 1024#32 ≤ 1024 ∧ 1 < d 2#32 ∧ 1024 < d 1025#32 ∧ d 1025#32 < 2 ^ 31) := by
  decide +kernel

/-- FabricTimers: nothing is to be told while no pipe is open. -/
theorem wit_nothing_to_tell (s : State) (h : s.pipes = Vector.replicate 1024 Pipe.reset) (twin : Bool) (b : Nat) :
    s.toTell twin b = [] := by
  simp [State.toTell, State.inbound, h, Pipe.reset]

theorem wit_FabricTimers :
    wired.bindingTakes 0 = true ∧ wired.bindingTakes 4095 = false ∧ (wired.binding 0).early ≠ [] ∧ (wired.binding 0).sent ≠ []
    ∧ (wired.binding 0).ackDue = true
    ∧ wired.volAt (ek (0xC008 + 1) 5) = 0 ∧ (at_ [] [(ek 0xC008 5, 1)]).volAt (ek 0xC008 5) = 1
    ∧ (wired.ust (portUnit 0) ≠ stAbsent ∧ wired.ust (portUnit 0) ≠ stCold ∧ wired.ust (portUnit 0) ≠ stLoading) := by decide +kernel

/-- FabricTimers: a solicitation for the management port's own address, and for the null address. -/
theorem wit_solicitation :
    wired.portCarries none = true ∧ linkLocal 1 ≠ zeros 16 ∧ (linkLocal 1 :: ([] : List (List Byte))).contains (linkLocal 1) = true
    ∧ (at_ [(ek 0x1010 6, 1)] []).cfgAt (ek 0x1010 6) = 1 ∧ (zeros 16 != zeros 16) = false := by decide +kernel

theorem wit_PipesAndSignals :
    (wired.retries.all fun r => r.src != .pipe 0) = true ∧ wired.pipes[(0 : Fin 1024)].state ≠ 1 ∧ wired.pipes[(0 : Fin 1024)].state ≠ 2
    ∧ (({ wired with pipes := wired.pipes.set 0 { Pipe.reset with state := 1 } } : State).pipes[(0 : Fin 1024)]).state = 1
    ∧ (wired.peer .twin = some ⟨.twin, 5#32, [⟨4#32, 9, 1, 0, false, true⟩], 0#32, [], [], false, 1024, 1023, []⟩
      ∧ [(⟨4#32, 9, 1, 0, false, true⟩ : SentSignal)].find? (fun g => g.seq == 4#32 && g.full) = some ⟨4#32, 9, 1, 0, false, true⟩)
    ∧ wired.volAt (ek 0xC010 3) = 2 := by decide +kernel

theorem wit_Twin :
    wired.volAt (ek 0xC010 3) = 2 ∧ (at_ [] []).volAt (ek 0xC010 3) < 2
    ∧ ({ wired with twin := { wired.twin with probing := true } } : State).twin.probing = true ∧ wired.twin.probing = false
    ∧ ((({ wired with out := [⟨.twin, 0, [], []⟩] } : State).out.filter fun m => m.dest == .twin).reverse)[0]? = some ⟨.twin, 0, [], []⟩
    ∧ wired.ust (hubUnit 9) = stReady ∧ wired.cfgAt (ek 0xC010 1) ≠ 0 ∧ wired.volAt (ek 0xC010 3) ≠ 3
    ∧ mapTwin (wired.pipeMap 0) = true
    ∧ wired.beatsAbsent = true ∧ (at_ [] [(ek 0xB010 5, 0)]).beatsAbsent = false
    ∧ (wired.ust uPair ≠ stCold ∧ wired.ust uPair ≠ stLoading)
    ∧ ({ wired with units := wired.units.set uPair { UnitRec.reset with mg := ⟨stLoading, 0#8, 0#16⟩ } } : State).ust uPair = stLoading := by
  decide +kernel

/-- A shadow record of epoch 1: kind, offset and data. -/
def shadow (kind off : Nat) (data : List Byte) : ShadowRecord :=
  ⟨0, [0x4B534844#32, 1#32, BitVec.ofNat 32 kind, BitVec.ofNat 32 data.length, BitVec.ofNat 32 off, 0#32] ++ List.replicate 10 0#32, data⟩

theorem wit_ShadowAndExport :
    let i : State := { wired with cfg := [(ek 0xD000 3, 1)] }
    let s : State := i.owe 0 128
    i.volAt (ek 0xC010 3) = 2 ∧ wholeRecord (shadow 0 0 (zeros 64)) = true ∧ wholeRecord (shadow 1 0 []) = true
    ∧ wholeRecord (shadow 0 0 (zeros 63)) = false ∧ wholeRecord (shadow 1 0 (zeros 64)) = false
    ∧ 64 + (shadow 0 0 (zeros 64)).data.length = 128 ∧ shadowWord (shadow 0 0 (zeros 64)) 0 = 0x4B534844
    ∧ s.epochOk (shadow 0 0 (zeros 64)) = true ∧ shadowKind (shadow 0 0 (zeros 64)) = 0 ∧ shadowKind (shadow 1 0 []) = 1
    ∧ shadowKind (shadow 2 0 []) = 2
    ∧ (wholeRecord ⟨0, List.replicate 16 0#32, []⟩ = true ∧ shadowWord ⟨0, List.replicate 16 0#32, []⟩ 0 ≠ 0x4B534844)
    ∧ ({ s with twin := { s.twin with refused := [1] } } : State).epochOk (shadow 0 0 (zeros 64)) = false
    ∧ s.shadowSize / 2 < shadowOffset (shadow 0 (s.shadowSize / 2) (zeros 64)) + 64
    ∧ shadowOffset (shadow 0 (s.shadowSize / 2 - 64) (zeros 64)) + 64 ≤ s.shadowSize / 2
    ∧ shadowOffset (shadow 1 (s.shadowSize / 2) []) ≤ s.shadowSize / 2 ∧ s.shadowSize / 2 < shadowOffset (shadow 1 (s.shadowSize / 2 + 1) [])
    ∧ s.exporting = none ∧ (⟨8, 4⟩ : Transfer).done < (⟨8, 4⟩ : Transfer).size ∧ (⟨8, 8⟩ : Transfer).size ≤ (⟨8, 8⟩ : Transfer).done := by
  decide +kernel

/-- Slice 0 in a running vat with contexts 0 to 3; context 0 open on its encoder, 1 on its decoder. -/
def coding : State :=
  { at_ [(ek 0x2028 1, 2 ^ 12), (ek 0xE001 1, 4)] [(ek 0x2029 1, 1)] with
    contexts := [(0, { CodecCtx.closed with state := 1, enc := true }), (1, { CodecCtx.closed with state := 1 })] }

/-- A record of a kind in a context, frame 1. -/
def aRecord (kind ctx : Nat) : FrameRecord :=
  ⟨[BitVec.ofNat 32 (0x4B56 * 2 ^ 16 + ctx * 2 ^ 8 + kind * 2 ^ 5), 1#32] ++ List.replicate 14 0#32, [], false, none⟩

theorem wit_Codec :
    (recKind (aRecord 0 0) = 0 ∧ recKind (aRecord 1 1) = 1 ∧ recKind (aRecord 2 0) = 2)
    ∧ ((coding.codecs[engineNo 0 true]).work = none ∧ (coding.codecs[engineNo 0 true]).queue = [] ∧ coding.sliceTakes 0 = true
      ∧ (coding.ctx 0).state ≠ 2)
    ∧ coding.recordRefused 0 true (aRecord 0 0) = none ∧ coding.recordRefused 0 false (aRecord 1 1) = none
    ∧ coding.recordRefused 0 true (aRecord 2 0) = none ∧ coding.recordRefused 0 true (aRecord 0 9) = some 2
    ∧ (coding.retries.all fun r => r.src != .codec (engineNo 0 true)) = true
    ∧ (let w : CodecWork := ⟨0, aRecord 0 0, 0, false, [], false⟩
       blockRows (coding.ctx w.ctx).words ≤ w.rows ∧ w.finished = false ∧ w.waits = false)
    ∧ 0 < blockRows (List.replicate 16 0xFFFFFFFF#32) := by decide +kernel

/-! ### Witnesses: protocol, security, power -/

/-- Session 7 of the installer, open with a key of 64 zero bytes, its last sequence 4 answered; 8 is a half. -/
def aSession : Session :=
  { Session.zero with id := 7, role := .installer, half := false, key := List.replicate 64 0#8, last := 4#32, reply := some ⟨.kop, 0, [], []⟩ }
/-- The package that holds them. -/
def talking : State := { at_ [] [] with sessions := [Session.zero, aSession, { aSession with id := 8, half := true }] }
/-- A message of a type in session 0 and in session 7. -/
def message (typ : Nat) : KopMsg := { aKop with typ := BitVec.ofNat 8 typ }

/-- Every row of the protocol has a message, and a message of session 0 is served: HELLO where session 0 accepts it, STATUS where it
does not. -/
theorem wit_KopRows :
    rowOf (message 1) = .read ∧ rowOf (message 2) = .write ∧ rowOf (message 3) = .commit ∧ rowOf (message 4) = .ret
    ∧ rowOf (message 5) = .discard ∧ rowOf (message 6) = .status ∧ rowOf (message 0x10) = .hello ∧ rowOf (message 0x11) = .proof
    ∧ rowOf (message 0x12) = .close ∧ rowOf (message 6) ≠ .read := by decide +kernel

/-- A message of a type in session 0 that the request buffer of the physical function spells. -/
def spelled (typ : Nat) : KopMsg := msgOf .pf false (kopHeader 0x4B4F typ 0 0 1 0 0 false 0 0)
/-- The package with that message in its request buffer. -/
def submitted (typ : Nat) : State :=
  talking.updFunc 0 fun g => { g with
    busy := true, reqLen := 32, req := (kopHeader 0x4B4F typ 0 0 1 0 0 false 0 0).zipIdx.foldl (fun m p => Sparse.set 0#8 m p.2 p.1) g.req }

theorem wit_KopServed :
    (match (submitted 0x10).kopFront (spelled 0x10) with | .serve x => x.id == 0 && zeroAccepts (spelled 0x10) | .done _ => false) = true
    ∧ (match talking.kopFront (message 0x10) with | .serve _ => false | .done _ => true) = true
    ∧ (match (submitted 5).kopFront (spelled 5) with | .serve x => x.id == 0 && !zeroAccepts (spelled 5) | .done _ => false) = true
    ∧ (match talking.kopFront { message 1 with magic := 0#32 } with | .serve _ => false | .done _ => true) = true := by decide +kernel

/-- KopChecks, the branches before a digest: the endpoint READY; an unknown session, a half, an old, the last and a newer sequence. -/
theorem wit_KopChecks :
    talking.ust (hubUnit 11) = stReady ∧ rowOf (message 6) = .status ∧ (message 6).via = .port ∧ aKop.magic = 0x4B4F#32 ∧ 0#32 ≠ 0x4B4F#32
    ∧ talking.session 9 = none ∧ talking.session 7 = some aSession ∧ aSession.half = false ∧ aSession.id ≠ 0
    ∧ ((talking.session 8).map fun x => x.half) = some true
    ∧ seqNewer 4#32 aSession.last = false ∧ seqNewer 3#32 aSession.last = false ∧ (3#32 : Word) ≠ aSession.last ∧ seqNewer 5#32 aSession.last = true := by
  decide +kernel

/-- KopChecks: an authenticator that is right; whatever the key, its message exists. -/
theorem wit_KopChecks_auth (k : List Byte) (m : KopMsg) :
    ({ m with auth := authOf k (msgBytes m) } : KopMsg).auth = authOf k (msgBytes { m with auth := authOf k (msgBytes m) }) := by
  generalize hb : msgBytes m = b
  have e : msgBytes { m with auth := authOf k b } = b := by rw [← hb]; simp only [msgBytes]
  rw [e]

theorem wit_SecurityTimers :
    talking.session 9 = none ∧ (talking.session 7).isSome = true ∧ (talking.session 8).isSome = true
    ∧ talking.slotState 1 ≠ 2 ∧ (at_ [] [(ek 0xA050 1, 2)]).slotState 1 = 2
    ∧ (((at_ [] [(ek 0xA050 1, 2)]).imageChecks 1 []).find? fun c => !c.2).isSome = true
    ∧ talking.unlocking = none ∧ ({ talking with unlocking := some 7 } : State).unlocking = some 7 := by decide +kernel

/-- PowerAndHeat: a sample at the hub's limit less one unit, at the limits, and a die above its threshold. -/
theorem wit_PowerAndHeat :
    live.power.clocks = true
    ∧ (let trips (r : ThermalReading) := r.dies.any (fun d => decide (115 * 16 ≤ d)) || r.stackTemps.any fun d => decide (105 * 16 ≤ d)
       trips ⟨List.replicate 68 1839, List.replicate 12 1679⟩ = false ∧ trips ⟨List.replicate 68 1840, []⟩ = true ∧ trips ⟨[], [1680]⟩ = true)
    ∧ member.ust uHub ≠ stAbsent ∧ member.ust uPackage ≠ stAbsent
    ∧ live.power.dieDuty ≤ 48 ∧ live.power.stackDuty ≤ 48
    ∧ (let s : State := { live with power := { live.power with dies := [live.cfgAt (ek 0x2070 4) * 16], capDuty := 4 } }
       (s.power.dies.any fun d => decide (s.cfgAt (ek 0x2070 4) * 16 ≤ d)) = true ∧ s.power.clocks = true) := by decide +kernel

/-- PowerTransitions, ClocksStopped: a package with power and one without, which a trip leaves too. -/
theorem wit_PowerTransitions :
    live.power.on = true ∧ State.reset.power.on = false ∧ State.reset.power.clocks = false
    ∧ (∀ p, Instr.beatBegin 0 ≠ .powerGood p) ∧ Instr.beatBegin 0 ≠ .powerLoss := by
  refine ⟨by decide, by decide, by decide, by simp, by simp⟩

/-- TestAccessPort: debug unlocked in a powered package, in each state a statement names. -/
theorem wit_TestAccessPort :
    let s : State := { live with vol := [(ek 0xA000 5, 1)] }
    s.power.on = true ∧ s.volAt (ek 0xA000 5) ≠ 0 ∧ live.volAt (ek 0xA000 5) = 0
    ∧ ({ s with tap := { s.tap with state := .shiftDr } } : State).tap.state = .shiftDr
    ∧ ({ s with tap := { s.tap with state := .captureDr, ir := Config.tapIdcode } } : State).tap.ir = Config.tapIdcode := by
  refine ⟨by decide, by decide, by decide, rfl, rfl⟩

/-- MemoryWrites: a memory of one byte whose second word is poisoned, in canonical form. -/
theorem wit_MemoryWrites :
    let m : Mem := (Mem.empty.write (cellsAt 3 [7#8])).poison [16]
    m.wf = true ∧ 2 ≤ Sparse.get 0 m.marks 1 ∧ (20 / 16 = 1 ∧ 20 % 16 + 12 ≤ 16 ∧ 12 < 16) ∧ (m.read 3).1 = 7#8 := by decide +kernel

/-- PowerInvariant: a step that answers, from a state that meets it. -/
theorem wit_PowerInvariant : ∃ t, step State.reset = .next t := ⟨State.reset, rfl⟩

/-! ### Values the spec works out -/

/-- The row of the soft-maximum example (Table 6-6): its exponentials in BF16, upper halves of FP32. -/
theorem test_exp2b_example :
    rne32 (p1exp2b (.fin true 3 (-2))) = 0x3F180000#32 ∧ rne32 (p1exp2b (.fin true 11 (-2))) = 0x3E180000#32
    ∧ rne32 (p1exp2b (.fin true 1 (-1))) = 0x3F350000#32 := by decide +kernel

/-- The noise example of spec/11: log(0.25) in profile 1, and the odd element's partner −0. -/
theorem test_normal_example :
    rne32 (p1log (.fin false 1 (-2))) = 0xBFB17218#32 ∧ rne32 (normalOf 0x3FFFFF12 0x400000A7 false) = 0x80000000#32 := by decide +kernel

/-- The MLP example (Table 5-5): 50 × 2^−7 − 0.25 is 0x3E10_0000, and 1.2508 converts to E4M3 code 0x3A. -/
theorem test_chain_example :
    rne32 (((f32 0x42480000#32).mul (f32 0x3C000000#32)).add (f32 0xBE800000#32)) = 0x3E100000#32
    ∧ ((Fmt.flt .e4m3).convert .rne true false ((FVal.fin false 12508 0).mul (f32 0x38D1B717#32))).code = 0x3A := by decide +kernel

/-- The address example of spec/13: 0x12_3456_7ABC is on die 3 in die granule 0x48_D159. -/
theorem test_decode_address_example : live.decodeAddr 0x1234567ABC = some (3 * 2 ^ 37 + 0x48D159 * 2 ^ 12 + 0xABC) := by decide +kernel

/-- The check word of the digits 1 to 9 under polynomial 0x1021 from 0xFFFF. -/
theorem test_crc16 :
    crc16 ([0x31, 0x32, 0x33, 0x34, 0x35, 0x36, 0x37, 0x38, 0x39].flatMap fun b => (List.range 8).map fun i => Nat.testBit b (7 - i))
      = 0x29B1#16 := by decide +kernel

/-! ### Small steps -/

/-- The next state of a command, or none. -/
def next (i : Instr) (s : State) : Option State :=
  match exec i s with
  | .next t => some t
  | _ => none

/-- The core's X1 and its next word after a command. -/
def x1After (i : Instr) (s : State) : Option (DWord × Nat) := (next i s).map fun t => (t.cores[(0 : CoreId)].x[(1 : XReg)], t.cores[(0 : CoreId)].pc)

/-- The package whose X2 is −1 and X3 63. -/
def counted : State := runs { aCore with x := (aCore.x.set 2 0xFFFFFFFFFFFFFFFF#64).set 3 63#64 }

/-- XALU: an addition wraps, a shift by 63 keeps one bit, a minimum is signed. -/
theorem test_xalu :
    x1After (.xalu 0 hdr aCtl) counted = some (62#64, 1) ∧ x1After (.xalu 0 hdr { aCtl with alu := 6#4 }) counted = some (0x8000000000000000#64, 1)
    ∧ x1After (.xalu 0 hdr { aCtl with alu := 9#4 }) counted = some (0xFFFFFFFFFFFFFFFF#64, 1) := by decide +kernel

/-- XIMM writes its immediate; a predicated one that is off only advances. -/
theorem test_ximm :
    x1After (.ximm 0 hdr aCtl) counted = some (5#64, 1) ∧ x1After (.ximm 0 ⟨false, true, false, 0⟩ aCtl) counted = some (0#64, 1) := by
  decide +kernel

/-- LOOP on X3 goes back to word 2 and leaves 63; BR past the last word stops the core. -/
theorem test_branches :
    ((next (.loopX 0 hdr { aCtl with xa := 3 }) counted).map fun t => (t.cores[(0 : CoreId)].x[(3 : XReg)], t.cores[(0 : CoreId)].pc)) = some (62#64, 2)
    ∧ ((next (.br 0 hdr { aCtl with target := 4#13 }) counted).map fun t => t.cores[(0 : CoreId)].run) = some .idle := by decide +kernel

/-- Lane 0 of a register after a command. -/
def lane0After (i : Instr) (s : State) (v : Nat) : Option Word := (next i s).map fun t => (t.cores[(0 : CoreId)].lane v 0).val

/-- A value in lane 0 of V1 and one in lane 0 of V2; M1 has lane 0 alone. -/
def laned (a b : Word) : State :=
  let put (w : Word) : Vector Lane 128 := (Vector.replicate 128 Lane.zero).set 0 ⟨w, false⟩
  runs { aCore with v := (aCore.v.set 1 (put a)).set 2 (put b), m := aCore.m.set 1 1#128 }

/-- IADD wraps or saturates; FADD of one and one is two. -/
theorem test_lanes :
    lane0After (.iadd 0 hdr { aVec with mask := 1 }) (laned 0x7FFFFFFF#32 1#32) 3 = some 0x80000000#32
    ∧ lane0After (.iadd 0 hdr { aVec with mask := 1, sat := true }) (laned 0x7FFFFFFF#32 1#32) 3 = some 0x7FFFFFFF#32
    ∧ lane0After (.fadd 0 hdr { aVec with mask := 1 }) (laned 0x3F800000#32 0x3F800000#32) 3 = some 0x40000000#32 := by decide +kernel

/-- STX of X7 into the buffer at D2 is little-endian. -/
theorem test_stx :
    ((next (.stx 0 hdr aMove) (runs { aTensorCore with x := aTensorCore.x.set 7 0x0102#64 })).map fun t =>
      ((t.cores[(0 : CoreId)].buf.read 4096).1, (t.cores[(0 : CoreId)].buf.read 4097).1)) = some (2#8, 1#8) := by decide +kernel

/-- A step takes the front of the queue, and an empty queue idles. -/
theorem test_step :
    (match step { counted with pending := [.ximm 0 hdr aCtl, .ximm 0 hdr aCtl] } with
      | .next t => t.pending.length == 1 && t.cores[(0 : CoreId)].x[(1 : XReg)] == 5#64
      | _ => false) = true
    ∧ (match step counted with | .next t => t.pending.isEmpty | _ => false) = true := by decide +kernel

/-! ### Witnesses: commands held back, launches together, in-order segments, messages that nothing refuses -/

/-- Commands taken at once, and commands that wait while the host port or the hub die is HELD or others wait; a write across a frame
boundary whose last part completes a command, and one whose last part does not. -/
theorem wit_held_commands :
    (hosted.takesNone = false ∧ hosted.host.waiting = [])
    ∧ (unitIn 260 stHeld).takesNone = true ∧ (unitIn 280 stLoading).takesNone = true
    ∧ ({ hosted with host := { hosted.host with waiting := [hosted.cmdOf (command [w0 1])] } } : State).host.waiting ≠ []
    ∧ (hosted.comes { command [w0 1, w0 1] with off := 508 } = true ∧ (hosted.cmdOf { command [w0 1, w0 1] with off := 508 }).code = 1
      ∧ (hosted.cmdOf { command [w0 1, w0 1] with off := 508 }).frame = 1)
    ∧ (hosted.frameOk { command [0] with off := 510 } = true ∧ frameCovers (lastPart { command [0] with off := 510 }) = false) := by
  decide +kernel

/-- CommandFrames: a UNITOP with a reserved operation on the first array, which no other vat owns. -/
theorem wit_reserved_operation :
    let c := hosted.cmdOf (command [w0 12, 7 * 2 ^ 16])
    c.code = 12 ∧ 6 < c.field 1 23 16 ∧ c.fn = 0 ∧ unitOfPath (c.field 1 15 0) = some 0
    ∧ (hosted.takenAt (command [w0 12, 7 * 2 ^ 16])).foreign c.vat 0 = false ∧ hosted.slotIn c.vat c.slot = true
    ∧ (hosted.rslot c.slot).state = 0 := by decide +kernel

/-- A core of vat 1, which is enabled: foreign to vat 0; and one of vat 0 itself. -/
theorem wit_foreign :
    (let s : State := { hosted with cfg := [(ek 0x2020 2, 1), (ek 0x2021 2, 1)] ++ hosted.cfg, vol := hosted.vol }
     s.foreign 0 (coreUnit 5) = false) ∧ hosted.foreign 0 (coreUnit 0) = false := by decide +kernel

/-- HoldArray: what the driver asks of the data path's view of an array. -/
theorem wit_HoldArray_view :
    hosted.takesNone = false ∧ hosted.host.waiting = [] ∧ hosted.foreign 0 0 = false ∧ hosted.units[(0 : UnitNo)].dp.state = stReady
    ∧ BitVec.ofNat 16 0 = hosted.units[(0 : UnitNo)].dp.version := by decide +kernel

/-- RunStarts, LaunchProgress: no other launch eligible; one that is eligible in an earlier record. -/
theorem wit_launches_together :
    (∀ k ∈ launching.launches, k.slot ≠ 0 → launching.eligible k = false)
    ∧ (let l : Launch := { waitingLaunch with slot := 5, cores := [⟨1, none, .waiting, 0, false⟩] }
       let s : State := { hosted with launches := [waitingLaunch, l] }
       s.launchAt 5 = some l ∧ s.mayStart l = true ∧ (s.launches.takeWhile fun k => k.slot != l.slot) = [waitingLaunch]
         ∧ s.eligible waitingLaunch = true ∧ (s.serveFor l).preHold l = true) := by decide +kernel

/-- UnitLife: an array that drains and is not at its boundary yet. -/
theorem wit_no_boundary :
    let s : State := { unitIn 0 stDraining with cores := live.cores.set 0 aCore, launches := [aLaunch], cfg := [(ek 0x2010 1, 0)] ++ hosted.cfg }
    s.ust 0 = stDraining ∧ ((unitIn 0 stHeld).ust 0 ≠ stDraining) := by decide +kernel

/-- UnitFaults: a core with no launch in each state a fault finds it in. -/
theorem wit_faulty_core :
    hosted.cores[(0 : CoreId)].launch = none ∧ hosted.ust (coreUnit 0) = stReady ∧ (unitIn (coreUnit 0) stRunning).ust (coreUnit 0) = stRunning
    ∧ (unitIn (coreUnit 0) stDraining).ust (coreUnit 0) = stDraining := by decide +kernel

/-- MemoryErrors: a program word that reads well, ends of a pipe in the hub buffer and in a die's buffer, and counts of corrected errors
on both sides of the threshold. -/
theorem wit_memories :
    hosted.cores[(0 : CoreId)].progBad.contains (64 / 32) = false
    ∧ (({ hosted with pipes := hosted.pipes.set 0 { Pipe.reset with consHub := true, prodHub := false, prod := 47 } } : State).pipes[
        (0 : Fin 1024)]).consHub = true
    ∧ (({ hosted with pipes := hosted.pipes.set 0 { Pipe.reset with consHub := true, prodHub := false, prod := 47 } } : State).pipes[
        (0 : Fin 1024)]).prod = (47 : Fin 48).val
    ∧ (correctedKey 0 .lanes).isSome = true ∧ correctedKey 0 .buffer = none ∧ (correctedKey (coreUnit 51) .program).isSome = true
    ∧ (correctedKey 280 .links).isSome = true ∧ correctedKey 281 .links = none
    ∧ hosted.volAt (ek (unitObj 0 7) 1) + 1 < 2 ^ 48 - 1
    ∧ (let v := hosted.countCorrected 0 .lanes 1
       v.correctedSum 0 - (v.units[(0 : UnitNo)].corrWindow.head?).getD 0 ≤ v.cfgAt (ek 0x2060 1))
    ∧ (let v := hosted.countCorrected 0 .lanes (2 ^ 40)
       v.cfgAt (ek 0x2060 1) < v.correctedSum 0 - (v.units[(0 : UnitNo)].corrWindow.head?).getD 0) := by decide +kernel

/-- PagesAndSwaps: the hub die works, or is HELD. -/
theorem wit_hub_works : hosted.hubWorks = true ∧ (unitIn 280 stHeld).hubWorks = false := by decide +kernel

/-- StorageSteps: a die that answers; a relocation begun; a pass overrun by clearing. -/
theorem wit_storage :
    live.dieAnswers (3 * 2 ^ 37) = true
    ∧ (let r : Reloc := ⟨0, false, true, 0, [], 0⟩
       r.begun = true ∧ r.next + 1 < setRows ∧ r.early = [])
    ∧ ({ live with uncleared := [(3, 5)] } : State).clearing 0 = true ∧ (live.volAt (ek 0xD040 8)).testBit 62 = false := by decide +kernel

/-- Beats: an echo that waits for its answer, and none. -/
theorem wit_echo : member.croak.echoed = none ∧ ({ member with croak := { member.croak with echoed := some 3 } } : State).croak.echoed = some 3 := by
  decide +kernel

/-- CroakBus: a master that hears its own symbol and another's; a port that carries timing, with and without a key MACsec asks for. -/
theorem wit_CroakBus_master :
    ({ master with croak := { master.croak with symbol := some (aSymbol, 9) } } : State).croak.symbol = some (aSymbol, 9)
    ∧ master.croak.symbol = none ∧ master.isMaster = true ∧ master.croakMode ≠ 0 ∧ master.croakMode ≠ 4
    ∧ (let s := at_ [(ek 0xC000 4, 7)] [(ek 0xC00F 5, 2)]
       s.volAt (ek (0xC008 + s.cfgAt (ek 0xC000 4)) 5) = 2 ∧ s.macsecOk 7 none = true)
    ∧ (at_ [(ek 0xC000 4, 7), (ek 0xC00F 4, 1)] [(ek 0xC00F 5, 2)]).macsecOk 7 none = false := by decide +kernel

/-- HostAccess: sizes at the ends of their ranges; a function that is Busy. -/
theorem wit_host_sizes :
    windowed.portPowered = true ∧ (512 ∈ [128, 256, 512] ∧ leNat (leBytes 512 2) = 512) ∧ (30 ≤ leNat [30#8] ∧ leNat [39#8] ≤ 39)
    ∧ ((windowed.updFunc 0 fun g => { g with busy := true }).funcs[(0 : FnNo)]).busy = true := by decide +kernel

/-- HostLinkAndResets: a payload and an interrupt that both wait. -/
theorem wit_host_queue :
    let a : HostBound := ⟨0, 16, ⟨.host, 0, [], []⟩⟩
    let m : HostBound := ⟨0, 16, ⟨.msix, 0, [0, 3], []⟩⟩
    let s : State := { windowed with host := { windowed.host with held := [a, m] } }
    s.host.held = [a, m] ∧ a.isMsix = false ∧ m.isMsix = true ∧ s.away 260 = false ∧ s.linkEnough 128 16 = true ∧ s.portPowered = true
    ∧ s.funcs[(0 : FnNo)].ideHold = false := by decide +kernel

/-- Fabric: a segment in its turn on a binding that keeps none ahead, for each type; data for a pipe their binding feeds. -/
theorem wit_segments_in_turn :
    let quiet : State := { wired with bindings := [(0, { Binding.unbound with state := 1 })] }
    let seg (typ : Nat) : Segment := { aData with header := [BitVec.ofNat 32 (2 ^ 28 + typ * 2 ^ 24), 0#32, 0#32, 0#32, 1#32, 0#32, 0#32, 0#32] }
    (∀ typ ∈ [0, 3, 4, 5, 6, 9, 10], segType (seg typ) = typ
      ∧ (let t := (quiet.countFabric 2 1).ackUpTo 0 0#32
         (t.binding 0).early = [] ∧ (segSeq (seg typ) - (t.binding 0).last).toNat = 1)) := by decide +kernel

/-- Twin: credits for a message of one flit, and none; a peer that reconciles; flits to return and none; the flit a check failed on; a pair
that loads, its record naming this package and sent by its twin, and one that is not. -/
theorem wit_twin_more :
    (({ wired with twinPool := { wired.twinPool with free := Vector.replicate 4 0 } } : State).twinPool.free[(0 : Fin 4)]) < (⟨.twin, 0, [], []⟩ : OutMsg).flits
    ∧ wired.away 269 = false ∧ wired.ust 269 ≠ stFaulted
    ∧ (let s : State := { wired with twinPool := { wired.twinPool with free := Vector.replicate 4 8, waiting := [] } }
       (⟨.twin, 0, [], []⟩ : OutMsg).flits ≤ s.twinPool.free[(0 : Fin 4)] ∧ (s.twinPool.waiting.any fun w => w.1 == (0 : Fin 4)) = false)
    ∧ (let s : State := { wired with vol := [(ek 0xC008 5, 2)], peers := [{ PeerRec.fresh .twin with reconciling := true }] }
       s.volAt (ek 0xC010 3) < 2 ∧ s.ust (hubUnit 9) = stReady ∧ s.peer .twin = some { PeerRec.fresh .twin with reconciling := true })
    ∧ (wired.twinPool.owe.toList.all fun n => n == 0) = true
    ∧ ((wired.owe 2 64).twinPool.owe.toList.all fun n => n == 0) = false
    ∧ (let m : OutMsg := ⟨.twin, 3, [], zeros 2000⟩
       let s : State := { wired with out := [m] }
       m.flits = 2 ∧ ((((s.out.filter fun m => m.dest == .twin).flatMap fun m => (List.range m.flits).map m.flit).reverse)[1]? = some (m.flit 0)))
    ∧ wired.inbound 0 true 0 = false ∧ mapTwin (wired.pipeMap 0) = true
    ∧ (({ wired with pipes := wired.pipes.set 0 { Pipe.reset with state := 1, consHub := true, cons := 9 } } : State).outbound 0) = true
    ∧ (let r : PairRecord := ⟨9#32, 0#32, stReady, 0#8, 0#16, stReady, 0#8, []⟩
       r.names.toNat = wired.cfgAt (ek 0xC000 1) ∧ r.sender.toNat = wired.cfgAt (ek 0xC010 1)
         ∧ ({ r with sender := 8#32 } : PairRecord).sender.toNat ≠ wired.cfgAt (ek 0xC010 1)) := by decide +kernel

/-- Codec: no earlier frame waits on another engine. -/
theorem wit_codec_order : (coding.entryRead 0 (aRecord 0 0)).earlierElsewhere (engineNo 0 true) (aRecord 0 0) = false := by decide +kernel

/-- StepRunsFront: nothing held back anywhere. -/
theorem wit_idle :
    live.pending = [] ∧ live.host.waiting = [] ∧ live.host.late = []
    ∧ (∀ c : CoreId, live.cores[c].held = [] ∧ live.cores[c].moving = none ∧ live.cores[c].syncQ = [] ∧ live.cores[c].wait = none)
    ∧ (∀ r ∈ live.peers, r.early = [] ∧ r.queued = []) := by
  refine ⟨rfl, rfl, rfl, fun c => ?_, by decide⟩
  simp [live, State.reset, Core.reset]

/-- An RSA-4096 modulus, and below it the signature over twelve zero bytes that an outside tool made with its private key, with a salt of 64 bytes. -/
def aModulus : List Byte :=
  [0xB2D9C6A0D892E34B9085D2F47CBCC380FA2C8CA62A149A1C2CCCF527B944E52F7B5191BCBBD3F3825D2EC2F3F9433C83C88F7FE9F88D4BD8C81D0C722450467B,
    0xF1248D8235F6D3B3020A401EA43F32E00B507C7FF58D2F9BC80EF73A5626335FEEFB3570BEDA9CA9FF07FA299B075611D4C1F280281C7F8D4C3D019D5B98FA39,
    0x21F8C0A9595F9B0BF39CDED7DBBEF9C0505EE3E9002B2164BE22F7BE901838DAF1FD1AEDA7E3B41FE1B7615AE57F53DF93624B2641B35EBAFDB6E65111990A57,
    0x77BFCD15D96FA5211F32890D8FA7A00A1AA15997E535F99922F5B78DD4C7A6F807494EF1ADFE4EAA4C92FF5554D649BD264BF6850D76C7EEC4A19E5C04B8053C,
    0xE45877D613A626215812C9BF85F4CD6A465A20A03C5EEA0C087F5E49C26296FED4EB4DC6B4D7C53BAD4283D68723F20480C991642068C9FC76B82AE26C5F29D6,
    0xF6F8B7C22C8944B7159792A04E6580E5FE0B5EA37B704315D81B6080326995060B3F6C52B6BC941D88A23C5903C84107558627FF066F3E1E271650C4A3ED6E4E,
    0x86C66ACA363162EE0E991D447325E0622ECF933E42BA9312C1FB12122A0837B16EC7D53B6F1084EE2E79A7A946029749EA6142051DA8DDDB515F7B2B9413C977,
    0x55C3CBDF899D20BD12465A9C8469AB0BF8B3CD53A71315A267E9D880D2189B03A462CCD216E147F774F814816879C30B02AA782B901BA4D1551026D96974158B].flatMap fun n => beBytes n 64

/-- The signature. -/
def aSignature : List Byte :=
  [0x462FA8A0B379E933E04DF27418DFC02DC1303ED5133E3B10D6876EEA7142B6B61D0B265DD85FE51807568F9CA57F71E7D1A33C2E1C5080496B7AA207555C52A8,
    0x62C23944E127061B58E17B4068F3C6CDD09F70FE313F7E2003D5397D70F9977616968EBE9837548D46AB2758FB876744A272B14FB83594A990874F0F433D3872,
    0x21BC88A5F57103C2A3DD5EF531B83BCBB30E49453C6AE2E8B4C138F94CD87D2D5F4DA2E9B92B9879C93C6FECE5291D0C503344BE1A2841650C4CF9290BA18745,
    0x11F1507122F690C9E286297CDB370EF6AAB900BA9A54C750D7FDCE42BE87031CD6BA3906863107665CA33C0333A0EA46824245BF9F36E1B7EF26BDBC4E0FE006,
    0x0D935AE1B663D126EA280F379478A0649205A62268F738B59CD1ABBD21E1398F47C7BE3342E3C6D35CA4E9B5A12C2A3A0B6E3B8909EAC71ADA7083DDCD1DD081,
    0xD8FF48219F1B73C89E122CDC3E30547317303939183BB9668E82CAF7C79645D15413CBA0A49ACCB319C4FE11659BB6F8318B02030109A60343B5A525FD7E9765,
    0x264DCFE870F531DFC6422358E6DAE62973ECED7E937E476C60D14B069B9242FC14760750C49EDE19A8FD0E5FF93D0039C21D82CC1BFA281155CF691D5001E07F,
    0x63915F3E3F26DAFF0A729B55446D7F6333D9887A02A77991CC9F64860C93CAFCFC40890E9BD26D54C60A75D5490FC65AA466A1F29341DDA8BF5F9A0B2BA04459].flatMap fun n => beBytes n 64

/-- The signature verifies where the salt, whose length the spec leaves open, has 64 bytes (log entry 75). -/
theorem wit_signature (h : Config.pssSalt = 64) : verifies aModulus (zeros 12) aSignature = true := by
  unfold verifies
  rw [h]
  decide +kernel

/-- A message of session 7 with its authenticator. -/
def signed (m : KopMsg) : KopMsg := { m with auth := authOf aSession.key (msgBytes m) }

/-- A message of session 7 of a type, with an index, a subindex and data, newer than the last. -/
def asked (typ idx sub : Nat) (data : List Byte) : KopMsg :=
  { aKop with typ := BitVec.ofNat 8 typ, session := 7, seq := 5#32, index := BitVec.ofNat 16 idx, sub := BitVec.ofNat 8 sub, data := data }

/-- The session in a role, and the package that holds it with the management core up. -/
def session (r : Role) : Session := { aSession with role := r, mask := 0xFFFF#16, modulus := aModulus, transcript := zeros 12 }
/-- The package in which that session is open. -/
def open_ (r : Role) : State := { at_ [] [] with sessions := [Session.zero, session r] }

/-- KopEntries, KopChanges, KopSessions: every such message, authenticated, is heard. -/
theorem wit_hears (r : Role) (typ idx sub : Nat) (data : List Byte) :
    (open_ r).hears (session r) (signed (asked typ idx sub data)) := by
  refine ⟨rfl, .inl ?_, rfl, rfl, ?_, rfl, rfl, ?_, ?_⟩
  · show (at_ [] []).ust (hubUnit 11) = stReady
    decide +kernel
  · show aSession.id ≠ 0
    decide
  · simp only [signed, session, msgBytes]
  · show seqNewer 5#32 aSession.last = true
    decide

/-- Whether a session may write a whole value. -/
def mayWrite (x : Session) (m : KopMsg) : Bool :=
  match entryRow (idxOf m) (subOf m) with
  | some r => (viaVat x.via).isNone && subOf m != 0 && r.access x.role != .ro && r.access x.role != .no && x.covers (idxOf m) (subOf m)
      && m.offset == 0 && (m.data.length == r.bytes || (decide (8 ≤ r.typ) && decide (0xA300 ≤ idxOf m) && decide (idxOf m < 0xA308)))
      && (r.typ != 7 || decide (leNat m.data ≤ 1)) && inRange (idxOf m) (subOf m) (leNat m.data)
  | none => false

/-- That is what the statements ask for. -/
theorem wit_mayWrite (s : State) (x : Session) (m : KopMsg) (h : mayWrite x m = true) : ∃ r v t, s.mayWrite x m r v t := by
  unfold mayWrite at h
  split at h
  · rename_i r hr
    simp only [Bool.and_eq_true, Bool.or_eq_true, Option.isNone_iff_eq_none, bne_iff_ne, beq_iff_eq, decide_eq_true_eq] at h
    obtain ⟨⟨⟨⟨⟨⟨⟨⟨h1, h2⟩, h3⟩, h4⟩, h5⟩, h6⟩, h7⟩, h8⟩, h9⟩ := h
    refine ⟨r, _, _, h1, h2, hr, h3, h4, h5, h6, ?_, ?_, h9, rfl, rfl⟩
    · rcases h7 with h | h
      · exact Or.inl h
      · exact Or.inr ⟨h.1.1, h.1.2, h.2⟩
    · intro h7'
      rcases h8 with h | h
      · exact absurd h7' h
      · exact h
  · exact absurd h (by simp)

/-- Writes of each row by a role that may: a generation entry, the fields of a unit's operation, the acknowledged event, a run state, an
echo, a key, a fuse, and the unlock, in rows of their own. -/
theorem wit_KopWrites :
    (mayWrite (session .installer) (asked 2 0x2070 1 [0#8, 0#8]) = true ∧ rowOf (asked 2 0x2070 1 [0#8, 0#8]) = .write)
    ∧ (mayWrite (session .installer) (asked 2 (unitObj 0 2) 2 (zeros 8)) = true ∧ rowOf (asked 2 (unitObj 0 2) 2 (zeros 8)) = .write
      ∧ unitIndex (idxOf (asked 2 (unitObj 0 2) 2 (zeros 8))) = some (0, 2))
    ∧ (mayWrite (session .operator) (asked 2 0x9010 2 (zeros 8)) = true ∧ rowOf (asked 2 0x9010 2 (zeros 8)) = .eventAck
      ∧ (open_ .operator).volAt (ek 0x9010 2) ≤ 0 ∧ 0 < ({ open_ .operator with evCount := 1 } : State).evCount)
    ∧ (mayWrite (session .operator) (asked 2 0x2029 1 [1#8]) = true ∧ rowOf (asked 2 0x2029 1 [1#8]) = .runState
      ∧ (open_ .operator).volAt (ek 0xA000 5) ≠ 1)
    ∧ (mayWrite (session .installer) (asked 2 0xB000 10 [31#8]) = true ∧ rowOf (asked 2 0xB000 10 [31#8]) = .echo)
    ∧ (mayWrite (session .installer) (asked 2 0xA307 1 (zeros 33)) = true ∧ rowOf (asked 2 0xA307 1 (zeros 33)) = .macsec)
    ∧ (mayWrite (session .maker) (asked 2 0xA000 1 (zeros 64)) = true ∧ rowOf (asked 2 0xA000 1 (zeros 64)) = .fuse
      ∧ (Sparse.get [] (open_ .maker).fuseBanks (ek 0xA000 1)).length < 4)
    ∧ (mayWrite (session .maker) (asked 2 0xA000 5 [1#8]) = true ∧ rowOf (asked 2 0xA000 5 [1#8]) = .debug
      ∧ (open_ .maker).launches = [] ∧ (open_ .maker).unlocking = none ∧ (∀ i ∈ List.range 16, (open_ .maker).volAt (ek 0x2029 (i + 1)) = 0)
      ∧ (open_ .maker).volAt (ek 0xA000 5) = 0 ∧ leNat [1#8] = 1) := by decide +kernel

/-- Reads of the installer; unit operations on core 0 in a state each applies to, its image slot valid. -/
theorem wit_KopUnits :
    (rowOf (asked 1 0x2000 1 []) = .read ∧ (match entryRow 0x2000 1 with | some r => r.access .installer != .wo && r.access .installer != .no | none => false) = true
      ∧ (session .installer).covers 0x2000 1 = true)
    ∧ (∀ p ∈ [(1, stReady), (2, stHeld), (3, stReady), (4, stHeld), (5, stHeld), (6, stFaulted)],
      mayWrite (session .installer) (asked 2 (unitObj 208 2) 1 [BitVec.ofNat 8 p.1]) = true
      ∧ rowOf (asked 2 (unitObj 208 2) 1 [BitVec.ofNat 8 p.1]) = .unitOp p.1
      ∧ unitIndex (unitObj 208 2) = some (208, 2) ∧ unitOf 208 ≠ uPair ∧ unitOf 208 ≠ uGroup
      ∧ (let s : State := { unitIn 208 p.2 with vol := (List.range 6).map fun k => (ek 0xA050 (k + 1), 3) }
         (s.asSeen false [208]).whyRefused 208 p.1 0#16 .installer 0xFFFF#16 = none)) := by decide +kernel

/-- KopChanges: a return with a generation before it; beats present and absent; a piece that begins an image and one that ends it. -/
theorem wit_KopGenerations :
    (at_ [] [(ek 0x2000 5, 1)]).volAt (ek 0x2000 5) ≠ 0 ∧ (at_ [] [(ek 0xB010 5, 0)]).beatsAbsent = false ∧ (at_ [] []).beatsAbsent = true
    ∧ (open_ .installer).pendingGen = none ∧ (open_ .installer).slotBusy 6 = false ∧ (at_ [] [(ek 0xA050 6, 1)]).slotState 6 = 1
    ∧ (zeros 12 ++ [17#8, 0#8, 0#8, 0#8]).length < imgWord (zeros 12 ++ [17#8, 0#8, 0#8, 0#8]) 3
    ∧ (zeros 12 ++ [16#8, 0#8, 0#8, 0#8]).length = imgWord (zeros 12 ++ [16#8, 0#8, 0#8, 0#8]) 3 := by decide +kernel


/-- KopChanges, KopSessions: a COMMIT of nothing that this signature covers, and a PROOF over a transcript of twelve zero bytes. -/
theorem wit_signed :
    signedBytes (leNat (((zeros 12 ++ aSignature).drop 8).take 4)) (leNat ((zeros 12 ++ aSignature).take 8)) [] = zeros 12
    ∧ (zeros 12 ++ aSignature).length = 524 ∧ (zeros 12 ++ aSignature).drop 12 = aSignature ∧ aSignature.length = 512 := by decide +kernel

/-- KopChanges, KopSessions: the installer's COMMIT under that signature meets all that its clause asks, and so does the PROOF. -/
theorem wit_commit (h : Config.pssSalt = 64) :
    let x := session .installer
    let m := asked 3 0 0 (zeros 12 ++ aSignature)
    let s : State := { open_ .installer with vol := [(ek 0xB010 5, 0)] }
    x.role = .installer ∧ viaVat x.via = none ∧ rowOf m = .commit
      ∧ verifies x.modulus (signedBytes (leNat ((m.data.drop 8).take 4)) (leNat (m.data.take 8)) x.staging) (m.data.drop 12) = true
      ∧ s.pendingGen = none ∧ s.beatsAbsent = false ∧ verifies x.modulus x.transcript aSignature = true := by
  refine ⟨rfl, rfl, by decide, ?_, rfl, by decide, wit_signature h⟩
  show verifies aModulus (signedBytes (leNat (((zeros 12 ++ aSignature).drop 8).take 4)) (leNat ((zeros 12 ++ aSignature).take 8)) [])
    ((zeros 12 ++ aSignature).drop 12) = true
  rw [wit_signed.1, wit_signed.2.2.1]
  exact wit_signature h

/-- KopSessions: a HELLO of an operator whose key's hash stands in 0xA020:01, with the generator of the curve as its point. -/
theorem wit_hello :
    let m := 1#8 :: (aModulus ++ pointBytes (some p384g) ++ zeros 32)
    let s := at_ [(ek 0xA020 1, leNat (sha512 aModulus) + 2 ^ 512)] []
    m.head? = some 1#8 ∧ helloSize 1 = some 642 ∧ m.length = 642 ∧ (s.sessions.filter fun x => x.id != 0).length < 8
    ∧ s.credential .pf (helloOf 1 642 m) = some (.operator, aModulus, 1#16) ∧ pointOf (helloOf 1 642 m).point = some p384g := by
  decide +kernel

/-- A message on session 0 with its data, as the bytes of a mailbox. -/
def zeroBytes (typ : Nat) (data : List Byte) : List Byte := kopHeader 0x4B4F typ 0 0 1 0 0 false data.length 0 ++ data

/-- The package whose physical function's mailbox holds such a message; `x` are its sessions. -/
def mailed (x : List Session) (typ : Nat) (data : List Byte) : State :=
  ({ talking with sessions := x } : State).updFunc 0 fun g => { g with
    busy := true, reqLen := 32 + data.length, req := (zeroBytes typ data).zipIdx.map fun p => (p.2, p.1) }

theorem get_listed (l : List Byte) (k i : Nat) (h : i < l.length) :
    Sparse.get 0#8 ((l.zipIdx k).map fun p => (p.2, p.1)) (k + i) = l[i] := by
  induction l generalizing k i with
  | nil => simp at h
  | cons a l ih =>
    cases i with
    | zero => simp [Sparse.get]
    | succ i =>
      have := ih (k + 1) i (by simpa using h)
      rw [Nat.add_assoc, Nat.add_comm 1 i] at this
      simpa [Sparse.get] using this

theorem mailed_listed (l : List Byte) : ((List.range l.length).map fun i => Sparse.get 0#8 (l.zipIdx.map fun p => (p.2, p.1)) i) = l := by
  apply List.ext_getElem (by simp)
  intro i h _
  have := get_listed l 0 i (by simpa using h)
  simpa using this

/-- The mailbox's message is the one its bytes spell. -/
theorem mailed_submitted (x : List Session) (typ : Nat) (data : List Byte) :
    (mailed x typ data).submitted (msgOf .pf false (zeroBytes typ data)) = true := by
  have e : 32 + data.length = (zeroBytes typ data).length := by simp [zeroBytes, kopHeader, bytesOf, leBytes]; omega
  have h : ((mailed x typ data).funcs[(0 : FnNo)]).busy = true
      ∧ ((List.range ((mailed x typ data).funcs[(0 : FnNo)]).reqLen).map fun i => Sparse.get 0#8 ((mailed x typ data).funcs[(0 : FnNo)]).req i)
        = zeroBytes typ data := by
    simp [mailed, State.updFunc, e, mailed_listed]
  show (((mailed x typ data).funcs[(0 : FnNo)]).busy && msgOf .pf false (zeroBytes typ data) == msgOf .pf false
    ((List.range ((mailed x typ data).funcs[(0 : FnNo)]).reqLen).map fun i => Sparse.get 0#8 ((mailed x typ data).funcs[(0 : FnNo)]).req i)) = true
  rw [h.1, h.2]
  simp

/-- Whether what the mailbox holds is a message on session 0 of its type and with its data. -/
def heardZero (x : List Session) (typ : Nat) (data : List Byte) : Bool :=
  let s := mailed x typ data
  let m := msgOf .pf false (zeroBytes typ data)
  s.ideOk 0 m.secure && m.via == .pf && m.magic == 0x4B4F#32 && m.session == 0 && m.typ.toNat == typ && m.offset == 0
    && m.data == data && s.ust (hubUnit 11) == stReady && (s.session 0).getD Session.zero == Session.zero && seqNewer m.seq Session.zero.last

/-- A half of an installer whose transcript the signature covers. -/
def aHalf : Session := { session .installer with half := true, via := .pf }

/-- KopSessions: a HELLO of 642 bytes, and a PROOF to the latest half, as the mailbox submits them on session 0. -/
theorem wit_hearsZero :
    heardZero [Session.zero] 0x10 (1#8 :: (aModulus ++ pointBytes (some p384g) ++ zeros 32)) = true
    ∧ heardZero [Session.zero, aHalf] 0x11 aSignature = true := by decide +kernel

/-- KopSessions: that half is the latest of the mailbox; its transcript and key are those of the signature. -/
theorem wit_half :
    ((mailed [Session.zero, aHalf] 0x11 []).sessions.filter fun y => y.half && y.via == .pf).getLast? = some aHalf := by rfl

/-- The test vector of FIPS 180-4 for the three bytes 616263. -/
theorem test_sha512 : (sha512 [0x61#8, 0x62#8, 0x63#8]).take 4 = [0xDD#8, 0xAF#8, 0x35#8, 0xA1#8] := by decide +kernel

/-- The examples of spec/24: FP5_TX2 lies at 097.027 and 097.028, 041.087 carries VDDQ_HBM, 041.088 ground, and there are 260 signal lands. -/
theorem test_lands :
    (Pair.fpTx 5 2).dp = (97, 27) ∧ (Pair.fpTx 5 2).dn = (97, 28) ∧ railAt 41 87 = some .vddqHbm ∧ railAt 41 88 = some .vss
    ∧ signalLands.length = 260 := by decide +kernel

/-- Controls: program memory of zeros, whose class 0 is reserved. -/
theorem wit_reserved_word :
    let s := runs { aCore with prog := [] }
    s.power.clocks = true ∧ s.runs 0 = true ∧ s.cores[(0 : CoreId)].held = [] ∧ s.quiet 0 = true
    ∧ s.cores[(0 : CoreId)].pc < s.cores[(0 : CoreId)].loaded ∧ s.cores[(0 : CoreId)].progBad.contains s.cores[(0 : CoreId)].pc = false
    ∧ hdr.pred = false ∧ reservedField s.cores[(0 : CoreId)].word = some 27 := by decide +kernel

/-- Words of Tables 7-3 and 7-8 and of class 0x0C: NOP, VECTOR CVT and its unused code 0x0F, class 0x0E, PREEMPT operation 1. -/
theorem test_reserved_words :
    [0x58000000#256, 0x29C00000#256, 0x29E00000#256, 0x70000000#256, 0x60200000#256].map reservedField
      = [none, none, some 21, some 27, some 21] := by decide +kernel

/-! ### Witnesses: instructions that wait, and what they wait for -/

/-- Core 0 of a package whose MOVE of `f` has issued and still waits for its pipe. -/
def movingBy (s : State) (f : MoveF) : State :=
  let k := s.cores[(0 : CoreId)]
  { s with cores := s.cores.set 0 { k with moving := some ⟨f, k.x, k.d, 0⟩ } }

/-- A MOVE from pipe 0 (D4) to the start of the buffer (D0) outstanding, and one from the pipe to the pages at D2. -/
def overlapped : State := movingBy piped { aMove with ds := 4, dd := 0 }

/-- Sweeps, TileElements, TableLoads, Census: what an instruction reads lies where the outstanding MOVE has still to write, and where it
does not. -/
theorem wit_bufferWaits :
    overlapped.bufferWaits 0 (overlapped.sweepSpans 0 aSweep) = true ∧ served.bufferWaits 0 (served.sweepSpans 0 aSweep) = false
    ∧ overlapped.bufferWaits 0 ((enabled anAcc.enable).flatMap fun a =>
        (overlapped.desc 0 anAcc.d).spans (overlapped.xi 0 anAcc.xr + (128 * a.val : Nat)) 128 (overlapped.xi 0 anAcc.xc) 128) = true
    ∧ overlapped.bufferWaits 0 [((overlapped.desc 0 aTab.ds).base + aTab.off.toNat, 64)] = true
    ∧ overlapped.bufferWaits 0 (overlapped.scanSpans 0 aCen) = true
    ∧ (overlapped.desc 0 aCen.d).loc = 2 ∧ overlapped.bufferWaits 0 [(overlapped.storeAddr 0 aCen, 128)] = true
    ∧ overlapped.issues 0 hdr clsSweep false = true := by decide +kernel

/-- Controls, SignalsAndWaits: a core that still writes, for an XGET of VSTAT, and one that does not. -/
theorem wit_writing : overlapped.writing 0 = true ∧ served.writing 0 = false ∧ (2#3).toNat = 2 := by decide +kernel

/-- Census: a store into a pipe whose tail has no room for what already waits, and one with none waiting. -/
theorem wit_tailWaits :
    let s : State := { piped with pipes := piped.pipes.set 0 { aPipe with waiting := [(0#8, false)] } }
    (s.desc 0 4).loc = 3 ∧ s.tailWaits 0 hdr (s.desc 0 4).pipe = true ∧ piped.tailWaits 0 hdr (piped.desc 0 4).pipe = false := by
  decide +kernel

/-- MovesRun, ConditionalStore: a move whose pipe holds less than it takes, its checks passed; and a split of the last verdict but one. -/
theorem wit_headShort :
    (let f : MoveF := { aMove with ds := 4 }
     let s : State := { piped with pipes := piped.pipes.set 0 { aPipe with head := [] } }
     s.headShort 0 f = true ∧ s.issues 0 hdr clsMove false = true ∧ passes ((s.countIssued 0).moveStops 0 0 f) = true
       ∧ passes ((s.countIssued 0).moveStops 0 8 f ++ [(s.countIssued 0).verdictStop 0 f]) = true)
    ∧ (let f : MoveF := { aMove with reg := 0, w5 := 1#32 }
       f.w5 ≠ served.verdicts[served.vatOf 0].seq ∧ passes ((served.countIssued 0).splitStops 0 f).dropLast = true) := by
  decide +kernel

/-- SignalsAndWaits: a unit free to start, one with a WAIT outstanding, one whose queue is not empty, and a FENCE behind a write. -/
theorem wit_syncIdle :
    served.syncIdle 0 = true ∧ served.syncStarts 0 1 aSync = true ∧ overlapped.syncStarts 0 2 aSync = false
    ∧ (let s := runs { aCore with wait := some ⟨9, 3, false, false, 0⟩ }
       s.syncIdle 0 = false ∧ s.syncStarts 0 1 aSync = false ∧ s.issues 0 hdr clsSync false = true)
    ∧ (let s := runs { aCore with syncQ := [⟨1, aSync, 0⟩] }
       s.cores[(0 : CoreId)].syncQ ≠ [] ∧ s.issues 0 hdr clsSync false = true) := by decide +kernel

/-- SignalsAndWaits: the far forms at their targets, the twin with room and without; a rennet whose die is away, failed, or there; a fence
of a signal that comes after every write. -/
theorem wit_peerRoom :
    let near (st : Fin 9) : State := { served with units := served.units.set 276 { UnitRec.reset with mg := ⟨st, 0#8, 0#16⟩ } }
    ((1#2 : BitVec 2) ≠ 0#2 ∧ aSync.count ≠ 0#32
      ∧ ({ served with peers := [PeerRec.fresh .twin] } : State).peerRoom (syncPeer { aSync with target := 1#2 }) 0 = true
      ∧ ({ served with peers := [{ PeerRec.fresh .twin with free := 0 }] } : State).syncStarts 0 0 { aSync with target := 1#2 } = false)
    ∧ (near stHeld).rennetAway 9 = true ∧ (near stFaulted).rennetAway 9 = true ∧ served.rennetAway 9 = false := by decide +kernel

/-- SignalsAndWaits: a refused signal told and untold, for a rennet that is full. -/
theorem wit_retry_told :
    let s (told : Bool) : State := { signalled with retries := [⟨9, 2, .core 0, told⟩] }
    (s false).retries.find? (fun x => x.src == .core 0) = some ⟨9, 2, .core 0, false⟩
    ∧ (s true).retries.find? (fun x => x.src == .core 0) = some ⟨9, 2, .core 0, true⟩
    ∧ (s false).rennetAway 9 = false ∧ ((s false).rennet 9).max < 2 + ((s false).rennet 9).count
    ∧ signalled.rennetAway 9 = false ∧ (signalled.rennet 9).max ≠ 0 := by decide +kernel

/-- PreemptPoints: an interval already raised, its count below saturation. -/
theorem wit_interval_raised :
    (runs { aCore with intervalRaised := true }).cores[(0 : CoreId)].intervalRaised = true
    ∧ served.volAt (ek (unitObj (coreUnit 0) 8) 2) + 1 < 2 ^ 48 - 1 := by decide +kernel

/-! ### Witnesses: units, faults, memory, storage -/

/-- UnitLife: a count of transitions below saturation, an event of which fewer than sixteen came before in the beat. -/
theorem wit_TransitionsCount :
    hosted.volAt (ek (unitObj 0 4) 1) + 1 < 2 ^ 48 - 1 ∧ raisedCount hosted.evBeat (unitPath 0, 0x0200) < 16 := by decide +kernel

/-- UnitFaults: lane 0 on group 0, lane 127 on group 8 once group 7 is retired; a group not bound; a core that loads, a group of it retired
and one not; a core that drains for a tail-drop, and one that drains for a hold. -/
theorem wit_lane_groups :
    boundGroup (hosted.units[(coreUnit 0)]).groups (hosted.volAt (ek (unitObj (coreUnit 0) 9) 3)) 0 ≠ some 8
    ∧ (let s : State := { hosted with vol := [(ek (unitObj (coreUnit 0) 9) 3, 128)] ++ hosted.vol }
       boundGroup (s.units[(coreUnit 0)]).groups (s.volAt (ek (unitObj (coreUnit 0) 9) 3)) 0 = some 0)
    ∧ boundGroup 0x80#9 128 127 = some 8 ∧ boundGroup 0#9 64 127 = some 3
    ∧ (let s := unitIn (coreUnit 0) stLoading
       s.ust (coreUnit 0) = stLoading ∧ (s.retiredGroups (coreUnit 0)).getLsbD 0 = false)
    ∧ (({ unitIn (coreUnit 0) stLoading with cfg := [(ek (unitObj (coreUnit 0) 9) 1, 1)] } : State).retiredGroups (coreUnit 0)).getLsbD 0 = true
    ∧ (let drains : UnitRec := { UnitRec.reset with mg := ⟨stDraining, 0#8, 0#16⟩, dp := ⟨stDraining, 0#8, 0#16⟩, drainTo := some stShed }
       let s : State := { hosted with units := hosted.units.set (coreUnit 0) drains }
       s.ust (coreUnit 0) = stDraining ∧ (s.units[(coreUnit 0)]).drainTo = some stShed ∧ s.cores[(0 : CoreId)].launch = none)
    ∧ (unitIn (coreUnit 0) stDraining).units[(coreUnit 0)].drainTo ≠ some stShed := by decide +kernel

/-- UnitFaults, MemoryErrors: a word of a die's buffer never written, and one last written in part; the same of the hub's and a core's. -/
theorem wit_hard_words :
    let m : Mem := { Mem.empty with parts := [(2, 1)] }
    m.hard 0 = true ∧ m.hard 47 = false ∧ m.hard 48 = true
    ∧ hosted.dieBuf[(0 : Fin 4)].hard 0 = true ∧ (({ hosted with dieBuf := hosted.dieBuf.set 0 m } : State).dieBuf[(0 : Fin 4)]).hard 32 = false
    ∧ hosted.hubBuf.hard 0 = true ∧ ({ hosted with hubBuf := m } : State).hubBuf.hard 32 = false
    ∧ (runs { aCore with buf := m }).cores[(0 : CoreId)].buf.hard 32 = false
    ∧ (({ hosted with dieBuf := hosted.dieBuf.set 0 m } : State).dieBuf[(0 : Fin 4)]).wf = true := by decide +kernel

/-- MemoryErrors: a threshold told in this window, and one not told and passed; a flit of a link bound to a core. -/
theorem wit_windows :
    (let s (n : Nat) : State := { hosted with
       vol := [(ek 0x2029 1, 1), (ek (unitObj 0 7) 1, 2 ^ 40)], units := hosted.units.set 0 { (hosted.units[(0 : UnitNo)]) with corrTold := n } }
     let v (n : Nat) := (s n).countCorrected 0 .lanes 1
     (v 0).cfgAt (ek 0x2060 1) < (v 0).correctedSum 0 - (v 0).windowStart 0 ∧ (v 0).units[(0 : UnitNo)].corrTold = 0
       ∧ 0 < (v 5).units[(0 : UnitNo)].corrTold)
    ∧ (let v := hosted.countCorrected 0 .lanes 1
       v.correctedSum 0 - v.windowStart 0 ≤ v.cfgAt (ek 0x2060 1)) := by decide +kernel

/-- PagesAndSwaps: sequences in states 2 and 4 of a vat that holds nothing back; page work whose demands the pool meets, and an earlier swap
still outbound. -/
theorem wit_swaps :
    let s (x : Nat) : State := { hosted with seqs := hosted.seqs.set 0 { (hosted.seqs[(0 : Fin 64)]) with state := x } }
    ((s 2).seqs[(0 : Fin 64)]).state = 2 ∧ (s 2).hostHeld 0 = false ∧ ((s 4).seqs[(0 : Fin 64)]).state = 4 ∧ (s 4).hostHeld 0 = false
    ∧ ((s 1).seqs[(0 : Fin 64)]).state ≠ 2 ∧ (s 1).seqs[(0 : Fin 64)].state ≠ 4
    ∧ (([] : List Byte).length = 65536 * ((s 4).seqs[(0 : Fin 64)]).hostFrames.length)
    ∧ ((let t : State := { (s 2) with work := (s 2).work.set 0 ⟨[], some 1, 1, true, [0], [0]⟩ }
       t.work[(0 : VatNo)].now = some 1 ∧ t.work[(0 : VatNo)].demanded = true ∧ (0 : Fin 64).val ∈ t.work[(0 : VatNo)].waitFor
        ∧ t.seqs[(0 : Fin 64)].state = 2)) := by decide +kernel

/-- PagesAndSwaps: the work under way has a demand that the pool meets, or none. -/
theorem wit_demands :
    let run (d : List Nat) : State :=
      let s : State := { hosted with work := hosted.work.set 0 ⟨[], some 1, 1, true, d, []⟩ }
      State.runDemands 0 1 (s.work[(0 : VatNo)].demands.filterMap fun i => if h : i < 64 then some ⟨i, h⟩ else none) 0 [] [] [] s
    ((run []).work[(0 : VatNo)]).demands = [] ∧ ((run [1]).work[(0 : VatNo)]).demands = [] := by decide +kernel

/-- StorageSteps: a shadow move of two granules whose dies answer; the lowest granule of a die to clear. -/
theorem wit_shadow_move :
    let m : ShadowMove := ⟨0, 8192, 4096, 4096, 2, 0, []⟩
    let s : State := { live with shadowMove := some m }
    s.shadowMove = some m ∧ m.early = [] ∧ m.copied + 1 < m.granules
    ∧ (let a := s.rawKey (m.origin (m.place m.copied))
       let b := s.rawKey (m.goal (m.place m.copied))
       let r := s.resolve .hbm a 4096
       r.dieAnswers a = true ∧ r.dieAnswers b = true ∧ a / 4096 ≠ b / 4096 ∧ Sparse.wf 0#8 r.hbm.bytes = true) := by decide +kernel

/-- StorageSteps: the granule to clear has a marked word. -/
theorem wit_marked_granule :
    let s : State := { live with uncleared := [(2 ^ 25 + 3, 2 ^ 25 + 5)], hbm := Mem.empty.poison [(2 ^ 25 + 3) * 4096] }
    s.lowestUncleared 1 = some ((1 : Fin 4).val * 2 ^ 25 + 3) ∧ Sparse.get 0 s.hbm.marks ((2 ^ 25 + 3) * 256) = 3 ∧ s.hbm.wf = true := by
  decide +kernel

/-! ### Witnesses: time, host port, fabric, twin -/

/-- CroakBus: the timing port's domain met and not; a Sync awaited and none; modes 3 and 4, and others. -/
theorem wit_timing :
    let s (mode : Nat) : State := at_ [(ek 0xC000 4, 7), (ek 0xC000 5, 3), (ek 0xB000 1, mode)] [(ek 0xC00F 5, 2)]
    let awaited (mode : Nat) : State :=
      { s mode with croak := { (s mode).croak with servo := { (s mode).croak.servo with sync := some (8, 16) } } }
    (s 3).cfgAt (ek 0xC000 4) < 8 ∧ (s 3).volAt (ek (0xC008 + (s 3).cfgAt (ek 0xC000 4)) 5) = 2 ∧ (s 3).macsecOk 7 none = true
    ∧ (⟨3#8, none, .sync 8 16⟩ : PtpMessage).domain.toNat = (s 3).cfgAt (ek 0xC000 5)
    ∧ (⟨4#8, none, .sync 8 16⟩ : PtpMessage).domain.toNat ≠ (s 3).cfgAt (ek 0xC000 5)
    ∧ (s 3).croak.servo.sync = none ∧ (awaited 3).croak.servo.sync = some (8, 16)
    ∧ (awaited 3).croakMode = 3 ∧ (awaited 4).croakMode = 4 ∧ (awaited 1).croakMode = 1
    ∧ ptpOffset 8 16 20 28 = 0 ∧ 8000 < (ptpOffset 0 16008 0 0).natAbs := by decide +kernel

/-- CroakBus: the management port up and down, seen by a master. -/
theorem wit_mgmt :
    master.mgmtUp = true
    ∧ (let s : State := { master with units := master.units.set 271 UnitRec.reset }
       s.mgmtUp = false ∧ s.isMaster = true) := by decide +kernel

/-- HostAccess, SlotRelease: apertures with and without an address; a TLP outside a required stream at one that has an address. -/
theorem wit_apertures :
    windowed.barOn 0 0 = true ∧ ({ windowed with host := HostPort.reset } : State).barOn 0 0 = false
    ∧ ({ windowed with host := HostPort.reset } : State).fnExists 0 = true
    ∧ (let s := at_ [(ek 0x1100 6, 1)] []
       s.barOn 0 0 = true ∧ s.ideOk 0 false = false ∧ s.fnExists 0 = true)
    ∧ windowed.ideOk 0 true = true ∧ (0 : Nat) < vectorsOf 0
    ∧ (let f : Func := windowed.funcs[(0 : FnNo)]
       (f.masked.getLsbD 0 && f.pend.getLsbD 0) = false)
    ∧ (let s := windowed.updFunc 0 fun g => { g with pend := 1#128 }
       ((s.funcs[(0 : FnNo)]).masked.getLsbD 0 && (s.funcs[(0 : FnNo)]).pend.getLsbD 0) = true) := by decide +kernel

/-- HostLinkAndResets: a rate and a width the tables allow, and ones they do not; the link up and down; a payload that is no read. -/
theorem wit_link_modes :
    linkMode 128 16 = true ∧ linkMode 2 4 = true ∧ linkMode 64 2 = false ∧ linkMode 7 16 = false
    ∧ windowed.hostUp = true ∧ live.hostUp = false ∧ windowed.linkEnough 2 4 = false
    ∧ windowed.readRoom ⟨0, 16, ⟨.host, 0, [], []⟩⟩ = true
    ∧ windowed.readRoom ⟨0, 16, ⟨.host, 1, [], []⟩⟩ = true
    ∧ (windowed.host.held = [] ∧ ∀ b : Fin 64, windowed.seqs[b].state ≠ 2 ∧ windowed.seqs[b].state ≠ 4) := by decide +kernel

/-- FabricTimers: an inbound pipe of the binding with a slot freed since the last acknowledgement; pauses with and without a key; a port whose
link is up, training and down. -/
theorem wit_ack_tells :
    let s : State := { wired with cfg := [(ek 0xC200 1, 2 ^ 31)], credits := [(0, { PipeCredit.reset with taken := 2#32 })]
                                  pipes := wired.pipes.set 0 { Pipe.reset with state := 1, prodHub := true, prod := 1 } }
    s.inbound 0 false 0 = true ∧ s.freedOf 0 = 2#32 ∧ (s.freedOf 0 != (s.credit 0).returned) = true ∧ s.bindingTakes 0 = true
    ∧ wired.macsecOk 0 none = true ∧ (at_ [(ek 0xC008 4, 1)] [(ek 0xC008 5, 2)]).macsecOk 0 none = false
    ∧ (let k : List Byte := zeros 32 ++ [5#8]
       let t := at_ [(ek 0xC008 4, 1)] [(ek 0xC008 5, 2)]
       ({ t with fports := t.fports.set 0 { FPort.reset with keys := [k] } } : State).macsecOk 0 (some 5) = true) := by decide +kernel

/-- Codec: an engine with no frame, and one whose frame is past its block rows and output, with entries that wait for room. -/
theorem wit_codec_engines :
    let w : CodecWork := ⟨0, aRecord 0 0, 1, true, [], true⟩
    let s : State := coding.updEngine (engineNo 0 true) fun g => { g with work := some w }
    (coding.codecs[engineNo 0 true]).work = none ∧ (s.codecs[engineNo 0 true]).work = some w ∧ w.finished = true ∧ w.waits = true
    ∧ blockRows (s.ctx w.ctx).words ≤ w.rows ∧ (aRecord 0 0).ring = none
    ∧ (s.codecs[engineNo 0 true]).work.isSome = true := by decide +kernel

/-- KopChecks: a message of session 0 on the port, and one whose sequence stands half the range from the last. -/
theorem wit_sequences :
    (message 6).session = 0 ∧ ((4#32 : Word) + 0x80000000#32) - aSession.last = 0x80000000#32 ∧ aSession.reply.isSome = true
    ∧ (0x80000003#32 : Word) - aSession.last ≠ 0x80000000#32 ∧ seqNewer 0x80000005#32 aSession.last = false := by decide +kernel

/-- CanonicalForms, PowerInvariant: a package that has begun meets both, and its steps answer. -/
theorem wit_CanonicalForms : live.Canonical ∧ ∃ t, step { live with pending := [.ximm 0 hdr aCtl] } = .next t := by
  refine ⟨⟨rfl, rfl, fun d => ?_, fun c => ?_, fun f => ?_, rfl⟩, _, rfl⟩
  · simp [live, State.reset]; rfl
  · simp [live, State.reset, Core.reset]; rfl
  · simp [live, State.reset, Func.reset]; rfl

/-- R39 by hand: an FP32 code is stored little-endian; a four-bit element of an odd column takes its byte's high half; six-bit codes 0x2A and
0x15 side by side are the bytes 6A and 05. -/
theorem test_element_stores :
    patchCells (fun _ => (0#8, false)) [] 64 32 32 0x3F8000A5 = [(68, 0xA5#8), (69, 0#8), (70, 0x80#8), (71, 0x3F#8)]
    ∧ patchCells (fun _ => (0x0C#8, false)) [] 64 4 4 0x5 = [(64, 0x5C#8)]
    ∧ patchCells (fun _ => (0#8, false)) (patchCells (fun _ => (0#8, false)) [] 64 0 6 0x2A) 64 6 6 0x15 = [(64, 0x6A#8), (65, 0x05#8)] := by
  decide +kernel

end Sys2Proof.Tests
end

section
/-! Reductions over no active lane and over clean active lanes (R98, Table 5-3). -/

namespace Sys2Proof.Machine

/-! ### The nine reductions are one shared operation -/

theorem reducesTo_of_exec {mk : CoreId → Hdr → VecF → Instr} {g : List (Nat × FVal) → Word}
    (he : ∀ c h f s, exec (mk c h f) s = s.clocked (s.reduce (mk c h f) c h f g)) : reducesTo mk g :=
  fun c h f s hi hp => onCore_reduce (mk c h f) c h f s g hi (he c h f s) hp

/-- Each reduction completes with its own result over the clean active lanes (R95 to R98). -/
theorem reductions_reduce : holdsReductions :=
  ⟨reducesTo_of_exec exec_sumLanes, reducesTo_of_exec exec_prodLanes, reducesTo_of_exec exec_vectorMax,
    reducesTo_of_exec exec_vectorMin, reducesTo_of_exec exec_countLanes, reducesTo_of_exec exec_meanLanes,
    reducesTo_of_exec exec_varLanes, reducesTo_of_exec exec_argmax, reducesTo_of_exec exec_argmin⟩

/-! ### The tree over identities alone (R95, Table 5-3) -/

theorem lanesOr_nil (ident : FVal) : lanesOr ident [] = List.replicate 128 ident := by
  simp [lanesOr, List.map_const']

theorem treeLevel_replicate (op : FVal → FVal → FVal) (x : FVal) (n : Nat) :
    treeLevel op (List.replicate (2 * n) x) = List.replicate n (rne32v (op x x)) := by
  induction n with
  | zero => rfl
  | succ n ih => simp only [Nat.mul_succ, List.replicate_succ, treeLevel, ih]

/-- Over 128 copies of `x` the first level rounds to `y`, which the six others keep. -/
theorem treeOf_replicate {op : FVal → FVal → FVal} {x y : FVal} (hx : rne32v (op x x) = y) (hy : rne32v (op y y) = y) :
    treeOf op (List.replicate 128 x) = y := by
  have first := treeLevel_replicate op x 64
  have level := treeLevel_replicate op y
  rw [hx] at first
  rw [hy] at level
  simp only [treeOf, first, level 32, level 16, level 8, level 4, level 2, level 1, List.replicate_one, List.head?_cons,
    Option.getD_some]

theorem sumOf_nil : sumOf [] = f32 0#32 := by
  rw [sumOf, lanesOr_nil]
  exact treeOf_replicate (by decide +kernel) (by decide +kernel)

theorem prodOf_nil : treeOf prodOp (lanesOr one []) = f32 0x3F800000#32 := by
  rw [lanesOr_nil]
  exact treeOf_replicate (by decide +kernel) (by decide +kernel)

/-! ### EMPTY, bit 0 of VSTAT (R98) -/

/-- The mask that clears EMPTY takes bit 0 and no other. -/
theorem clearEmpty_getLsbD (v : Word) (b : Nat) : (v &&& 0xFFFFFFFE#32).getLsbD b = (decide (b ≠ 0) && v.getLsbD b) := by
  have mask : 0xFFFFFFFE#32 = ~~~BitVec.twoPow 32 0 := rfl
  by_cases hb : b < 32
  · simp [mask, hb, Bool.and_comm]
  · simp [BitVec.getLsbD_of_ge _ _ (Nat.le_of_not_lt hb)]

theorem clearEmpty_or_one (v : Word) : (v &&& 0xFFFFFFFE#32) ||| 1#32 = v ||| 1#32 := by
  refine BitVec.eq_of_getLsbD_eq fun b _ => ?_
  rw [BitVec.getLsbD_or, BitVec.getLsbD_or, clearEmpty_getLsbD]
  cases b with
  | zero => simp
  | succ b => simp

/-- An instruction whose whole effect is on its core leaves that core as given. -/
theorem exec_core_of_onCore {i : Instr} {c : CoreId} {s : State} {k : Core} (h : onCore i c s k) :
    ∃ t, exec i s = .next t ∧ t.cores[c] = k := by
  obtain ⟨t, ht, hc⟩ := h
  exact ⟨t, ht, by rw [hc.same.cores]; simp⟩

/-- A reduction whose result over no lane is `w` writes `w` and EMPTY when no lane is active, and clears EMPTY over clean
active lanes (R98). -/
theorem reducesTo_empty_and_clean {mk : CoreId → Hdr → VecF → Instr} {g : List (Nat × FVal) → Word} {w : Word}
    (hr : reducesTo mk g) (hw : g [] = w) (c : CoreId) (h : Hdr) (f : VecF) (s : State)
    (hi : s.issues c h clsVector false = true) :
    let k := s.cores[c]
    let act := (List.range 128).filter fun i => (k.mask f.mask).getLsbD i
    (act = [] → onCore (mk c h f) c s
      { k with x := k.x.set f.xd (w.zeroExtend 64), vstat := k.vstat ||| 1#32, pc := k.pc + 1 })
    ∧ (act ≠ [] → (∀ i ∈ act, (k.lane f.va i).poison = false) →
      ∃ t, exec (mk c h f) s = .next t ∧ t.cores[c].vstat.getLsbD 0 = false
        ∧ ∀ b, b ≠ 0 → t.cores[c].vstat.getLsbD b = k.vstat.getLsbD b) := by
  have run := hr c h f s hi
  dsimp only at run ⊢
  generalize (List.range 128).filter (fun i => (s.cores[c].mask f.mask).getLsbD i) = act at run ⊢
  constructor
  · rintro rfl
    have done := run (by simp)
    simpa only [List.map_nil, hw, List.isEmpty_nil, if_true, clearEmpty_or_one] using done
  · intro active clean
    obtain ⟨t, ht, hk⟩ := exec_core_of_onCore (run clean)
    have hv : t.cores[c].vstat = s.cores[c].vstat &&& 0xFFFFFFFE#32 := by simp [hk, active]
    refine ⟨t, ht, ?_, fun b hb => ?_⟩
    · rw [hv, clearEmpty_getLsbD, decide_eq_false (not_not_intro rfl), Bool.false_and]
    · rw [hv, clearEmpty_getLsbD, decide_eq_true hb, Bool.true_and]

/-- Settles O60: every reduction is the shared one, and over no lane each gives Table 5-3's value. -/
theorem emptyReductions : Obligations.EmptyReductions := by
  unfold Obligations.EmptyReductions
  intro c h f s hi k act p hp
  obtain ⟨sum, prod, max, min, count, mean, var, argmax, argmin⟩ := reductions_reduce
  simp only [List.mem_cons, List.not_mem_nil, or_false] at hp
  obtain rfl | rfl | rfl | rfl | rfl | rfl | rfl | rfl | rfl := hp
  · exact reducesTo_empty_and_clean sum (by rw [sumOf_nil]; decide +kernel) c h f s hi
  · exact reducesTo_empty_and_clean prod (by rw [prodOf_nil]; decide +kernel) c h f s hi
  · exact reducesTo_empty_and_clean max (by decide +kernel) c h f s hi
  · exact reducesTo_empty_and_clean min (by decide +kernel) c h f s hi
  · exact reducesTo_empty_and_clean count rfl c h f s hi
  · exact reducesTo_empty_and_clean mean (by decide +kernel) c h f s hi
  · exact reducesTo_empty_and_clean var (by decide +kernel) c h f s hi
  · exact reducesTo_empty_and_clean argmax rfl c h f s hi
  · exact reducesTo_empty_and_clean argmin rfl c h f s hi

end Sys2Proof.Machine
end

section
/-! An instruction that is predicated off: whatever its class, only the shared issue is left of it (R133). -/

namespace Sys2Proof.Machine

/-! ### What an instruction does before its issue is for one that executes -/

/-- An instruction with a reason of its own to be held back is its effect alone where that reason does not hold. -/
theorem clocked_holdBack_unless {s t : State} {c : CoreId} {i : Instr} {waits : Bool} (hw : waits = false)
    (he : exec i s = s.clocked (if waits then s.holdBack c i else t)) : exec i s = s.clocked t := by
  rw [he, hw, if_neg Bool.false_ne_true]

section
variable {s : State} {c : CoreId} {h : Hdr} (hx : s.executes c h = false)
include hx

/-- Ranges of the core buffer hold back only an instruction that executes (R143). -/
theorem State.issueOver_of_not_executes (i : Instr) (cls : Nat) (sp : Spans) (body : State → State) :
    s.issueOver i c h cls sp body = s.issue i c h cls false body := by
  simp [State.issueOver, hx]

/-- Bytes still in a core's hands hold back only an instruction that executes (R256). -/
theorem State.tailWaits_of_not_executes (n : Fin 1024) : s.tailWaits c h n = false := by
  simp [State.tailWaits, hx]

/-- A full shadow copy holds back only a table load that executes (R57). -/
theorem State.tableLoad_of_not_executes (i : Instr) (op : Nat) (f : TabF) (n : Nat) (busy : Bool) (bad : List Byte → Option Stop)
    (fill : List Byte → Core → Core) :
    ∃ body, s.tableLoad i c h op f n busy bad fill = s.issue i c h clsTable false body := by
  simp only [State.tableLoad, hx, Bool.and_false, Bool.false_eq_true, if_false, State.issueOver_of_not_executes hx]
  exact ⟨_, rfl⟩

theorem clocked_issue_of_issueOver {i : Instr} {cls : Nat} {sp : Spans} {body : State → State}
    (he : exec i s = s.clocked (s.issueOver i c h cls sp body)) : exec i s = s.clocked (s.issue i c h cls false body) := by
  rw [he, State.issueOver_of_not_executes hx]

/-- An instruction that does not execute is its issue alone: what holds of every such issue holds of every tile instruction. -/
theorem everyTile_of_issue {P : Instr → Prop}
    (hP : ∀ i cls all body, exec i s = s.clocked (s.issue i c h cls all body) → P i) : everyTile c h P := by
  have ranges : ∀ {i cls sp body}, exec i s = s.clocked (s.issueOver i c h cls sp body) → P i := fun he =>
    hP _ _ _ _ (clocked_issue_of_issueOver hx he)
  have load : ∀ {i op f n busy bad fill}, exec i s = s.clocked (s.tableLoad i c h op f n busy bad fill) → P i := fun he => by
    obtain ⟨body, hb⟩ := State.tableLoad_of_not_executes hx _ _ _ _ _ _ _
    exact hP _ _ _ body (by rw [he, hb])
  have waits : ∀ {p : Bool}, (p && s.executes c h) = false := by simp [hx]
  unfold everyTile
  simp only [List.forall_mem_cons, List.not_mem_nil, false_implies, implies_true, and_true]
  refine ⟨fun f => ?sweeps, fun f => ?accops, fun f => ?chains, fun f => ?vectors, fun f => ?moves, fun f => ?window,
    fun f => ?tables, fun f => ?syncs, fun f => ?randoms, fun f => ?controls, ?preempt, fun f => ?censuses⟩
  case sweeps => and_intros <;> exact ranges rfl
  case accops => and_intros <;> exact ranges rfl
  case chains => and_intros <;> exact hP _ _ _ _ rfl
  case vectors => and_intros <;> exact hP _ _ _ _ rfl
  case moves => and_intros <;> exact hP _ _ _ _ rfl
  case window => exact hP _ _ _ _ rfl
  case tables => and_intros <;> exact load rfl
  case syncs => and_intros <;> exact hP _ _ _ _ rfl
  case randoms => and_intros <;> exact hP _ _ _ _ rfl
  case controls =>
    have xget : P (.xget c h f) := hP _ _ _ _ (clocked_holdBack_unless waits (exec_xget c h f s))
    and_intros
    iterate 9 exact hP _ _ _ _ rfl
    exact xget
  case preempt => exact hP _ _ _ _ (clocked_holdBack_unless waits (exec_preempt c h s))
  case censuses =>
    have store : P (.censusStore c h f) := ranges (clocked_holdBack_unless
      (by rw [State.tailWaits_of_not_executes hx, Bool.and_false]) (exec_censusStore c h f s))
    exact ⟨ranges (exec_attach c h f s), ranges (exec_detach c h f s), ranges (exec_censusScan c h f s), store,
      ranges (exec_censusClear c h f s), ranges (exec_seal c h f s)⟩

end

/-! ### The issue of an instruction that is predicated off -/

/-- A core at a loaded and readable word runs a program, holds no instruction back, and the header's predicate is off (R133). -/
structure State.IssuesOff (s : State) (c : CoreId) (h : Hdr) : Prop where
  clocks : s.power.clocks = true
  runs : s.runs c = true
  held : s.cores[c].held = []
  loaded : s.cores[c].pc < s.cores[c].loaded
  readable : s.cores[c].progBad.contains s.cores[c].pc = false
  off : hdrOff h (s.xr c h.xp) = true

namespace State.IssuesOff
variable {s : State} {c : CoreId} {h : Hdr} (o : s.IssuesOff c h)
include o

theorem not_executes : s.executes c h = false := by simp [State.executes, o.off]

/-- It waits for nothing but its Xp. -/
theorem canIssue (cls : Nat) (all : Bool) : s.canIssue c h cls all = true := by
  simp only [State.canIssue, o.runs, o.held, o.off, List.isEmpty_nil, Bool.true_or, Bool.and_self]

/-- Its issue only counts it and goes on to the next word. -/
theorem issue_eq (i : Instr) (cls : Nat) (all : Bool) (body : State → State) :
    s.issue i c h cls all body = (s.countIssued c).advance c := by
  simp only [State.issue, o.canIssue, o.readable, o.off, Nat.not_le_of_lt o.loaded, Bool.not_true, Bool.false_eq_true, if_false, if_true]

/-- An instruction that is its issue alone changes nothing but the next word. -/
theorem onCore_advance {i : Instr} {cls : Nat} {all : Bool} {body : State → State}
    (he : exec i s = s.clocked (s.issue i c h cls all body)) : onCore i c s { s.cores[c] with pc := s.cores[c].pc + 1 } :=
  onCore_of (g := fun k => { k with pc := k.pc + 1 }) (by rw [he, o.issue_eq, State.clocked_of o.clocks]; rfl)

end State.IssuesOff

/-- Settles O19: what holds an instruction back, but for Xp, asks first whether it executes; its issue then only takes the cycle. -/
theorem predicatedOff : Obligations.PredicatedOff := by
  unfold Obligations.PredicatedOff
  intro c h s clocks run launch held loaded readable pred xp
  have off : hdrOff h (s.xr c h.xp) = true := by
    cases hn : h.pneg <;> simpa [hdrOff, State.xr, pred, hn] using xp
  have o : s.IssuesOff c h := ⟨clocks, by rw [State.runs, run, launch]; rfl, held, loaded, readable, off⟩
  exact everyTile_of_issue o.not_executes fun _ _ _ _ he => o.onCore_advance he

end Sys2Proof.Machine
end

section
/-! Poison that would reach an index or a descriptor register stops the instruction before it writes (R101, R139). -/

namespace Sys2Proof.Machine

theorem State.checked_of_stop (s : State) (c : CoreId) {l : List (Option Stop)} {e : Stop} (eff : State → State)
    (h : firstStop l = some e) : s.checked c l eff = s.stopProgram c e.1 e.2 := by
  simp [State.checked, h]

/-- The one check of a result that an index register cannot hold poisoned (R139). -/
theorem State.checked_poisonedX (s : State) (c : CoreId) {b : Bool} (word reg : Nat) (eff : State → State) (hb : b = true) :
    s.checked c [stopIf b (poisonedX word reg)] eff = s.stopProgram c 0x0704 [(word, 2), (reg, 1)] :=
  s.checked_of_stop c (e := poisonedX word reg) eff (by rw [hb]; rfl)

/-! ### Reductions and scans -/

/-- A reduction over a poisoned active lane stops (R101). -/
theorem exec_reduce_of_poison {i : Instr} {c : CoreId} {h : Hdr} {f : VecF} {s : State} {g : List (Nat × FVal) → Word}
    (hi : s.issues c h clsVector false = true) (he : exec i s = s.clocked (s.reduce i c h f g))
    (hp : ((List.range 128).any fun i => (s.cores[c].mask f.mask).getLsbD i && (s.cores[c].lane f.va i).poison) = true) :
    exec i s = .next (s.ends ((s.countIssued c).stopProgram c 0x0704 [(s.cores[c].pc, 2), (f.xd.val, 1)])) := by
  rw [he, State.reduce, State.clocked_issue i hi, State.checked_poisonedX]
  · rw [State.countIssued_wordOf]; rfl
  · rw [List.any_filter, State.countIssued_cores]; exact hp

/-- A scan of a poisoned last lane stops (R139). -/
theorem scanPoisonAs_of_exec {mk : CoreId → Hdr → VecF → Instr} {excl : Bool} {ident : Word} {op : VecF → ScanOp}
    (he : ∀ c h f s, exec (mk c h f) s = s.clocked (s.scan (mk c h f) c h f excl ident (op f))) : scanPoisonAs mk excl ident op := by
  intro c h f s hi k mask hp
  rw [he, State.scan, State.clocked_issue _ hi, State.checked_poisonedX]
  · rw [State.countIssued_wordOf]; rfl
  · rw [State.countIssued_cores]; exact hp

theorem reductionStops : holdsReductionStops := by
  intro c h f s hi hp
  simp only [List.forall_mem_cons, List.not_mem_nil, false_implies, implies_true, and_true]
  and_intros <;> exact exec_reduce_of_poison hi rfl hp

/-! ### A read of words that carry the poison marker -/

/-- A listed key reads as one of its listed values. -/
theorem Sparse.get_mem {α : Type} (d : α) (m : Sparse α) {p : Nat × α} (hp : p ∈ m) : (p.1, Sparse.get d m p.1) ∈ m := by
  induction m with
  | nil => cases hp
  | cons q m ih =>
    by_cases hq : q.1 = p.1
    · rw [Sparse.get, if_pos hq, ← hq]; exact List.mem_cons_self
    · rw [Sparse.get, if_neg hq]
      obtain rfl | hp := List.mem_cons.mp hp
      · exact absurd rfl hq
      · exact List.mem_cons_of_mem q (ih hp)

theorem State.resolveWord_of_poisoned (s : State) (p : Place) (w : Nat) (hw : Sparse.get 0 (s.mem p).marks w = 3) :
    s.resolveWord p w = s := by
  simp only [State.resolveWord, hw]

/-- A word that already carries the marker stays as it is: a range whose marked words all do is read without a change. -/
theorem State.resolve_of_poisoned (s : State) (p : Place) (a n : Nat)
    (hm : ∀ k ∈ (s.mem p).marks, a < 16 * k.1 + 16 ∧ 16 * k.1 < a + n → k.2 = 3) : s.resolve p a n = s := by
  refine List.foldlRecOn (motive := (· = s)) _ _ rfl ?_
  rintro _ rfl w hw
  obtain ⟨k, hk, rfl⟩ := List.mem_map.mp hw
  obtain ⟨hk, hin⟩ := List.mem_filter.mp hk
  exact State.resolveWord_of_poisoned _ p _ (hm _ (Sparse.get_mem 0 _ hk) (of_decide_eq_true hin))

/-! ### LDX and LDDESC -/

@[simp] theorem State.markChecked_buf (s : State) (c : CoreId) (r : DReg) : (s.markChecked c r).cores[c].buf = s.cores[c].buf := by
  simp [State.markChecked]

@[simp] theorem State.markChecked_wordOf (s : State) (c : CoreId) (r : DReg) : (s.markChecked c r).wordOf c = s.wordOf c := by
  simp [State.wordOf, State.markChecked]

@[simp] theorem State.markChecked_regAddr (s : State) (c : CoreId) (r d : DReg) (f : MoveF) :
    (s.markChecked c r).regAddr c d f = s.regAddr c d f := by
  simp [State.regAddr, State.desc, State.xi, State.xr, State.markChecked]

theorem State.countIssued_regAddr (s : State) (c : CoreId) (d : DReg) (f : MoveF) :
    (s.countIssued c).regAddr c d f = formAddr s c d f := by
  simp only [State.regAddr, State.countIssued_desc, State.xi, State.countIssued_xr]; rfl

section
variable {s : State} {c : CoreId} {d : DReg} {f : MoveF} {n : Nat}
  (hp : poisonedRange s.cores[c].buf (s.regAddr c d f).toNat n)
include hp

/-- A form's read of a poisoned range changes nothing but the mark of its checked descriptor. -/
theorem State.regOpen_of_poisoned : s.regOpen c d f n = s.markChecked c d := by
  refine State.resolve_of_poisoned _ _ _ _ ?_
  simp only [State.mem, State.markChecked_buf]
  exact hp.1

/-- The bytes of a poisoned range are poisoned. -/
theorem State.regBytes_poisoned : ((s.regBytes c d f n).any Prod.snd) = true := by
  obtain ⟨i, hi, hr⟩ := hp.2
  exact List.any_eq_true.mpr ⟨_, List.mem_map_of_mem (List.mem_range.mpr hi), hr⟩

/-- A load of poison into a register stops with the word and the register once its descriptor has passed (R139). -/
theorem State.checked_regPoison (eff : State → State) :
    (s.regOpen c d f n).checked c [(s.regOpen c d f n).regPoison c d f n] eff
      = (s.markChecked c d).stopProgram c 0x0704 [(s.wordOf c, 2), (f.reg.val, 1)] := by
  have bytes : ((s.markChecked c d).regBytes c d f n).any Prod.snd = true :=
    State.regBytes_poisoned (by simpa only [State.markChecked_buf, State.markChecked_regAddr] using hp)
  rw [State.regOpen_of_poisoned hp, State.regPoison, State.checked_poisonedX _ _ _ _ _ bytes, State.markChecked_wordOf]

end

/-- A form that reads poison into a register, its own checks passed (R137, R139). -/
theorem exec_load_of_poison {i : Instr} {c : CoreId} {h : Hdr} {f : MoveF} {s : State} {n : Nat}
    {stops : State → List (Option Stop)} {eff : State → State} (hi : s.issues c h clsMove false = true)
    (he : exec i s = s.clocked (s.issue i c h clsMove false fun s =>
      match firstStop (stops s) with
      | some e => s.stopProgram c e.1 e.2
      | none => (s.regOpen c f.ds f n).checked c [(s.regOpen c f.ds f n).regPoison c f.ds f n] eff))
    (hp : poisonedRange s.cores[c].buf (formAddr s c f.ds f).toNat n) (hs : passes (stops (s.countIssued c)) = true) :
    exec i s = .next (s.ends (((s.countIssued c).markChecked c f.ds).stopProgram c 0x0704
      [(s.cores[c].pc, 2), (f.reg.val, 1)])) := by
  have passed : firstStop (stops (s.countIssued c)) = none := Option.isNone_iff_eq_none.mp hs
  have range : poisonedRange (s.countIssued c).cores[c].buf ((s.countIssued c).regAddr c f.ds f).toNat n := by
    rw [State.countIssued_regAddr, State.countIssued_cores]; exact hp
  rw [he, State.clocked_issue i hi]
  simp only [passed]
  rw [State.checked_regPoison range, State.countIssued_wordOf]; rfl

/-- Settles O59: the one check of each instruction fails on the poison, before its effect. -/
theorem poisonedResults : Obligations.PoisonedResults := by
  unfold Obligations.PoisonedResults
  refine ⟨fun c h f s hi => ⟨fun hp hs => ?_, fun hp hs => ?_⟩, reductionStops,
    scanPoisonAs_of_exec exec_scanInclFadd, scanPoisonAs_of_exec exec_scanInclFmax, scanPoisonAs_of_exec exec_scanInclFmin,
    scanPoisonAs_of_exec exec_scanInclIadd, scanPoisonAs_of_exec exec_scanExclFadd, scanPoisonAs_of_exec exec_scanExclFmax,
    scanPoisonAs_of_exec exec_scanExclFmin, scanPoisonAs_of_exec exec_scanExclIadd⟩
  · exact exec_load_of_poison hi (exec_ldx c h f s) hp hs
  · exact exec_load_of_poison hi (exec_lddesc c h f s) hp hs

end Sys2Proof.Machine
end

section
/-! Writes to result slots: the release of a final slot, and every other write, ignored and counted (R293). -/

namespace Sys2Proof.Machine

/-! ### A write that is no release -/

/-- It only counts, so every slot is as before. -/
@[simp] theorem State.staleRelease_results (s : State) (r : Nat) : (s.staleRelease r).results = s.results := by
  unfold State.staleRelease
  split
  · exact (s.reported_countFor ..).results
  · rfl

theorem State.releaseSlot_of_stale {s : State} {r : Nat} {value : Word}
    (h : (s.rslot r).state < 2 ∨ value ≠ (s.rslot r).w[0]) : s.releaseSlot r value = s.staleRelease r := by
  refine if_neg fun ⟨final, gen⟩ => ?_
  obtain unfinished | other := h
  · exact Nat.not_le_of_lt unfinished final
  · exact other gen

/-! ### The release -/

/-- A slot released: its words kept, the state of W1 cleared. -/
def RSlot.released (x : RSlot) : RSlot := ⟨x.w.set 1 (x.w[1] &&& 0x0FFFFFFF#32)⟩

theorem State.releaseSlot_of_final {s : State} {r : Nat} {value : Word} (final : 2 ≤ (s.rslot r).state)
    (gen : value = (s.rslot r).w[0]) : s.releaseSlot r value = s.setRslot r (s.rslot r).released :=
  if_pos ⟨final, gen⟩

@[simp] theorem RSlot.released_state (x : RSlot) : x.released.state = 0 := by
  have low : (x.w[1] &&& 0x0FFFFFFF#32).toNat ≤ 0x0FFFFFFF := by
    rw [BitVec.toNat_and]
    exact Nat.and_le_right
  simp only [RSlot.state, RSlot.released, Vector.getElem_set_self]
  omega

theorem RSlot.released_w (x : RSlot) {i : Fin 16} (hi : i.val ≠ 1) : x.released.w[i] = x.w[i] :=
  Vector.getElem_set_ne (by decide) _ hi.symm

/-- A slot replaced is the whole effect. -/
theorem State.ends_setRslot (s : State) (r : Nat) (x : RSlot) : s.ends (s.setRslot r x) = s.setRslot r x :=
  State.ends_eq rfl rfl rfl

theorem State.rslot_setRslot_self {s : State} (r : Nat) (x : RSlot) (hw : Sparse.wf RSlot.reset s.results = true) :
    (s.setRslot r x).rslot r = x :=
  Sparse.get_set_self _ _ _ _ (Bool.and_eq_true_iff.mp hw).1

theorem State.rslot_setRslot_ne (s : State) (x : RSlot) {r q : Nat} (h : q ≠ r) : (s.setRslot r x).rslot q = s.rslot q :=
  Sparse.get_set_ne _ _ _ _ _ h

/-! ### The place of a slot in BAR0 (R325, Table 17-3) -/

theorem State.slotSeen_lt {s : State} {fn : FnNo} {r : Nat} (h : s.slotSeen fn r = true) : r < 4096 :=
  of_decide_eq_true (Bool.and_eq_true_iff.mp h).1

/-- The first slot of a function's result window. -/
def State.firstSlot (s : State) (fn : FnNo) : Nat := if fn = 0 then 0 else s.cfgAt (ek 0x2024 fn.val)

/-- A window shows no slot before its first. -/
theorem State.firstSlot_le {s : State} {fn : FnNo} {r : Nat} (h : s.slotSeen fn r = true) : s.firstSlot fn ≤ r := by
  by_cases hf : fn = 0
  · simp [State.firstSlot, hf]
  · have pos : fn.val - 1 + 1 = fn.val := by have := Fin.val_ne_zero_iff.mpr hf; omega
    have seen : s.cfgAt (ek 0x2024 fn.val) ≤ r := by
      simp only [State.slotSeen, State.slotIn, beq_eq_false_iff_ne.mpr hf, Bool.false_or, Bool.and_eq_true,
        decide_eq_true_eq, pos] at h
      exact h.2.1
    rwa [State.firstSlot, if_neg hf]

/-- The result slots are past the registers and the mailbox, and a function's window holds the places of 4,096 of them. -/
theorem State.writeBar0_results (s : State) (fn : FnNo) {rel : Nat} (bs : List Byte) (h : rel < 0x40000) :
    s.writeBar0 fn (bar0Results fn + rel) bs = s.writeSlots fn rel bs := by
  have base : 0x40000 ≤ bar0Results fn := by unfold bar0Results; split <;> decide
  have registers : ¬ bar0Results fn + rel < 0x1000 := by omega
  have mailbox : ¬ (bar0Request fn ≤ bar0Results fn + rel ∧ bar0Results fn + rel < bar0Request fn + 0x10000) := by
    unfold bar0Request; omega
  have results : bar0Results fn ≤ bar0Results fn + rel ∧ bar0Results fn + rel < bar0Results fn + 0x40000 := by omega
  rw [State.writeBar0, if_neg registers, if_neg mailbox, if_pos results, Nat.add_sub_cancel_left]

/-- A write at a slot's place that is not a dword at its W0 is no release. -/
theorem State.writeSlots_of_stale {s : State} {fn : FnNo} {r k : Nat} {bs : List Byte} (seen : s.slotSeen fn r = true)
    (hk : k < 64) (h : k ≠ 0 ∨ bs.length ≠ 4) :
    s.writeSlots fn (64 * (r - s.firstSlot fn) + k) bs = s.staleRelease r := by
  have slot : s.firstSlot fn + (64 * (r - s.firstSlot fn) + k) / 64 = r := by have := State.firstSlot_le seen; omega
  have noRelease : ¬ ((64 * (r - s.firstSlot fn) + k) % 64 = 0 ∧ bs.length = 4) := by omega
  rw [State.firstSlot] at slot noRelease ⊢
  simp only [State.writeSlots, slot, seen, Bool.not_true, Bool.false_eq_true, if_false, if_neg noRelease]

/-! ### The commands -/

/-- A function's BAR0 takes a write that came in a way IDE accepts (R324, R333). -/
structure State.TakesBar0 (s : State) (fn : FnNo) (secure : Bool) : Prop where
  clocks : s.power.clocks = true
  present : s.fnExists fn = true
  assigned : s.barOn fn 0 = true
  accepted : s.ideOk fn secure = true

namespace State.TakesBar0
variable {s : State} {fn : FnNo} {secure : Bool} (b : s.TakesBar0 fn secure)
include b

theorem exec_release {r : Nat} (seen : s.slotSeen fn r = true) (value : Word) :
    exec (.resultSlotRelease fn r value secure) s = .next (s.ends (s.releaseSlot r value)) := by
  rw [exec_resultSlotRelease, execResultSlotRelease, State.clocked_of b.clocks]
  simp only [b.present, b.assigned, b.accepted, seen, Bool.not_true, Bool.false_eq_true, if_false]

theorem exec_write (off : Nat) (bs : List Byte) :
    exec (.registerWrite fn (.bar0 off) bs secure) s = .next (s.ends (s.writeBar0 fn off bs)) := by
  rw [exec_registerWrite, execRegisterWrite, State.clocked_of b.clocks]
  simp only [b.present, b.assigned, b.accepted, Bool.not_true, Bool.false_eq_true, if_false]

end State.TakesBar0

/-- Settles O35: the current generation of a final slot replaces that slot alone; every other write is `State.staleRelease`. -/
theorem slotRelease : Obligations.SlotRelease := by
  unfold Obligations.SlotRelease
  intro fn r value secure s clocks hfn bar ide seen ignored first
  have b : s.TakesBar0 fn secure := ⟨clocks, hfn, bar, ide⟩
  have stale : s.staleRelease r = ignored := rfl
  have release := b.exec_release seen value
  refine ⟨fun final gen => ?released, fun h => ?stale, fun k bs hk h _ => ?otherPlace⟩
  case released =>
    rw [State.releaseSlot_of_final final gen, State.ends_setRslot] at release
    refine ⟨_, release, rfl, fun hw => ?_, fun q hq => State.rslot_setRslot_ne s _ hq⟩
    rw [State.rslot_setRslot_self r _ hw]
    exact ⟨RSlot.released_state _, fun _ hi => RSlot.released_w _ hi⟩
  case stale =>
    rw [State.releaseSlot_of_stale h] at release
    exact ⟨fun _ => stale ▸ release, _, release, by rw [State.ends_results, State.staleRelease_results]⟩
  case otherPlace =>
    have inWindow : 64 * (r - s.firstSlot fn) + k < 0x40000 := by have := State.slotSeen_lt seen; omega
    rw [← stale, ← State.writeSlots_of_stale seen hk h, ← State.writeBar0_results s fn bs inWindow, ← Nat.add_assoc]
    exact b.exec_write _ bs

end Sys2Proof.Machine
end

section
/-! What every operation of the model keeps: the queue, power and gating, and the canonical form of the memories, of the frames being
assembled and of the result slots (R236, R282, R293, R425). -/

set_option Elab.async false
namespace Sys2Proof.Machine

/-- A state reached from another with its queue, its power and gating, and its canonical form kept. -/
structure State.Keeps (s₀ s : State) : Prop where
  pending : s.pending = s₀.pending
  power : s.power = s₀.power
  canonical : s₀.Canonical → s.Canonical

/-- The fields that the relation speaks of. -/
def State.kept (s : State) : List Instr × Power × Mem × Mem × Vector Mem 4 × Vector Core 52 × Vector Func 17 × Sparse RSlot :=
  (s.pending, s.power, s.hbm, s.hubBuf, s.dieBuf, s.cores, s.funcs, s.results)

/-! ### What the operations of a core leave in its buffer -/

@[simp] theorem Core.buf_orStat (k : Core) (b : Word) : (k.orStat b).buf = k.buf := rfl
@[simp] theorem Core.buf_setEmpty (k : Core) (b : Bool) : (k.setEmpty b).buf = k.buf := rfl
@[simp] theorem Core.buf_setLane (k : Core) (v i : Nat) (l : Lane) : (k.setLane v i l).buf = k.buf := rfl
@[simp] theorem Core.buf_putWord (k : Core) (w : Nat) (bs : List (Byte × Bool)) : (k.putWord w bs).buf = k.buf := rfl

@[simp] theorem Core.buf_setMask (k : Core) (m : MReg) (v : BitVec 128) : (k.setMask m v).buf = k.buf := by
  unfold Core.setMask
  split <;> rfl

@[simp] theorem Core.buf_setState (k : Core) (v i : Nat) (x : FVal) (p : Bool) : (k.setState v i x p).buf = k.buf := by
  unfold Core.setState
  dsimp only
  split <;> rfl

theorem Core.load_buf_wf (k : Core) (free : Nat) (rd : Nat → Byte × Bool) : (k.load free rd).buf.wf = true := by
  unfold Core.load
  exact imageBuffer_wf rd

/-- A fold of operations that leave the buffer leaves it. -/
theorem Core.buf_foldl {α β : Type} {g : β → Core} {f : β → α → β} (l : List α) (b : β) (hf : ∀ b a, (g (f b a)).buf = (g b).buf) :
    (g (l.foldl f b)).buf = (g b).buf := by
  induction l generalizing b with
  | nil => rfl
  | cons a l ih => exact (ih (f b a)).trans (hf b a)

theorem smaxRow_buf (k : Core) (p1 : Bool) (b : Nat) (mask : BitVec 128) (a i : Nat) (row : List Cell) :
    (smaxRow k p1 b mask a i row).2.1.buf = k.buf := by
  unfold smaxRow
  dsimp only
  split <;> simp only [Core.buf_setState]

theorem centreRow_buf (k : Core) (b : Nat) (mask : BitVec 128) (a i : Nat) (row : List Cell) :
    (centreRow k b mask a i row).2.buf = k.buf := by
  unfold centreRow
  simp only [Core.buf_setState]

theorem rowStage_buf (f : ChainF) (k : Core) (mask : BitVec 128) (a i : Nat) (row : List Cell) :
    (f.rowStage k mask a i row).buf = k.buf := by
  unfold ChainF.rowStage
  dsimp only
  split
  · rfl
  · split <;> split <;> split <;> simp only [Core.buf_setState]

theorem fnStage_buf (f : ChainF) (k : Core) (lo hi : Lane) (mask : BitVec 128) (real : Nat → Bool) (a i : Nat) (row : List Cell) :
    (f.fnStage k lo hi mask real a i row).2.1.buf = k.buf := by
  unfold ChainF.fnStage
  dsimp only
  split
  · split <;> rfl
  · exact smaxRow_buf ..
  · exact centreRow_buf ..
  · rfl
  · rfl

theorem chainStages_buf (f : ChainF) (start k : Core) (lo hi : Lane) (k0 : FVal) (res : Nat → FVal × Bool) (real : Nat → Bool)
    (a i : Nat) (row : List Cell) : (f.stages start k lo hi k0 res real a i row).2.1.buf = k.buf := by
  unfold ChainF.stages
  dsimp only
  split <;> exact (rowStage_buf ..).trans (fnStage_buf ..)

namespace State.Keeps

theorem refl (s : State) : s.Keeps s := ⟨rfl, rfl, id⟩

theorem trans {s₀ s t : State} (h : s₀.Keeps s) (k : s.Keeps t) : s₀.Keeps t :=
  ⟨k.pending.trans h.pending, k.power.trans h.power, k.canonical ∘ h.canonical⟩

/-- A change of other fields. -/
theorem keep {s₀ s t : State} (h : s₀.Keeps s) (e : t.kept = s.kept := by unfold State.kept; rfl) : s₀.Keeps t := by
  simp only [State.kept, Prod.mk.injEq] at e
  obtain ⟨pending, power, hbm, hub, dies, cores, funcs, results⟩ := e
  refine ⟨pending.trans h.pending, power.trans h.power, fun hr => ?_⟩
  have hs := h.canonical hr
  exact ⟨hbm ▸ hs.hbm, hub ▸ hs.hub, dies ▸ hs.dies, cores ▸ hs.cores, funcs ▸ hs.frames, results ▸ hs.results⟩

theorem ite {s₀ s t : State} {c : Prop} [Decidable c] (hs : s₀.Keeps s) (ht : s₀.Keeps t) : s₀.Keeps (if c then s else t) := by
  split <;> assumption

theorem iteFst {α : Type} {s₀ : State} {c : Prop} [Decidable c] {p q : State × α} (hp : s₀.Keeps p.1) (hq : s₀.Keeps q.1) :
    s₀.Keeps (if c then p else q).1 := by
  split <;> assumption

theorem iteSnd {α : Type} {s₀ : State} {c : Prop} [Decidable c] {p q : α × State} (hp : s₀.Keeps p.2) (hq : s₀.Keeps q.2) :
    s₀.Keeps (if c then p else q).2 := by
  split <;> assumption

theorem dite {s₀ : State} {c : Prop} [Decidable c] {s : c → State} {t : ¬c → State} (hs : ∀ h, s₀.Keeps (s h)) (ht : ∀ h, s₀.Keeps (t h)) :
    s₀.Keeps (if h : c then s h else t h) := by
  split
  · exact hs _
  · exact ht _

theorem foldl {α : Type} {s₀ s : State} {f : State → α → State} {l : List α} (h : s₀.Keeps s)
    (hf : ∀ t a, s₀.Keeps t → s₀.Keeps (f t a)) : s₀.Keeps (l.foldl f s) := by
  induction l generalizing s with
  | nil => exact h
  | cons a l ih => exact ih (hf s a h)

theorem fst_mk {α : Type} {s₀ s : State} {x : α} (h : s₀.Keeps s) : s₀.Keeps (s, x).1 := h
theorem snd_mk {α : Type} {s₀ s : State} {x : α} (h : s₀.Keeps s) : s₀.Keeps (x, s).2 := h

/-- A fold whose accumulator has the state as its first part. -/
theorem foldlFst {α β : Type} {s₀ : State} {s : State × β} {f : State × β → α → State × β} {l : List α} (h : s₀.Keeps s.1)
    (hf : ∀ t a, s₀.Keeps t.1 → s₀.Keeps (f t a).1) : s₀.Keeps (l.foldl f s).1 := by
  induction l generalizing s with
  | nil => exact h
  | cons a l ih => exact ih (hf s a h)

/-- A fold whose accumulator has the state as its second part. -/
theorem foldlSnd {α β : Type} {s₀ : State} {s : β × State} {f : β × State → α → β × State} {l : List α} (h : s₀.Keeps s.2)
    (hf : ∀ t a, s₀.Keeps t.2 → s₀.Keeps (f t a).2) : s₀.Keeps (l.foldl f s).2 := by
  induction l generalizing s with
  | nil => exact h
  | cons a l ih => exact ih (hf s a h)

end State.Keeps

/-! ### Answers that hold a state -/

/-- The state an operation may answer with, where it is not refused, is kept to. -/
def State.KeepsOk {ε : Type} (s₀ : State) : Except ε State → Prop
  | .ok t => s₀.Keeps t
  | .error _ => True

theorem State.KeepsOk.checkAll {s₀ : State} {l : List (Bool × Nat)} {k : Except Refused State} (h : s₀.KeepsOk k) :
    s₀.KeepsOk (checkAll l k) := by
  unfold Machine.checkAll
  split
  · trivial
  · exact h

/-- The state a message's front comes to, where it is not served, is kept to. -/
def State.KeepsFront (s₀ : State) : Front → Prop
  | .done t => s₀.Keeps t
  | .serve _ => True

/-- The state a value written comes to is kept to. -/
def State.KeepsWritten (s₀ : State) : Written → Prop
  | .refused t _ => s₀.Keeps t
  | .piece t => s₀.Keeps t
  | .whole t _ _ => s₀.Keeps t

/-- The state a piece of a value comes to is kept to. -/
def State.KeepsPiece (s₀ : State) : Except State (State × Option (List Byte)) → Prop
  | .ok p => s₀.Keeps p.1
  | .error t => s₀.Keeps t

/-! ### The updates that write what the relation speaks of -/

/-- An element replaced keeps what holds of every element. -/
theorem forall_getElem_set {α : Type} {n : Nat} {v : Vector α n} {P : α → Prop} (h : ∀ i : Fin n, P v[i]) {a : α} (ha : P a) {i : Nat}
    (hi : i < n) (j : Fin n) : P (v.set i a)[j] := by
  rw [Fin.getElem_fin, Vector.getElem_set]
  split
  · exact ha
  · exact h j

/-- An element replaced by one that is like it where it matters. -/
theorem forall_getElem_update {α : Type} {n : Nat} {v : Vector α n} {P : α → Prop} (h : ∀ i : Fin n, P v[i]) {i : Fin n} {a : α}
    (ha : P v[i] → P a) (j : Fin n) : P (v.set i a)[j] := forall_getElem_set h (ha (h i)) i.isLt j

namespace State.Keeps
variable {s₀ s : State} (h : s₀.Keeps s)
include h

/-- A change of a core that keeps its buffer in canonical form. -/
theorem updCoreWf {c : CoreId} {g : Core → Core} (hg : (s.cores[c]).buf.wf = true → (g s.cores[c]).buf.wf = true) :
    s₀.Keeps (s.updCore c g) where
  pending := h.pending
  power := h.power
  canonical hr :=
    let hs := h.canonical hr
    { hs with cores := forall_getElem_update (P := fun k : Core => k.buf.wf = true) hs.cores hg }

/-- A change of a core beside its buffer. -/
theorem updCore {c : CoreId} {g : Core → Core} (hg : (g s.cores[c]).buf = (s.cores[c]).buf := by rfl) : s₀.Keeps (s.updCore c g) :=
  h.updCoreWf fun hk => by rw [hg]; exact hk

/-- A change of a function that keeps its frames in canonical form. -/
theorem updFuncWf {f : FnNo} {g : Func → Func}
    (hg : Sparse.wf 0#8 (s.funcs[f]).frames = true → Sparse.wf 0#8 (g s.funcs[f]).frames = true) : s₀.Keeps (s.updFunc f g) where
  pending := h.pending
  power := h.power
  canonical hr :=
    let hs := h.canonical hr
    { hs with frames := forall_getElem_update (P := fun k : Func => Sparse.wf 0#8 k.frames = true) hs.frames hg }

/-- A change of a function beside its frames. -/
theorem updFunc {f : FnNo} {g : Func → Func} (hg : (g s.funcs[f]).frames = (s.funcs[f]).frames := by rfl) : s₀.Keeps (s.updFunc f g) :=
  h.updFuncWf fun hf => by rw [hg]; exact hf

/-- Every function as a link that went down leaves it (R334), other fields changed beside it. -/
theorem linkReset {t : State} (ht : t.funcs = s.funcs.map Func.linkReset)
    (e : { t with funcs := s.funcs }.kept = s.kept := by unfold State.kept; dsimp only) : s₀.Keeps t := by
  have k : s₀.Keeps { t with funcs := s.funcs } := h.keep e
  refine ⟨k.pending, k.power, fun hr => { k.canonical hr with frames := fun f => ?_ }⟩
  rw [ht, Fin.getElem_fin, Vector.getElem_map]
  rfl

/-- Another HBM in canonical form, other fields changed beside it. -/
theorem hbm {t : State} (ht : s.hbm.wf = true → t.hbm.wf = true) (e : { t with hbm := s.hbm }.kept = s.kept := by unfold State.kept; rfl) : s₀.Keeps t := by
  have k : s₀.Keeps { t with hbm := s.hbm } := h.keep e
  exact ⟨k.pending, k.power, fun hr => { k.canonical hr with hbm := ht (h.canonical hr).hbm }⟩

theorem setMem {p : Place} {m : Mem} (hm : (s.mem p).wf = true → m.wf = true) : s₀.Keeps (s.setMem p m) := by
  cases p with
  | hbm => exact h.hbm hm
  | core c => exact h.updCoreWf (g := fun k => { k with buf := m }) hm
  | die d =>
    exact ⟨h.pending, h.power, fun hr =>
      let hs := h.canonical hr
      { hs with dies := forall_getElem_update (P := fun m : Mem => m.wf = true) hs.dies hm }⟩
  | hub => exact ⟨h.pending, h.power, fun hr => { h.canonical hr with hub := hm (h.canonical hr).hub }⟩

theorem setRslot {q : Nat} {v : RSlot} : s₀.Keeps (s.setRslot q v) :=
  ⟨h.pending, h.power, fun hr => { h.canonical hr with results := Sparse.wf_set _ _ _ _ (h.canonical hr).results }⟩

end State.Keeps

end Sys2Proof.Machine
end

section
/-! Each operation of the model keeps the queue, power and gating and the canonical form, an operation at a time in the order of the model. -/
set_option Elab.async false
namespace Sys2Proof.Machine
namespace State.Keeps
variable {s₀ s : State}

theorem setVol (hs : s₀.Keeps s) {key : Nat} {v : Nat} : s₀.Keeps (s.setVol key v) := hs.keep

theorem send (hs : s₀.Keeps s) {m : OutMsg} : s₀.Keeps (s.send m) := hs.keep

theorem sendMgmt (hs : s₀.Keeps s) {m : OutMsg} : s₀.Keeps (s.sendMgmt m) := ite (hs.send) hs

theorem sendTwin (hs : s₀.Keeps s) {cls : Fin 4} {m : OutMsg} : s₀.Keeps (s.sendTwin cls m) := ite hs.keep (hs.keep.send)

theorem twinReturns (hs : s₀.Keeps s) {n : Vector Nat 4} : s₀.Keeps (s.twinReturns n) := hs.keep.foldl fun _ _ h3 => (h3.sendTwin)

theorem owe (hs : s₀.Keeps s) {cls : Fin 4} {n : Nat} : s₀.Keeps (s.owe cls n) := hs.keep


theorem asks (hs : s₀.Keeps s) {h : HostBound} : s₀.Keeps (s.asks h) := by
  unfold State.asks
  exact ite (hs.send (m := h.msg)).keep hs.send

theorem toHost (hs : s₀.Keeps s) {f : FnNo} {flow : Fin 17} {m : OutMsg} : s₀.Keeps (s.toHost f flow m) := ite (hs.asks) hs.keep

theorem serveBound (hs : s₀.Keeps s) {h : HostBound} : s₀.Keeps (s.serveBound h) := ite ((hs.keep.asks).setVol) (hs.keep.asks)

theorem serveHost (hs : s₀.Keeps s) {fuel : Nat} : s₀.Keeps (State.serveHost fuel s) := by
  induction fuel generalizing s with
  | zero => exact hs
  | succ fuel ih =>
    unfold State.serveHost
    split
    · exact hs
    · exact ih hs.serveBound

theorem flushHost (hs : s₀.Keeps s) : s₀.Keeps s.flushHost := ite (hs.serveHost) hs

theorem postHost (hs : s₀.Keeps s) {kind : Nat} {v : VatNo} {a : Nat} {b : List Byte} {bad : List Nat} : s₀.Keeps (s.postHost kind v a b
    bad) :=
  hs.foldl fun _ _ h2 => (h2.toHost)

theorem askHost (hs : s₀.Keeps s) {v : VatNo} {a : Nat} {len : Nat} : s₀.Keeps (s.askHost v a len) := hs.foldl fun _ _ h2 => (h2.toHost)

theorem readsEnd (hs : s₀.Keeps s) {v : VatNo} {p : Nat → Bool} : s₀.Keeps (s.readsEnd v p) := hs.keep

theorem readsBack (hs : s₀.Keeps s) {v : VatNo} {p : Nat → Bool} : s₀.Keeps (s.readsBack v p) :=
  ((hs.readsEnd).foldl fun _ _ h1 => (h1.send)).flushHost

theorem signalVector (hs : s₀.Keeps s) {f : FnNo} {vec : Nat} : s₀.Keeps (s.signalVector f vec) := ite (hs.updFunc) (hs.toHost)

theorem cause (hs : s₀.Keeps s) {f : FnNo} {bit : Nat} {vec : Nat} : s₀.Keeps (s.cause f bit vec) :=
  ite ((hs.updFunc).signalVector) (hs.updFunc)

theorem vatCause (hs : s₀.Keeps s) {v : VatNo} {bit : Nat} {vec : Nat} : s₀.Keeps (s.vatCause v bit vec) :=
  ite (hs.cause) ((hs.cause).cause)

theorem emit (hs : s₀.Keeps s) {code : Nat} {path : Nat} {fs : List (Nat × Nat)} : s₀.Keeps (s.emit code path fs).2 :=
  iteSnd hs.keep hs.keep.keep

theorem countEvent (hs : s₀.Keeps s) {sub : Nat} : s₀.Keeps (s.countEvent sub) := ite hs (ite (hs.setVol) ((hs.setVol).emit))

theorem raise (hs : s₀.Keeps s) {code : Nat} {path : Nat} {fs : List (Nat × Nat)} : s₀.Keeps (s.raise code path fs) :=
  ite (hs.emit) ((hs.emit).countEvent)

theorem skipEvent (hs : s₀.Keeps s) : s₀.Keeps s.skipEvent := ite hs (hs.keep.countEvent)

theorem writeEvent (hs : s₀.Keeps s) {e : EventRec} : s₀.Keeps (s.writeEvent e) := by
  have h : s₀.Keeps ({ s.skipEvent with
      events := (s.skipEvent.events ++ [e]).drop (s.skipEvent.events.length + 1 - 2048), evCount := s.evCount + 1 } : State) :=
    hs.skipEvent.keep
  exact ite h.cause h.cause.toHost

theorem settleOnce (hs : s₀.Keeps s) {n : Nat} : s₀.Keeps (s.settleOnce n) := hs.keep.foldl fun _ _ h => h.writeEvent

theorem settled (hs : s₀.Keeps s) {n : Nat} : s₀.Keeps (s.settled n) := (hs.settleOnce).settleOnce

theorem vatEvent (hs : s₀.Keeps s) {v : VatNo} : s₀.Keeps (s.vatEvent v) := ite hs (hs.cause)

theorem raiseVat (hs : s₀.Keeps s) {v : VatNo} {code : Nat} {path : Nat} {fs : List (Nat × Nat)} : s₀.Keeps (s.raiseVat v code path fs) :=
  (hs.raise).vatEvent

theorem count (hs : s₀.Keeps s) {key : Nat} {n : Nat} {code : Nat} {path : Nat} {fs : List (Nat × Nat)} : s₀.Keeps (s.count key n code path
    fs) :=
  ite hs (ite (hs.setVol) ((hs.setVol).raise))

theorem countFor (hs : s₀.Keeps s) {v : VatNo} {key : Nat} {code : Nat} {path : Nat} {sub : Nat} : s₀.Keeps (s.countFor v key code path sub)
    :=
  ite ((hs.count).vatEvent) (hs.count)

theorem free (hs : s₀.Keeps s) : s₀.Keeps (s.free).2 := hs.keep


theorem updUnit (hs : s₀.Keeps s) {u : UnitNo} {f : UnitRec → UnitRec} : s₀.Keeps (s.updUnit u f) := hs.keep


theorem countMem (hs : s₀.Keeps s) {idx : Nat} {sub : Nat} {path : Nat} : s₀.Keeps (s.countMem idx sub path) := hs.count

theorem hbmCorrected (hs : s₀.Keeps s) {key : Nat} : s₀.Keeps (s.hbmCorrected key) :=
  ite ((((hs.countMem).countMem).countMem).keep.raise) (((hs.countMem).countMem).countMem).keep

theorem hbmEvent (hs : s₀.Keeps s) {key : Nat} {source : Nat} : s₀.Keeps (s.hbmEvent key source) := hs.raise

theorem hbmUncorrectable (hs : s₀.Keeps s) {key : Nat} {source : Nat} : s₀.Keeps (s.hbmUncorrectable key source) :=
  ((hs.countMem).countMem).hbmEvent

theorem countErr (hs : s₀.Keeps s) {u : UnitNo} {obj : Nat} {sub : Nat} : s₀.Keeps (s.countErr u obj sub) := hs.count

theorem resolveWord (hs : s₀.Keeps s) {p : Place} {w : Nat} : s₀.Keeps (s.resolveWord p w) := by
  have h (v : Nat) : s₀.Keeps (s.setMem p { s.mem p with marks := Sparse.set 0 (s.mem p).marks w v }) :=
    hs.setMem fun hm => Mem.wf_setMark _ _ _ hm
  unfold State.resolveWord
  dsimp only
  split
  · split
    · exact (h 0).hbmCorrected
    · exact (h 0).countErr
    · exact (h 0).countErr
    · exact (h 0).countErr
  · split
    · exact (h 3).hbmUncorrectable
    · exact (h 3).countErr.raise
    · exact (h 3).countErr.raise
    · exact (h 3).countErr.raise
  · exact hs

theorem resolve (hs : s₀.Keeps s) {p : Place} {a : Nat} {n : Nat} : s₀.Keeps (s.resolve p a n) := hs.foldl fun _ _ h0 => (h0.resolveWord)

theorem copyShadow (hs : s₀.Keeps s) {m : ShadowMove} {i : Nat} : s₀.Keeps (s.copyShadow m i) := by
  unfold State.copyShadow
  extract_lets a b t h u n v
  have ht : s₀.Keeps t := hs.resolve
  have hh (hm : t.hbm.wf = true) : h.wf = true := by
    show Mem.wf (if !t.dieAnswers b then _ else if t.dieAnswers a then _ else _) = true
    split
    · exact hm
    · split
      · exact Mem.wf_copyGranule _ _ _ hm
      · exact Mem.wf_poison _ _ hm
  have hu : s₀.Keeps u := ht.hbm hh
  have hv : s₀.Keeps v := hu.setVol
  exact ite (raise hv.keep) hv.keep

theorem copyAhead (hs : s₀.Keeps s) {fuel g : Nat} : s₀.Keeps (State.copyAhead fuel s g) := by
  induction fuel generalizing s g with
  | zero => exact hs
  | succ fuel ih =>
    unfold State.copyAhead
    split
    · exact hs
    · split
      · exact hs
      · refine ite hs ?_
        dsimp only
        split
        · exact (ih hs).copyShadow
        · exact ih hs

theorem clearGranule (hs : s₀.Keeps s) {g : Nat} : s₀.Keeps (s.clearGranule g) := by
  unfold State.clearGranule
  exact hbm (hs.copyAhead (fuel := 128) (g := g)) fun h => Mem.wf_filter _ _ _ h

theorem clearFirst (hs : s₀.Keeps s) {a : Nat} {n : Nat} : s₀.Keeps (s.clearFirst a n) := hs.foldl fun _ _ h0 => (ite (h0.clearGranule) h0)

theorem relocateRow (hs : s₀.Keeps s) {d : Fin 4} {j : Nat} : s₀.Keeps (s.relocateRow d j) := by
  unfold State.relocateRow
  split
  · exact hs
  · refine ite hs ?_
    extract_lets g bad t words u
    have ht : s₀.Keeps t := by
      refine ite (hs.hbm fun h => Mem.wf_poison _ _ h) (hs.foldl fun t w ht => ?_)
      split
      · exact (ht.hbm fun h => Mem.wf_setMark _ _ _ h).hbmUncorrectable
      · exact (ht.hbm fun h => Mem.wf_setMark _ _ _ h).hbmCorrected
      · exact ht
    have hu : s₀.Keeps u := ht.setVol
    exact hu.keep

theorem relocateFirst (hs : s₀.Keeps s) {a : Nat} {n : Nat} : s₀.Keeps (s.relocateFirst a n) := by
  unfold State.relocateFirst
  dsimp only
  exact hs.foldl fun _ _ h0 => (by split; exact (ite (h0.relocateRow) h0); exact h0)

theorem refuseAccess (hs : s₀.Keeps s) {code : Nat} {path : Nat} {a : Nat} {agent : Nat} {vat : Nat} : s₀.Keeps (s.refuseAccess code path a
    agent vat) :=
  ite hs (dite (fun _ => ((hs.keep.raise).vatEvent)) fun _ => (hs.keep.raise))

theorem refuseInvalid (hs : s₀.Keeps s) {a : Nat} {n : Nat} {agent : Nat} : s₀.Keeps (s.refuseInvalid a n agent) := hs.refuseAccess

theorem readyHbm (hs : s₀.Keeps s) {a : Nat} {n : Nat} : s₀.Keeps (s.readyHbm a n) := by
  unfold State.readyHbm
  exact hs.foldl fun _ _ h0 => (by split; exact ((h0.clearFirst).relocateFirst); exact h0)

theorem openHbm (hs : s₀.Keeps s) {a : Nat} {n : Nat} : s₀.Keeps (s.openHbm a n) := by
  unfold State.openHbm
  dsimp only
  exact hs.foldl fun _ _ h0 => (by split; exact (((h0.clearFirst).relocateFirst).resolve); exact h0)

theorem readHbm (hs : s₀.Keeps s) {a : Nat} {n : Nat} {agent : Nat} : s₀.Keeps (s.readHbm a n agent).2 :=
  ite (hs.openHbm) ((hs.openHbm).refuseInvalid)

theorem mergeWord (hs : s₀.Keeps s) {p : Place} {w : Nat} : s₀.Keeps (s.mergeWord p w) := by
  unfold State.mergeWord
  split
  · exact (hs.hbm fun h => Mem.wf_setMark _ _ _ h).hbmUncorrectable
  · exact hs.hbmEvent
  · exact hs.resolveWord

theorem writeMem (hs : s₀.Keeps s) {p : Place} {cells : List (Nat × Byte)} : s₀.Keeps (s.writeMem p cells) := by
  unfold State.writeMem
  exact setMem (hs.foldl fun _ _ h => h.mergeWord) fun hm => Mem.wf_write _ _ hm

theorem writeHbm (hs : s₀.Keeps s) {a : Nat} {bs : List Byte} {agent : Nat} : s₀.Keeps (s.writeHbm a bs agent) :=
  ite (ite (hs.readyHbm) ((hs.readyHbm).refuseInvalid)) ((ite (hs.readyHbm) ((hs.readyHbm).refuseInvalid)).writeMem)

theorem poisonHbm (hs : s₀.Keeps s) {a : Nat} {n : Nat} : s₀.Keeps (s.poisonHbm a n) := by
  unfold State.poisonHbm
  exact hbm (hs.readyHbm (a := a) (n := n)) fun h => Mem.wf_poison _ _ h

theorem refuseOutside (hs : s₀.Keeps s) {vat : Nat} {a : Nat} {n : Nat} {agent : Nat} : s₀.Keeps (s.refuseOutside vat a n agent) :=
  ite (hs.refuseInvalid) (hs.refuseAccess)

theorem agentRead (hs : s₀.Keeps s) {vat : Nat} {a : Nat} {n : Nat} {agent : Nat} : s₀.Keeps (s.agentRead vat a n agent).2 :=
  iteSnd (ite (hs.openHbm) ((hs.openHbm).refuseInvalid)) (hs.refuseOutside)

theorem agentWrite (hs : s₀.Keeps s) {vat : Nat} {a : Nat} {bs : List Byte} {agent : Nat} : s₀.Keeps (s.agentWrite vat a bs agent) :=
  ite (hs.writeHbm) (hs.refuseOutside)


theorem ends {t : State} (hs : s₀.Keeps s) (ht : s₀.Keeps t) : s₀.Keeps (s.ends t) :=
  ⟨hs.pending, hs.power, fun h =>
    let k := ht.settled.canonical h
    ⟨k.hbm, k.hub, k.dies, k.cores, k.frames, k.results⟩⟩

theorem skipMirror (hs : s₀.Keeps s) {gone : List (List Byte)} : s₀.Keeps (s.skipMirror gone) := by
  unfold State.skipMirror
  split
  · exact hs
  · next r _ =>
    have h : s₀.Keeps ({ s with host := { s.host with
        held := s.host.held.filter fun h => h.msg.data != r, lost := s.host.lost.filter fun b => b != r } } : State) := hs.keep
    exact ite hs (ite h.count h.count.keep.raise)

theorem mirrorAudit (hs : s₀.Keeps s) {seq : Nat} {r : List Byte} : s₀.Keeps (s.mirrorAudit seq r) :=
  ite hs (ite (hs.toHost) ((hs.toHost).setVol))

theorem auditTwin (hs : s₀.Keeps s) {seq : Nat} {r : List Byte} : s₀.Keeps (s.auditTwin seq r) := (hs.sendTwin).keep

theorem auditRec (hs : s₀.Keeps s) {e : AuditEntry} : s₀.Keeps (s.auditRec e) := by
  unfold State.auditRec
  dsimp only
  exact ite (auditTwin (mirrorAudit (skipMirror (setVol hs.keep)))) (mirrorAudit (skipMirror (setVol hs.keep)))

theorem countFabric (hs : s₀.Keeps s) {sub : Nat} {n : Nat} : s₀.Keeps (s.countFabric sub n) := hs.count

theorem macsecDiscard (hs : s₀.Keeps s) {p : Fin 8} : s₀.Keeps (s.macsecDiscard p) := hs.keep.countFabric

theorem updBinding (hs : s₀.Keeps s) {b : Nat} {f : Binding → Binding} : s₀.Keeps (s.updBinding b f) := hs.keep

theorem pathsLost (hs : s₀.Keeps s) : s₀.Keeps s.pathsLost := hs.foldl fun _ _ h0 => (ite (h0.updBinding) h0)

theorem portAway (hs : s₀.Keeps s) {p : Fin 8} : s₀.Keeps (s.portAway p) := ite (hs.keep.pathsLost) hs

theorem putSegment (hs : s₀.Keeps s) {p : Fin 8} {b : Nat} {cls : Nat} {seq : Nat} {header : List Word} {payload : List Byte} : s₀.Keeps
    (s.putSegment p b cls seq header payload) :=
  (hs.send).countFabric

theorem psigerControl (hs : s₀.Keeps s) {b : Nat} {typ : Nat} {cls : Nat} {w6 : Nat} {w7 : Nat} {payload : List Byte} : s₀.Keeps
    (s.psigerControl b typ cls w6 w7 payload) := by
  unfold State.psigerControl
  split
  · exact (hs.putSegment)
  · exact hs

theorem sendNow (hs : s₀.Keeps s) {b : Nat} {h : HeldSeg} : s₀.Keeps (s.sendNow b h) := by
  unfold State.sendNow
  dsimp only
  split
  · exact ((hs.updBinding).putSegment)
  · exact (hs.updBinding)

theorem psigerSend (hs : s₀.Keeps s) {b : Nat} {typ : Nat} {cls : Nat} {w6 : Nat} {w7 : Nat} {payload : List Byte} : s₀.Keeps (s.psigerSend
    b typ cls w6 w7 payload) :=
  ite (hs.sendNow) (ite ((hs.updBinding).countFabric) (hs.updBinding))

theorem releaseHeld (hs : s₀.Keeps s) {b : Nat} : s₀.Keeps (s.releaseHeld b) := by
  unfold State.releaseHeld
  refine updBinding (foldlFst (fst_mk hs.updBinding) fun a h ha => ?_)
  exact iteFst ha.sendNow (iteFst ha ha.countFabric)

theorem faultNotice (hs : s₀.Keeps s) {cause : Nat} : s₀.Keeps (s.faultNotice cause) :=
  ((ite (hs.sendTwin) hs).foldl fun _ _ h3 => (h3.psigerSend)).raise

theorem count48 (hs : s₀.Keeps s) {key : Nat} : s₀.Keeps (s.count48 key) := ite hs (ite (hs.setVol) (hs.setVol))

theorem noteLost (hs : s₀.Keeps s) {u : UnitNo} : s₀.Keeps (s.noteLost u) := by
  unfold State.noteLost
  dsimp only
  exact dite (fun _ => (ite (by split; exact (ite hs hs.keep); exact hs) hs)) fun _ => hs

theorem driveHold (hs : s₀.Keeps s) {before : Bool} {after : Bool} : s₀.Keeps (s.driveHold before after) :=
  ite ((hs.send).sendMgmt) (ite (hs.send) hs)

theorem noteHold (hs : s₀.Keeps s) {old : UView} : s₀.Keeps (s.noteHold old) := ite hs (ite ((hs.driveHold).sendMgmt) (hs.driveHold))

theorem noteChange (hs : s₀.Keeps s) {u : UnitNo} {old : UView} : s₀.Keeps (s.noteChange u old) :=
  ite ((hs.noteLost).noteHold) (ite ((hs.noteLost).flushHost) (ite ((hs.noteLost).twinReturns) (dite (fun _ => ((hs.noteLost).portAway)) fun
    _ => (hs.noteLost))))

theorem adoptView (hs : s₀.Keeps s) {u : UnitNo} {v : UView} : s₀.Keeps (s.adoptView u v) := (((hs.updUnit).count48).raise).noteChange

theorem transition (hs : s₀.Keeps s) {u : UnitNo} {new : Fin 9} {causes : Byte} : s₀.Keeps (s.transition u new causes) := hs.adoptView

theorem setCauses (hs : s₀.Keeps s) {u : UnitNo} {causes : Byte} : s₀.Keeps (s.setCauses u causes) := (hs.updUnit).noteChange

theorem updPipe (hs : s₀.Keeps s) {n : Fin 1024} {f : Pipe → Pipe} : s₀.Keeps (s.updPipe n f) := hs.keep

theorem pipesLost (hs : s₀.Keeps s) {u : UnitNo} : s₀.Keeps (s.pipesLost u) := hs.keep

theorem holdBelow (hs : s₀.Keeps s) {u : UnitNo} : s₀.Keeps (s.holdBelow u) :=
  hs.foldl fun _ _ h0 => (ite h0 (ite (h0.transition) (ite ((h0.updUnit).transition) h0)))

theorem releaseBelow (hs : s₀.Keeps s) {u : UnitNo} : s₀.Keeps (s.releaseBelow u) :=
  hs.foldl fun _ _ h0 => (ite h0 (ite h0 (ite (h0.transition) (h0.setCauses))))

theorem moveTo (hs : s₀.Keeps s) {u : UnitNo} {new : Fin 9} {causes : Byte} : s₀.Keeps (s.moveTo u new causes) :=
  ite ((ite ((ite (((ite (hs.pipesLost) hs).transition).releaseBelow) ((ite (hs.pipesLost) hs).transition)).holdBelow) (ite (((ite
    (hs.pipesLost) hs).transition).releaseBelow) ((ite (hs.pipesLost) hs).transition))).faultNotice) (ite ((ite (((ite (hs.pipesLost)
    hs).transition).releaseBelow) ((ite (hs.pipesLost) hs).transition)).holdBelow) (ite (((ite (hs.pipesLost) hs).transition).releaseBelow)
    ((ite (hs.pipesLost) hs).transition)))

theorem enterHeld (hs : s₀.Keeps s) {u : UnitNo} {cause : Byte} : s₀.Keeps (s.enterHeld u cause) := hs.moveTo

theorem clearCauses (hs : s₀.Keeps s) {u : UnitNo} {mask : Byte} : s₀.Keeps (s.clearCauses u mask) := ite (hs.moveTo) (hs.setCauses)

theorem farRuns (hs : s₀.Keeps s) {u : UnitNo} : s₀.Keeps (s.farRuns u).2 := iteSnd (hs.free) hs

theorem aggregate (hs : s₀.Keeps s) {u : UnitNo} : s₀.Keeps (s.aggregate u) :=
  ite hs (ite (ite ((hs.setVol).clearCauses) (hs.setVol)) (ite (ite (((hs.setVol).enterHeld).raise) (ite (((hs.setVol).farRuns).transition)
    (ite (((hs.setVol).farRuns).transition) ((hs.setVol).farRuns)))) (hs.setVol)))

theorem unitsRun (hs : s₀.Keeps s) {c : CoreId} : s₀.Keeps (s.unitsRun c) := by
  unfold State.unitsRun
  have h := hs.foldl (l := List.finRange 4)
    (f := fun s a => if s.ust (arrayUnit c a) = stReady then s.transition (arrayUnit c a) stRunning 0#8 else s)
    fun _ _ h => ite h.transition h
  exact ite h.transition h

theorem drained (hs : s₀.Keeps s) {u : UnitNo} : s₀.Keeps (s.drained u) := ite (((hs.updUnit).moveTo).moveTo) ((hs.updUnit).moveTo)

theorem unitsRest (hs : s₀.Keeps s) {c : CoreId} : s₀.Keeps (s.unitsRest c) := by
  unfold State.unitsRest
  dsimp only
  refine ite (transition (hs.foldl fun _ _ h => ?_)) (hs.foldl fun _ _ h => ?_) <;>
  exact ite (ite h.transition.transition h.transition) (ite h.drained h)


theorem slotPending (hs : s₀.Keeps s) {r : Nat} {code : Nat} : s₀.Keeps (s.slotPending r code) := hs.setRslot

theorem slotFinal (hs : s₀.Keeps s) {fn : FnNo} {r : Nat} {f : Final} : s₀.Keeps (s.slotFinal fn r f) := (hs.setRslot).cause

theorem countVat (hs : s₀.Keeps s) {v : VatNo} {sub : Nat} : s₀.Keeps (s.countVat v sub) := hs.countFor

theorem setRennet (hs : s₀.Keeps s) {n : Nat} {r : Rennet} : s₀.Keeps (s.setRennet n r) := hs.keep

theorem addTokens (hs : s₀.Keeps s) {n : Nat} {k : Nat} : s₀.Keeps (s.addTokens n k) := hs.setRennet

theorem takeTokens (hs : s₀.Keeps s) {n : Nat} {k : Nat} : s₀.Keeps (s.takeTokens n k) := hs.setRennet

theorem satisfy (hs : s₀.Keeps s) {c : CoreId} {w : CoreWait} : s₀.Keeps (s.satisfy c w) := by
  unfold State.satisfy
  extract_lets t u
  have hu : s₀.Keeps u := keep (s := t) hs.takeTokens
  exact hu.updCore

theorem serveQueue (hs : s₀.Keeps s) {fuel n : Nat} : s₀.Keeps (State.serveQueue fuel s n) := by
  induction fuel generalizing s with
  | zero => exact hs
  | succ fuel ih =>
    unfold State.serveQueue
    split
    · exact hs
    · split
      · exact hs
      · exact ite (ih hs.satisfy) hs

theorem leaveQueue (hs : s₀.Keeps s) {c : CoreId} : s₀.Keeps (s.leaveQueue c) := by
  unfold State.leaveQueue
  dsimp only
  exact hs.keep.updCore

theorem updLaunch (hs : s₀.Keeps s) {slot : Nat} {f : Launch → Launch} : s₀.Keeps (s.updLaunch slot f) := hs.keep

theorem freeCore (hs : s₀.Keeps s) {c : CoreId} : s₀.Keeps (s.freeCore c) := by
  unfold State.freeCore
  exact hs.leaveQueue.updCore.setVol.unitsRest

theorem finishLaunch (hs : s₀.Keeps s) {l : Launch} : s₀.Keeps (s.finishLaunch l) := by
  unfold State.finishLaunch
  extract_lets st t u reason ev _ v w x y
  have ht : s₀.Keeps t := hs.keep
  have hu : s₀.Keeps u := ht.foldl fun _ _ h => ite h.freeCore h
  have hv : s₀.Keeps v := ite hu.keep hu
  have hx : s₀.Keeps x := hv.slotFinal.countVat
  have hy : s₀.Keeps y := ite hx.countVat.raiseVat hx
  exact hy.foldl fun _ _ h => h.slotFinal

theorem finishIfOver (hs : s₀.Keeps s) {slot : Nat} : s₀.Keeps (s.finishIfOver slot) := by
  unfold State.finishIfOver
  split
  · exact (ite (hs.finishLaunch) hs)
  · exact hs

theorem applyFolds (hs : s₀.Keeps s) {c : CoreId} : s₀.Keeps (s.applyFolds c) := by
  unfold State.applyFolds
  dsimp only
  exact hs.keep.updCore

theorem measure (hs : s₀.Keeps s) {slot : Nat} {c : CoreId} : s₀.Keeps (s.measure slot c) := (hs.free).updLaunch

theorem partOver (hs : s₀.Keeps s) {c : CoreId} {e : CoreEnd} {f : Launch → Launch} : s₀.Keeps (s.partOver c e f) := by
  unfold State.partOver
  dsimp only
  split
  · exact hs
  · exact ((((hs.applyFolds).measure).updLaunch).freeCore)

theorem stopOthers (hs : s₀.Keeps s) {slot : Nat} : s₀.Keeps (s.stopOthers slot) := by
  unfold State.stopOthers
  dsimp only
  split
  · exact (hs.updLaunch)
  · exact ((hs.updLaunch).foldl fun _ _ h2 => (ite (h2.partOver) h2))

theorem haltCore (hs : s₀.Keeps s) {c : CoreId} {ev : Nat} {word : Nat} : s₀.Keeps (s.haltCore c ev word) := by
  unfold State.haltCore
  dsimp only
  split
  · exact hs
  · exact (((hs.partOver).stopOthers).finishIfOver)

theorem stopProgram (hs : s₀.Keeps s) {c : CoreId} {code : Nat} {fs : List (Nat × Nat)} : s₀.Keeps (s.stopProgram c code fs) :=
  (ite ((hs.raise).setVol) (hs.raise)).haltCore

theorem abandonCore (hs : s₀.Keeps s) {c : CoreId} : s₀.Keeps (s.abandonCore c) := by
  unfold State.abandonCore
  split
  · exact hs
  · exact (((hs.partOver).stopOthers).finishIfOver)

theorem reachPoint (hs : s₀.Keeps s) {c : CoreId} {word : Nat} : s₀.Keeps (s.reachPoint c word) := by
  unfold State.reachPoint
  dsimp only
  split
  · exact hs
  · exact (ite ((hs.partOver).finishIfOver) (ite (((hs.leaveQueue).updCore).updLaunch) hs))

theorem recheckPoint (hs : s₀.Keeps s) {c : CoreId} : s₀.Keeps (s.recheckPoint c) := by
  unfold State.recheckPoint
  split
  · exact (ite (hs.reachPoint) hs)
  · exact hs

theorem requestPreempt (hs : s₀.Keeps s) {slot : Nat} : s₀.Keeps (s.requestPreempt slot) := by
  unfold State.requestPreempt
  dsimp only
  split
  · exact hs
  · exact (ite ((hs.updLaunch).foldl fun _ _ h3 => ((h3.updCore).recheckPoint)) hs)

theorem requestBelow (hs : s₀.Keeps s) {u : UnitNo} : s₀.Keeps (s.requestBelow u) := by
  unfold State.requestBelow
  exact hs.foldl fun _ _ h0 => (by split; exact (h0.requestPreempt); exact h0)

theorem adopt (hs : s₀.Keeps s) {u : UnitNo} {v : UView} : s₀.Keeps (s.adopt u v) :=
  ite (hs.updUnit) (ite (((hs.adoptView).holdBelow).requestBelow) (ite ((hs.adoptView).releaseBelow) (hs.adoptView)))

theorem reevaluate (hs : s₀.Keeps s) {u : UnitNo} : s₀.Keeps (s.reevaluate u) :=
  ite (hs.aggregate) (dite (fun _ => ((hs.aggregate).abandonCore)) fun _ => ((hs.aggregate).requestBelow))

theorem aggregateAll (hs : s₀.Keeps s) : s₀.Keeps s.aggregateAll := hs.foldl fun _ _ h0 => (h0.reevaluate)

theorem setX (hs : s₀.Keeps s) {c : CoreId} {r : XReg} {v : DWord} : s₀.Keeps (s.setX c r v) := hs.updCore

theorem writeV (hs : s₀.Keeps s) {c : CoreId} {v : Nat} {mask : BitVec 128} {zero : Bool} {new : Nat → Lane} :
    s₀.Keeps (s.writeV c v mask zero new) := by
  unfold State.writeV
  refine hs.updCore ?_
  dsimp only
  split <;> rfl

theorem holdBack (hs : s₀.Keeps s) {c : CoreId} {i : Instr} : s₀.Keeps (s.holdBack c i) := ite (hs.updCore) hs

theorem advance (hs : s₀.Keeps s) {c : CoreId} : s₀.Keeps (s.advance c) := hs.updCore

theorem countIssued (hs : s₀.Keeps s) {c : CoreId} : s₀.Keeps (s.countIssued c) := hs.count

theorem programError (hs : s₀.Keeps s) {c : CoreId} : s₀.Keeps (s.programError c) := ((hs.countErr).raise).haltCore

theorem issue (hs : s₀.Keeps s) {i : Instr} {c : CoreId} {h : Hdr} {cls : Nat} {all : Bool} {body : State → State}
    (hb : ∀ t, s₀.Keeps t → s₀.Keeps (body t)) : s₀.Keeps (s.issue i c h cls all body) := by
  unfold State.issue
  refine ite hs.holdBack (ite hs.stopProgram (ite hs.programError (ite hs.countIssued.advance ?_)))
  split
  · exact hs.countIssued.stopProgram
  · exact hb _ hs.countIssued

theorem checked (hs : s₀.Keeps s) {c : CoreId} {stops : List (Option Stop)} {eff : State → State}
    (he : ∀ t, s₀.Keeps t → s₀.Keeps (eff t)) : s₀.Keeps (s.checked c stops eff) := by
  unfold State.checked
  split
  · exact hs.stopProgram
  · exact (he _ hs).advance

theorem addCensus (hs : s₀.Keeps s) {c : CoreId} {slot : Fin 16} {n : Counts} : s₀.Keeps (s.addCensus c slot n) :=
  (hs.updCore).foldl fun _ _ h3 => (h3.raise)

theorem putV (hs : s₀.Keeps s) {c : CoreId} {v : Nat} {mask : BitVec 128} {zero : Bool} {new : Nat → Lane} : s₀.Keeps (s.putV c v mask zero
    new) :=
  ite (hs.writeV) ((hs.writeV).addCensus)

theorem markChecked (hs : s₀.Keeps s) {c : CoreId} {r : DReg} : s₀.Keeps (s.markChecked c r) := hs.updCore

theorem issueOver (hs : s₀.Keeps s) {i : Instr} {c : CoreId} {h : Hdr} {cls : Nat} {sp : Spans} {body : State → State}
    (hb : ∀ t, s₀.Keeps t → s₀.Keeps (body t)) : s₀.Keeps (s.issueOver i c h cls sp body) := ite hs.holdBack (hs.issue hb)

theorem openSpans (hs : s₀.Keeps s) {c : CoreId} {loc : Nat} {sp : Spans} : s₀.Keeps (s.openSpans c loc sp) :=
  hs.foldl fun _ _ h0 => (ite (ite (h0.openHbm) ((h0.openHbm).refuseInvalid)) (h0.resolve))

theorem pickViews (hs : s₀.Keeps s) {c : CoreId} {loc : Nat} {sp : Spans} : s₀.Keeps (s.pickViews c loc sp).2 :=
  iteSnd hs (foldlSnd hs fun _ _ h0 => (iteSnd h0 (h0.free)))

theorem reader (hs : s₀.Keeps s) {c : CoreId} {d : Desc} {r0 : Int} {rn : Nat} {c0 : Int} {cn : Nat} : s₀.Keeps (s.reader c d r0 rn c0 cn).1
    :=
  (hs.openSpans).pickViews

theorem noteUnfenced (hs : s₀.Keeps s) {c : CoreId} {loc : Nat} {addrs : List Nat} : s₀.Keeps (s.noteUnfenced c loc addrs) :=
  ite hs (hs.updCore)

theorem readyStore (hs : s₀.Keeps s) {loc : Nat} {addrs : List Nat} : s₀.Keeps (s.readyStore loc addrs) :=
  ite (hs.foldl fun _ _ h1 => ((h1.clearFirst).relocateFirst)) hs

theorem storeCells (hs : s₀.Keeps s) {c : CoreId} {loc : Nat} {cells : List (Nat × Byte)} {bad : List Nat} :
    s₀.Keeps (s.storeCells c loc cells bad) := by
  unfold State.storeCells
  dsimp only
  split
  · split
    · exact refuseAccess (hbm hs.readyStore.noteUnfenced.writeMem fun h => Mem.wf_poison _ _ h)
    · exact hbm hs.readyStore.noteUnfenced.writeMem fun h => Mem.wf_poison _ _ h
  · exact setMem hs.readyStore.noteUnfenced.writeMem fun h => Mem.wf_poison _ _ h

theorem storeTensor (hs : s₀.Keeps s) {c : CoreId} {d : Desc} {ws : List Wr} {ss : List WrScale} : s₀.Keeps (s.storeTensor c d ws ss) :=
  (hs.readyStore).storeCells

theorem pipeWrite (hs : s₀.Keeps s) {c : CoreId} {n : Fin 1024} {bs : List (Byte × Bool)} : s₀.Keeps (s.pipeWrite c n bs) := by
  unfold State.pipeWrite
  dsimp only
  exact hs.updPipe

theorem pipeTake (hs : s₀.Keeps s) {c : CoreId} {n : Fin 1024} {need : Nat} : s₀.Keeps (s.pipeTake c n need) := by
  unfold State.pipeTake
  dsimp only
  exact (hs.updCore).updPipe

theorem setTile (hs : s₀.Keeps s) {c : CoreId} {t : TileNo} {v : Tile} : s₀.Keeps (s.setTile c t v) := by
  unfold State.setTile
  split
  · exact (hs.updCore)
  · exact hs

theorem setLoc (hs : s₀.Keeps s) {c : CoreId} {t : TileNo} {l : TileLoc} : s₀.Keeps (s.setLoc c t l) := hs.updCore

theorem touch (hs : s₀.Keeps s) {c : CoreId} {t : TileNo} : s₀.Keeps (s.touch c t) := hs.updCore

theorem releaseTile (hs : s₀.Keeps s) {c : CoreId} {t : TileNo} : s₀.Keeps (s.releaseTile c t) := hs.updCore

theorem countTile (hs : s₀.Keeps s) {c : CoreId} {sub : Nat} : s₀.Keeps (s.countTile c sub) := hs.count

theorem spill (hs : s₀.Keeps s) {c : CoreId} {t : TileNo} {frame : Nat} : s₀.Keeps (s.spill c t frame) := by
  unfold State.spill
  extract_lets v u w x
  have hu : s₀.Keeps u := hs.foldl fun z a hz => ite hz (hz.updCoreWf fun hm => by
    dsimp only
    split
    · exact Mem.wf_poison _ _ (Mem.wf_write _ _ hm)
    · exact Mem.wf_write _ _ hm)
  have hw : s₀.Keeps w := hu.setLoc
  have hx : s₀.Keeps x := hw.updCore (by dsimp only)
  exact hx.countTile

theorem reload (hs : s₀.Keeps s) {c : CoreId} {t : TileNo} {slot : Fin 8} {frame : Nat} {p : BitVec 4} {o : BitVec 4} {ca : Word} {cw :
    Word} : s₀.Keeps (s.reload c t slot frame p o ca cw) :=
  ((hs.resolve).updCore).countTile

theorem intoSlot (hs : s₀.Keeps s) {c : CoreId} {t : TileNo} {slot : Fin 8} : s₀.Keeps (s.intoSlot c t slot) := by
  unfold State.intoSlot
  split
  · exact (hs.reload)
  · exact (hs.updCore)

theorem bindTile (hs : s₀.Keeps s) {c : CoreId} {named : List TileNo} {t : TileNo} : s₀.KeepsOk (s.bindTile c named t) := by
  unfold State.bindTile
  dsimp only
  split
  · exact hs.touch
  · split
    · exact hs.intoSlot.touch
    · split
      · exact hs
      · split
        · exact hs.spill.intoSlot.touch
        · exact trivial

theorem bindTiles (hs : s₀.Keeps s) {c : CoreId} {named ts : List TileNo} : s₀.KeepsOk (s.bindTiles c named ts) := by
  induction ts generalizing s with
  | nil => exact hs
  | cons t ts ih =>
    have h := hs.bindTile (c := c) (named := named) (t := t)
    unfold State.bindTiles
    split
    · next e =>
      rw [e] at h
      exact ih h
    · trivial

theorem bound (hs : s₀.Keeps s) {c : CoreId} {named : List TileNo} : s₀.Keeps (s.bound c named) := by
  have h := hs.bindTiles (c := c) (named := named) (ts := named)
  unfold State.bound
  split
  · next e =>
    rw [e] at h
    exact h
  · exact hs

theorem poisonFrames (hs : s₀.Keeps s) {c : CoreId} {t : TileNo} : s₀.Keeps (s.poisonFrames c t) := by
  unfold State.poisonFrames
  split
  · exact hs.updCoreWf fun h => Mem.wf_poison _ _ h
  · exact hs

theorem poisonTile (hs : s₀.Keeps s) {c : CoreId} {t : TileNo} : s₀.Keeps (s.poisonTile c t) := hs.setTile

theorem countArray (hs : s₀.Keeps s) {c : CoreId} {a : Fin 4} {sub : Nat} : s₀.Keeps (s.countArray c a sub) := hs.count

theorem poisonArrived (hs : s₀.Keeps s) {c : CoreId} {t : TileNo} {k : Nat} {row : Nat} {reached : List (Fin 4)} : s₀.Keeps (s.poisonArrived
    c t k row reached) :=
  ((hs.foldl fun _ _ h4 => (h4.countArray)).raise).haltCore

theorem operandFault (hs : s₀.Keeps s) {c : CoreId} {t : TileNo} {k : Nat} {row : Nat} {reached : List (Fin 4)} : s₀.Keeps (s.operandFault c
    t k row reached) :=
  (hs.poisonTile).poisonArrived

theorem countTiling (hs : s₀.Keeps s) {c : CoreId} {sub : Nat} {n : Nat} : s₀.Keeps (s.countTiling c sub n) := hs.count

theorem writeTile (hs : s₀.Keeps s) {c : CoreId} {enable : BitVec 4} {td : TileNo} {ca : Word} {cw : Word} {g : Fin 4 → TileArr × Bool} :
    s₀.Keeps (s.writeTile c enable td ca cw g) :=
  ite ((hs.setTile).countTile) (hs.setTile)

theorem countDraws (hs : s₀.Keeps s) {c : CoreId} {sub : Nat} {n : Nat} : s₀.Keeps (s.countDraws c sub n) := hs.count

theorem lfsrTake (hs : s₀.Keeps s) {c : CoreId} {lane : Nat} {n : Nat} : s₀.Keeps (s.lfsrTake c lane n).2 := by
  unfold State.lfsrTake
  dsimp only
  exact hs.updCore

theorem draws (hs : s₀.Keeps s) {c : CoreId} {n : Nat} {cipherDraw : Nat → Nat} {es : List (Nat × Nat)} :
    s₀.Keeps (s.draws c n cipherDraw es).2 := by
  unfold State.draws
  have h : s₀.Keeps (es.foldl (fun (p : List Nat × State) e => let t := p.2.lfsrTake c e.2 n; (t.1 :: p.1, t.2)) ([], s)).2 :=
    foldlSnd hs fun _ _ h => h.lfsrTake
  exact iteSnd (ite h h.updCore).countDraws hs.countDraws

theorem draw16s (hs : s₀.Keeps s) {c : CoreId} {stream : Word} {draw : Word} {es : List (Nat × Nat)} : s₀.Keeps (s.draw16s c stream draw
    es).2 :=
  hs.draws

theorem draw32s (hs : s₀.Keeps s) {c : CoreId} {stream : Word} {draw : Word} {es : List (Nat × Nat)} : s₀.Keeps (s.draw32s c stream draw
    es).2 :=
  hs.draws

theorem drawPairs (hs : s₀.Keeps s) {c : CoreId} {stream : Word} {draw : Word} {es : List (Nat × Nat)} : s₀.Keeps (s.drawPairs c stream draw
    es).2 :=
  hs.draws

theorem closeInterval (hs : s₀.Keeps s) {c : CoreId} : s₀.Keeps (s.closeInterval c) := by
  unfold State.closeInterval
  dsimp only
  exact ((hs.free).setVol).updCore

theorem endCore (hs : s₀.Keeps s) {c : CoreId} : s₀.Keeps (s.endCore c) := by
  unfold State.endCore
  dsimp only
  split
  · exact hs
  · exact (((hs.closeInterval).partOver).finishIfOver)

theorem goto (hs : s₀.Keeps s) {c : CoreId} {taken : Bool} {target : BitVec 13} : s₀.Keeps (s.goto c taken target) := hs.updCore

theorem branch (hs : s₀.Keeps s) {c : CoreId} {stops : List (Option Stop)} {taken : Bool} {target : BitVec 13} {eff : State → State}
    (he : ∀ t, s₀.Keeps t → s₀.Keeps (eff t)) : s₀.Keeps (s.branch c stops taken target eff) := by
  unfold State.branch
  split
  · exact hs.stopProgram
  · exact (he _ hs).goto

theorem countStat (hs : s₀.Keeps s) {sub : Nat} : s₀.Keeps (s.countStat sub) := hs.count

theorem fenceCore (hs : s₀.Keeps s) {c : CoreId} : s₀.Keeps (s.fenceCore c) := (hs.applyFolds).updCore

theorem signalRefused (hs : s₀.Keeps s) {path : Nat} {n : Nat} : s₀.Keeps (s.signalRefused path n) := (hs.raise).countStat

theorem signalLocal (hs : s₀.Keeps s) {src : SignalFrom} {path : Nat} {n : Nat} {k : Nat} : s₀.Keeps (s.signalLocal src path n k) :=
  ite hs.keep (ite (hs.addTokens) (hs.keep.signalRefused))

theorem updPeer (hs : s₀.Keeps s) {p : Peer} {f : PeerRec → PeerRec} : s₀.Keeps (s.updPeer p f) := hs.keep

theorem sendSignal (hs : s₀.Keeps s) {p : Peer} {g : SentSignal} : s₀.Keeps (s.sendSignal p g) := by
  unfold State.sendSignal
  split
  · exact (ite (hs.sendTwin) hs)
  · exact (by split; exact (hs.psigerSend); exact hs)

theorem signalRemote (hs : s₀.Keeps s) {p : Peer} {v : VatNo} {n : Nat} {k : Nat} : s₀.Keeps (s.signalRemote p v n k) := by
  unfold State.signalRemote
  dsimp only
  split
  · exact hs
  · exact (((hs.updPeer).sendSignal).countStat)

theorem hubSignal (hs : s₀.Keeps s) {p : Peer} {v : VatNo} {n : Nat} {k : Nat} : s₀.Keeps (s.hubSignal p v n k) := by
  unfold State.hubSignal
  split
  · exact hs
  · exact (ite (hs.signalRemote) (hs.updPeer))

theorem sendQueued (hs : s₀.Keeps s) {p : Peer} : s₀.Keeps (s.sendQueued p) :=
  foldlFst hs fun _ _ h1 => (iteFst ((h1.updPeer).signalRemote) h1)

theorem signalEffect (hs : s₀.Keeps s) {c : CoreId} {f : SyncF} : s₀.Keeps (s.signalEffect c f) :=
  ite ((ite (hs.fenceCore) hs).signalRemote) ((ite (hs.fenceCore) hs).signalLocal)

theorem startWait (hs : s₀.Keeps s) {c : CoreId} {f : SyncF} {word : Nat} : s₀.Keeps (s.startWait c f word) :=
  ite ((((hs.keep.updCore).closeInterval).updCore).recheckPoint) (hs.keep.updCore)

theorem syncDo (hs : s₀.Keeps s) {c : CoreId} {q : SyncItem} : s₀.Keeps (s.syncDo c q) := by
  unfold State.syncDo
  split
  · exact (hs.signalEffect)
  · exact (hs.startWait)
  · exact (hs.fenceCore)

theorem serveSync (hs : s₀.Keeps s) {c : CoreId} {fuel : Nat} : s₀.Keeps (s.serveSync c fuel) := by
  induction fuel generalizing s with
  | zero => exact hs
  | succ fuel ih =>
    unfold State.serveSync
    split
    · exact hs
    · exact ite (ih hs.updCore.syncDo) hs

theorem syncOrQueue (hs : s₀.Keeps s) {c : CoreId} {op : Fin 3} {f : SyncF} {word : Nat} : s₀.Keeps (s.syncOrQueue c op f word) :=
  ite (hs.syncDo) (hs.updCore)

theorem retry (hs : s₀.Keeps s) {src : SignalFrom} : s₀.Keeps (s.retry src) := by
  unfold State.retry
  split
  · exact (ite hs (ite (hs.keep.addTokens) (ite hs (hs.keep.signalRefused))))
  · exact hs

theorem discardTlp (hs : s₀.Keeps s) {fn : FnNo} {bar : Nat} : s₀.Keeps (s.discardTlp fn bar) := ite hs (hs.keep.raise)

theorem countHost (hs : s₀.Keeps s) {sub : Nat} {n : Nat} : s₀.Keeps (s.countHost sub n) := hs.count

theorem frameStore (hs : s₀.Keeps s) {w : FrameWrite} : s₀.Keeps (s.frameStore w) :=
  hs.updFuncWf fun h => Sparse.wf_foldl_set _ _ _ _ _ h

theorem frameBody (hs : s₀.Keeps s) {w : FrameWrite} : s₀.Keeps (s.frameBody w) := ite (hs.frameStore) hs

theorem frameClear (hs : s₀.Keeps s) {w : FrameWrite} : s₀.Keeps (s.frameClear w) :=
  hs.updFuncWf fun h => Sparse.wf_filter _ _ _ h

theorem refuseCmd (hs : s₀.Keeps s) {c : Cmd} {r : Refused} : s₀.Keeps (s.refuseCmd c r) := by
  unfold State.refuseCmd
  refine slotFinal (countVat (raiseVat ?_))
  split
  · exact hs.raise
  · exact hs

theorem takeCmd (hs : s₀.Keeps s) {c : Cmd} {eff : State → Cmd → Except Refused State}
    (he : ∀ t c, s₀.Keeps t → s₀.KeepsOk (eff t c)) : s₀.Keeps (s.takeCmd c eff) := by
  unfold State.takeCmd
  refine ite hs.raiseVat.countVat ?_
  extract_lets t
  have ht : s₀.Keeps t := hs.countVat.slotPending
  have h := he t c ht
  refine ite ht.refuseCmd ?_
  split
  · next e =>
    rw [e] at h
    exact h
  · exact ht.refuseCmd

theorem command (hs : s₀.Keeps s) {w : FrameWrite} {mine : Cmd → Bool} {eff : State → Cmd → Except Refused State}
    (he : ∀ t c, s₀.Keeps t → s₀.KeepsOk (eff t c)) : s₀.Keeps (s.command w mine eff) := by
  unfold State.command
  refine ite hs (ite hs.discardTlp (ite hs ?_))
  extract_lets t c u
  have ht : s₀.Keeps t := hs.frameBody.frameStore
  have hu : s₀.Keeps u := ht.frameClear
  exact ite hs (ite hu.keep (hu.takeCmd he))

theorem doneCmd (hs : s₀.Keeps s) {c : Cmd} : s₀.Keeps (s.doneCmd c) := hs.slotFinal

theorem writeImage (hs : s₀.Keeps s) {l : Launch} {c : CoreId} {idx : Nat} : s₀.Keeps (s.writeImage l c idx) :=
  ite (((hs.agentWrite).foldl fun _ _ h9 => (h9.poisonHbm)).foldl fun _ _ h8 => (h8.poisonHbm)) (hs.agentWrite)

theorem takeLaunch (hs : s₀.Keeps s) {c : Cmd} : s₀.KeepsOk (s.takeLaunch c) := .checkAll (hs.keep : s₀.Keeps _)

theorem startPart (hs : s₀.Keeps s) {l : Launch} {q : Fin 48} {c : CoreId} : s₀.Keeps (s.startPart l q c) := by
  unfold State.startPart
  refine unitsRun (setVol (updLaunch (hs.updCore ?_)))
  dsimp only
  split <;> rfl

theorem tagFails (hs : s₀.Keeps s) {l : Launch} {q : Fin 48} {c : CoreId} : s₀.Keeps (s.tagFails l q c) := hs.updLaunch

theorem startCores (hs : s₀.Keeps s) {l : Launch} : s₀.Keeps (s.startCores l) := by
  unfold State.startCores
  exact hs.foldl fun _ _ h0 => (by split; exact h0; exact (ite (h0.tagFails) (h0.startPart)))

theorem restoreRefusal (hs : s₀.Keeps s) {l : Launch} : s₀.Keeps (s.restoreRefusal l).2 := by
  unfold State.restoreRefusal
  exact foldlSnd (snd_mk hs) fun _ _ h => snd_mk h.agentRead

theorem refuseLaunch (hs : s₀.Keeps s) {l : Launch} {reason : Nat} : s₀.Keeps (s.refuseLaunch l reason) :=
  ((hs.keep.raiseVat).countVat).slotFinal

theorem startLaunch (hs : s₀.Keeps s) {l : Launch} : s₀.Keeps (s.startLaunch l) :=
  ite ((iteSnd ((hs.foldl fun _ _ h5 => (h5.takeTokens)).restoreRefusal) (hs.foldl fun _ _ h5 => (h5.takeTokens))).refuseLaunch) (ite
    (((((iteSnd ((hs.foldl fun _ _ h10 => (h10.takeTokens)).restoreRefusal) (hs.foldl fun _ _ h10 =>
    (h10.takeTokens))).updLaunch).startCores).stopOthers).finishIfOver) (((iteSnd ((hs.foldl fun _ _ h8 => (h8.takeTokens)).restoreRefusal)
    (hs.foldl fun _ _ h8 => (h8.takeTokens))).updLaunch).startCores))

theorem serveFor (hs : s₀.Keeps s) {l : Launch} : s₀.Keeps (s.serveFor l) := hs.foldl fun _ _ h0 => (h0.serveQueue)

theorem tryStart (hs : s₀.Keeps s) {l : Launch} : s₀.Keeps (s.tryStart l) := ite ((hs.serveFor).startLaunch) hs

theorem loadWords (hs : s₀.Keeps s) {l : Launch} {bs : List (Byte × Bool)} {c : CoreId} : s₀.Keeps (s.loadWords l bs c) := by
  unfold State.loadWords
  refine setVol (hs.updCore ?_)
  exact Core.buf_foldl (g := id) (f := fun k i => k.putWord (l.loadStart + i) ((bs.drop (32 * i)).take 32)) _ _ fun _ _ => rfl

theorem restoreCore (hs : s₀.Keeps s) {l : Launch} {c : CoreId} : s₀.Keeps (s.restoreCore l c) := by
  have h := @agentRead s₀ s hs l.vat (l.ctxBase + (l.cores.findIdx fun e => e.phys == some c) * imageSize) imageSize 2
  unfold State.restoreCore
  dsimp only
  generalize s.agentRead l.vat (l.ctxBase + (l.cores.findIdx fun e => e.phys == some c) * imageSize) imageSize 2 = r at h ⊢
  refine ite h.partOver (ite h.setVol.partOver (setVol (updCoreWf h.updLaunch.free fun _ => ?_)))
  dsimp only
  exact Core.load_buf_wf ..

theorem savePart (hs : s₀.Keeps s) {slot : Nat} {c : CoreId} : s₀.Keeps (s.savePart slot c) := by
  unfold State.savePart
  dsimp only
  split
  · exact (hs.measure)
  · exact (((((hs.measure).writeImage).applyFolds).updLaunch).freeCore)

theorem takePreempt (hs : s₀.Keeps s) {c : Cmd} : s₀.KeepsOk (s.takePreempt c) := by
  unfold State.takePreempt
  dsimp only
  split
  · trivial
  · exact .checkAll hs.updLaunch.requestPreempt

theorem cancelLaunch (hs : s₀.Keeps s) {l : Launch} {reason : Nat} : s₀.Keeps (s.cancelLaunch l reason) := (hs.keep.slotFinal).countVat

theorem cancelJoin (hs : s₀.Keeps s) {j : JoinRec} {reason : Nat} : s₀.Keeps (s.cancelJoin j reason) := hs.keep.slotFinal

theorem takeCancel (hs : s₀.Keeps s) {c : Cmd} : s₀.KeepsOk (s.takeCancel c) := by
  unfold State.takeCancel
  refine .checkAll ?_
  split
  · exact hs.cancelLaunch.doneCmd
  · exact hs.cancelJoin.doneCmd
  · exact trivial

theorem takeSeed (hs : s₀.Keeps s) {c : Cmd} : s₀.KeepsOk (s.takeSeed c) := (hs.keep : s₀.Keeps _)

theorem countPage (hs : s₀.Keeps s) {sub : Nat} {n : Nat} : s₀.Keeps (s.countPage sub n) := hs.count

theorem kRead (hs : s₀.Keeps s) {v : VatNo} {a : Nat} {n : Nat} : s₀.Keeps (s.kRead v a n).2 :=
  foldlSnd (hs.agentRead) fun _ _ h1 => (iteSnd (h1.free) h1)

theorem kWrite (hs : s₀.Keeps s) {v : VatNo} {a : Nat} {bs : List Byte} : s₀.Keeps (s.kWrite v a bs) := hs.agentWrite

theorem setFrame (hs : s₀.Keeps s) {f : Nat} {r : Frame} : s₀.Keeps (s.setFrame f r) := hs.keep

theorem pick (hs : s₀.Keeps s) {l : List Nat} : s₀.Keeps (s.pick l).2.2 := hs.free

theorem pickMany (hs : s₀.Keeps s) {n : Nat} {l : List Nat} : s₀.Keeps (s.pickMany n l).2 := by
  induction n generalizing s l with
  | zero => exact hs
  | succ n ih => exact ih hs.pick

theorem allocFrames (hs : s₀.Keeps s) {v : VatNo} {n : Nat} {st : Nat} : s₀.Keeps (s.allocFrames v n st).2 :=
  (hs.pickMany).foldl fun _ _ h1 => (h1.setFrame)

theorem takeRef (hs : s₀.Keeps s) {v : VatNo} {f : Nat} : s₀.Keeps (s.takeRef v f) := ite (hs.setFrame) hs

theorem dropRef (hs : s₀.Keeps s) {v : VatNo} {f : Nat} : s₀.Keeps (s.dropRef v f) := ite (hs.setFrame) hs

theorem readBlock (hs : s₀.Keeps s) {q : SeqRec} {t : Nat} : s₀.Keeps (s.readBlock q t).2 := hs.kRead

theorem writeBlock (hs : s₀.Keeps s) {q : SeqRec} {t : Nat} {ws : List Nat} : s₀.Keeps (s.writeBlock q t ws) := hs.kWrite

theorem readBlocks (hs : s₀.Keeps s) {q : SeqRec} {a : Nat} {b : Nat} : s₀.Keeps (s.readBlocks q a b).2 :=
  foldlSnd hs fun _ _ h1 => (h1.readBlock)

theorem heldEntries (hs : s₀.Keeps s) {q : SeqRec} : s₀.Keeps (s.heldEntries q).2 := hs.readBlocks

theorem setSeq (hs : s₀.Keeps s) {b : Fin 64} {q : SeqRec} : s₀.Keeps (s.setSeq b q) := hs.keep

theorem refreshPriv (hs : s₀.Keeps s) {b : Fin 64} : s₀.Keeps (s.refreshPriv b) := ite hs ((hs.heldEntries).setSeq)

theorem addBlock (hs : s₀.Keeps s) {q : SeqRec} {t : Nat} : s₀.Keeps (s.addBlock q t) := by
  unfold State.addBlock
  extract_lets l np prev p
  have hp : s₀.Keeps p.2 := by
    refine foldlSnd (iteSnd hs.readBlock hs) fun u i hu => ?_
    extract_lets a v ws g f
    have hv : s₀.Keeps v := hu.allocFrames.foldl fun _ _ h => h.takeRef
    exact iteSnd hv (iteSnd (hv.allocFrames.foldl fun _ _ h => h.takeRef) hv.takeRef)
  exact hp.writeBlock

theorem addBlocks (hs : s₀.Keeps s) {q : SeqRec} {a : Nat} {b : Nat} : s₀.Keeps (s.addBlocks q a b) := hs.foldl fun _ _ h0 => (h0.addBlock)

theorem readNode (hs : s₀.Keeps s) {v : VatNo} {i : Nat} : s₀.Keeps (s.readNode v i).2 := hs.kRead

theorem writeNode (hs : s₀.Keeps s) {v : VatNo} {n : Node} : s₀.Keeps (s.writeNode v n) := hs.kWrite

theorem nodes (hs : s₀.Keeps s) {v : VatNo} : s₀.Keeps (s.nodes v).2 := foldlSnd hs fun _ _ h1 => (h1.readNode)

theorem liveNodes (hs : s₀.Keeps s) {v : VatNo} : s₀.Keeps (s.liveNodes v).2 := hs.nodes

theorem nodeTokens (hs : s₀.Keeps s) {v : VatNo} {i : Nat} : s₀.Keeps (s.nodeTokens v i).2 :=
  foldlSnd (hs.agentRead) fun _ _ h1 => (iteSnd (h1.free) h1)

theorem nodeEntries (hs : s₀.Keeps s) {v : VatNo} {n : Node} : s₀.Keeps (s.nodeEntries v n).2 := hs.kRead

theorem chainUsers (hs : s₀.Keeps s) {v : VatNo} {f : Nat → Nat} {fuel i : Nat} : s₀.Keeps (s.chainUsers v f fuel i) := by
  induction fuel generalizing s i with
  | zero => exact hs
  | succ fuel ih =>
    unfold State.chainUsers
    exact ite hs (ih hs.readNode.writeNode)

theorem evictNode (hs : s₀.Keeps s) {v : VatNo} {n : Node} : s₀.Keeps (s.evictNode v n) :=
  (((hs.nodeEntries).foldl fun _ _ h4 => (h4.dropRef)).writeNode).countPage

theorem evictFor (hs : s₀.Keeps s) {v : VatNo} {need fuel : Nat} : s₀.Keeps (s.evictFor v need fuel) := by
  induction fuel generalizing s with
  | zero => exact hs
  | succ fuel ih =>
    unfold State.evictFor
    refine ite hs ?_
    dsimp only
    split
    · exact hs.liveNodes
    · exact ih hs.liveNodes.evictNode

theorem makeRoom (hs : s₀.Keeps s) {v : VatNo} {need : Nat} : s₀.Keeps (s.makeRoom v need) := hs.evictFor

theorem findNode (hs : s₀.Keeps s) {v : VatNo} {layout : Nat} {w : Walk} {tokens : List Byte} {note : Bool} : s₀.Keeps (s.findNode v layout
    w tokens note).2 :=
  foldlSnd (hs.liveNodes) fun _ _ h0 => (iteSnd (h0.nodeTokens) (ite (((h0.nodeTokens).countPage).raise) (h0.nodeTokens)))

theorem walk (hs : s₀.Keeps s) {q : SeqRec} {beat fuel : Nat} {w : Walk} : s₀.Keeps (s.walk q beat fuel w).2 := by
  induction fuel generalizing s w with
  | zero => exact hs
  | succ fuel ih =>
    unfold State.walk
    extract_lets t f
    have hf : s₀.Keeps f.2 := hs.kRead.findNode
    clear_value f
    cases f.1 with
    | none => exact snd_mk hf.countPage
    | some n =>
      dsimp only
      exact ih (countPage (writeNode (hf.nodeEntries.writeBlock.foldl fun _ _ h => h.takeRef)))

theorem unwalk (hs : s₀.Keeps s) {q : SeqRec} {w : Walk} : s₀.Keeps (s.unwalk q w) :=
  ((hs.readBlocks).foldl fun _ _ h3 => (h3.dropRef)).chainUsers

theorem blockPoison (hs : s₀.Keeps s) {q : SeqRec} {t : Nat} {ws : List Nat} : s₀.Keeps (s.blockPoison q t ws).2 :=
  foldlSnd hs fun _ _ h0 => (h0.agentRead)

theorem skipInsert (hs : s₀.Keeps s) {b : Fin 64} {t : Nat} {reason : Nat} : s₀.Keeps (s.skipInsert b t reason) := (hs.countPage).raise

theorem writeNew (hs : s₀.Keeps s) {q : SeqRec} {w : Walk} {beat : Nat} {i : Nat} {tokens : List Byte} {ws : List Nat} : s₀.Keeps
    (s.writeNew q w beat i tokens ws) :=
  ((((hs.writeNode).kWrite).kWrite).foldl fun _ _ h3 => (h3.takeRef)).countPage

theorem useAbove (hs : s₀.Keeps s) {v : VatNo} {top fuel i : Nat} : s₀.Keeps (s.useAbove v top fuel i) := by
  induction fuel generalizing s i with
  | zero => exact hs
  | succ fuel ih =>
    unfold State.useAbove
    exact ite hs (ih hs.readNode.writeNode)

theorem insertBlocks (hs : s₀.Keeps s) {b : Fin 64} {beat fuel : Nat} {w : Walk} : s₀.Keeps (s.insertBlocks b beat fuel w) := by
  induction fuel generalizing s w with
  | zero => exact hs
  | succ fuel ih =>
    unfold State.insertBlocks
    extract_lets q t next f e p all free i u
    have ht : s₀.Keeps t.2 := hs.kRead
    have hf : s₀.Keeps f.2 := ht.findNode
    have hp : s₀.Keeps p.2 := hf.readBlock.blockPoison
    have ha : s₀.Keeps all.2 := hp.nodes
    have hi : s₀.Keeps i.2.2 := ha.pick
    have hu : s₀.Keeps u := hi.writeNew.useAbove
    refine ite (ih ht.skipInsert) ?_
    cases f.1 with
    | some n => exact ih hf.skipInsert
    | none => exact ite (ih hp.skipInsert) (ite (ih ha.skipInsert) (ih hu.setSeq))

theorem toHostFrames (hs : s₀.Keeps s) {v : VatNo} {fs : List Nat} {bs : List (Byte × Bool)} : s₀.Keeps (s.toHostFrames v fs bs) := by
  induction fs generalizing s bs with
  | nil => exact hs
  | cons f fs ih => exact ih hs.postHost

theorem swapOut (hs : s₀.Keeps s) {b : Fin 64} : s₀.Keeps (s.swapOut b) :=
  (((((((((hs.heldEntries).pickMany).foldl fun _ _ h21 => (h21.setFrame)).setSeq).agentRead).agentRead).toHostFrames).toHostFrames).foldl
    fun _ _ h15 => ((h15.agentRead).toHostFrames)).askHost

theorem park (hs : s₀.Keeps s) {b : Fin 64} {demanded : Nat} : s₀.Keeps (s.park b demanded) := ((hs.setSeq).countPage).raise

theorem swapNeed (hs : s₀.Keeps s) {b : Fin 64} : s₀.Keeps (s.swapNeed b).2.2 := hs.heldEntries

theorem evictSeq (hs : s₀.Keeps s) {b : Fin 64} {demanded : Nat} : s₀.Keeps (s.evictSeq b demanded) :=
  ite (((hs.swapNeed).raiseVat).swapOut) (ite (hs.swapNeed) ((hs.swapNeed).park))

theorem swapOutDone (hs : s₀.Keeps s) {b : Fin 64} : s₀.Keeps (s.swapOutDone b) :=
  (((((hs.foldl fun _ _ h12 => ((h12.readBlock).writeBlock)).foldl fun _ _ h11 => (h11.setFrame)).setSeq).refreshPriv).countPage).raise

theorem swapIn (hs : s₀.Keeps s) {b : Fin 64} : s₀.Keeps (s.swapIn b) :=
  ((((hs.heldEntries).allocFrames).setSeq).refreshPriv).foldl fun _ _ h4 => (h4.askHost)

theorem swapInDone (hs : s₀.Keeps s) {b : Fin 64} {data : List Byte} : s₀.Keeps (s.swapInDone b data) :=
  (((((((((hs.heldEntries).kWrite).foldl fun _ _ h20 => (h20.kWrite)).foldl fun _ _ h19 => (h19.setFrame)).foldl fun _ _ h18 =>
    (h18.takeRef)).foldl fun _ _ h17 => ((h17.readBlock).writeBlock)).setSeq).refreshPriv).countPage).raise

theorem staged (hs : s₀.Keeps s) {v : VatNo} {a : Nat} : s₀.Keeps (s.staged v a).2 := hs.agentRead

theorem stagedMany (hs : s₀.Keeps s) {v : VatNo} {as : List Nat} : s₀.Keeps (s.stagedMany v as).2 := foldlSnd hs fun _ _ h1 => (h1.staged)

theorem putBits (hs : s₀.Keeps s) {v : VatNo} {a : Nat} {off : Nat} {w : Nat} {codes : List Nat} : s₀.Keeps (s.putBits v a off w codes) :=
  (hs.agentRead).kWrite

theorem putPoison (hs : s₀.Keeps s) {v : VatNo} {a : Nat} {n : Nat} : s₀.Keeps (s.putPoison v a n) := ite (hs.poisonHbm) hs

theorem flushBlock (hs : s₀.Keeps s) {v : VatNo} {f : BitVec 4} {mode : BitVec 3} {vals : List (FVal × Bool)} {a off sa : Nat} :
    s₀.Keeps (s.flushBlock v f mode vals a off sa).2 := by
  unfold State.flushBlock
  extract_lets g ctl c hot t u n x
  have hu : s₀.Keeps u := by
    show s₀.Keeps (match c.scale with | some byte => t.kWrite v sa [byte] | none => t)
    split
    · exact hs.putBits.kWrite
    · exact hs.putBits
  have hx : s₀.Keeps x := ite hu hu.countPage.countPage.countPage
  exact iteSnd (ite hx.putPoison.putPoison hx.putPoison) hx

theorem runSteps (hs : s₀.Keeps s) {l : List (State → Bool × State)} (hl : ∀ f ∈ l, ∀ t, s₀.Keeps t → s₀.Keeps (f t).2) :
    s₀.Keeps (runSteps s l).2 := by
  unfold Machine.runSteps
  generalize hb : (false, s) = p
  replace hs : s₀.Keeps p.2 := hb ▸ hs
  clear hb
  induction l generalizing p with
  | nil => exact hs
  | cons f l ih => exact ih (fun g hg => hl g (List.mem_cons_of_mem _ hg)) _ (hl f List.mem_cons_self _ hs)

theorem flushLayer (hs : s₀.Keeps s) {b : Fin 64} {q : SeqRec} {t0 t1 layer : Nat} : s₀.Keeps (s.flushLayer b q t0 t1 layer) := by
  unfold State.flushLayer
  extract_lets l v area blk e ent kp vp slot sc B keys values r
  have hr : s₀.Keeps r.2 := by
    refine runSteps (hs.readBlock) fun f hf t ht => ?_
    rcases List.mem_append.1 hf with h | h <;>
    · simp only [keys, values, List.mem_flatMap, List.mem_map] at h
      obtain ⟨_, _, _, _, _, _, rfl⟩ := h
      exact ht.stagedMany.flushBlock
  exact ite hr.raise hr

theorem flush (hs : s₀.Keeps s) {b : Fin 64} {g : Nat} : s₀.Keeps (s.flush b g) :=
  (hs.foldl fun _ _ h5 => (h5.foldl fun _ _ h6 => (h6.flushLayer))).setSeq

theorem takeJoin (hs : s₀.Keeps s) {c : Cmd} : s₀.KeepsOk (s.takeJoin c) := .checkAll (hs.keep : s₀.Keeps _)

theorem takeLeave (hs : s₀.Keeps s) {c : Cmd} : s₀.KeepsOk (s.takeLeave c) := .checkAll (hs.keep : s₀.Keeps _)

theorem takeGrowth (hs : s₀.Keeps s) {c : Cmd} : s₀.KeepsOk (s.takeGrowth c) := .checkAll (hs.keep : s₀.Keeps _)

theorem takeLayout (hs : s₀.Keeps s) {c : Cmd} : s₀.KeepsOk (s.takeLayout c) := by
  unfold State.takeLayout
  dsimp only
  split
  · trivial
  · exact doneCmd hs.keep

theorem takeSwapArea (hs : s₀.Keeps s) {c : Cmd} : s₀.KeepsOk (s.takeSwapArea c) := .checkAll hs.setVol.setVol.doneCmd

theorem updWork (hs : s₀.Keeps s) {v : VatNo} {f : PageWork → PageWork} : s₀.Keeps (s.updWork v f) := hs.keep

theorem applyLeave (hs : s₀.Keeps s) {b : Fin 64} : s₀.Keeps (s.applyLeave b) :=
  (((hs.heldEntries).foldl fun _ _ h6 => (h6.dropRef)).chainUsers).setSeq

theorem runLeaves (hs : s₀.Keeps s) {v : VatNo} {n : Nat} : s₀.Keeps (s.runLeaves v n) := by
  unfold State.runLeaves
  refine hs.foldl fun _ b h => h.foldl fun t l ht => ?_
  extract_lets st u j x
  have hu : s₀.Keeps u := ht.keep
  have hx : s₀.Keeps x := by
    cases hj : j with
    | none => simpa only [x, hj] using hu
    | some j => simpa only [x, hj] using hu.cancelJoin
  exact ite ht (ite hx.slotFinal (ite hx.raiseVat.countVat.slotFinal hx.applyLeave.slotFinal))

theorem runInserts (hs : s₀.Keeps s) {v : VatNo} {n : Nat} : s₀.Keeps (s.runInserts v n) := by
  unfold State.runInserts
  refine hs.foldl fun t b ht => ?_
  extract_lets q u k r
  have hu : s₀.Keeps u := ht.setSeq
  have hr : s₀.Keeps r.2 := iteSnd hu hu.readNode
  exact ite ht (ite hu hr.insertBlocks)

theorem deferJoin (hs : s₀.Keeps s) {j : JoinRec} {short : Nat} : s₀.Keeps (s.deferJoin j short) :=
  ite (hs.countVat).keep ((hs.countVat).keep.raiseVat)

theorem admitJoin (hs : s₀.Keeps s) {j : JoinRec} {b : Fin 64} {n : Nat} : s₀.Keeps (s.admitJoin j b n) := by
  unfold State.admitJoin
  extract_lets _ q r need t free q' u v
  have ht : s₀.Keeps t := hs.walk.makeRoom
  have hu : s₀.Keeps u := ht.addBlocks.setSeq
  have hv : s₀.Keeps v := hu.keep
  exact ite ht.unwalk.deferJoin hv.slotFinal

theorem resume (hs : s₀.Keeps s) {j : JoinRec} {b : Fin 64} {n : Nat} : s₀.Keeps (s.resume j b n) := by
  unfold State.resume
  extract_lets q e need t free u
  have ht : s₀.Keeps t := hs.heldEntries.makeRoom
  have hu : s₀.Keeps u := ht.setSeq.swapIn
  exact ite hs (ite ht.deferJoin (hu.keep (by dsimp only [State.kept])))

theorem runJoins (hs : s₀.Keeps s) {v : VatNo} {n : Nat} : s₀.Keeps (s.runJoins v n) :=
  hs.foldl fun _ _ h1 => (ite (h1.resume) (h1.admitJoin))

theorem runDemands (hs : s₀.Keeps s) {v : VatNo} {n : Nat} {l : List (Fin 64)} {held : Nat} {unmet waits : List Nat} {out : List (Fin 64)} :
    s₀.Keeps (State.runDemands v n l held unmet waits out s) := by
  induction l generalizing s held unmet waits out with
  | nil => exact hs.updWork
  | cons b l ih =>
    unfold State.runDemands
    dsimp only
    refine ite (ih hs) (ite (ih hs.makeRoom.addBlocks.setSeq) ?_)
    split
    · exact ih hs.makeRoom.evictSeq
    · exact ih (hs.makeRoom.foldl fun _ _ h => h.evictSeq)

theorem demandStep (hs : s₀.Keeps s) {v : VatNo} : s₀.Keeps (s.demandStep v) := by
  unfold State.demandStep
  split
  · exact hs
  · exact (ite hs (hs.runDemands))

theorem endGrowths (hs : s₀.Keeps s) {v : VatNo} {n : Nat} {bad : Bool} : s₀.Keeps (s.endGrowths v n bad) :=
  hs.keep.foldl fun _ _ h2 => (ite (((h2.raiseVat).countVat).slotFinal) (h2.slotFinal))

theorem runFlushes (hs : s₀.Keeps s) {v : VatNo} {n : Nat} : s₀.Keeps (s.runFlushes v n).1 :=
  foldlFst hs fun _ _ h => iteFst h (flush (ite h.free.raise h))

theorem endWork (hs : s₀.Keeps s) {v : VatNo} {n : Nat} : s₀.Keeps (s.endWork v n) :=
  (((((hs.runFlushes).kWrite).foldl fun _ _ h7 => (ite h7 ((ite h7 (h7.setSeq)).refreshPriv))).endGrowths).updWork).vatCause

theorem swapReads (hs : s₀.Keeps s) {b : Fin 64} : s₀.Keeps (s.swapReads b) := hs.readsBack

theorem endResume (hs : s₀.Keeps s) {b : Fin 64} {ok : Bool} : s₀.Keeps (s.endResume b ok) := by
  unfold State.endResume
  refine demandStep ?_
  split
  · exact hs
  · exact slotFinal hs.keep

theorem swapFail (hs : s₀.Keeps s) {b : Fin 64} {status : Nat} : s₀.Keeps (s.swapFail b status) :=
  ite (((((hs.readsEnd).raise).foldl fun _ _ h7 => (h7.setFrame)).setSeq).park) (ite (((((hs.readsEnd).raise).foldl fun _ _ h8 =>
    (h8.setFrame)).setSeq).endResume) (hs.readsEnd))

theorem rowDraws (hs : s₀.Keeps s) {c : CoreId} {d : Desc} {ctl : CCtl} {stream : Word} {draw : Word} {r : Int} {c0 : Int} {cells : List
    (Option Cell)} : s₀.Keeps (s.rowDraws c d ctl stream draw r c0 cells).2 :=
  iteSnd hs (hs.draw16s)

theorem markPoison (hs : s₀.Keeps s) {c : CoreId} {hot : Bool} : s₀.Keeps (s.markPoison c hot) := ite (hs.updCore) hs

theorem storeRow (hs : s₀.Keeps s) {c : CoreId} {slot : Fin 16} {d : Desc} {ctl : CCtl} {zero : Bool} {stream : Word} {draw : Word} {r :
    Int} {c0 : Int} {cells : List (Option Cell)} : s₀.Keeps (s.storeRow c slot d ctl zero stream draw r c0 cells) :=
  ((ite ((hs.rowDraws).storeTensor) (((hs.rowDraws).storeTensor).storeCells)).addCensus).markPoison

theorem chainToReg (hs : s₀.Keeps s) {c : CoreId} {f : ChainF} {ctl : CCtl} {row : List Cell} : s₀.Keeps (s.chainToReg c f ctl row) := by
  unfold State.chainToReg
  extract_lets mask ctl d act x0 t fr o lane
  have ht : s₀.Keeps t.2 := iteSnd hs.draw16s hs
  have hf : s₀.Keeps fr.2 := iteSnd ht ht.free
  exact hf.writeV.addCensus

theorem chainToPipe (hs : s₀.Keeps s) {c : CoreId} {f : ChainF} {ctl : CCtl} {ri : Nat} {row : List Cell} : s₀.Keeps (s.chainToPipe c f ctl
    ri row) :=
  (((hs.rowDraws).addCensus).updPipe).markPoison

theorem chainRow (hs : s₀.Keeps s) {c : CoreId} {f : ChainF} {dd : Desc} {ctl : CCtl} {start : Core} {lo hi : Lane} {k0 : FVal}
    {res : Int → Int → FVal × Bool} {xdr xdc : Int} {row : ChainRow} :
    s₀.Keeps (s.chainRow c f dd ctl start lo hi k0 res xdr xdc row) := by
  unfold State.chainRow
  extract_lets ri r mask slot real _ src o t u hot x
  have ht : s₀.Keeps t := hs.updCore (chainStages_buf ..)
  have hu : s₀.Keeps u := ht.addCensus
  have hx : s₀.Keeps x := ite hu hu.addCensus
  split
  · exact hx.storeRow
  · exact hx.chainToReg
  · exact hx.chainToPipe

theorem chainRun (hs : s₀.Keeps s) {c : CoreId} {f : ChainF} : s₀.Keeps (s.chainRun c f) := by
  unfold State.chainRun
  extract_lets dd sd rdd ctl xdr xdc a b d p q e start core lo hi res rows tile k0 slot up _ g h j
  have ha : s₀.Keeps a := ite hs.markChecked hs
  have hb : s₀.Keeps b := ite ha.markChecked ha
  have hd : s₀.Keeps d := by
    show s₀.Keeps (match f.srcKind.toNat with | 0 => b.bound c [f.tile] | 1 => b.markChecked c f.ds | _ => b)
    split
    · exact hb.bound
    · exact hb.markChecked
    · exact hb
  have hp : s₀.Keeps p.1 := iteFst hd.reader hd
  have hq : s₀.Keeps q.1 := iteFst hp.reader hp
  have hg : s₀.Keeps g := ite hq.addCensus.markPoison hq
  have hh : s₀.Keeps h := hg.foldl fun _ _ k => k.chainRow
  have hj : s₀.Keeps j := ite hh.pipeWrite hh
  exact ite hj.releaseTile hj

theorem regRun (hs : s₀.Keeps s) {c : CoreId} {f : ChainF} : s₀.Keeps (s.regRun c f) := by
  unfold State.regRun
  refine addCensus (hs.updCore ?_)
  refine Core.buf_foldl (g := Prod.fst) _ _ fun p a => Core.buf_foldl (g := Prod.fst) _ _ fun q i => ?_
  dsimp only
  split
  · split
    · exact Core.buf_foldl (g := id) _ _ fun _ _ => rfl
    · rfl
  · split <;> exact Core.buf_foldl (g := id) _ _ fun _ _ => Core.buf_setState ..

theorem chain (hs : s₀.Keeps s) {i : Instr} {c : CoreId} {h : Hdr} {f : ChainF} : s₀.Keeps (s.chain i c h f) :=
  hs.issue (fun _ h0 => (ite (h0.checked (fun _ h2 => (h2.regRun))) (h0.checked (fun _ h2 => (h2.chainRun)))))

theorem moveDraws (hs : s₀.Keeps s) {c : CoreId} {ctl : CCtl} {cols : List Nat} : s₀.Keeps (s.moveDraws c ctl cols).2 :=
  iteSnd hs ((hs.free).draws)

theorem putRow (hs : s₀.Keeps s) {c : CoreId} {slot : Fin 16} {d : Desc} {r : Int} {o : RowOut × List WrScale} : s₀.Keeps (s.putRow c slot d
    r o) :=
  ((ite (ite (hs.updPipe) hs) (ite (ite (hs.storeTensor) ((hs.storeTensor).storeCells)) ((ite (hs.storeTensor)
    ((hs.storeTensor).storeCells)).storeCells))).addCensus).markPoison

theorem copyRow (hs : s₀.Keeps s) {c : CoreId} {slot : Fin 16} {d : Desc} {r : Int} {c0 : Int} {items : List Item} : s₀.Keeps (s.copyRow c
    slot d r c0 items) :=
  hs.putRow

theorem moveRow (hs : s₀.Keeps s) {c : CoreId} {f : MoveF} {sd : Desc} {dd : Desc} {ctl : CCtl} {xdr : Int} {xdc : Int} {i : Nat} {items :
    List Item} : s₀.Keeps (s.moveRow c f sd dd ctl xdr xdc i items) :=
  (iteSnd hs (hs.moveDraws)).putRow

theorem sourceRows (hs : s₀.Keeps s) {c : CoreId} {f : MoveF} {sd : Desc} : s₀.Keeps (s.sourceRows c f sd).2 := by
  have h : s₀.Keeps (s.updCore c fun k => { k with pipeIn := [] }) := hs.updCore
  exact iteSnd h hs.reader

theorem moveRun (hs : s₀.Keeps s) {c : CoreId} {f : MoveF} : s₀.Keeps (s.moveRun c f) :=
  ite (((((hs.markChecked).markChecked).sourceRows).foldl fun _ _ h9 => (h9.moveRow)).pipeWrite)
    ((((hs.markChecked).markChecked).sourceRows).foldl fun _ _ h8 => (h8.moveRow))

theorem moveWaits (hs : s₀.Keeps s) {c : CoreId} {f : MoveF} : s₀.Keeps (s.moveWaits c f) := by
  unfold State.moveWaits
  dsimp only
  exact (((hs.markChecked).markChecked).pipeTake).updCore

theorem moveStart (hs : s₀.Keeps s) {c : CoreId} {f : MoveF} : s₀.Keeps (s.moveStart c f) :=
  ite (hs.moveWaits) ((ite (hs.pipeTake) hs).moveRun)

theorem tryMove (hs : s₀.Keeps s) {c : CoreId} : s₀.Keeps (s.tryMove c) := by
  rw [State.tryMove]
  obtain ⟨stop, hstop⟩ : ∃ f, f = State.pipeStop := ⟨_, rfl⟩
  rw [← hstop]
  split
  · exact hs
  · extract_lets k t back sd u
    have ht : s₀.Keeps t := hs.updCore (by dsimp only)
    have hu : s₀.Keeps u := ht.pipeTake
    have hback {v : State} (hv : s₀.Keeps v) : s₀.Keeps (back v) := hv.updCore (by dsimp only)
    split
    · exact ht.stopProgram
    · exact ite (hback hu) (hback (moveRun (hu.updCore (by dsimp only))))

theorem splitRow (hs : s₀.Keeps s) {c : CoreId} {d : DReg} {desc : Desc} {ctl : CCtl} {xdr : Int} {xdc : Int} {i : Nat} {vals : List (Option
    Cell)} : s₀.Keeps (s.splitRow c d desc ctl xdr xdc i vals) :=
  hs.putRow

theorem splitRun (hs : s₀.Keeps s) {c : CoreId} {f : MoveF} : s₀.Keeps (s.splitRun c f) :=
  ite ((ite ((((((hs.markChecked).markChecked).markChecked).sourceRows).foldl fun _ _ h14 => ((h14.splitRow).splitRow)).pipeWrite)
    (((((hs.markChecked).markChecked).markChecked).sourceRows).foldl fun _ _ h13 => ((h13.splitRow).splitRow))).pipeWrite) (ite
    ((((((hs.markChecked).markChecked).markChecked).sourceRows).foldl fun _ _ h13 => ((h13.splitRow).splitRow)).pipeWrite)
    (((((hs.markChecked).markChecked).markChecked).sourceRows).foldl fun _ _ h12 => ((h12.splitRow).splitRow)))

theorem regOpen (hs : s₀.Keeps s) {c : CoreId} {d : DReg} {f : MoveF} {n : Nat} : s₀.Keeps (s.regOpen c d f n) := (hs.markChecked).resolve

theorem regStore (hs : s₀.Keeps s) {c : CoreId} {d : DReg} {f : MoveF} {bs : List Byte} {bad : List Nat} : s₀.Keeps (s.regStore c d f bs
    bad) := by
  unfold State.regStore
  dsimp only
  exact (hs.markChecked).storeCells

theorem poolChange (hs : s₀.Keeps s) {pool : Fin 8} {minus : Nat} {plus : Nat} : s₀.Keeps (s.poolChange pool minus plus) := hs.keep

theorem auditCmd (hs : s₀.Keeps s) {v : VatNo} {idx : Nat} {sub : Nat} {old : List Nat} {new : List Nat} : s₀.Keeps (s.auditCmd v idx sub
    old new) :=
  hs.auditRec

theorem putPipe (hs : s₀.Keeps s) {n : Fin 1024} {p : Pipe} : s₀.Keeps (s.putPipe n p) := ((hs.updPipe).poolChange).poolChange

theorem pipeSet (hs : s₀.Keeps s) {v : VatNo} {n : Fin 1024} {p : Pipe} : s₀.Keeps (s.pipeSet v n p) := (hs.putPipe).auditCmd

theorem takePipeOpen (hs : s₀.Keeps s) {c : Cmd} : s₀.KeepsOk (s.takePipeOpen c) := .checkAll hs.pipeSet.doneCmd

theorem takePipeConfigure (hs : s₀.Keeps s) {c : Cmd} : s₀.KeepsOk (s.takePipeConfigure c) := .checkAll hs.pipeSet.doneCmd

theorem stopWriter (hs : s₀.Keeps s) {n : Fin 1024} : s₀.Keeps (s.stopWriter n) := by
  unfold State.stopWriter
  dsimp only
  exact ite hs (dite (fun _ => (by split; exact (((hs.updPipe).raise).haltCore); exact (hs.updPipe))) fun _ => (hs.updPipe))

theorem pipeGone (hs : s₀.Keeps s) {n : Fin 1024} : s₀.Keeps (s.pipeGone n) := by
  unfold State.pipeGone
  have h := hs.putPipe (n := n) (p := Pipe.reset)
  dsimp only
  split
  · exact slotFinal h.keep
  · exact h.keep

theorem takePipeClose (hs : s₀.Keeps s) {c : Cmd} : s₀.KeepsOk (s.takePipeClose c) := .checkAll hs.pipeSet

theorem agentWriteP (hs : s₀.Keeps s) {v : Nat} {a : Nat} {bs : List (Byte × Bool)} {agent : Nat} : s₀.Keeps (s.agentWriteP v a bs agent) :=
  ite ((hs.agentWrite).foldl fun _ _ h2 => (ite (h2.poisonHbm) h2)) (hs.agentWrite)

theorem wheyToHead (hs : s₀.Keeps s) {n : Fin 1024} : s₀.Keeps (s.wheyToHead n) := by
  unfold State.wheyToHead
  dsimp only
  split
  · exact hs
  · exact ((hs.agentRead).updPipe)

theorem tailToWhey (hs : s₀.Keeps s) {n : Fin 1024} {k : Packet} : s₀.Keeps (s.tailToWhey n k) := ((hs.agentWriteP).updPipe).countStat

theorem countCut (hs : s₀.Keeps s) {p : Pipe} {k : Packet} : s₀.Keeps (s.countCut p k) := ite (ite (hs.free) ((hs.free).countStat)) hs

theorem moveOne (hs : s₀.Keeps s) {n : Fin 1024} : s₀.Keeps (s.moveOne n) := by
  unfold State.moveOne
  dsimp only
  exact ite (hs.wheyToHead) (by split; exact (ite hs (ite ((hs.countCut).updPipe) (ite (hs.tailToWhey) hs))); exact hs)

theorem sendNotices (hs : s₀.Keeps s) {n : Fin 1024} {fuel : Nat} : s₀.Keeps (s.sendNotices n fuel) := by
  induction fuel generalizing s with
  | zero => exact hs
  | succ fuel ih =>
    unfold State.sendNotices
    refine ite hs (ite (ih hs.updPipe.signalLocal) ?_)
    split
    · exact hs
    · exact ih hs.updPipe.signalLocal

theorem takeRennet (hs : s₀.Keeps s) {c : Cmd} : s₀.KeepsOk (s.takeRennet c) := .checkAll hs.setRennet.poolChange.auditCmd.doneCmd

theorem opSlotRefused (hs : s₀.Keeps s) {o : OpSlot} {ev : Nat} : s₀.Keeps (s.opSlotRefused o ev) := ((hs.raiseVat).countVat).slotFinal

theorem opStatus (hs : s₀.Keeps s) {u : UnitNo} {status : Nat} : s₀.Keeps (s.opStatus u status) := hs.updUnit

theorem opDone (hs : s₀.Keeps s) {u : UnitNo} {slot : Option OpSlot} : s₀.Keeps (s.opDone u slot) := by
  unfold State.opDone
  dsimp only
  split
  · exact ((hs.opStatus).slotFinal)
  · exact (hs.opStatus)

theorem loadDone (hs : s₀.Keeps s) {u : UnitNo} : s₀.Keeps (s.loadDone u) := ite ((hs.updUnit).opDone) (hs.updUnit)

theorem loadFailed (hs : s₀.Keeps s) {u : UnitNo} {why : Nat} : s₀.Keeps (s.loadFailed u why) := (hs.raise).updUnit

theorem freeze (hs : s₀.Keeps s) {u : UnitNo} : s₀.Keeps (s.freeze u) := by
  unfold State.freeze
  dsimp only
  exact hs.updUnit

theorem faultUnit (hs : s₀.Keeps s) {u : UnitNo} {ev : Nat} : s₀.Keeps (s.faultUnit u ev) :=
  ite hs (dite (fun _ => ((ite (((((ite (hs.loadFailed) hs).freeze).updUnit).moveTo).loadDone) ((((ite (hs.loadFailed)
    hs).freeze).updUnit).moveTo)).haltCore)) fun _ => (ite (((((ite (hs.loadFailed) hs).freeze).updUnit).moveTo).loadDone) ((((ite
    (hs.loadFailed) hs).freeze).updUnit).moveTo)))

theorem enterFaulted (hs : s₀.Keeps s) {u : UnitNo} {ev : Nat} : s₀.Keeps (s.enterFaulted u ev) :=
  ite ((hs.faultUnit).faultUnit) (hs.faultUnit)

theorem startDrain (hs : s₀.Keeps s) {u : UnitNo} {goal : Fin 9} {causes : Byte} : s₀.Keeps (s.startDrain u goal causes) :=
  (((hs.updUnit).transition).foldl fun _ _ h4 => ((h4.updUnit).transition)).requestBelow

theorem holdFor (hs : s₀.Keeps s) {u : UnitNo} {cause : Byte} : s₀.Keeps (s.holdFor u cause) :=
  ite ((hs.moveTo).requestBelow) (ite (hs.startDrain) (ite hs (hs.setCauses)))

theorem startLoading (hs : s₀.Keeps s) {u : UnitNo} {streaming : Bool} {slot : Option OpSlot} : s₀.Keeps (s.startLoading u streaming slot)
    :=
  ((hs.updUnit).moveTo).foldl fun _ _ h4 => ((h4.updUnit).moveTo)

theorem takeFused (hs : s₀.Keeps s) {first : Nat} {last : Nat} : s₀.Keeps (s.takeFused first last) := by
  unfold State.takeFused
  exact hs.foldl fun _ _ h0 => (ite (by split; exact h0.keep; exact h0) h0)

theorem extend (hs : s₀.Keeps s) {path : Nat} {kind : Nat} {version : Nat} {hash : List Byte} : s₀.Keeps (s.extend path kind version hash)
    :=
  hs.keep.setVol

theorem loadArray (hs : s₀.Keeps s) {u : UnitNo} {r : SelfTest} : s₀.Keeps (s.loadArray u r).1 := by
  unfold State.loadArray
  dsimp only
  split
  · exact (((((hs.updUnit).setVol).setVol).setVol).raise)
  · exact ((((hs.updUnit).setVol).setVol).setVol)

theorem loadCore (hs : s₀.Keeps s) {u : UnitNo} {r : SelfTest} : s₀.Keeps (s.loadCore u r).1 := by
  unfold State.loadCore
  dsimp only
  exact iteFst (hs.raise) (iteFst (ite ((hs.foldl fun _ _ h3 => ((h3.setVol).raise)).setVol) (hs.foldl fun _ _ h2 => ((h2.setVol).raise)))
    (iteFst (((((ite ((ite ((hs.foldl fun _ _ h9 => ((h9.setVol).raise)).setVol) (hs.foldl fun _ _ h8 => ((h8.setVol).raise))).updUnit)
    (((ite ((hs.foldl fun _ _ h10 => ((h10.setVol).raise)).setVol) (hs.foldl fun _ _ h9 =>
    ((h9.setVol).raise))).updUnit).raise)).setVol).setVol).setVol).setVol) (by split; exact (((((ite ((ite ((hs.foldl fun _ _ h10 =>
    ((h10.setVol).raise)).setVol) (hs.foldl fun _ _ h9 => ((h9.setVol).raise))).updUnit) (((ite ((hs.foldl fun _ _ h11 =>
    ((h11.setVol).raise)).setVol) (hs.foldl fun _ _ h10 => ((h10.setVol).raise))).updUnit).raise)).setVol).setVol).setVol).raise); exact ((((((ite
    ((ite ((hs.foldl fun _ _ h11 => ((h11.setVol).raise)).setVol) (hs.foldl fun _ _ h10 => ((h10.setVol).raise))).updUnit) (((ite ((hs.foldl
    fun _ _ h12 => ((h12.setVol).raise)).setVol) (hs.foldl fun _ _ h11 =>
    ((h11.setVol).raise))).updUnit).raise)).setVol).setVol).setVol).setVol).setVol))))

theorem clockReading (hs : s₀.Keeps s) : s₀.Keeps s.clockReading := ite (hs.setVol) hs

theorem loadPassed (hs : s₀.Keeps s) {u : UnitNo} {clock : Bool} : s₀.Keeps (s.loadPassed u clock) :=
  ite (ite (((ite ((ite (hs.updUnit) hs).extend) (ite (hs.updUnit) hs)).moveTo).setVol) ((ite ((ite (hs.updUnit) hs).extend) (ite
    (hs.updUnit) hs)).moveTo)) (ite (ite (((ite ((ite (hs.updUnit) hs).extend) (ite (hs.updUnit) hs)).moveTo).setVol) ((ite ((ite
    (hs.updUnit) hs).extend) (ite (hs.updUnit) hs)).moveTo)) (ite (ite (((ite ((ite (hs.updUnit) hs).extend) (ite (hs.updUnit)
    hs)).moveTo).setVol) ((ite ((ite (hs.updUnit) hs).extend) (ite (hs.updUnit) hs)).moveTo)) ((ite ((ite (hs.updUnit) hs).extend) (ite
    (hs.updUnit) hs)).moveTo)))

theorem failLoad (hs : s₀.Keeps s) {u : UnitNo} {why : Nat} : s₀.Keeps (s.failLoad u why) :=
  ite (((((hs.loadFailed).freeze).moveTo).loadDone).faultUnit) ((((hs.loadFailed).freeze).moveTo).loadDone)

theorem endLoading (hs : s₀.Keeps s) {u : UnitNo} {r : SelfTest} : s₀.Keeps (s.endLoading u r) :=
  ite hs (ite ((ite (((iteFst (hs.takeFused) (iteFst ((hs.takeFused).loadArray) (iteFst ((hs.takeFused).loadCore)
    (hs.takeFused)))).loadPassed).loadDone) ((iteFst (hs.takeFused) (iteFst ((hs.takeFused).loadArray) (iteFst ((hs.takeFused).loadCore)
    (hs.takeFused)))).failLoad)).clockReading) (ite (((iteFst (hs.takeFused) (iteFst ((hs.takeFused).loadArray) (iteFst
    ((hs.takeFused).loadCore) (hs.takeFused)))).loadPassed).loadDone) ((iteFst (hs.takeFused) (iteFst ((hs.takeFused).loadArray) (iteFst
    ((hs.takeFused).loadCore) (hs.takeFused)))).failLoad)))

theorem auditReq (hs : s₀.Keeps s) {q : UnitReq} {kind : Nat} {outcome : Nat} : s₀.Keeps (s.auditReq q kind outcome) := hs.auditRec

theorem refusalEvent (hs : s₀.Keeps s) {q : UnitReq} {why : Nat} : s₀.Keeps (s.refusalEvent q why) := ite (hs.raise) (hs.raise)

theorem reclaimHub (hs : s₀.Keeps s) : s₀.Keeps s.reclaimHub := by
  unfold State.reclaimHub
  have h := hs.foldl (f := fun s c => if s.cores[c].launch.isSome then s.freeCore c else s) (l := List.finRange 52)
    fun _ _ k => ite k.freeCore k
  generalize List.foldl _ s _ = t at h ⊢
  refine ⟨h.pending, h.power, fun hr => ?_⟩
  have k := h.canonical hr
  exact ⟨k.hbm, k.hub, k.dies, k.cores, k.frames, Sparse.wf_foldl_set _ Prod.fst _ _ _ rfl⟩

theorem thaw (hs : s₀.Keeps s) {q : Nat × Bool} : s₀.Keeps (s.thaw q) := dite (fun _ => (hs.updPipe)) fun _ => hs

theorem thawLink (hs : s₀.Keeps s) {u : UnitNo} : s₀.Keeps (s.thawLink u) := (ite (hs.twinReturns) hs).keep

theorem reclaim (hs : s₀.Keeps s) {q : UnitReq} : s₀.Keeps (s.reclaim q) :=
  (((ite (ite ((ite (hs.foldl fun _ _ h15 => (h15.thaw)) (hs.foldl fun _ _ h16 => (h16.thaw)).keep).reclaimHub) (ite (hs.foldl fun _ _ h14
    => (h14.thaw)) (hs.foldl fun _ _ h15 => (h15.thaw)).keep)) ((ite ((ite (hs.foldl fun _ _ h16 => (h16.thaw)) (hs.foldl fun _ _ h17 =>
    (h17.thaw)).keep).reclaimHub) (ite (hs.foldl fun _ _ h15 => (h15.thaw)) (hs.foldl fun _ _ h16 =>
    (h16.thaw)).keep)).thawLink)).updUnit).raise).auditReq

theorem effectReq (hs : s₀.Keeps s) {q : UnitReq} : s₀.Keeps (s.effectReq q) := by
  unfold State.effectReq
  dsimp only
  split
  · exact ((hs.holdFor).opDone)
  · exact (ite ((hs.clearCauses).opDone) (hs.startLoading))
  · exact (ite ((hs.startDrain).opDone) ((hs.moveTo).opDone))
  · exact (hs.startLoading)
  · exact (hs.startLoading)
  · exact ((hs.reclaim).opDone)

theorem asSeen (hs : s₀.Keeps s) {data : Bool} {us : List UnitNo} : s₀.Keeps (s.asSeen data us) := hs.foldl fun _ _ h0 => (h0.updUnit)

theorem rejoin {t : State} (ht : s₀.Keeps t) {data : Bool} {us : List UnitNo} : s₀.Keeps (s.rejoin t data us) :=
  ht.foldl fun _ _ h => h.updUnit

theorem onPath (hs : s₀.Keeps s) {q : UnitReq} {f : State → State} (hf : ∀ t, s₀.Keeps t → s₀.Keeps (f t)) : s₀.Keeps (s.onPath q f) :=
  rejoin (hf _ hs.asSeen)

theorem applyReq (hs : s₀.Keeps s) {q : UnitReq} : s₀.Keeps (s.applyReq q) := by
  unfold State.applyReq
  dsimp only
  refine hs.onPath fun _ h0 => ?_
  split
  · split
    · exact h0.opStatus.refusalEvent.auditReq.opSlotRefused
    · exact h0.opStatus.refusalEvent.auditReq
  · exact h0.effectReq

theorem sharePair (hs : s₀.Keeps s) {q : UnitReq} : s₀.Keeps (s.sharePair q) := ite (hs.sendTwin) hs

theorem queueGroup (hs : s₀.Keeps s) {q : UnitReq} : s₀.Keeps (s.queueGroup q) := hs.keep

theorem submitReq (hs : s₀.Keeps s) {q : UnitReq} : s₀.Keeps (s.submitReq q) := by
  unfold State.submitReq
  dsimp only
  refine ite hs.opStatus.auditReq.queueGroup.sendMgmt ?_
  split
  · split
    · exact hs.opStatus.refusalEvent.auditReq.opSlotRefused
    · exact hs.opStatus.refusalEvent.auditReq
  · exact ite hs.opStatus.auditReq.sharePair.queueGroup
      (ite hs.opStatus.auditReq.sharePair.applyReq hs.opStatus.auditReq.sharePair.keep)

theorem dueReqs (hs : s₀.Keeps s) : s₀.Keeps s.dueReqs := hs.keep.foldl fun _ _ h1 => (h1.applyReq)

theorem countSweep (hs : s₀.Keeps s) {c : CoreId} {o : SweepOp} {fa : Feed} {f : SweepF} {da : Desc} {dw : Desc} {xa : Int} {xw : Int} {xk :
    Int} {kk : Nat} : s₀.Keeps (s.countSweep c o fa f da dw xa xw xk kk) :=
  ((((hs.countTiling).countTiling).countTiling).countTiling).countTiling

theorem sweepRun (hs : s₀.Keeps s) {c : CoreId} {f : SweepF} {o : SweepOp} {fa : Feed} {fw : Feed} : s₀.Keeps (s.sweepRun c f o fa fw) := by
  unfold State.sweepRun
  dsimp only
  split
  · exact (((((((hs.bound).markChecked).markChecked).foldl fun _ _ h22 => (h22.openSpans)).openSpans).countSweep).operandFault)
  · exact ((((ite
      (ite (((((hs.bound).markChecked).markChecked).foldl fun _ _ h29 => (h29.openSpans)).openSpans)
      ((((((hs.bound).markChecked).markChecked).foldl fun _ _ h30 => (h30.openSpans)).openSpans).addCensus)) ((ite
      (((((hs.bound).markChecked).markChecked).foldl fun _ _ h30 => (h30.openSpans)).openSpans)
      ((((((hs.bound).markChecked).markChecked).foldl fun _ _ h31 =>
      (h31.openSpans)).openSpans).addCensus)).addCensus)).writeTile).countSweep).advance)

theorem countStopped (hs : s₀.Keeps s) {c : CoreId} {kind : Fin 5} {f : SweepF} {k : Nat} : s₀.Keeps (s.countStopped c kind f k) := by
  unfold State.countStopped
  dsimp only
  split
  · exact (hs.countSweep)
  · exact hs

theorem sweepOf (hs : s₀.Keeps s) {i : Instr} {c : CoreId} {h : Hdr} {cls : Nat} {op : Nat} {f : SweepF} {mode : State → Desc → Desc →
    Except Stop (SweepOp × Feed × Feed)} : s₀.Keeps (s.sweepOf i c h cls op f mode) := by
  unfold State.sweepOf
  dsimp only
  refine hs.issueOver fun _ h0 => ?_
  split
  · exact h0.stopProgram
  · split
    · exact h0.stopProgram
    · split
      · exact h0.stopProgram
      · exact h0.sweepRun

theorem accop (hs : s₀.Keeps s) {i : Instr} {c : CoreId} {h : Hdr} {f : AccF} {names : List TileNo} {own : State → List (Option Stop)}
    {pre : State → State} {scales : State → (Word × Word) × State} {g : State → Fin 4 → TileArr × Bool} {sp : State → Spans}
    (hp : ∀ t, s₀.Keeps t → s₀.Keeps (pre t)) (hc : ∀ t, s₀.Keeps t → s₀.Keeps (scales t).2) :
    s₀.Keeps (s.accop i c h f names own pre scales g sp) :=
  hs.issueOver fun _ ht => ht.checked fun _ hu => (hc _ (hp _ hu.bound)).writeTile

theorem freeScales (hs : s₀.Keeps s) : s₀.Keeps (freeScales s).2 := hs.free

theorem scalesOf (hs : s₀.Keeps s) {c : CoreId} {ta : TileNo} {td : TileNo} : s₀.Keeps (scalesOf c ta td s).2 := iteSnd hs (hs.free)

theorem accop2 (hs : s₀.Keeps s) {i : Instr} {c : CoreId} {h : Hdr} {f : AccF} {op : FVal → FVal → FVal × Bool} :
    s₀.Keeps (s.accop2 i c h f op) :=
  hs.accop (fun _ ht => ht) fun _ ht => ht.scalesOf

theorem poisonDest (hs : s₀.Keeps s) {c : CoreId} {d : UnitDest} : s₀.Keeps (s.poisonDest c d) := by
  unfold State.poisonDest
  dsimp only
  split
  · exact (hs.putV)
  · exact ((hs.free).updCore)
  · exact (ite ((hs.foldl fun _ _ h6 => (h6.putRow)).pipeWrite) (hs.foldl fun _ _ h5 => (h5.putRow)))
  · exact ((hs.foldl fun _ _ h5 => (h5.putRow)).pipeWrite)

theorem poisonDests (hs : s₀.Keeps s) {c : CoreId} {ds : List UnitDest} : s₀.Keeps (s.poisonDests c ds) :=
  hs.foldl fun _ _ h0 => (h0.poisonDest)

theorem stopWork (hs : s₀.Keeps s) {c : CoreId} {f : OperandFault} : s₀.Keeps (s.stopWork c f) := by
  unfold State.stopWork
  extract_lets t u
  have hu : s₀.Keeps u := by
    show s₀.Keeps (match f.spilling with | some v => t.poisonFrames c v | none => t)
    split
    · exact hs.bound.poisonFrames
    · exact hs.bound
  split
  · exact hu.countStopped.poisonTile
  · exact hu.poisonTile
  · exact hu.poisonDests

theorem holdFaulty (hs : s₀.Keeps s) {c : CoreId} {ev : Nat} : s₀.Keeps (s.holdFaulty c ev) :=
  ite (hs.enterFaulted) ((ite ((hs.updUnit).enterHeld) (hs.setCauses)).haltCore)

theorem hardFault (hs : s₀.Keeps s) {u : UnitNo} {structure_ : Nat} {offset : Nat} : s₀.Keeps (s.hardFault u structure_ offset) :=
  (hs.raise).enterFaulted

theorem blankAudit (hs : s₀.Keeps s) {slot : Nat} : s₀.Keeps (s.blankAudit slot) := hs.keep

theorem blankEvent (hs : s₀.Keeps s) {slot : Nat} : s₀.Keeps (s.blankEvent slot) := hs.keep

theorem poisonEnd (hs : s₀.Keeps s) {n : Fin 1024} {head : Bool} {offset : Nat} : s₀.Keeps (s.poisonEnd n head offset) := hs.updPipe

theorem poisonTarget (hs : s₀.Keeps s) {t : ChipMem × Nat} : s₀.Keeps (s.poisonTarget t) := by
  unfold State.poisonTarget
  dsimp only
  split
  · exact hs.setMem fun h => Mem.wf_poison _ _ h
  · exact hs.setMem fun h => Mem.wf_poison _ _ h
  · exact hs.setMem fun h => Mem.wf_poison _ _ h
  · exact hs.updCore
  · exact hs.foldl fun _ _ h => h.poisonEnd
  · exact hs

theorem countCorrected (hs : s₀.Keeps s) {u : UnitNo} {place : CorrectedIn} {n : Nat} : s₀.Keeps (s.countCorrected u place n) := by
  unfold State.countCorrected
  dsimp only
  refine ite (ite hs.count hs) (ite ?_ (ite ?_ hs))
  · split
    · exact hs.count
    · exact hs.count
    · exact hs.count
    · exact hs
  · split
    · exact hs.count
    · exact hs.count
    · exact hs

theorem beatWindows (hs : s₀.Keeps s) : s₀.Keeps s.beatWindows := hs.foldl fun _ _ h0 => (ite h0 (ite ((h0.updUnit).holdFor) (h0.updUnit)))

theorem logicFaulted (hs : s₀.Keeps s) {u : UnitNo} : s₀.Keeps (s.logicFaulted u) := (hs.free).hardFault

theorem updCroak (hs : s₀.Keeps s) {f : Croak → Croak} : s₀.Keeps (s.updCroak f) := hs.keep

theorem countCroak (hs : s₀.Keeps s) {sub : Nat} {n : Nat} : s₀.Keeps (s.countCroak sub n) := hs.count

theorem takeGroup (hs : s₀.Keeps s) {st : Fin 9} {causes : Byte} {version : BitVec 16} : s₀.Keeps (s.takeGroup st causes version) :=
  hs.adopt

theorem admitGroup (hs : s₀.Keeps s) : s₀.Keeps s.admitGroup := ite ((hs.transition).transition) hs

theorem discardSymbol (hs : s₀.Keeps s) {reason : Nat} : s₀.Keeps (s.discardSymbol reason) :=
  ite (hs.countCroak) (((hs.countCroak).updCroak).raise)

theorem answerEcho (hs : s₀.Keeps s) {node : Nat} : s₀.Keeps (s.answerEcho node) := ite (hs.send) hs

theorem acceptSymbol (hs : s₀.Keeps s) {bits : BitVec 192} {markNs : Nat} : s₀.Keeps (s.acceptSymbol bits markNs) := by
  unfold State.acceptSymbol
  dsimp only
  split
  · exact ((ite (((hs.countCroak).answerEcho).updCroak) ((((hs.countCroak).answerEcho).updCroak).takeGroup)).raise)
  · exact ((ite
      (((hs.countCroak).answerEcho).updCroak) ((((hs.countCroak).answerEcho).updCroak).takeGroup)).updCroak)

theorem sampleHold (hs : s₀.Keeps s) {high : Bool} : s₀.Keeps (s.sampleHold high) := by
  have h := hs.updCroak (f := fun k => { k with holdHigh := high, countedOut := [] })
  exact ite h.keep h

theorem releaseHold (hs : s₀.Keeps s) : s₀.Keeps s.releaseHold := hs.keep.updCroak

theorem discipline (hs : s₀.Keeps s) {d : Int} {lost : Bool} {at_ : Nat} : s₀.Keeps (s.discipline d lost at_) := by
  unfold State.discipline
  dsimp only
  exact hs.keep.updCroak

theorem measured (hs : s₀.Keeps s) {d : Int} {at_ : Nat} : s₀.Keeps (s.measured d at_) :=
  ite ((hs.setVol).updCroak) ((ite ((ite (((hs.setVol).updCroak).raise) ((hs.setVol).updCroak)).setVol) (ite ((ite
    (((hs.setVol).updCroak).raise) ((hs.setVol).updCroak)).setVol) (ite (((hs.setVol).updCroak).raise) ((hs.setVol).updCroak)))).discipline)

theorem commitCroak (hs : s₀.Keeps s) {old : State} {since : Nat} : s₀.Keeps (s.commitCroak old since) :=
  ite hs.keep (ite ((((ite ((hs.keep.updCroak).setVol) (hs.keep.updCroak)).driveHold).transition).releaseBelow) ((ite
    ((hs.keep.updCroak).setVol) (hs.keep.updCroak)).driveHold))

theorem engineBytes (hs : s₀.Keeps s) {n : Nat} : s₀.Keeps (s.engineBytes n).2 := hs.keep

theorem updSession (hs : s₀.Keeps s) {id : Nat} {f : Session → Session} : s₀.Keeps (s.updSession id f) := hs.keep

theorem dropSession (hs : s₀.Keeps s) {id : Nat} : s₀.Keeps (s.dropSession id) := hs.keep

theorem countDict (hs : s₀.Keeps s) {sub : Nat} : s₀.Keeps (s.countDict sub) := hs.count

theorem countSecure (hs : s₀.Keeps s) {sub : Nat} : s₀.Keeps (s.countSecure sub) := hs.count

theorem dropMsg (hs : s₀.Keeps s) {via : KopVia} {reason : Nat} : s₀.Keeps (s.dropMsg via reason) := by
  unfold State.dropMsg
  extract_lets t u key
  have hu : s₀.Keeps u := by
    show s₀.Keeps (match viaFn via with | some f => t.updFunc f fun g => { g with busy := false } | none => t)
    split
    · exact hs.countDict.updFunc
    · exact hs.countDict
  exact ite hu (raise hu.keep)

theorem deliver (hs : s₀.Keeps s) {via : KopVia} {b : List Byte} : s₀.Keeps (s.deliver via b) := by
  unfold State.deliver
  split
  · exact (hs.send)
  · exact (hs.updFunc)

theorem answer (hs : s₀.Keeps s) {x : Session} {m : KopMsg} {status : Nat} {data : List Byte} : s₀.Keeps (s.answer x m status data) :=
  (ite ((iteSnd hs.keep hs).updSession) (iteSnd hs.keep hs)).deliver

theorem denied (hs : s₀.Keeps s) {x : Session} {m : KopMsg} : s₀.Keeps (s.denied x m).1 := by
  unfold State.denied
  dsimp only
  exact hs.auditRec

theorem bySequence (hs : s₀.Keeps s) {x : Session} {m : KopMsg} : s₀.KeepsFront (s.bySequence x m) := by
  unfold State.bySequence
  split
  · trivial
  · split
    · split
      · exact hs.deliver
      · exact hs.answer.countDict
    · exact deliver (countDict (iteSnd hs.engineBytes hs))

theorem checkMsg (hs : s₀.Keeps s) {m : KopMsg} : s₀.KeepsFront (s.checkMsg m) := by
  unfold State.checkMsg
  split
  · exact hs.dropMsg
  · split
    · exact hs.bySequence
    · split
      · exact hs.dropMsg
      · extract_lets path
        split
        · exact hs.dropMsg
        · split
          · exact hs.dropMsg
          · exact hs.bySequence

theorem kopFront (hs : s₀.Keeps s) {m : KopMsg} : s₀.KeepsFront (s.kopFront m) := by
  unfold State.kopFront
  dsimp only
  split
  · split
    · exact hs.checkMsg
    · exact hs
  · split
    · exact hs
    · split
      · exact hs.discardTlp
      · split
        · exact ite hs hs.keep
        · exact hs.checkMsg

theorem kop (hs : s₀.Keeps s) {m : KopMsg} {mine : Bool} {body : State → Session → State × Nat × List Byte}
    (hb : ∀ t x, s₀.Keeps t → s₀.Keeps (body t x).1) : s₀.Keeps (s.kop m mine body) := by
  have h := hs.kopFront (m := m)
  unfold State.kop
  refine ite hs ?_
  split
  · next e =>
    rw [e] at h
    exact h
  · exact answer (iteFst hs.denied (hb _ _ hs))

theorem readMsg (hs : s₀.Keeps s) {x : Session} {m : KopMsg} : s₀.Keeps (s.readMsg x m).1 := by
  unfold State.readMsg
  refine iteFst hs (iteFst (iteFst hs hs) ?_)
  split
  · exact hs
  · exact iteFst hs.denied (iteFst hs hs)

theorem takePiece (hs : s₀.Keeps s) {x : Session} {m : KopMsg} {key size : Nat} : s₀.KeepsPiece (s.takePiece x m key size) := by
  unfold State.takePiece
  extract_lets drop put
  have hd : s₀.Keeps (drop s) := hs.updSession
  have hp (b : List Byte) : s₀.KeepsPiece (put b) := by
    show s₀.KeepsPiece (if size < b.length then _ else _)
    split
    · exact hd
    · split
      · exact hd
      · exact hs.updSession
  split
  · split
    · exact hs
    · split
      · exact hp _
      · exact hd
  · split
    · exact hp _
    · exact hd

theorem auditWrite (hs : s₀.Keeps s) {x : Session} {m : KopMsg} {kind : Nat} {r : EntryRow} {old new : List Byte} :
    s₀.Keeps (s.auditWrite x m kind r old new) := by
  unfold State.auditWrite
  exact hs.auditRec

theorem writeIn (hs : s₀.Keeps s) {x : Session} {m : KopMsg} : s₀.KeepsWritten (s.writeIn x m) := by
  unfold State.writeIn
  extract_lets idx sub refuse
  split
  · exact hs
  · split
    · split
      · exact hs.denied
      · exact hs
    · split
      · exact hs
      · next r _ =>
        split
        · exact hs.denied
        · extract_lets finish
          have hf (t : State) (b : List Byte) (ht : s₀.Keeps t) : s₀.KeepsWritten (finish t b) := by
            show s₀.KeepsWritten (if r.typ = 7 ∧ 1 < leNat b then _ else _)
            split
            · exact ht
            · split <;> exact ht
          split
          · split
            · exact hs
            · exact hf _ _ hs
          · have hp := hs.takePiece (x := x) (m := m) (key := ek idx sub)
              (size := if 0xA300 ≤ idx ∧ idx < 0xA308 then m.offset + m.data.length else r.bytes)
            split
            · next e => rw [e] at hp; exact hp
            · next e => rw [e] at hp; exact hp
            · next e => rw [e] at hp; exact hf _ _ hp

theorem writeMsg (hs : s₀.Keeps s) {x : Session} {m : KopMsg} {eff : State → EntryRow → Nat → State × Nat}
    (he : ∀ t r v, s₀.Keeps t → s₀.Keeps (eff t r v).1) : s₀.Keeps (s.writeMsg x m eff).1 := by
  have h := hs.writeIn (x := x) (m := m)
  unfold State.writeMsg
  split
  · next e => rw [e] at h; exact h
  · next e => rw [e] at h; exact h
  · next e => rw [e] at h; exact he _ _ _ h

theorem openShadow (hs : s₀.Keeps s) {x : Nat} {n : Nat} : s₀.Keeps (s.openShadow x n) :=
  hs.foldl fun _ _ h0 => (((h0.clearFirst).relocateFirst).resolve)

theorem readyShadow (hs : s₀.Keeps s) {x : Nat} {n : Nat} : s₀.Keeps (s.readyShadow x n) :=
  hs.foldl fun _ _ h0 => ((h0.clearFirst).relocateFirst)

theorem shadowDead (hs : s₀.Keeps s) {x : Nat} {n : Nat} : s₀.Keeps (s.shadowDead x n) := by
  unfold State.shadowDead
  split
  · exact (hs.refuseAccess)
  · exact hs

theorem readShadow (hs : s₀.Keeps s) {x : Nat} {n : Nat} : s₀.Keeps (s.readShadow x n).2 := (hs.openShadow).shadowDead

theorem writeShadow (hs : s₀.Keeps s) {x : Nat} {bs : List Byte} : s₀.Keeps (s.writeShadow x bs) := by
  unfold State.writeShadow
  dsimp only
  exact ((hs.readyShadow).shadowDead).writeMem

theorem scrubDone (hs : s₀.Keeps s) {d : Nat} : s₀.Keeps (s.scrubDone d) := ((hs.setVol).countMem).keep

theorem dropUncleared (hs : s₀.Keeps s) : s₀.Keeps s.dropUncleared := by
  unfold State.dropUncleared
  exact hs.hbm fun h => Mem.wf_filter _ _ _ h

theorem commitStorage (hs : s₀.Keeps s) {old : State} : s₀.Keeps (s.commitStorage old) := by
  unfold State.commitStorage
  extract_lets oldL newL moved moves added added' t u v w
  have ht : s₀.Keeps t := ite hs.dropUncleared hs
  have hu : s₀.Keeps u := ht.keep
  have hv : s₀.Keeps v := hu.setVol
  have hw : s₀.Keeps w := ite (setVol hv.keep) hv
  refine hw.foldl fun a d ha => ?_
  extract_lets e set mode b c stackTemps failed g
  have hb : s₀.Keeps b := ha.keep
  have hc : s₀.Keeps c := ite hb.setVol.setVol.raise ha
  have hg : s₀.Keeps g := hc.foldl fun _ _ k => ite k.setVol k
  exact ite (raise (setVol (hg.keep (by dsimp only [State.kept])))) hc

theorem updCredit (hs : s₀.Keeps s) {p : Nat} {f : PipeCredit → PipeCredit} : s₀.Keeps (s.updCredit p f) := hs.keep

theorem tailRoom (hs : s₀.Keeps s) {n : Fin 1024} {fuel : Nat} : s₀.Keeps (s.tailRoom n fuel) := by
  induction fuel generalizing s with
  | zero => exact hs
  | succ fuel ih =>
    unfold State.tailRoom
    exact ite hs (ih hs.moveOne)

theorem newInbound (hs : s₀.Keeps s) {n : Fin 1024} {bs : List (Byte × Bool)} {last : Bool} : s₀.Keeps (s.newInbound n bs last) := by
  unfold State.newInbound
  exact hs.tailRoom.updPipe.updCredit

theorem takeInbound (hs : s₀.Keeps s) {n : Fin 1024} {bytes : List Byte} {last : Bool} : s₀.Keeps (s.takeInbound n bytes last) := by
  unfold State.takeInbound
  dsimp only
  split
  · exact (ite (hs.newInbound) (hs.updPipe))
  · exact (hs.newInbound)

theorem told (hs : s₀.Keeps s) {l : List (Fin 1024 × Word)} : s₀.Keeps (s.told l) := hs.foldl fun _ _ h0 => (h0.updCredit)

theorem creditBack (hs : s₀.Keeps s) {p : Nat} {freed : Word} : s₀.Keeps (s.creditBack p freed) := ite (hs.updCredit) hs

theorem sendPacket (hs : s₀.Keeps s) {n : Fin 1024} : s₀.Keeps (s.sendPacket n) := by
  unfold State.sendPacket
  dsimp only
  split
  · exact hs
  · exact (ite hs (ite (ite hs (ite ((hs.updPipe).sendTwin) (((hs.updPipe).sendTwin).updCredit))) (ite hs
      (((hs.updPipe).updCredit).foldl fun _ _ h11 => (h11.psigerSend)))))

theorem sendOutcome (hs : s₀.Keeps s) {p : Peer} {b : Nat} {seq : Word} {o : SignalOutcome} : s₀.Keeps (s.sendOutcome p b seq o) := by
  unfold State.sendOutcome
  split
  · exact (ite (hs.sendTwin) hs)
  · exact (hs.psigerSend)

theorem applySignal (hs : s₀.Keeps s) {g : RemoteSignal} {vat : Option Nat} : s₀.Keeps (s.applySignal g vat).2 :=
  iteSnd hs (iteSnd hs (iteSnd hs (iteSnd (hs.addTokens) hs)))

theorem takeSignals (hs : s₀.Keeps s) {p : Peer} {b fuel : Nat} {g : RemoteSignal} : s₀.Keeps (s.takeSignals p b fuel g) := by
  induction fuel generalizing s b g with
  | zero => exact hs
  | succ fuel ih =>
    unfold State.takeSignals
    dsimp only
    split
    · exact hs.applySignal.updPeer.sendOutcome
    · split
      · exact ih hs.applySignal.updPeer.sendOutcome
      · exact hs.applySignal.updPeer.sendOutcome

theorem receiveSignal (hs : s₀.Keeps s) {p : Peer} {b : Nat} {g : RemoteSignal} : s₀.Keeps (s.receiveSignal p b g) := by
  unfold State.receiveSignal
  dsimp only
  split
  · exact hs
  · exact (ite (hs.takeSignals) (ite (ite hs (hs.updPeer)) (by split; exact ((hs.countStat).sendOutcome); exact (hs.countStat))))

theorem takeEarly (hs : s₀.Keeps s) : s₀.Keeps s.takeEarly := by
  unfold State.takeEarly
  exact hs.foldl fun _ _ h0 => (by split; exact (h0.takeSignals); exact h0)

theorem settle (hs : s₀.Keeps s) {p : Peer} {port : Nat} {seq : Word} {o : SignalOutcome} : s₀.Keeps (s.settle p port seq o) := by
  unfold State.settle
  dsimp only
  split
  · exact hs
  · split
    · exact hs.updPeer
    · exact ite hs.updPeer.countStat hs.updPeer.countStat.free.free.raise
    · exact hs.updPeer.raise.countStat

theorem sendReconcile (hs : s₀.Keeps s) {b : Nat} : s₀.Keeps (s.sendReconcile b) := ite ((hs.sendNow).updBinding) hs

theorem endReconcile (hs : s₀.Keeps s) {b : Nat} : s₀.Keeps (s.endReconcile b) := ite ((hs.updBinding).releaseHeld) hs

theorem reconcileBindings (hs : s₀.Keeps s) : s₀.Keeps s.reconcileBindings :=
  hs.foldl fun _ _ h0 => (ite h0 ((h0.sendReconcile).endReconcile))

theorem reconcileWith (hs : s₀.Keeps s) {p : Peer} {port : Nat} {m : Reconcile} : s₀.Keeps (s.reconcileWith p port m) :=
  (((((hs.foldl fun _ _ h13 => (h13.settle)).foldl fun _ _ h12 => (h12.creditBack)).updPeer).foldl fun _ _ h10 =>
    (h10.sendSignal)).raise).countStat

theorem releaseAll (hs : s₀.Keeps s) : s₀.Keeps s.releaseAll := (hs.foldl fun _ _ h1 => (h1.releaseHeld)).reconcileBindings

theorem ackUpTo (hs : s₀.Keeps s) {b : Nat} {a : Word} : s₀.Keeps (s.ackUpTo b a) := ite hs ((hs.updBinding).releaseAll)

theorem leavePort (hs : s₀.Keeps s) {b : Nat} {p : Nat} : s₀.Keeps (s.leavePort b p) := ite hs ((hs.updBinding).raise)

theorem resend (hs : s₀.Keeps s) {b : Nat} {seq : Word} : s₀.Keeps (s.resend b seq) := by
  unfold State.resend
  split
  · exact hs
  · next g _ =>
    extract_lets t again
    have ht : s₀.Keeps t := by
      show s₀.Keeps (match g.port with | some p => s.leavePort b p | none => s)
      split
      · exact hs.leavePort
      · exact hs
    split
    · exact ht
    · exact ht.updBinding.putSegment.countFabric

theorem loseHoldings (hs : s₀.Keeps s) {p : Peer} {path : Nat} {pipes : List Nat} : s₀.Keeps (s.loseHoldings p path pipes) := by
  unfold State.loseHoldings
  extract_lets signals credits flits n t _ u v w
  have ht : s₀.Keeps t := hs.updPeer
  have hu : s₀.Keeps u := ite ht.keep ht
  have hv : s₀.Keeps v := hu.foldl fun _ _ h => h.updCredit
  exact ite hv (raise (keep hv.count))

theorem peerLost (hs : s₀.Keeps s) {b : Nat} {cause : Nat} : s₀.Keeps (s.peerLost b cause) :=
  ((ite (((hs.raise).foldl fun _ _ h12 => (h12.updBinding)).keep.setVol) ((hs.raise).foldl fun _ _ h10 =>
    (h10.updBinding))).loseHoldings).releaseAll

theorem partnerLost (hs : s₀.Keeps s) {cause : Nat} : s₀.Keeps (s.partnerLost cause) := by
  unfold State.partnerLost
  dsimp only
  exact (((((hs.setVol).raise).keep.updPeer).loseHoldings).sendMgmt).reevaluate

theorem twinDown (hs : s₀.Keeps s) : s₀.Keeps s.twinDown := by
  unfold State.twinDown
  refine ite hs ?_
  extract_lets t b
  have ht : s₀.Keeps t := hs.setVol.updPeer
  exact ite ht (psigerControl ht.keep)

theorem exportMore (hs : s₀.Keeps s) {fuel : Nat} : s₀.Keeps (State.exportMore fuel s) := by
  induction fuel generalizing s with
  | zero => exact hs
  | succ fuel ih =>
    unfold State.exportMore
    dsimp only
    split
    · exact hs
    · exact ite hs (ih (keep hs.readShadow.psigerSend))

theorem freshPeer (hs : s₀.Keeps s) {p : Peer} : s₀.Keeps (s.freshPeer p) := hs.keep.poolChange

theorem dropPeers (hs : s₀.Keeps s) {gone : Peer → Bool} : s₀.Keeps (s.dropPeers gone) := hs.keep.poolChange

theorem rebind (hs : s₀.Keeps s) {b : Nat} : s₀.Keeps (s.rebind b) :=
  ite (hs.updBinding) (ite ((ite (hs.updBinding) ((hs.updBinding).freshPeer)).sendReconcile) (ite (hs.updBinding)
    ((hs.updBinding).freshPeer)))

theorem forgetPeers (hs : s₀.Keeps s) : s₀.Keeps s.forgetPeers := hs.dropPeers

theorem pairAgain (hs : s₀.Keeps s) : s₀.Keeps s.pairAgain := by
  unfold State.pairAgain
  extract_lets id t _ u _ v w x y
  have ht : s₀.Keeps t := hs.dropPeers
  have hu : s₀.Keeps u := keep (s := t.poolChange 0 s.twinPool.total TwinPool.reset.total) ht.poolChange
  have hv : s₀.Keeps v := hu.keep
  have hw : s₀.Keeps w := ite hv.setVol hv
  have hx : s₀.Keeps x := hw.freshPeer
  have hy : s₀.Keeps y := ite hx hx.transition
  exact ite (ite hw hw.transition.releaseBelow) hy.releaseBelow

theorem remap (hs : s₀.Keeps s) {old : State} {p : Nat} : s₀.Keeps (s.remap old p) := by
  unfold State.remap
  exact poolChange hs.free.keep

theorem startExport (hs : s₀.Keeps s) : s₀.Keeps s.startExport := ite hs.keep ((hs.keep.setVol).exportMore)

theorem startImport (hs : s₀.Keeps s) : s₀.Keeps s.startImport := ite hs.keep (hs.keep.setVol)

theorem entriesChanged (hs : s₀.Keeps s) {old : State} {keys : List Nat} {since : Nat} : s₀.Keeps (s.entriesChanged old keys since) := by
  unfold State.entriesChanged
  extract_lets has a pages b c moved d e f g h j
  have hb : s₀.Keeps b := keep hs.commitStorage.commitCroak
  have hc : s₀.Keeps c := hb.foldl fun _ _ k => ite k.keep k
  have he : s₀.Keeps e := foldl hc.keep fun _ _ k => k.rebind
  have hg : s₀.Keeps g := ite he.forgetPeers.pairAgain he.forgetPeers
  have hh : s₀.Keeps h := hg.foldl fun _ _ k => k.remap
  have hj : s₀.Keeps j := ite hh.startExport hh
  exact ite hj hj.startImport

theorem auditEntries (hs : s₀.Keeps s) {old : State} {g : PendingGen} {keys : List Nat} : s₀.Keeps (s.auditEntries old g keys) := by
  unfold State.auditEntries
  exact hs.foldl fun _ _ h => h.auditRec

theorem advanceGen (hs : s₀.Keeps s) {old : State} : s₀.Keeps (s.advanceGen old) := by
  unfold State.advanceGen
  exact setVol (setVol (setVol (setVol hs.keep)))

theorem refuseGen (hs : s₀.Keeps s) {g : PendingGen} {key reason : Nat} : s₀.Keeps (s.refuseGen g key reason) := by
  unfold State.refuseGen
  exact auditRec hs.raise.countDict

theorem freshSeeds {t : State} (ht : s₀.Keeps t) : s₀.Keeps (t.freshSeeds s) := ht.keep

theorem applyGen (hs : s₀.Keeps s) {g : PendingGen} : s₀.Keeps (s.applyGen g).1 := by
  unfold State.applyGen
  extract_lets values t keys changed a b c d keys' f
  have ht : s₀.Keeps t := hs.keep
  have ha : s₀.Keeps a := ht.freshSeeds.advanceGen.auditEntries
  have hb : s₀.Keeps b := ha.auditRec
  have hc : s₀.Keeps c := hb.raise.countDict
  have hd : s₀.Keeps d := ite hc.updSession hc
  refine iteFst (fst_mk hs.refuseGen) ?_
  split
  · exact fst_mk hs.refuseGen
  · exact iteFst (fst_mk hd.entriesChanged) (fst_mk hd.free.entriesChanged)

theorem clearPending (hs : s₀.Keeps s) : s₀.Keeps s.clearPending := (hs.keep.setVol).setVol

theorem dueGen (hs : s₀.Keeps s) : s₀.Keeps s.dueGen := by
  unfold State.dueGen
  split
  · exact hs
  · exact (ite ((hs.clearPending).applyGen) hs)

theorem refuseMsg (hs : s₀.Keeps s) {x : Session} {m : KopMsg} {status : Nat} : s₀.Keeps (s.refuseMsg x m status).1 := by
  unfold State.refuseMsg
  dsimp only
  exact hs.auditRec

theorem requestGen (hs : s₀.Keeps s) {x : Session} {m : KopMsg} {kind : Nat} {values : Sparse Nat} :
    s₀.Keeps (s.requestGen x m kind values).1 := by
  unfold State.requestGen
  extract_lets target expected g r
  have hr : s₀.Keeps r.1 := hs.applyGen
  have hp : s₀.Keeps ({ s with pendingGen := some g } : State) := hs.keep
  exact iteFst hs.refuseMsg (iteFst hs.refuseMsg (iteFst (fst_mk (countDict (raise hs.refuseMsg))) (iteFst hs.refuseMsg
    (iteFst (fst_mk hr) (fst_mk hp.setVol.setVol)))))

theorem endBeat (hs : s₀.Keeps s) : s₀.Keeps s.endBeat := (hs.keep.foldl fun _ _ h3 => (h3.raise)).foldl fun _ _ h2 => (ite h2 (h2.raise))

theorem freshBeat (hs : s₀.Keeps s) : s₀.Keeps s.freshBeat := hs.keep

theorem peerTotals (hs : s₀.Keeps s) : s₀.Keeps s.peerTotals := hs.keep.foldl fun _ _ h0 => ((h0.poolChange).auditRec)

theorem auditPool (hs : s₀.Keeps s) {snap : State} {pool : Fin 8} : s₀.Keeps (s.auditPool snap pool) := by
  unfold State.auditPool
  extract_lets c told t u v
  have ht : s₀.Keeps t := hs.keep
  exact ite ht (count (raise ht.holdFor))

theorem auditPools (hs : s₀.Keeps s) : s₀.Keeps s.auditPools := by
  unfold State.auditPools
  exact hs.foldl fun _ _ h => h.auditPool

theorem applyRun (hs : s₀.Keeps s) {r : Nat × Nat} : s₀.Keeps (s.applyRun r) :=
  ite (ite (hs.setVol) ((hs.setVol).raiseVat)) ((((ite (hs.setVol) ((hs.setVol).raiseVat)).foldl fun _ _ h8 => (h8.cancelLaunch)).foldl fun
    _ _ h7 => (h7.cancelJoin)).foldl fun _ _ h6 => (h6.requestPreempt))

theorem runStates (hs : s₀.Keeps s) : s₀.Keeps s.runStates := hs.keep.foldl fun _ _ h0 => (h0.applyRun)

theorem groupOp (hs : s₀.Keeps s) : s₀.Keeps s.groupOp := by
  unfold State.groupOp
  dsimp only
  split
  · exact hs
  · exact (ite ((hs.updCroak).effectReq) ((hs.updCroak).opDone))

theorem diverge (hs : s₀.Keeps s) {u : UnitNo} {a : UView} {b : UView} : s₀.Keeps (s.diverge u a b) := (((hs.count48).raise).updUnit).moveTo

theorem reconcileViews (hs : s₀.Keeps s) {u : UnitNo} {a : UView} {b : UView} : s₀.Keeps (s.reconcileViews u a b) :=
  ite (hs.adopt) (ite (hs.adopt) (ite hs (hs.diverge)))

theorem reconcile (hs : s₀.Keeps s) : s₀.Keeps s.reconcile := by
  unfold State.reconcile
  extract_lets t
  have ht : s₀.Keeps t := hs.foldl fun _ _ h => ite h h.reconcileViews
  cases t.twin.record with
  | none => exact ht
  | some r =>
    have hr : s₀.Keeps ({ t with twin := { t.twin with record := none } } : State) := ht.keep (by dsimp only [State.kept])
    exact hr.reconcileViews

theorem freshSpare (hs : s₀.Keeps s) {c : CoreId} : s₀.Keeps (s.freshSpare c) := (hs.updCore).setVol

theorem bindSpares (hs : s₀.Keeps s) : s₀.Keeps s.bindSpares := by
  unfold State.bindSpares
  extract_lets res acted t moved u g
  have ht : s₀.Keeps t := hs.keep
  have hu : s₀.Keeps u := ite ht ht.advanceGen
  refine hu.foldl fun x r hx => ?_
  extract_lets d changed y
  have hy : s₀.Keeps y := ite hx.auditEntries hx
  refine hy.foldl fun z c hz => ?_
  extract_lets w
  have hw : s₀.Keeps w := dite (fun _ => hz.freshSpare.raise) fun _ => hz
  exact ite hw hw.auditRec

theorem capability (hs : s₀.Keeps s) : s₀.Keeps s.capability := ((((hs.setVol).setVol).setVol).setVol).setVol

theorem beatCauses (hs : s₀.Keeps s) : s₀.Keeps s.beatCauses := hs.foldl fun _ _ h0 => (ite (h0.cause) h0)

theorem pageDue (hs : s₀.Keeps s) : s₀.Keeps s.pageDue := hs.foldl fun _ _ h0 => (ite (h0.updWork) h0)

theorem sendPair (hs : s₀.Keeps s) : s₀.Keeps s.sendPair := ite hs (hs.sendTwin)

theorem standingNotice (hs : s₀.Keeps s) : s₀.Keeps s.standingNotice := ite (hs.sendMgmt) hs

theorem beatSteps (hs : s₀.Keeps s) : s₀.Keeps s.beatSteps :=
  ((((((((((((((hs.peerTotals).auditPools).beatWindows).dueGen).dueReqs).groupOp).runStates).reconcile).bindSpares).aggregateAll).capability).beatCauses).pageDue).sendPair).standingNotice

theorem beginBeat (hs : s₀.Keeps s) {m at_ : Nat} {how : BeatStep} {stop : Bool} {before : State → State}
    (hb : ∀ t, s₀.Keeps t → s₀.Keeps (before t)) : s₀.Keeps (s.beginBeat m at_ how stop before) := by
  unfold State.beginBeat
  extract_lets c fresh t u v w x y
  have hw : s₀.Keeps w := hs.endBeat.freshBeat.reconcileBindings.setVol.setVol.setVol.updCroak
  refine beatSteps (hb _ (ite ?_ hw))
  have hx : s₀.Keeps x := hw.raise
  exact ite hx hx.countCroak

theorem echoDone (hs : s₀.Keeps s) : s₀.Keeps s.echoDone := by
  unfold State.echoDone
  dsimp only
  split
  · exact hs
  · exact (((ite (((hs.free).free).updCroak) ((((hs.free).free).updCroak).setVol)).setVol).raise)

theorem joinGroup (hs : s₀.Keeps s) {y : Symbol} : s₀.Keeps (s.joinGroup y) := ite hs (ite (hs.admitGroup) ((hs.admitGroup).takeGroup))

theorem complete (hs : s₀.Keeps s) {fn : FnNo} {off : Nat} {poison : Bool} {b : List Byte} : s₀.Keeps (s.complete fn off poison b) :=
  hs.send

theorem staleRelease (hs : s₀.Keeps s) {r : Nat} : s₀.Keeps (s.staleRelease r) := by
  unfold State.staleRelease
  split
  · exact (hs.countVat)
  · exact hs

theorem releaseSlot (hs : s₀.Keeps s) {r : Nat} {value : Word} : s₀.Keeps (s.releaseSlot r value) := ite (hs.setRslot) (hs.staleRelease)

theorem bar4Refused (hs : s₀.Keeps s) {fn : FnNo} {a : Nat} {n : Nat} {code : Nat} : s₀.Keeps (s.bar4Refused fn a n code) :=
  (ite (hs.refuseInvalid) (hs.refuseAccess)).countHost

theorem unmask (hs : s₀.Keeps s) {fn : FnNo} {v : Nat} : s₀.Keeps (s.unmask fn v) := ite ((hs.updFunc).toHost) (hs.updFunc)

theorem msixByte (hs : s₀.Keeps s) {fn : FnNo} {at_ : Nat} {b : Byte} : s₀.Keeps (s.msixByte fn at_ b) :=
  ite hs (ite (hs.updFunc) (ite ((hs.updFunc).updFunc) ((hs.updFunc).unmask)))

theorem writeRegs (hs : s₀.Keeps s) {fn : FnNo} {off : Nat} {data : List Byte} : s₀.Keeps (s.writeRegs fn off data) :=
  ite ((ite (hs.updFunc) hs).updFunc) (ite (((ite (hs.updFunc) hs).updFunc).countHost) (((ite (hs.updFunc) hs).updFunc).updFunc))

theorem writeSlots (hs : s₀.Keeps s) {fn : FnNo} {rel : Nat} {data : List Byte} : s₀.Keeps (s.writeSlots fn rel data) :=
  ite hs (ite (hs.releaseSlot) (hs.staleRelease))

theorem writeConfig (hs : s₀.Keeps s) {r : ConfigReg} {n : Nat} : s₀.Keeps (s.writeConfig r n) := by
  unfold State.writeConfig
  split
  · exact hs.keep
  · exact hs.keep
  · exact (ite hs.keep hs)
  · exact (ite hs.keep hs)
  · exact (ite (hs.setVol) hs)
  · exact (ite hs.keep hs)
  · exact (ite ((hs.setVol).setVol) hs)

theorem writeBar0 (hs : s₀.Keeps s) {fn : FnNo} {off : Nat} {data : List Byte} : s₀.Keeps (s.writeBar0 fn off data) :=
  ite (hs.writeRegs) (ite (hs.updFunc) (ite (hs.writeSlots) (ite (hs.foldl fun _ _ h4 => (h4.msixByte)) hs)))

theorem hostRead (hs : s₀.Keeps s) {fn : FnNo} {k : Fin 2} {off : Nat} {n : Nat} {secure : Bool} : s₀.Keeps (s.hostRead fn k off n secure)
    :=
  ite hs (ite ((hs.discardTlp).send) (hs.complete))

theorem emptyFlows (hs : s₀.Keeps s) {p : FnNo → Bool} : s₀.Keeps (s.emptyFlows p) := hs.keep.countHost

theorem endSwaps (hs : s₀.Keeps s) {p : VatNo → Bool} : s₀.Keeps (s.endSwaps p) := hs.foldl fun _ _ h0 => (ite ((h0.free).swapFail) h0)

theorem setLink (hs : s₀.Keeps s) {state : Nat} {rate : Nat} {width : Nat} : s₀.Keeps (s.setLink state rate width) :=
  ((hs.keep.setVol).setVol).setVol

theorem resetFunc (hs : s₀.Keeps s) {f : FnNo} : s₀.Keeps (s.resetFunc f) := hs.updFuncWf fun _ => rfl

theorem resetVfs (hs : s₀.Keeps s) {n : Nat} : s₀.Keeps (s.resetVfs n) := hs.foldl fun _ _ h0 => (ite (h0.resetFunc) h0)

theorem updEngine (hs : s₀.Keeps s) {e : Fin 8} {f : CodecEngine → CodecEngine} : s₀.Keeps (s.updEngine e f) := hs.keep

theorem updCtx (hs : s₀.Keeps s) {c : Nat} {f : CodecCtx → CodecCtx} : s₀.Keeps (s.updCtx c f) := hs.keep.setVol

theorem countCodec (hs : s₀.Keeps s) {k : Fin 4} {sub : Nat} : s₀.Keeps (s.countCodec k sub) := hs.count

theorem ringDesc (hs : s₀.Keeps s) {v : Nat} {ring : Nat} : s₀.Keeps (s.ringDesc v ring).2 := hs.agentRead

theorem ringIndex (hs : s₀.Keeps s) {v : Nat} {a : Nat} : s₀.Keeps (s.ringIndex v a).2 := hs.agentRead

theorem ringPut (hs : s₀.Keeps s) {v : VatNo} {d : List Nat} {count : Nat} {b : List Byte} : s₀.Keeps (s.ringPut v d count b) :=
  hs.foldl fun _ _ h4 => (ite (h4.postHost) (h4.agentWrite))

theorem ringAdvance (hs : s₀.Keeps s) {v : VatNo} {ring : Nat} {d : List Nat} {count : Nat} : s₀.Keeps (s.ringAdvance v ring d count) :=
  ite (hs.keep.postHost) (hs.agentWrite)

theorem tryEntry (hs : s₀.Keeps s) {e : Fin 8} {v : VatNo} {x : RingEntry} {polled : Option Word} :
    s₀.Keeps (s.tryEntry e v x polled).2 := by
  unfold State.tryEntry
  extract_lets r d t u prod cons again
  have hu : s₀.Keeps u := ite hs.ringDesc.readsBack hs.ringDesc
  have hp : s₀.Keeps prod.2 := iteSnd hu hu.ringIndex
  have hc : s₀.Keeps cons.2 := iteSnd hp hp.ringIndex
  have ha : s₀.Keeps again := ite hc.askHost hc
  split
  · exact ha
  · refine iteSnd ha ?_
    dsimp only
    split
    · exact hc.ringPut.ringAdvance.signalLocal
    · exact hc.ringPut.ringAdvance

theorem leave1 (hs : s₀.Keeps s) {c i : Nat} {last : Bool} : s₀.Keeps (s.leave1 c i last).2 := by
  unfold State.leave1
  dsimp only
  split
  · exact hs
  · dsimp only
    exact hs.updCtx

theorem leaveMany (hs : s₀.Keeps s) {c : Nat} {may : CodecFrame → Bool} {flagLast : Bool} {fuel : Nat} :
    s₀.Keeps (s.leaveMany c may flagLast fuel).2 := by
  induction fuel generalizing s with
  | zero => exact hs
  | succ fuel ih =>
    unfold State.leaveMany
    dsimp only
    split
    · exact hs
    · exact ih hs.leave1

theorem flushCtx (hs : s₀.Keeps s) {c : Nat} : s₀.Keeps (s.flushCtx c).2 := hs.leaveMany

theorem takeRecord (hs : s₀.Keeps s) {e : Fin 8} {r : FrameRecord} : s₀.Keeps (s.takeRecord e r) := by
  unfold State.takeRecord
  dsimp only
  exact ((ite (ite ((ite ((iteSnd (hs.flushCtx) hs).transition) (iteSnd (hs.flushCtx) hs)).updCtx) (ite ((iteSnd (hs.flushCtx)
    hs).transition) (iteSnd (hs.flushCtx) hs))) ((ite ((ite ((iteSnd (hs.flushCtx) hs).transition) (iteSnd (hs.flushCtx) hs)).updCtx) (ite
    ((iteSnd (hs.flushCtx) hs).transition) (iteSnd (hs.flushCtx) hs))).countCodec)).updCtx).updEngine

theorem takeNext (hs : s₀.Keeps s) {e : Fin 8} {fuel : Nat} : s₀.Keeps (s.takeNext e fuel) := by
  induction fuel generalizing s with
  | zero => exact hs
  | succ fuel ih =>
    unfold State.takeNext
    dsimp only
    split
    · refine ite hs ?_
      split
      · exact ih hs.updEngine.raise.countCodec
      · exact ite (ih hs.updEngine.updCtx) hs.updEngine.takeRecord
    · exact hs

theorem entryRead (hs : s₀.Keeps s) {k : Fin 4} {r : FrameRecord} : s₀.Keeps (s.entryRead k r) := by
  unfold State.entryRead
  dsimp only
  split
  · exact (ite ((hs.ringDesc).keep.postHost) (((hs.ringDesc).ringIndex).agentWrite))
  · exact hs

theorem putEntries (hs : s₀.Keeps s) {e : Fin 8} {polled : Option Word} {fuel : Nat} : s₀.Keeps (s.putEntries e polled fuel) := by
  induction fuel generalizing s polled with
  | zero => exact hs
  | succ fuel ih =>
    unfold State.putEntries
    split
    · exact hs
    · split
      · exact hs
      · exact ite hs (ite (ih hs.tryEntry.updEngine) (ite hs.tryEntry.updEngine hs.tryEntry.updEngine.countCodec))

theorem putAll (hs : s₀.Keeps s) {e : Fin 8} {polled : Option Word} : s₀.Keeps (s.putAll e polled) := by
  unfold State.putAll
  split
  · exact (hs.putEntries)
  · exact hs

theorem restSlice (hs : s₀.Keeps s) {k : Fin 4} : s₀.Keeps (s.restSlice k) := ite (hs.transition) hs

theorem takeWork (hs : s₀.Keeps s) {e : Fin 8} : s₀.Keeps (s.takeWork e) := (hs.takeNext).putAll

theorem drainEntries (hs : s₀.Keeps s) {e : Fin 8} {polled : Option Word} : s₀.Keeps (s.drainEntries e polled) := by
  unfold State.drainEntries
  dsimp only
  split
  · exact (ite ((((hs.putAll).updEngine).takeWork).restSlice) (hs.putAll))
  · exact (hs.putAll)

theorem letGo (hs : s₀.Keeps s) {e : Fin 8} {c : Nat} : s₀.Keeps (s.letGo e c) := by
  unfold State.letGo
  dsimp only
  split
  · exact hs
  · exact (ite hs (((hs.leaveMany).updEngine).drainEntries))

theorem recordIn (hs : s₀.Keeps s) {e : Fin 8} {r : FrameRecord} : s₀.Keeps (s.recordIn e r) := (((hs.entryRead).updEngine).takeWork).letGo

theorem saveArea (hs : s₀.Keeps s) {c : Nat} : s₀.Keeps (s.saveArea c) := hs.keep.agentWrite

theorem frameTold (hs : s₀.Keeps s) {k : Fin 4} {w : CodecWork} {enc : Bool} {o : Option Config.CodecOut} :
    s₀.Keeps (s.frameTold k w enc o) := by
  unfold State.frameTold
  extract_lets n t bad u
  have ht : s₀.Keeps t := ite hs.raise hs
  have hu : s₀.Keeps u := by
    cases hb : bad with
    | none => simpa only [u, hb] using ht
    | some row => simpa only [u, hb] using ht.raise.countCodec
  exact ite (ite hu hu.countCodec) hu.countCodec

theorem finishFrame (hs : s₀.Keeps s) {e : Fin 8} {w : CodecWork} : s₀.Keeps (s.finishFrame e w) := by
  unfold State.finishFrame
  extract_lets k enc x p big o tooBig t u v y out
  have hu : s₀.Keeps u := hs.frameTold.updCtx
  have hy : s₀.Keeps y := hu.saveArea.updEngine
  have ho : s₀.Keeps out.2 := iteSnd hy.flushCtx (iteSnd hy.leaveMany hy.leaveMany)
  exact ho.updEngine

theorem feedRecords (hs : s₀.Keeps s) {k : Fin 4} {n fuel : Nat} : s₀.Keeps (s.feedRecords k n fuel) := by
  induction fuel generalizing s with
  | zero => exact hs
  | succ fuel ih =>
    unfold State.feedRecords
    exact ite hs (ih (recordIn hs.keep))

theorem feedSlice (hs : s₀.Keeps s) {n : Fin 1024} : s₀.Keeps (s.feedSlice n) := by
  unfold State.feedSlice
  refine dite (fun _ => ite hs ?_) fun _ => hs
  extract_lets _ t
  have ht : s₀.Keeps t := keep (s := s.updPipe n fun p => p.leave (takeBytes s.pipes[n].readable.length p.head)) hs.updPipe
  exact ht.feedRecords

theorem importBytes (hs : s₀.Keeps s) {p : Fin 8} {b : Nat} {g : Segment} : s₀.Keeps (s.importBytes p b g) := by
  unfold State.importBytes
  dsimp only
  split
  · exact hs
  · exact (ite (hs.agentWrite).keep (((hs.agentWrite).keep.setVol).raise))

theorem noticeFrom (hs : s₀.Keeps s) {b : Nat} : s₀.Keeps (s.noticeFrom b) := ite ((hs.peerLost).partnerLost) (hs.peerLost)

theorem deliverSegment (hs : s₀.Keeps s) {p : Fin 8} {b : Nat} {g : Segment} : s₀.Keeps (s.deliverSegment p b g) := by
  unfold State.deliverSegment
  dsimp only
  split
  · exact (ite (hs.takeInbound) hs)
  · exact (hs.creditBack)
  · exact (hs.receiveSignal)
  · exact (hs.settle)
  · exact (((hs.reconcileWith).updBinding).endReconcile)
  · exact (hs.noticeFrom)
  · exact (hs.importBytes)
  · exact hs

theorem deliverFrom (hs : s₀.Keeps s) {p : Fin 8} {b fuel : Nat} {g : Segment} : s₀.Keeps (s.deliverFrom p b fuel g) := by
  induction fuel generalizing s g with
  | zero => exact hs
  | succ fuel ih =>
    unfold State.deliverFrom
    dsimp only
    refine ite hs.updBinding.deliverSegment ?_
    split
    · exact ih hs.updBinding.deliverSegment
    · exact hs.updBinding.deliverSegment

theorem sequenced (hs : s₀.Keeps s) {p : Fin 8} {b : Nat} {g : Segment} : s₀.Keeps (s.sequenced p b g) :=
  ite (hs.deliverFrom) (ite ((hs.updBinding).countFabric) (ite hs (hs.updBinding)))

theorem segmentIn (hs : s₀.Keeps s) {p : Fin 8} {g : Segment} {mine : Bool} {eff : State → Nat → State}
    (he : ∀ t b, s₀.Keeps t → s₀.Keeps (eff t b)) : s₀.Keeps (s.segmentIn p g mine eff) :=
  ite hs (ite hs.macsecDiscard (ite hs.countFabric (he _ _ hs.countFabric.ackUpTo)))

theorem sendSymbol (hs : s₀.Keeps s) {n : Nat} {at_ : Nat} {jump : Bool} {stretched : Bool} : s₀.Keeps (s.sendSymbol n at_ jump stretched)
    :=
  ((hs.reevaluate).updCroak).send

theorem sendStretched (hs : s₀.Keeps s) {from_ : Nat} {now : Nat} : s₀.Keeps (s.sendStretched from_ now) :=
  ((hs.countCroak).raise).sendSymbol

theorem stage (hs : s₀.Keeps s) {x : Session} {key : Nat} {v : Nat} : s₀.Keeps (s.stage x key v).1 := iteFst (hs.updSession) hs

theorem writeUnitField (hs : s₀.Keeps s) {x : Session} {m : KopMsg} {r : EntryRow} {n : Nat} {v : Nat} : s₀.Keeps (s.writeUnitField x m r n
    v) :=
  (hs.updSession).auditWrite

theorem writeReservedOp (hs : s₀.Keeps s) {x : Session} {m : KopMsg} {r : EntryRow} {n : Nat} {v : Nat} : s₀.Keeps (s.writeReservedOp x m r
    n v) :=
  ((hs.auditWrite).updSession).submitReq

theorem sessionRefused (hs : s₀.Keeps s) {role : Nat} {reason : Nat} : s₀.Keeps (s.sessionRefused role reason) := (hs.raise).countSecure

theorem newSessionId (hs : s₀.Keeps s) : s₀.Keeps (s.newSessionId).2 := hs.free

theorem keepHello (hs : s₀.Keeps s) {via : KopVia} {b : List Byte} : s₀.Keeps (s.keepHello via b) := hs.keep

theorem openHalf (hs : s₀.Keeps s) {m : KopMsg} {b : List Byte} {h : Hello} : s₀.Keeps (s.openHalf m b h).1 := by
  unfold State.openHalf
  refine iteFst hs ?_
  split
  · refine keep (engineBytes (s := { s.newSessionId.2 with freeIx := s.newSessionId.2.freeIx + 1 }) (n := 32) ?_)
    exact hs.newSessionId.keep
  · exact hs.sessionRefused

theorem setSlot (hs : s₀.Keeps s) {k : Nat} {state : Nat} {x : ImageSlot} : s₀.Keeps (s.setSlot k state x) := hs.keep.setVol

theorem placePiece (hs : s₀.Keeps s) {m : KopMsg} {k : Nat} : s₀.Keeps (s.placePiece m k).1 :=
  iteFst (ite (hs.setSlot) hs) (iteFst (hs.setSlot) (iteFst (hs.setSlot) (iteFst (hs.setSlot) (hs.setSlot))))

theorem loadCold (hs : s₀.Keeps s) {k : Nat} : s₀.Keeps (s.loadCold k) := hs.foldl fun _ _ h0 => (h0.startLoading)

theorem clearStores (hs : s₀.Keeps s) : s₀.Keeps s.clearStores where
  pending := hs.pending
  power := hs.power
  canonical h :=
    have k := hs.canonical h
    { hbm := rfl
      hub := rfl
      dies := fun d => by simp [State.clearStores]; rfl
      cores := fun c => by simp [State.clearStores]; rfl
      frames := k.frames
      results := k.results }

theorem zeroKeys (hs : s₀.Keeps s) : s₀.Keeps s.zeroKeys := hs.keep

theorem noteSources (hs : s₀.Keeps s) {p : Power} : s₀.Keeps (s.noteSources p) := hs.setVol

theorem noteReadings (hs : s₀.Keeps s) {t : ThermalReading} : s₀.Keeps (s.noteReadings t) := by
  unfold State.noteReadings
  refine foldl ?_ fun _ _ h => h.setVol
  split
  · exact hs.setVol.setVol
  · exact hs

theorem countMs (hs : s₀.Keeps s) {sub : Nat} {b : Bool} : s₀.Keeps (s.countMs sub b) := ite (hs.count) hs

theorem countDuties (hs : s₀.Keeps s) {p : Power} : s₀.Keeps (s.countDuties p) := (((hs.countMs).countMs).countMs).countMs

theorem countGated (hs : s₀.Keeps s) {duty : Nat} : s₀.Keeps (s.countGated duty) := hs.foldl fun _ _ h0 => (ite h0 (h0.count))


theorem detect (hs : s₀.Keeps s) {us : List UnitNo} : s₀.Keeps (s.detect us) :=
  hs.foldl fun _ _ h0 => (ite h0 (ite ((h0.transition).startLoading) (h0.transition)))


theorem randomVals (hs : s₀.Keeps s) {c : CoreId} {op : Nat} {f : RandF} {es : List (Nat × Nat)} : s₀.Keeps (s.randomVals c op f es).2 := by
  unfold State.randomVals
  dsimp only
  split
  · exact (hs.draw32s)
  · exact (hs.draw32s)
  · exact (hs.drawPairs)
  · exact (hs.draw16s)

theorem randomRow (hs : s₀.Keeps s) {c : CoreId} {op : Nat} {f : RandF} {d : Desc} {r : Int} : s₀.Keeps (s.randomRow c op f d r) :=
  ite hs (ite ((hs.randomVals).storeTensor) ((hs.randomVals).storeRow))

theorem randomRun (hs : s₀.Keeps s) {c : CoreId} {op : Nat} {f : RandF} : s₀.Keeps (s.randomRun c op f) := by
  unfold State.randomRun
  dsimp only
  split
  · exact hs.markChecked.foldl fun _ _ h => h.randomRow
  · exact hs.randomVals.writeV
  · exact hs.randomVals.updCore (Core.buf_setMask ..)

theorem random (hs : s₀.Keeps s) {i : Instr} {c : CoreId} {h : Hdr} {op : Nat} {f : RandF} : s₀.Keeps (s.random i c h op f) :=
  hs.issue (fun _ h0 => (h0.checked (fun _ h1 => (h1.randomRun))))

theorem unitop (hs : s₀.Keeps s) {c : Cmd} : s₀.KeepsOk (s.unitop c) := by
  unfold State.unitop
  extract_lets path refused
  have hr (o r : Nat) : s₀.KeepsOk (refused o r) := refuseCmd hs.auditRec
  split
  · exact hr _ _
  · split
    · exact hr _ _
    · split
      · exact hr _ _
      · exact hs.submitReq

theorem unitWrite (hs : s₀.Keeps s) {x : Session} {m : KopMsg} : s₀.Keeps (s.unitWrite x m).1 := by
  refine hs.writeMsg fun t r v ht => ?_
  dsimp only
  split
  · exact ht
  · exact ht.auditWrite.updSession.submitReq

theorem unitOperation (hs : s₀.Keeps s) {r : UnitSrc} {op : Nat} : s₀.Keeps (s.unitOperation r op) := by
  unfold State.unitOperation
  split
  · exact hs.command fun _ _ h => h.unitop
  · exact hs.kop fun _ _ h => h.unitWrite

theorem cen (hs : s₀.Keeps s) {i : Instr} {c : CoreId} {h : Hdr} {stops : State → List (Option Stop)} {eff : State → State} {sp : Spans}
    (he : ∀ t, s₀.Keeps t → s₀.Keeps (eff t)) : s₀.Keeps (s.cen i c h stops eff sp) :=
  hs.issueOver fun _ ht => ht.checked he

theorem sealVerdict (hs : s₀.Keeps s) {v : VatNo} : s₀.Keeps (s.sealVerdict v) :=
  (ite ((ite (((hs.keep.writeHbm).countFor).raiseVat) (hs.keep.writeHbm)).raiseVat) (ite (((hs.keep.writeHbm).countFor).raiseVat)
    (hs.keep.writeHbm))).vatCause

theorem catchUpAudit (hs : s₀.Keeps s) : s₀.Keeps s.catchUpAudit :=
  ite (hs.foldl fun _ _ h5 => (h5.auditTwin)) (((hs.foldl fun _ _ h7 => (h7.auditTwin)).count).raise)

theorem takePairReqs (hs : s₀.Keeps s) {l : List PairReq} : s₀.Keeps (s.takePairReqs l) := hs.keep

theorem shadowRefused (hs : s₀.Keeps s) {r : ShadowRecord} {why : Nat} : s₀.Keeps (s.shadowRefused r why) := hs.keep.raise

theorem shadowIn (hs : s₀.Keeps s) {r : ShadowRecord} {mine : Bool} {eff : State → State} (he : ∀ t, s₀.Keeps t → s₀.Keeps (eff t)) :
    s₀.Keeps (s.shadowIn r mine eff) :=
  ite hs (ite hs.owe.shadowRefused (ite (he _ hs.owe) (ite hs.owe.shadowRefused (he _ hs.owe))))

theorem lanes (hs : s₀.Keeps s) {i : Instr} {c : CoreId} {h : Hdr} {f : VecF} {g : Core → Nat → Lane} : s₀.Keeps (s.lanes i c h f g) :=
  hs.issue (fun _ h0 => ((h0.putV).advance))

theorem intLanes (hs : s₀.Keeps s) {i : Instr} {c : CoreId} {h : Hdr} {f : VecF} {op : Int → Int → Int} : s₀.Keeps (s.intLanes i c h f op)
    :=
  hs.issue (fun _ h0 => ((ite ((h0.putV).updCore) (h0.putV)).advance))

theorem maskBits (hs : s₀.Keeps s) {i : Instr} {c : CoreId} {h : Hdr} {f : VecF} {op : Nat} {top : Nat} {g : Core → Nat → Bool} :
    s₀.Keeps (s.maskBits i c h f op top g) :=
  hs.issue fun _ ht => ht.checked fun _ hu => hu.updCore (Core.buf_setMask ..)

theorem cvtRun (hs : s₀.Keeps s) {c : CoreId} {f : VecF} : s₀.Keeps (s.cvtRun c f) :=
  (((iteSnd (hs.draw16s) hs).updCore).addCensus).markPoison

theorem reduce (hs : s₀.Keeps s) {i : Instr} {c : CoreId} {h : Hdr} {f : VecF} {g : List (Nat × FVal) → Word} : s₀.Keeps (s.reduce i c h f
    g) :=
  hs.issue (fun _ h0 => (h0.checked (fun _ h4 => ((h4.updCore).setX))))

theorem scan (hs : s₀.Keeps s) {i : Instr} {c : CoreId} {h : Hdr} {f : VecF} {excl : Bool} {ident : Word} {op : ScanOp} : s₀.Keeps (s.scan i
    c h f excl ident op) :=
  hs.issue (fun _ h0 => (h0.checked (fun _ h6 => ((ite ((h6.putV).updCore) (h6.putV)).setX))))

theorem windowRun (hs : s₀.Keeps s) {c : CoreId} {f : WinF} : s₀.Keeps (s.windowRun c f) :=
  (((hs.markChecked).markChecked).openSpans).foldl fun _ _ h10 => (h10.copyRow)

theorem countZ (hs : s₀.Keeps s) {c : CoreId} {sub : Nat} {n : Nat} : s₀.Keeps (s.countZ c sub n) := hs.count

theorem zpackRun (hs : s₀.Keeps s) {c : CoreId} {f : MoveF} : s₀.Keeps (s.zpackRun c f) := by
  unfold State.zpackRun
  extract_lets sd dd xsr xsc rows p rd blocks packed t data step r total zeros bad _ u v
  have ht : s₀.Keeps t := hs.markChecked.markChecked.reader
  have hr : s₀.Keeps r.1 := foldlFst (f := step) (fst_mk ht) fun _ _ h => fst_mk h.storeCells
  have hu : s₀.Keeps u := hr.addCensus.markPoison
  have hv : s₀.Keeps v := hu.countZ.countZ.countZ
  exact hv.updCore

theorem zBlock (hs : s₀.Keeps s) {c : CoreId} {d : Desc} {view : Sparse (List (Byte × Bool))} {r : Nat} {b : Nat} : s₀.Keeps (s.zBlock c d
    view r b).2 :=
  iteSnd (hs.openSpans) (iteSnd (hs.openSpans) (iteSnd (hs.openSpans) (iteSnd ((hs.openSpans).openSpans) (iteSnd ((hs.openSpans).openSpans)
    (iteSnd ((hs.openSpans).openSpans) (((hs.openSpans).openSpans).openSpans))))))

theorem zBlocks (hs : s₀.Keeps s) {c : CoreId} {d : Desc} {view : Sparse (List (Byte × Bool))} {qs : List (Int × Int × Nat)} :
    s₀.Keeps (s.zBlocks c d view qs).1 := by
  induction qs generalizing s with
  | nil => exact hs
  | cons q qs ih =>
    unfold State.zBlocks
    extract_lets inside items
    split
    · have h := hs.zBlock (c := c) (d := d) (view := view) (r := q.1.toNat) (b := (q.2.1 / 128).toNat)
      split
      · next e => rw [e] at h; exact h
      · next e => rw [e] at h; exact ih h
    · exact ih hs

theorem zunpackRun (hs : s₀.Keeps s) {c : CoreId} {f : MoveF} : s₀.Keeps (s.zunpackRun c f).1 :=
  (((((hs.markChecked).markChecked).pickViews).zBlocks).foldl fun _ _ h2 => (h2.copyRow)).countZ

theorem imageBytes (hs : s₀.Keeps s) {c : CoreId} {a : Nat} {n : Nat} : s₀.Keeps (s.imageBytes c a n).2 :=
  iteSnd ((hs.resolve).free) (hs.resolve)

theorem tableLoad (hs : s₀.Keeps s) {i : Instr} {c : CoreId} {h : Hdr} {op : Nat} {f : TabF} {n : Nat} {busy : Bool}
    {bad : List Byte → Option Stop} {fill : List Byte → Core → Core} (hf : ∀ bs k, (fill bs k).buf = k.buf) :
    s₀.Keeps (s.tableLoad i c h op f n busy bad fill) := by
  refine ite hs.holdBack (hs.issueOver fun _ ht => ?_)
  dsimp only
  split
  · exact ht.stopProgram
  · exact ht.markChecked.imageBytes.checked fun _ hu => hu.updCore (hf _ _)

theorem takeAny (hs : s₀.Keeps s) {c : Cmd} : s₀.KeepsOk (s.takeAny c) := by
  unfold State.takeAny
  split
  · exact hs.takeLaunch
  · exact hs.takePreempt
  · exact hs.takeCancel
  · exact hs.takeSeed
  · exact hs.takeJoin
  · exact hs.takeLeave
  · exact hs.takeGrowth
  · exact hs.takeLayout
  · exact hs.takeSwapArea
  · split
    · exact hs.takePipeClose
    · exact hs.takePipeConfigure
    · exact hs.takePipeOpen
  · exact hs.takeRennet
  · exact hs.unitop
  · trivial

theorem takeWaiting (hs : s₀.Keeps s) : s₀.Keeps s.takeWaiting := by
  unfold State.takeWaiting
  split
  · exact hs
  · refine ite hs (takeCmd ?_ fun _ _ h => h.takeAny)
    exact hs.keep

theorem takeAllWaiting (hs : s₀.Keeps s) : s₀.Keeps s.takeAllWaiting := hs.foldl fun _ _ h0 => (h0.takeWaiting)

theorem sendAllQueued (hs : s₀.Keeps s) : s₀.Keeps s.sendAllQueued := hs.foldl fun _ _ h0 => (h0.sendQueued)

theorem withFetchWord (hs : s₀.Keeps s) {nbits : Nat} {w : Nat} : s₀.Keeps (s.withFetchWord nbits w) := hs

end State.Keeps
end Sys2Proof.Machine
end

section
/-! Every command but the lines of the board and the test access port is carried out by the clocks and keeps (R425, R432). -/
set_option Elab.async false
namespace Sys2Proof.Machine
/-- What a clocked command may make of power: it stays on or off as it was, and the clocks change only by a trip (R432). -/
structure Power.Follows (p q : Power) : Prop where
  on : q.on = p.on
  clocks : q.clocks = p.clocks ∧ q.tripped = p.tripped ∨ q.clocks = false

theorem Power.Follows.refl (p : Power) : p.Follows p := ⟨rfl, .inl ⟨rfl, rfl⟩⟩

theorem Power.follows_capRise (p : Power) (n : Nat) : p.Follows (p.capRise n) := by
  unfold Power.capRise
  split
  · exact ⟨rfl, .inl ⟨rfl, rfl⟩⟩
  · split <;> exact ⟨rfl, .inl ⟨rfl, rfl⟩⟩

theorem State.follows_capStep (s : State) : s.power.Follows s.capStep := by
  unfold State.capStep
  dsimp only
  split
  · exact s.power.follows_capRise _
  · split <;> exact ⟨rfl, .inl ⟨rfl, rfl⟩⟩

theorem Power.follows_read (p : Power) (t : ThermalReading) : p.Follows (p.read t) := by
  unfold Power.read
  split
  · exact ⟨rfl, .inr rfl⟩
  · exact ⟨rfl, .inl ⟨rfl, rfl⟩⟩


/-- The command is carried out by the clocks, with an effect that keeps the queue, power and canonical form, and with power that follows. -/
def State.Kept (s : State) (i : Instr) : Prop :=
  ∃ t p, exec i s = s.clockedPower t p ∧ s.Keeps t ∧ s.power.Follows p

theorem State.Kept.clocked {s t : State} {i : Instr} (e : exec i s = s.clocked t) (h : s.Keeps t) : s.Kept i :=
  ⟨t, _, e, h, .refl _⟩

namespace State.Keeps
variable {s : State}

theorem kept_sweep {c : CoreId} {h : Hdr} {f : SweepF} : s.Kept (.sweep c h f) := .clocked rfl ((refl s).sweepOf)

theorem kept_minPlus {c : CoreId} {h : Hdr} {f : SweepF} : s.Kept (.minPlus c h f) := .clocked rfl ((refl s).sweepOf)

theorem kept_maxPlus {c : CoreId} {h : Hdr} {f : SweepF} : s.Kept (.maxPlus c h f) := .clocked rfl ((refl s).sweepOf)

theorem kept_l1Sweep {c : CoreId} {h : Hdr} {f : SweepF} : s.Kept (.l1Sweep c h f) := .clocked rfl ((refl s).sweepOf)

theorem kept_squaredL2 {c : CoreId} {h : Hdr} {f : SweepF} : s.Kept (.squaredL2 c h f) := .clocked rfl ((refl s).sweepOf)

theorem kept_clearTile {c : CoreId} {h : Hdr} {f : AccF} : s.Kept (.clearTile c h f) :=
  .clocked rfl ((refl s).accop (fun _ ht => ht) fun _ ht => ht.freeScales)

theorem kept_fillTile {c : CoreId} {h : Hdr} {f : AccF} : s.Kept (.fillTile c h f) :=
  .clocked rfl ((refl s).accop (fun _ ht => ht) fun _ ht => ht.freeScales)

theorem kept_copyTile {c : CoreId} {h : Hdr} {f : AccF} : s.Kept (.copyTile c h f) :=
  .clocked rfl ((refl s).accop (fun _ ht => ht) fun _ ht => ht.scalesOf)

theorem kept_addTile {c : CoreId} {h : Hdr} {f : AccF} : s.Kept (.addTile c h f) := .clocked rfl ((refl s).accop2)

theorem kept_subTile {c : CoreId} {h : Hdr} {f : AccF} : s.Kept (.subTile c h f) := .clocked rfl ((refl s).accop2)

theorem kept_accopMax {c : CoreId} {h : Hdr} {f : AccF} : s.Kept (.accopMax c h f) := .clocked rfl ((refl s).accop2)

theorem kept_accopMin {c : CoreId} {h : Hdr} {f : AccF} : s.Kept (.accopMin c h f) := .clocked rfl ((refl s).accop2)

theorem kept_scaleTile {c : CoreId} {h : Hdr} {f : AccF} : s.Kept (.scaleTile c h f) :=
  .clocked rfl ((refl s).accop (fun _ ht => ht) fun _ ht => ht.scalesOf)

theorem kept_scaleRow {c : CoreId} {h : Hdr} {f : AccF} : s.Kept (.scaleRow c h f) :=
  .clocked rfl ((refl s).accop (fun _ ht => ht) fun _ ht => ht.scalesOf)

theorem kept_scaleCol {c : CoreId} {h : Hdr} {f : AccF} : s.Kept (.scaleCol c h f) :=
  .clocked rfl ((refl s).accop (fun _ ht => ht) fun _ ht => ht.scalesOf)

theorem kept_addCol {c : CoreId} {h : Hdr} {f : AccF} : s.Kept (.addCol c h f) :=
  .clocked rfl ((refl s).accop (fun _ ht => ht) fun _ ht => ht.scalesOf)

theorem kept_accopLoad {c : CoreId} {h : Hdr} {f : AccF} : s.Kept (.accopLoad c h f) :=
  .clocked rfl ((refl s).accop (fun _ ht => ht.markChecked.foldl fun _ _ k => k.openSpans) fun _ ht => ht.freeScales)

theorem kept_chainDrain {c : CoreId} {h : Hdr} {f : ChainF} : s.Kept (.chainDrain c h f) := .clocked rfl ((refl s).chain)

theorem kept_chainTensor {c : CoreId} {h : Hdr} {f : ChainF} : s.Kept (.chainTensor c h f) := .clocked rfl ((refl s).chain)

theorem kept_chainRegister {c : CoreId} {h : Hdr} {f : ChainF} : s.Kept (.chainRegister c h f) := .clocked rfl ((refl s).chain)

theorem kept_smaxEnd {c : CoreId} {h : Hdr} {f : ChainF} : s.Kept (.smaxEnd c h f) := .clocked rfl ((refl s).chain)

theorem kept_nstatFast {c : CoreId} {h : Hdr} {f : ChainF} : s.Kept (.nstatFast c h f) := .clocked rfl ((refl s).chain)

theorem kept_nstatMean {c : CoreId} {h : Hdr} {f : ChainF} : s.Kept (.nstatMean c h f) := .clocked rfl ((refl s).chain)

theorem kept_nstatStable {c : CoreId} {h : Hdr} {f : ChainF} : s.Kept (.nstatStable c h f) := .clocked rfl ((refl s).chain)

theorem kept_nstatRms {c : CoreId} {h : Hdr} {f : ChainF} : s.Kept (.nstatRms c h f) := .clocked rfl ((refl s).chain)

theorem kept_fadd {c : CoreId} {h : Hdr} {f : VecF} : s.Kept (.fadd c h f) := .clocked rfl ((refl s).lanes)

theorem kept_fsub {c : CoreId} {h : Hdr} {f : VecF} : s.Kept (.fsub c h f) := .clocked rfl ((refl s).lanes)

theorem kept_fmul {c : CoreId} {h : Hdr} {f : VecF} : s.Kept (.fmul c h f) := .clocked rfl ((refl s).lanes)

theorem kept_ffma {c : CoreId} {h : Hdr} {f : VecF} : s.Kept (.ffma c h f) := .clocked rfl ((refl s).lanes)

theorem kept_fmin {c : CoreId} {h : Hdr} {f : VecF} : s.Kept (.fmin c h f) := .clocked rfl ((refl s).lanes)

theorem kept_fmax {c : CoreId} {h : Hdr} {f : VecF} : s.Kept (.fmax c h f) := .clocked rfl ((refl s).lanes)

theorem kept_iadd {c : CoreId} {h : Hdr} {f : VecF} : s.Kept (.iadd c h f) := .clocked rfl ((refl s).intLanes)

theorem kept_isub {c : CoreId} {h : Hdr} {f : VecF} : s.Kept (.isub c h f) := .clocked rfl ((refl s).intLanes)

theorem kept_imul {c : CoreId} {h : Hdr} {f : VecF} : s.Kept (.imul c h f) := .clocked rfl ((refl s).intLanes)

theorem kept_selLanes {c : CoreId} {h : Hdr} {f : VecF} : s.Kept (.selLanes c h f) := .clocked rfl ((refl s).lanes)

theorem kept_bcast {c : CoreId} {h : Hdr} {f : VecF} : s.Kept (.bcast c h f) := .clocked rfl ((refl s).lanes)

theorem kept_mov {c : CoreId} {h : Hdr} {f : VecF} : s.Kept (.mov c h f) := .clocked rfl ((refl s).lanes)

theorem kept_fcmp {c : CoreId} {h : Hdr} {f : VecF} : s.Kept (.fcmp c h f) := .clocked rfl ((refl s).maskBits)

theorem kept_maskop {c : CoreId} {h : Hdr} {f : VecF} : s.Kept (.maskop c h f) := .clocked rfl ((refl s).maskBits)

theorem kept_vectorCvt {c : CoreId} {h : Hdr} {f : VecF} : s.Kept (.vectorCvt c h f) :=
  .clocked rfl ((refl s).issue (fun _ h0 => (h0.checked (fun _ h1 => (h1.cvtRun)))))

theorem kept_sumLanes {c : CoreId} {h : Hdr} {f : VecF} : s.Kept (.sumLanes c h f) := .clocked rfl ((refl s).reduce)

theorem kept_prodLanes {c : CoreId} {h : Hdr} {f : VecF} : s.Kept (.prodLanes c h f) := .clocked rfl ((refl s).reduce)

theorem kept_vectorMax {c : CoreId} {h : Hdr} {f : VecF} : s.Kept (.vectorMax c h f) := .clocked rfl ((refl s).reduce)

theorem kept_vectorMin {c : CoreId} {h : Hdr} {f : VecF} : s.Kept (.vectorMin c h f) := .clocked rfl ((refl s).reduce)

theorem kept_countLanes {c : CoreId} {h : Hdr} {f : VecF} : s.Kept (.countLanes c h f) := .clocked rfl ((refl s).reduce)

theorem kept_meanLanes {c : CoreId} {h : Hdr} {f : VecF} : s.Kept (.meanLanes c h f) := .clocked rfl ((refl s).reduce)

theorem kept_varLanes {c : CoreId} {h : Hdr} {f : VecF} : s.Kept (.varLanes c h f) := .clocked rfl ((refl s).reduce)

theorem kept_argmax {c : CoreId} {h : Hdr} {f : VecF} : s.Kept (.argmax c h f) := .clocked rfl ((refl s).reduce)

theorem kept_argmin {c : CoreId} {h : Hdr} {f : VecF} : s.Kept (.argmin c h f) := .clocked rfl ((refl s).reduce)

theorem kept_scanInclFadd {c : CoreId} {h : Hdr} {f : VecF} : s.Kept (.scanInclFadd c h f) := .clocked rfl ((refl s).scan)

theorem kept_scanInclFmax {c : CoreId} {h : Hdr} {f : VecF} : s.Kept (.scanInclFmax c h f) := .clocked rfl ((refl s).scan)

theorem kept_scanInclFmin {c : CoreId} {h : Hdr} {f : VecF} : s.Kept (.scanInclFmin c h f) := .clocked rfl ((refl s).scan)

theorem kept_scanInclIadd {c : CoreId} {h : Hdr} {f : VecF} : s.Kept (.scanInclIadd c h f) := .clocked rfl ((refl s).scan)

theorem kept_scanExclFadd {c : CoreId} {h : Hdr} {f : VecF} : s.Kept (.scanExclFadd c h f) := .clocked rfl ((refl s).scan)

theorem kept_scanExclFmax {c : CoreId} {h : Hdr} {f : VecF} : s.Kept (.scanExclFmax c h f) := .clocked rfl ((refl s).scan)

theorem kept_scanExclFmin {c : CoreId} {h : Hdr} {f : VecF} : s.Kept (.scanExclFmin c h f) := .clocked rfl ((refl s).scan)

theorem kept_scanExclIadd {c : CoreId} {h : Hdr} {f : VecF} : s.Kept (.scanExclIadd c h f) := .clocked rfl ((refl s).scan)

theorem kept_moveTensor {c : CoreId} {h : Hdr} {f : MoveF} : s.Kept (.moveTensor c h f) :=
  .clocked rfl ((refl s).issue (fun _ h0 => (h0.checked (fun _ h1 => (h1.moveStart)))))

theorem kept_ldv {c : CoreId} {h : Hdr} {f : MoveF} : s.Kept (.ldv c h f) :=
  .clocked rfl ((refl s).issue (fun _ h0 => (h0.checked (fun _ h1 => ((h1.regOpen).putV)))))

theorem kept_stv {c : CoreId} {h : Hdr} {f : MoveF} : s.Kept (.stv c h f) :=
  .clocked rfl ((refl s).issue (fun _ h0 => (h0.checked (fun _ h1 => (((h1.regStore).addCensus).markPoison)))))

theorem kept_lddesc {c : CoreId} {h : Hdr} {f : MoveF} : s.Kept (.lddesc c h f) := by
  refine .clocked rfl ?_
  dsimp only
  exact (refl s).issue (fun _ h0 => (by split; exact (h0.stopProgram); exact ((h0.regOpen).checked (fun _ h3 => (h3.updCore)))))

theorem kept_ldx {c : CoreId} {h : Hdr} {f : MoveF} : s.Kept (.ldx c h f) := by
  refine .clocked rfl ?_
  dsimp only
  exact (refl s).issue (fun _ h0 => (by split; exact (h0.stopProgram); exact ((h0.regOpen).checked (fun _ h3 => (h3.updCore)))))

theorem kept_stx {c : CoreId} {h : Hdr} {f : MoveF} : s.Kept (.stx c h f) :=
  .clocked rfl ((refl s).issue (fun _ h0 => (h0.checked (fun _ h1 => (h1.regStore)))))

theorem kept_zpack {c : CoreId} {h : Hdr} {f : MoveF} : s.Kept (.zpack c h f) :=
  .clocked rfl ((refl s).issue (fun _ h0 => (h0.checked (fun _ h1 => (h1.zpackRun)))))

theorem kept_zunpack {c : CoreId} {h : Hdr} {f : MoveF} : s.Kept (.zunpack c h f) := by
  refine .clocked rfl ?_
  dsimp only
  refine (refl s).issue fun _ h0 => ?_
  split
  · exact h0.stopProgram
  · split
    · exact h0.zunpackRun.stopProgram
    · exact h0.zunpackRun.advance

theorem kept_vtensor {c : CoreId} {h : Hdr} {f : MoveF} : s.Kept (.vtensor c h f) :=
  .clocked rfl ((refl s).issue (fun _ h0 => (h0.checked (fun _ h1 => (ite ((h1.markChecked).markChecked) (h1.moveStart))))))

theorem kept_vsplit {c : CoreId} {h : Hdr} {f : MoveF} : s.Kept (.vsplit c h f) :=
  .clocked rfl ((refl s).issue (fun _ h0 => (h0.checked (fun _ h1 => (ite (((h1.markChecked).markChecked).markChecked) (h1.splitRun))))))

theorem kept_window {c : CoreId} {h : Hdr} {f : WinF} : s.Kept (.window c h f) :=
  .clocked rfl ((refl s).issue (fun _ h0 => (h0.checked (fun _ h1 => (h1.windowRun)))))

theorem kept_tableExpansion {c : CoreId} {h : Hdr} {f : TabF} : s.Kept (.tableExpansion c h f) :=
  .clocked rfl ((refl s).tableLoad fun _ _ => rfl)

theorem kept_tableCustom {c : CoreId} {h : Hdr} {f : TabF} : s.Kept (.tableCustom c h f) :=
  .clocked rfl ((refl s).tableLoad fun _ _ => rfl)

theorem kept_tableSwap {c : CoreId} {custom : Bool} {t : Fin 8} : s.Kept (.tableSwap c custom t) := by
  refine .clocked rfl ((refl s).updCore ?_)
  split <;> split <;> rfl

theorem kept_signalRennet {c : CoreId} {h : Hdr} {f : SyncF} : s.Kept (.signalRennet c h f) :=
  .clocked rfl ((refl s).issue (fun _ h0 => (h0.checked (fun _ h1 => (h1.syncOrQueue)))))

theorem kept_signalRetry {c : CoreId} : s.Kept (.signalRetry c) := .clocked rfl ((refl s).retry)

theorem kept_waitRennet {c : CoreId} {h : Hdr} {f : SyncF} : s.Kept (.waitRennet c h f) := by
  refine .clocked rfl ?_
  exact (refl s).issue (fun _ h0 => (by split; exact (h0.stopProgram); exact ((h0.advance).syncOrQueue)))

theorem kept_waitSatisfied {n : Fin 65536} : s.Kept (.waitSatisfied n) := .clocked rfl ((refl s).serveQueue)

theorem kept_fence {c : CoreId} {h : Hdr} {f : SyncF} : s.Kept (.fence c h f) :=
  .clocked rfl ((refl s).issue (fun _ h0 => ((h0.syncOrQueue).advance)))

theorem kept_randomRaw {c : CoreId} {h : Hdr} {f : RandF} : s.Kept (.randomRaw c h f) := .clocked rfl ((refl s).random)

theorem kept_randomUniform {c : CoreId} {h : Hdr} {f : RandF} : s.Kept (.randomUniform c h f) := .clocked rfl ((refl s).random)

theorem kept_randomNormal {c : CoreId} {h : Hdr} {f : RandF} : s.Kept (.randomNormal c h f) := .clocked rfl ((refl s).random)

theorem kept_randomBernoulli {c : CoreId} {h : Hdr} {f : RandF} : s.Kept (.randomBernoulli c h f) := .clocked rfl ((refl s).random)

theorem kept_nop {c : CoreId} {h : Hdr} {f : CtlF} : s.Kept (.nop c h f) := .clocked rfl ((refl s).issue (fun _ h0 => (h0.advance)))

theorem kept_endProgram {c : CoreId} {h : Hdr} {f : CtlF} : s.Kept (.endProgram c h f) :=
  .clocked rfl ((refl s).issue (fun _ h0 => (h0.endCore)))

theorem kept_br {c : CoreId} {h : Hdr} {f : CtlF} : s.Kept (.br c h f) :=
  .clocked rfl ((refl s).issue fun _ ht => ht.branch fun _ hu => hu)

theorem kept_brc {c : CoreId} {h : Hdr} {f : CtlF} : s.Kept (.brc c h f) :=
  .clocked rfl ((refl s).issue fun _ ht => ht.branch fun _ hu => hu)

theorem kept_loopX {c : CoreId} {h : Hdr} {f : CtlF} : s.Kept (.loopX c h f) :=
  .clocked rfl ((refl s).issue (fun _ h0 => (h0.branch (fun _ h2 => (h2.setX)))))

theorem kept_xalu {c : CoreId} {h : Hdr} {f : CtlF} : s.Kept (.xalu c h f) :=
  .clocked rfl ((refl s).issue (fun _ h0 => (h0.checked (fun _ h1 => (h1.setX)))))

theorem kept_ximm {c : CoreId} {h : Hdr} {f : CtlF} : s.Kept (.ximm c h f) :=
  .clocked rfl ((refl s).issue (fun _ h0 => ((h0.setX).advance)))

theorem kept_dset {c : CoreId} {h : Hdr} {f : CtlF} : s.Kept (.dset c h f) :=
  .clocked rfl ((refl s).issue (fun _ h0 => ((h0.updCore).advance)))

theorem kept_spillarea {c : CoreId} {h : Hdr} {f : CtlF} : s.Kept (.spillarea c h f) :=
  .clocked rfl ((refl s).issue (fun _ h0 => (h0.checked (fun _ h1 => (h1.updCore)))))

theorem kept_xget {c : CoreId} {h : Hdr} {f : CtlF} : s.Kept (.xget c h f) :=
  .clocked rfl (ite ((refl s).holdBack) ((refl s).issue (fun _ h1 => (h1.checked (fun _ h2 => (h2.setX))))))

theorem kept_preempt {c : CoreId} {h : Hdr} : s.Kept (.preempt c h) :=
  .clocked rfl (ite ((refl s).holdBack) ((refl s).issue (fun _ h1 => (((h1.closeInterval).advance).reachPoint))))

theorem kept_attach {c : CoreId} {h : Hdr} {f : CenF} : s.Kept (.attach c h f) := .clocked rfl ((refl s).cen (fun _ h0 => (h0.updCore)))

theorem kept_detach {c : CoreId} {h : Hdr} {f : CenF} : s.Kept (.detach c h f) := .clocked rfl ((refl s).cen (fun _ h0 => (h0.updCore)))

theorem kept_censusScan {c : CoreId} {h : Hdr} {f : CenF} : s.Kept (.censusScan c h f) :=
  .clocked rfl ((refl s).cen (fun _ h0 => (((h0.markChecked).reader).addCensus)))

theorem kept_censusStore {c : CoreId} {h : Hdr} {f : CenF} : s.Kept (.censusStore c h f) :=
  .clocked rfl (ite ((refl s).holdBack) ((refl s).cen (fun _ h2 => (ite ((ite ((h2.markChecked).pipeWrite)
    ((h2.markChecked).storeCells)).updCore) (ite ((h2.markChecked).pipeWrite) ((h2.markChecked).storeCells))))))

theorem kept_censusClear {c : CoreId} {h : Hdr} {f : CenF} : s.Kept (.censusClear c h f) :=
  .clocked rfl ((refl s).cen (fun _ h0 => (h0.updCore)))

theorem kept_seal {c : CoreId} {h : Hdr} {f : CenF} : s.Kept (.seal c h f) := .clocked rfl ((refl s).cen (fun _ h0 => (h0.sealVerdict)))

theorem kept_preemptIntervalExceeded {c : CoreId} {cycles : Nat} : s.Kept (.preemptIntervalExceeded c cycles) :=
  .clocked rfl (ite (refl s) ((((refl s).updCore).count).raise))

theorem kept_launchRun {w : FrameWrite} : s.Kept (.launchRun w) := .clocked rfl ((refl s).command fun _ _ h => h.takeLaunch)

theorem kept_launchLoad {w : FrameWrite} : s.Kept (.launchLoad w) := .clocked rfl ((refl s).command fun _ _ h => h.takeLaunch)

theorem kept_launchRestore {w : FrameWrite} : s.Kept (.launchRestore w) := .clocked rfl ((refl s).command fun _ _ h => h.takeLaunch)

theorem kept_launchEligible {slot : Fin 4096} : s.Kept (.launchEligible slot) := by
  refine .clocked rfl ?_
  split
  · exact (refl s)
  · exact (ite (refl s) (((refl s).foldl fun _ _ h => h.tryStart).tryStart))

theorem kept_loadCopyComplete {slot : Fin 4096} : s.Kept (.loadCopyComplete slot) := by
  refine .clocked rfl ?_
  dsimp only
  split
  · exact (refl s)
  · exact (ite (refl s) ((((refl s).agentRead).foldl fun _ _ h6 => ((ite (h6.loadWords) h6).partOver)).finishIfOver))

theorem kept_restoreLoadComplete {slot : Fin 4096} : s.Kept (.restoreLoadComplete slot) := by
  refine .clocked rfl ?_
  dsimp only
  split
  · exact (refl s)
  · exact (ite (refl s) (ite ((((refl s).foldl fun _ _ h7 => (h7.restoreCore)).stopOthers).finishIfOver) (((refl s).foldl fun _ _
      h6 => (h6.restoreCore)).finishIfOver)))

theorem kept_contextSaveComplete {slot : Fin 4096} : s.Kept (.contextSaveComplete slot) := by
  refine .clocked rfl ?_
  dsimp only
  split
  · exact (refl s)
  · exact (ite (refl s) (((refl s).foldl fun _ _ h4 => (h4.savePart)).finishIfOver))

theorem kept_launchOverrun {c : CoreId} : s.Kept (.launchOverrun c) := by
  refine .clocked rfl ?_
  dsimp only
  split
  · exact (refl s)
  · exact (ite ((refl s).updLaunch) (((((refl s).updLaunch).raiseVat).countVat).vatCause))

theorem kept_preemptCommand {w : FrameWrite} : s.Kept (.preemptCommand w) := .clocked rfl ((refl s).command fun _ _ h => h.takePreempt)

theorem kept_cancelCommand {w : FrameWrite} : s.Kept (.cancelCommand w) := .clocked rfl ((refl s).command fun _ _ h => h.takeCancel)

theorem kept_seedCommand {w : FrameWrite} : s.Kept (.seedCommand w) := .clocked rfl ((refl s).command fun _ _ h => h.takeSeed)

theorem kept_seedKeyReady {v : VatNo} : s.Kept (.seedKeyReady v) := by
  refine .clocked rfl ?_
  dsimp only
  split
  · exact (refl s)
  · exact ((refl s).keep.slotFinal)

theorem kept_joinCommand {w : FrameWrite} : s.Kept (.joinCommand w) := .clocked rfl ((refl s).command fun _ _ h => h.takeJoin)

theorem kept_leaveCommand {w : FrameWrite} : s.Kept (.leaveCommand w) := .clocked rfl ((refl s).command fun _ _ h => h.takeLeave)

theorem kept_growthCommand {w : FrameWrite} : s.Kept (.growthCommand w) := .clocked rfl ((refl s).command fun _ _ h => h.takeGrowth)

theorem kept_layoutCommand {w : FrameWrite} : s.Kept (.layoutCommand w) := .clocked rfl ((refl s).command fun _ _ h => h.takeLayout)

theorem kept_swapAreaCommand {w : FrameWrite} : s.Kept (.swapAreaCommand w) := .clocked rfl ((refl s).command fun _ _ h => h.takeSwapArea)

theorem kept_pipeOpen {w : FrameWrite} : s.Kept (.pipeOpen w) := .clocked rfl ((refl s).command fun _ _ h => h.takePipeOpen)

theorem kept_pipeClose {w : FrameWrite} : s.Kept (.pipeClose w) := .clocked rfl ((refl s).command fun _ _ h => h.takePipeClose)

theorem kept_pipeConfigure {w : FrameWrite} : s.Kept (.pipeConfigure w) := .clocked rfl ((refl s).command fun _ _ h => h.takePipeConfigure)

theorem kept_pipeCloseComplete {n : Fin 1024} : s.Kept (.pipeCloseComplete n) :=
  .clocked rfl (ite (((refl s).stopWriter).pipeGone) (refl s))

theorem kept_pipePacketAdvance {n : Fin 1024} : s.Kept (.pipePacketAdvance n) :=
  .clocked rfl (ite ((((refl s).retry).sendNotices).stopWriter) (((((((refl s).retry).moveOne).sendNotices).sendPacket).feedSlice).updPipe))

theorem kept_rennetCommand {w : FrameWrite} : s.Kept (.rennetCommand w) := .clocked rfl ((refl s).command fun _ _ h => h.takeRennet)

theorem kept_unitHold {r : UnitSrc} : s.Kept (.unitHold r) := .clocked rfl ((refl s).unitOperation)

theorem kept_unitReadmit {r : UnitSrc} : s.Kept (.unitReadmit r) := .clocked rfl ((refl s).unitOperation)

theorem kept_unitTailDrop {r : UnitSrc} : s.Kept (.unitTailDrop r) := .clocked rfl ((refl s).unitOperation)

theorem kept_unitUpdateImage {r : UnitSrc} : s.Kept (.unitUpdateImage r) := .clocked rfl ((refl s).unitOperation)

theorem kept_unitRecalibrate {r : UnitSrc} : s.Kept (.unitRecalibrate r) := .clocked rfl ((refl s).unitOperation)

theorem kept_unitReclaim {r : UnitSrc} : s.Kept (.unitReclaim r) := .clocked rfl ((refl s).unitOperation)

theorem kept_unitDrainComplete {u : UnitNo} : s.Kept (.unitDrainComplete u) := .clocked rfl (ite ((refl s).drained) (refl s))

theorem kept_drainLimitPassed {u : UnitNo} {micros : Nat} : s.Kept (.drainLimitPassed u micros) :=
  .clocked rfl (ite (((refl s).raise).enterFaulted) (refl s))

theorem kept_loadingComplete {u : UnitNo} {r : SelfTest} : s.Kept (.loadingComplete u r) := .clocked rfl ((refl s).endLoading)

theorem kept_aggregateReevaluate {u : UnitNo} : s.Kept (.aggregateReevaluate u) := .clocked rfl ((refl s).reevaluate)

theorem kept_arrayOperandFault {c : CoreId} {f : OperandFault} : s.Kept (.arrayOperandFault c f) := by
  refine .clocked rfl ?_
  dsimp only
  exact ite (refl s) (by split; exact (((refl s).stopWork).poisonArrived); exact (((refl s).stopWork).poisonArrived); exact (((((((refl
    s).stopWork).countArray).raise).enterFaulted).aggregate).haltCore))

theorem kept_laneGroupFault {c : CoreId} {group : Fin 9} {f : UnitFault} : s.Kept (.laneGroupFault c group f) :=
  .clocked rfl (ite (refl s) (ite (ite (refl s) ((((refl s).setVol).raise).failLoad)) (ite (refl s) ((((((refl
    s).free).poisonDests).setVol).raise).holdFaulty))))

theorem kept_cultureFault {c : CoreId} {f : UnitFault} : s.Kept (.cultureFault c f) :=
  .clocked rfl (ite (refl s) (ite (((((refl s).free).setVol).raise).failLoad) ((((refl s).poisonDests).raise).holdFaulty)))

theorem kept_onchipUncorrectable {f : ChipError} : s.Kept (.onchipUncorrectable f) := by
  refine .clocked rfl ?_
  extract_lets mark report faulted hard written hubOf
  have hm {t : State} (p : Place) (ht : s.Keeps t) : s.Keeps (mark t p) := ht.setMem fun h => Mem.wf_poison _ _ h
  have hr {t : State} (u : UnitNo) (obj sub st word : Nat) (ht : s.Keeps t) : s.Keeps (report t u obj sub st word) := ht.countErr.raise
  have hf {t : State} (whole : Bool) (u : UnitNo) (st : Nat) (ht : s.Keeps t) : s.Keeps (faulted whole t u st) := ite ht.hardFault ht
  have hh {t : State} (whole : Bool) (ht : s.Keeps t) : s.Keeps (hubOf whole t) := hf _ _ _ (hr _ _ _ _ _ ht)
  have h := refl s
  split
  · exact hf _ _ _ (hr _ _ _ _ _ (hm _ h))
  · exact hf _ _ _ (haltCore (hr _ _ _ _ _ h.updCore))
  · exact hf _ _ _ (hr _ _ _ _ _ (hm _ h))
  · exact hh _ (hm _ h)
  · exact hh _ h.setVol
  · exact hh _ h.blankAudit
  · exact hh _ h.blankEvent
  · exact dite (fun _ => hf _ _ _ (hr _ _ _ _ _ h.poisonEnd)) fun _ => hh _ h.poisonEnd

theorem kept_linkFlitUncorrectable {f : LinkError} : s.Kept (.linkFlitUncorrectable f) := by
  refine .clocked rfl ?_
  extract_lets u a addr t v k n w
  have ht : s.Keeps t := (refl s).free.countErr.raise
  have hv : s.Keeps v := by
    unfold v
    split
    · exact ht.poisonTarget
    · exact ht
  have hw : s.Keeps w := hv.keep (by dsimp only [w, State.kept])
  exact ite hw.raise.holdFor hw

theorem kept_correctedErrorThreshold {e : CorrectedErrors} : s.Kept (.correctedErrorThreshold e) :=
  .clocked rfl (ite ((refl s).countCorrected) ((((refl s).countCorrected).raise).updUnit))

theorem kept_dieFault {d : DieError} : s.Kept (.dieFault d) := by
  refine .clocked rfl ?_
  split
  · exact (ite ((refl s).hardFault) (refl s))
  · exact ((refl s).logicFaulted)

theorem kept_hubFault : s.Kept .hubFault := .clocked rfl ((refl s).logicFaulted)

theorem kept_pageWork {v : VatNo} : s.Kept (.pageWork v) := by
  refine .clocked rfl ?_
  dsimp only
  split
  · exact (ite (refl s) ((((((refl s).updWork).runLeaves).runInserts).runJoins).demandStep))
  · exact (refl s)

theorem kept_pageWorkEnd {v : VatNo} : s.Kept (.pageWorkEnd v) := by
  refine .clocked rfl ?_
  dsimp only
  split
  · exact (refl s)
  · exact (ite (refl s) (ite (((refl s).runDemands).endWork) ((refl s).runDemands)))

theorem kept_swapOutComplete {b : Fin 64} : s.Kept (.swapOutComplete b) := .clocked rfl (ite (refl s) (((refl s).swapReads).swapOutDone))

theorem kept_swapInComplete {b : Fin 64} {data : List Byte} : s.Kept (.swapInComplete b data) :=
  .clocked rfl (ite (refl s) ((((refl s).swapReads).swapInDone).endResume))

theorem kept_swapTransferFailed {b : Fin 64} {status : Nat} : s.Kept (.swapTransferFailed b status) := .clocked rfl ((refl s).swapFail)

theorem kept_granuleClear {d : Fin 4} {granule : Nat} : s.Kept (.granuleClear d granule) :=
  .clocked rfl (ite ((refl s).clearGranule) (refl s))

theorem kept_scrubPass {p : ScrubReport} : s.Kept (.scrubPass p) := by
  refine .clocked rfl ?_
  extract_lets d e words onDie t
  have ho {u : State} (k n : Nat) (hu : s.Keeps u) : s.Keeps (onDie u k n) := hu.count
  have ht : s.Keeps t := ho _ _ (ho _ _ (ho _ _ (refl s)))
  refine ite (refl s) (ite (refl s).setVol (scrubDone (ht.foldl fun u w hu => ?_)))
  split
  · exact (hu.hbm fun h => Mem.wf_setMark _ _ _ h).hbmCorrected
  · exact (hu.hbm fun h => Mem.wf_setMark _ _ _ h).hbmUncorrectable
  · exact hu

theorem kept_shadowMoveGranule : s.Kept .shadowMoveGranule := by
  refine .clocked rfl ?_
  split
  · exact (refl s)
  · exact ((refl s).copyShadow)

theorem kept_relocateGranule {d : Fin 4} : s.Kept (.relocateGranule d) := by
  refine .clocked rfl ?_
  split
  · exact refl s
  · next r _ =>
    refine ite (refl s) ?_
    extract_lets n t u
    have ht : s.Keeps t := (refl s).keep
    have hu : s.Keeps u := ite ht.relocateRow ht
    split
    · refine ite (raise (setVol ?_)) hu
      exact hu.keep (by dsimp only [State.kept])
    · exact hu

theorem kept_hbmStackFailure {stack : Fin 12} {cause : Nat} : s.Kept (.hbmStackFailure stack cause) :=
  .clocked rfl (ite (refl s) (((refl s).keep.setVol).raise))

theorem kept_beatSymbolReceive {sym : BitVec 192} {mark : Bool} {markNs : Nat} : s.Kept (.beatSymbolReceive sym mark markNs) :=
  .clocked rfl (ite (refl s) (ite ((refl s).discardSymbol) (ite ((refl s).discardSymbol) (ite (ite ((refl s).countCroak) (((((refl
    s).countCroak).raise).updCroak).setVol)) ((refl s).acceptSymbol)))))

theorem kept_beatBegin {now : Nat} : s.Kept (.beatBegin now) := by
  refine .clocked rfl ?_
  dsimp only
  refine ite (refl s) ?_
  split
  · refine ite (ite (refl s) (refl s).echoDone) ?_
    split
    · exact (ite (refl s) (refl s).echoDone).updCroak.raise
    · exact ((ite (refl s) (refl s).echoDone).beginBeat fun _ h7 => h7.joinGroup).updCroak
  · refine ite (refl s) (ite (refl s) ?_)
    split
    · exact (refl s).updCroak.raise
    · exact (refl s).beginBeat fun _ h7 => h7

theorem kept_beatSymbolSend {p : BusSample} : s.Kept (.beatSymbolSend p) :=
  .clocked rfl (ite (refl s) (ite ((((refl s).setVol).sampleHold).sendSymbol) (ite (((((refl s).setVol).sampleHold).countCroak).sendSymbol)
    ((((refl s).setVol).sampleHold).updCroak))))

theorem kept_beatMissed {now : Nat} : s.Kept (.beatMissed now) :=
  .clocked rfl (ite (refl s) (ite ((((((refl s).updCroak).countCroak).setVol).raise).raise) (((((refl
    s).updCroak).countCroak).setVol).raise)))

theorem kept_holdNotice {node : Fin 32} : s.Kept (.holdNotice node) := .clocked rfl (ite (refl s) (ite (refl s) ((refl s).keep.reevaluate)))

theorem kept_releaseNotice {node : Fin 32} : s.Kept (.releaseNotice node) := .clocked rfl (ite (refl s) ((refl s).keep.reevaluate))

theorem kept_memberLossNotice {node : Fin 32} : s.Kept (.memberLossNotice node) := .clocked rfl (ite (refl s) ((refl s).keep.reevaluate))

theorem kept_groupRequestForward {r : GroupRequest} : s.Kept (.groupRequestForward r) := .clocked rfl (ite (refl s) ((refl s).submitReq))

theorem kept_ptpMessage {m : PtpMessage} : s.Kept (.ptpMessage m) := by
  refine .clocked rfl ?_
  dsimp only
  exact ite (refl s) (ite ((refl s).macsecDiscard) (ite (refl s) (by split; exact (((refl s).updCroak).send); exact ((refl s).measured); exact (refl
    s))))

theorem kept_resultSlotRelease {fn : FnNo} {slot : Nat} {value : Word} {secure : Bool} : s.Kept (.resultSlotRelease fn slot value secure) :=
  .clocked rfl (ite (refl s) (ite (refl s) (ite ((refl s).discardTlp) (ite (refl s) ((refl s).releaseSlot)))))

theorem kept_bar4Read {fn : FnNo} {off : Nat} {len : Nat} {secure : Bool} : s.Kept (.bar4Read fn off len secure) := by
  refine .clocked rfl ?_
  dsimp only
  exact ite (refl s) (ite (((refl s).discardTlp).send) (by split; exact (((refl s).bar4Refused).complete); exact (ite (((refl
    s).readHbm).complete) (((refl s).readHbm).complete))))

theorem kept_bar4Write {fn : FnNo} {off : Nat} {data : List Byte} {secure : Bool} : s.Kept (.bar4Write fn off data secure) := by
  refine .clocked rfl ?_
  dsimp only
  exact ite (refl s) (ite ((refl s).discardTlp) (by split; exact ((refl s).bar4Refused); exact ((refl s).writeHbm)))

theorem kept_registerWrite {fn : FnNo} {w : HostReg} {data : List Byte} {secure : Bool} : s.Kept (.registerWrite fn w data secure) := by
  refine .clocked rfl ?_
  exact ite (refl s) (by split; exact (ite (refl s) (ite ((refl s).discardTlp) ((refl s).writeBar0))); exact (ite ((refl s).writeConfig) (refl
    s)))

theorem kept_hostLinkRecovery {rate : Nat} {width : Nat} : s.Kept (.hostLinkRecovery rate width) :=
  .clocked rfl (ite (refl s) (((((refl s).setLink).countHost).raise).flushHost))

theorem kept_hostLinkBelowMinimum {rate : Nat} {width : Nat} : s.Kept (.hostLinkBelowMinimum rate width) :=
  .clocked rfl (ite ((((refl s).setLink).raise).flushHost) (refl s))

theorem kept_hostLinkDown : s.Kept .hostLinkDown := by
  refine .clocked rfl (ite (refl s) (setVol (setVol ?_)))
  exact linkReset (refl s).setVol.countHost.emptyFlows.endSwaps rfl

theorem kept_flrPhysical : s.Kept .flrPhysical := by
  refine .clocked rfl (ite (refl s) ?_)
  extract_lets mine t u
  have hu : s.Keeps u := (refl s).emptyFlows.endSwaps.resetFunc.resetVfs
  exact setVol (setVol (hu.keep (by dsimp only [State.kept])))

theorem kept_flrVirtual {n : Fin 16} : s.Kept (.flrVirtual n) := by
  refine .clocked rfl ?_
  extract_lets f t
  have ht : s.Keeps t := (refl s).emptyFlows.endSwaps.resetFunc
  refine ite (refl s) ?_
  exact raiseVat (ht.keep (by dsimp only [State.kept]))

theorem kept_ideIntegrityFailure {stream : Nat} {fn : FnNo} : s.Kept (.ideIntegrityFailure stream fn) :=
  .clocked rfl (ite (refl s) (((((refl s).updFunc).countHost).raise).endSwaps))

theorem kept_fabricLinkDown {p : Fin 8} : s.Kept (.fabricLinkDown p) :=
  .clocked rfl (ite (refl s) (((((refl s).setVol).raise).keep.foldl fun _ _ h5 => (h5.resend)).pathsLost))

theorem kept_fabricLinkUp {p : Fin 8} : s.Kept (.fabricLinkUp p) :=
  .clocked rfl (ite (refl s) (ite (((refl s).setVol).raise).keep (((refl s).setVol).raise)))

theorem kept_psigerData {p : Fin 8} {g : Segment} : s.Kept (.psigerData p g) :=
  .clocked rfl ((refl s).segmentIn fun _ _ h => h.sequenced)

theorem kept_psigerAck {p : Fin 8} {g : Segment} : s.Kept (.psigerAck p g) :=
  .clocked rfl ((refl s).segmentIn fun _ _ h => ite h.creditBack.exportMore h.creditBack)

theorem kept_psigerNak {p : Fin 8} {g : Segment} : s.Kept (.psigerNak p g) := .clocked rfl ((refl s).segmentIn fun _ _ h => h.resend)

theorem kept_psigerCredit {p : Fin 8} {g : Segment} : s.Kept (.psigerCredit p g) :=
  .clocked rfl ((refl s).segmentIn fun _ _ h => h.sequenced)

theorem kept_remoteSignalReceive {m : FromPeer} : s.Kept (.remoteSignalReceive m) := by
  refine .clocked rfl ?_
  split
  · exact ite (refl s).owe.receiveSignal (refl s)
  · exact (refl s).segmentIn fun _ _ h => h.sequenced

theorem kept_remoteSignalOutcome {m : FromPeer} : s.Kept (.remoteSignalOutcome m) := by
  refine .clocked rfl ?_
  split
  · exact ite (refl s).owe.settle (refl s)
  · exact (refl s).segmentIn fun _ _ h => h.sequenced

theorem kept_remoteSignalResend {peer : Peer} {seq : Word} : s.Kept (.remoteSignalResend peer seq) := by
  refine .clocked rfl ?_
  dsimp only
  split
  · exact (refl s)
  · exact (by split; exact (refl s); exact (ite (refl s) (((refl s).updPeer).sendSignal)))

theorem kept_psigerReconcile {p : Fin 8} {g : Segment} : s.Kept (.psigerReconcile p g) :=
  .clocked rfl ((refl s).segmentIn fun _ _ h => h.sequenced)

theorem kept_psigerProbe {p : Fin 8} {g : Segment} : s.Kept (.psigerProbe p g) :=
  .clocked rfl ((refl s).segmentIn fun _ _ h => h.psigerControl)

theorem kept_psigerProbeReply {p : Fin 8} {g : Segment} : s.Kept (.psigerProbeReply p g) := by
  refine .clocked rfl ((refl s).segmentIn fun t _ h => ite h ?_)
  have k : s.Keeps ({ t with twin := { t.twin with probing := false } } : State) := h.keep
  exact k.holdFor.raise

theorem kept_psigerFaultNotice {p : Fin 8} {g : Segment} : s.Kept (.psigerFaultNotice p g) :=
  .clocked rfl ((refl s).segmentIn fun _ _ h => h.sequenced)

theorem kept_psigerExport {p : Fin 8} {g : Segment} : s.Kept (.psigerExport p g) :=
  .clocked rfl ((refl s).segmentIn fun _ _ h => h.sequenced)

theorem kept_retransmitTimeout {b : Fin 4096} {seq : Word} : s.Kept (.retransmitTimeout b seq) :=
  .clocked rfl (ite ((refl s).resend) (refl s))

theorem kept_gapTimeout {b : Fin 4096} : s.Kept (.gapTimeout b) := .clocked rfl (ite ((refl s).psigerControl) (refl s))

theorem kept_ackTimer {b : Fin 4096} : s.Kept (.ackTimer b) := by
  refine .clocked rfl (ite (refl s) (foldl ?_ fun _ _ h => h.psigerSend))
  split <;> exact (refl s).updBinding.told.psigerControl

theorem kept_peerLossTimeout {b : Fin 4096} : s.Kept (.peerLossTimeout b) := .clocked rfl (ite ((refl s).peerLost) (refl s))

theorem kept_twinHeartbeat : s.Kept .twinHeartbeat := by
  refine .clocked rfl (ite (refl s) ?_)
  extract_lets l t
  have ht : s.Keeps t := told ((refl s).send.foldl fun _ _ h => h.send)
  exact ite ht (send (ht.keep (by dsimp only [State.kept])))

theorem kept_twinLossOfSignal : s.Kept .twinLossOfSignal := .clocked rfl ((refl s).twinDown)

theorem kept_twinFlitTimeout : s.Kept .twinFlitTimeout := .clocked rfl ((refl s).twinDown)

theorem kept_twinProbeTimeout : s.Kept .twinProbeTimeout := .clocked rfl (ite ((refl s).partnerLost) (refl s))

theorem kept_twinFlitCrcFail {flit : Nat} : s.Kept (.twinFlitCrcFail flit) := by
  refine .clocked rfl ?_
  dsimp only
  exact ite (refl s) (by split; exact ((refl s).send); exact (refl s))

theorem kept_shadowData {r : ShadowRecord} : s.Kept (.shadowData r) :=
  .clocked rfl ((refl s).shadowIn (fun _ h0 => (ite (h0.shadowRefused) ((h0.writeShadow).countFabric))))

theorem kept_shadowCommit {r : ShadowRecord} : s.Kept (.shadowCommit r) :=
  .clocked rfl ((refl s).shadowIn (fun _ h0 => (ite (h0.shadowRefused) ((((((h0.setVol).setVol).setVol).setVol).hubSignal).raise))))

theorem kept_shadowAbort {r : ShadowRecord} : s.Kept (.shadowAbort r) := .clocked rfl ((refl s).shadowIn (fun _ h0 => h0.keep))

theorem kept_exportComplete : s.Kept .exportComplete := by
  refine .clocked rfl ?_
  dsimp only
  split
  · exact (refl s)
  · exact (ite (refl s) (((refl s).keep.setVol).raise))

theorem kept_encodeFrame {k : Fin 4} {r : FrameRecord} : s.Kept (.encodeFrame k r) := .clocked rfl (ite (refl s) ((refl s).recordIn))

theorem kept_decodeAccessUnit {k : Fin 4} {r : FrameRecord} : s.Kept (.decodeAccessUnit k r) :=
  .clocked rfl (ite ((refl s).recordIn) (refl s))

theorem kept_codecClose {k : Fin 4} {r : FrameRecord} : s.Kept (.codecClose k r) := .clocked rfl (ite ((refl s).recordIn) (refl s))

theorem kept_blockRowStart {k : Fin 4} {enc : Bool} : s.Kept (.blockRowStart k enc) := by
  refine .clocked rfl ?_
  dsimp only
  split
  · exact (((refl s).retry).takeWork)
  · exact (ite (((refl s).retry).updEngine) ((refl s).retry))

theorem kept_frameOutput {k : Fin 4} {enc : Bool} : s.Kept (.frameOutput k enc) := by
  refine .clocked rfl ?_
  dsimp only
  split
  · exact ((refl s).retry)
  · exact (ite ((refl s).retry) ((((refl s).retry).finishFrame).drainEntries))

theorem kept_ringPoll {k : Fin 4} {enc : Bool} {consumer : Word} : s.Kept (.ringPoll k enc consumer) := by
  refine .clocked rfl ?_
  dsimp only
  split
  · exact ((refl s).retry)
  · exact (ite (((refl s).retry).drainEntries) ((refl s).retry))

theorem kept_kopRead {m : KopMsg} : s.Kept (.kopRead m) :=
  .clocked rfl ((refl s).kop fun _ _ h => h.readMsg)

theorem kept_kopWrite {m : KopMsg} : s.Kept (.kopWrite m) := by
  refine .clocked rfl ((refl s).kop fun t x ht => ht.writeMsg fun u r v hu => iteFst ?_ ?_)
  · split
    · exact hu.stage
    · exact hu
  · split
    · exact iteFst (fst_mk hu.writeReservedOp) (fst_mk hu.writeUnitField)
    · exact hu

theorem kept_commit {m : KopMsg} : s.Kept (.commit m) :=
  .clocked rfl ((refl s).kop fun _ _ h => iteFst h.denied h.requestGen)

theorem kept_returnGeneration {m : KopMsg} : s.Kept (.returnGeneration m) :=
  .clocked rfl ((refl s).kop fun _ _ h => iteFst h (iteFst h.denied h.requestGen))

theorem kept_discard {m : KopMsg} : s.Kept (.discard m) := by
  refine .clocked rfl ((refl s).kop fun t x ht => ?_)
  extract_lets u
  have hu : s.Keeps u := ht.updSession
  split
  · exact fst_mk (ite hu.clearPending hu)
  · exact fst_mk hu

theorem kept_kopStatus {m : KopMsg} : s.Kept (.kopStatus m) :=
  .clocked rfl ((refl s).kop fun _ _ h => h)

theorem kept_hello {m : KopMsg} : s.Kept (.hello m) := by
  refine .clocked rfl ((refl s).kop fun t x ht => ?_)
  extract_lets so b u
  have hu : s.Keeps u := ht.keepHello
  refine iteFst (fst_mk hu) ?_
  split
  · exact fst_mk hu
  · split
    · exact fst_mk hu.sessionRefused
    · exact iteFst (fst_mk hu.keepHello) (iteFst (fst_mk hu) hu.openHalf)

theorem kept_proofMessage {m : KopMsg} : s.Kept (.proofMessage m) := by
  refine .clocked rfl ((refl s).kop fun t x ht => ?_)
  split
  · exact fst_mk ht.sessionRefused
  · exact iteFst (fst_mk ht.updSession.countSecure) (fst_mk ht.dropSession.sessionRefused)

theorem kept_sessionClose {m : KopMsg} : s.Kept (.sessionClose m) :=
  .clocked rfl ((refl s).kop fun _ _ h => h.dropSession)

theorem kept_attest {m : KopMsg} : s.Kept (.attest m) :=
  .clocked rfl ((refl s).kop fun _ _ h => iteFst h (fst_mk h.countSecure))

theorem kept_imagePiece {m : KopMsg} : s.Kept (.imagePiece m) :=
  .clocked rfl ((refl s).kop fun _ _ h => iteFst h (iteFst h (fst_mk h.placePiece)))

theorem kept_imageVerifyComplete {kind : Fin 6} : s.Kept (.imageVerifyComplete kind) := by
  refine .clocked rfl ?_
  dsimp only
  exact ite (refl s) (by split; exact ((((refl s).setSlot).raise).countSecure); exact (((refl s).setSlot).loadCold))

theorem kept_sessionIdleTimeout {session : Nat} : s.Kept (.sessionIdleTimeout session) := by
  refine .clocked rfl ?_
  split
  · exact (ite (refl s) ((refl s).dropSession))
  · exact (refl s)

theorem kept_proofTimeout {session : Nat} : s.Kept (.proofTimeout session) := by
  refine .clocked rfl ?_
  split
  · exact (ite (((refl s).dropSession).sessionRefused) (refl s))
  · exact (refl s)

theorem kept_eventAcknowledge {m : KopMsg} : s.Kept (.eventAcknowledge m) :=
  .clocked rfl ((refl s).kop fun _ _ ht => ht.writeMsg fun _ _ _ hu => iteFst (fst_mk hu.setVol.auditWrite) (fst_mk hu))

theorem kept_vatRunState {m : KopMsg} : s.Kept (.vatRunState m) := by
  refine .clocked rfl ((refl s).kop fun t x ht => ht.writeMsg fun u r v hu => iteFst (fst_mk hu) (fst_mk (auditWrite ?_)))
  exact hu.keep

theorem kept_echoRequest {m : KopMsg} : s.Kept (.echoRequest m) :=
  .clocked rfl ((refl s).kop fun _ _ ht => ht.writeMsg fun _ _ _ hu => fst_mk hu.setVol.updCroak.auditWrite)

theorem kept_debugUnlock {m : KopMsg} : s.Kept (.debugUnlock m) := by
  refine .clocked rfl ((refl s).kop fun t x ht => ht.writeMsg fun u r v hu => ?_)
  have hk {w : State} (hw : s.Keeps w) : s.Keeps { w with unlocking := some x.id } := hw.keep
  exact iteFst (fst_mk hu) (fst_mk (ite (hk hu.auditWrite) hu.auditWrite))

theorem kept_macsecKeyWrite {m : KopMsg} : s.Kept (.macsecKeyWrite m) := by
  refine .clocked rfl ((refl s).kop fun t x ht => ht.writeMsg fun u r v hu => fst_mk (auditWrite ?_))
  exact hu.keep

theorem kept_fuseWrite {m : KopMsg} : s.Kept (.fuseWrite m) := by
  refine .clocked rfl ((refl s).kop fun t x ht => ht.writeMsg fun u r v hu => iteFst (fst_mk hu) (fst_mk (auditWrite ?_)))
  exact hu.keep







theorem kept_powerSample {w : Word} : s.Kept (.powerSample w) := ⟨_, _, rfl, (refl s).setVol, ⟨rfl, .inl ⟨rfl, rfl⟩⟩⟩

theorem kept_capDutyStep : s.Kept .capDutyStep := ⟨_, _, rfl, (refl s).noteSources, s.follows_capStep⟩

theorem kept_thermalSample {t : ThermalReading} : s.Kept (.thermalSample t) :=
  ⟨_, _, rfl, ite (refl s).noteReadings.faultNotice.enterFaulted (refl s).noteReadings, s.power.follows_read t⟩

theorem kept_thermalDutyStep : s.Kept .thermalDutyStep :=
  ⟨_, _, rfl, (refl s).noteSources.countDuties, ⟨rfl, .inl ⟨rfl, rfl⟩⟩⟩

theorem kept_gateFrameBoundary : s.Kept .gateFrameBoundary :=
  ⟨_, _, rfl, (refl s).setVol.noteSources.countGated, ⟨rfl, .inl ⟨rfl, rfl⟩⟩⟩

theorem kept_pairRecordTimer : s.Kept .pairRecordTimer := .clocked rfl (ite ((refl s).sendPair) (refl s))

theorem kept_commandFrameWrite {w : FrameWrite} : s.Kept (.commandFrameWrite w) := by
  refine .clocked rfl (ite (refl s) (ite (refl s).discardTlp (ite (refl s).frameBody.frameStore ((refl s).command fun t c ht => ?_))))
  split
  · exact ht.unitop
  · exact trivial

theorem kept_croakHoldNChange {high : Bool} : s.Kept (.croakHoldNChange high) :=
  .clocked rfl (ite (refl s) (ite ((refl s).releaseHold) (((refl s).sampleHold).reevaluate)))

theorem kept_croakRdyRelease {now : Nat} : s.Kept (.croakRdyRelease now) := by
  refine .clocked rfl ?_
  split
  · exact (refl s)
  · exact (ite (refl s) (((refl s).setVol).sendStretched))

theorem kept_stretchLimitReached {now : Nat} : s.Kept (.stretchLimitReached now) := by
  refine .clocked rfl ?_
  split
  · exact (refl s)
  · exact (ite (refl s) ((refl s).sendStretched))

theorem kept_hostLinkTrained {rate : Nat} {width : Nat} : s.Kept (.hostLinkTrained rate width) :=
  .clocked rfl (ite (((refl s).setLink).flushHost) (refl s))

theorem kept_vfEnableWrite {num : Nat} {enable : Bool} : s.Kept (.vfEnableWrite num enable) :=
  .clocked rfl (ite (refl s) (((refl s).keep.resetVfs).setVol))

theorem kept_msixVectorUnmask {fn : FnNo} {w : VectorUnmask} : s.Kept (.msixVectorUnmask fn w) :=
  .clocked rfl (ite (refl s) (ite ((refl s).discardTlp) ((refl s).unmask)))

theorem kept_ideKeyProgramming {_stream : Nat} {fn : FnNo} : s.Kept (.ideKeyProgramming _stream fn) :=
  .clocked rfl (ite (refl s) (((refl s).updFunc).flushHost))

theorem kept_twinLinkUp {m : Reconcile} : s.Kept (.twinLinkUp m) := by
  refine .clocked rfl ?_
  extract_lets st u _ _ t
  have ht : s.Keeps t := keep (s := s.setVol (ek 0xC010 3) 2) (refl s).setVol
  refine ite (refl s) ?_
  split
  · exact ht
  · exact ite ht.catchUpAudit ht.owe.sendTwin.reconcileWith.catchUpAudit

theorem kept_twinFaultNotice : s.Kept .twinFaultNotice := .clocked rfl (ite (refl s) ((refl s).partnerLost))

theorem kept_twinPipeFlit {m : PipeFlit} : s.Kept (.twinPipeFlit m) := by
  refine .clocked rfl ?_
  dsimp only
  exact ite (refl s) (by split; exact (ite (((refl s).owe).takeInbound) ((refl s).owe)); exact (ite ((refl s).creditBack) (refl s)); exact ((refl
    s).twinReturns))

theorem kept_pairRecordReceive {r : PairRecord} : s.Kept (.pairRecordReceive r) := by
  refine .clocked rfl (ite (refl s) ?_)
  extract_lets _ t u
  have ht : s.Keeps t := keep (s := (s.owe 3 0).takePairReqs r.requests) (refl s).owe.takePairReqs
  have hu : s.Keeps u := ite ht.transition ht
  exact ite (ite hu.transition.reevaluate hu) (reevaluate (hu.keep (by dsimp only [State.kept])))

theorem kept_twinAuditRecordReceive {words : List Word} : s.Kept (.twinAuditRecordReceive words) :=
  .clocked rfl (ite (refl s) (keep (s := s.owe 0 256) (refl s).owe))

theorem kept_debugUnlockComplete : s.Kept .debugUnlockComplete := by
  refine .clocked rfl ?_
  dsimp only
  split
  · exact (refl s)
  · exact ((((((refl s).clearStores).zeroKeys).keep.extend).setVol).raise)



theorem kept_neighbourSolicitation {m : Solicitation} : s.Kept (.neighbourSolicitation m) := by
  refine .clocked rfl ?_
  dsimp only
  exact ite (by split; exact ((refl s).macsecDiscard); exact (refl s)) (ite (by split; exact ((refl s).send); exact ((refl s).send)) (refl s))

theorem kept_pauseFrameReceive {f : PauseFrame} : s.Kept (.pauseFrameReceive f) :=
  .clocked rfl (ite (refl s) ((ite (refl s) ((refl s).macsecDiscard)).countFabric))

end State.Keeps
end Sys2Proof.Machine
end

section
/-! What every step keeps: the queue, power and gating (R425, R426, R432), and the canonical form of the memories, of the frames being
assembled and of the result slots (R236, R282, R293). -/

set_option Elab.async false
namespace Sys2Proof.Machine

/-- The lines of the board and the test access port, which need no clock (R425, R430, R452). -/
def isBoardLine : Instr → Bool
  | .powerGood _ | .powerLoss | .throttleNChange _ | .testAccessPortClock _ => true
  | _ => false

theorem isBoardLine_of_ne {i : Instr} (good : ∀ p, i ≠ .powerGood p) (loss : i ≠ .powerLoss) (line : ∀ b, i ≠ .throttleNChange b)
    (tap : ∀ p, i ≠ .testAccessPortClock p) : isBoardLine i = false := by
  cases i
  case powerGood p => exact absurd rfl (good p)
  case powerLoss => exact absurd rfl loss
  case throttleNChange b => exact absurd rfl (line b)
  case testAccessPortClock p => exact absurd rfl (tap p)
  all_goals rfl

/-- Every command but the lines of the board and the test access port is carried out by the clocks, and its effect keeps. -/
theorem State.kept_command (s : State) {i : Instr} (hi : isBoardLine i = false) : s.Kept i := by
  cases i with
  | sweep => exact State.Keeps.kept_sweep
  | minPlus => exact State.Keeps.kept_minPlus
  | maxPlus => exact State.Keeps.kept_maxPlus
  | l1Sweep => exact State.Keeps.kept_l1Sweep
  | squaredL2 => exact State.Keeps.kept_squaredL2
  | clearTile => exact State.Keeps.kept_clearTile
  | fillTile => exact State.Keeps.kept_fillTile
  | copyTile => exact State.Keeps.kept_copyTile
  | addTile => exact State.Keeps.kept_addTile
  | subTile => exact State.Keeps.kept_subTile
  | accopMax => exact State.Keeps.kept_accopMax
  | accopMin => exact State.Keeps.kept_accopMin
  | scaleTile => exact State.Keeps.kept_scaleTile
  | scaleRow => exact State.Keeps.kept_scaleRow
  | scaleCol => exact State.Keeps.kept_scaleCol
  | addCol => exact State.Keeps.kept_addCol
  | accopLoad => exact State.Keeps.kept_accopLoad
  | chainDrain => exact State.Keeps.kept_chainDrain
  | chainTensor => exact State.Keeps.kept_chainTensor
  | chainRegister => exact State.Keeps.kept_chainRegister
  | smaxEnd => exact State.Keeps.kept_smaxEnd
  | nstatFast => exact State.Keeps.kept_nstatFast
  | nstatMean => exact State.Keeps.kept_nstatMean
  | nstatStable => exact State.Keeps.kept_nstatStable
  | nstatRms => exact State.Keeps.kept_nstatRms
  | fadd => exact State.Keeps.kept_fadd
  | fsub => exact State.Keeps.kept_fsub
  | fmul => exact State.Keeps.kept_fmul
  | ffma => exact State.Keeps.kept_ffma
  | fmin => exact State.Keeps.kept_fmin
  | fmax => exact State.Keeps.kept_fmax
  | iadd => exact State.Keeps.kept_iadd
  | isub => exact State.Keeps.kept_isub
  | imul => exact State.Keeps.kept_imul
  | selLanes => exact State.Keeps.kept_selLanes
  | bcast => exact State.Keeps.kept_bcast
  | mov => exact State.Keeps.kept_mov
  | fcmp => exact State.Keeps.kept_fcmp
  | maskop => exact State.Keeps.kept_maskop
  | vectorCvt => exact State.Keeps.kept_vectorCvt
  | sumLanes => exact State.Keeps.kept_sumLanes
  | prodLanes => exact State.Keeps.kept_prodLanes
  | vectorMax => exact State.Keeps.kept_vectorMax
  | vectorMin => exact State.Keeps.kept_vectorMin
  | countLanes => exact State.Keeps.kept_countLanes
  | meanLanes => exact State.Keeps.kept_meanLanes
  | varLanes => exact State.Keeps.kept_varLanes
  | argmax => exact State.Keeps.kept_argmax
  | argmin => exact State.Keeps.kept_argmin
  | scanInclFadd => exact State.Keeps.kept_scanInclFadd
  | scanInclFmax => exact State.Keeps.kept_scanInclFmax
  | scanInclFmin => exact State.Keeps.kept_scanInclFmin
  | scanInclIadd => exact State.Keeps.kept_scanInclIadd
  | scanExclFadd => exact State.Keeps.kept_scanExclFadd
  | scanExclFmax => exact State.Keeps.kept_scanExclFmax
  | scanExclFmin => exact State.Keeps.kept_scanExclFmin
  | scanExclIadd => exact State.Keeps.kept_scanExclIadd
  | moveTensor => exact State.Keeps.kept_moveTensor
  | ldv => exact State.Keeps.kept_ldv
  | stv => exact State.Keeps.kept_stv
  | lddesc => exact State.Keeps.kept_lddesc
  | ldx => exact State.Keeps.kept_ldx
  | stx => exact State.Keeps.kept_stx
  | zpack => exact State.Keeps.kept_zpack
  | zunpack => exact State.Keeps.kept_zunpack
  | vtensor => exact State.Keeps.kept_vtensor
  | vsplit => exact State.Keeps.kept_vsplit
  | window => exact State.Keeps.kept_window
  | tableExpansion => exact State.Keeps.kept_tableExpansion
  | tableCustom => exact State.Keeps.kept_tableCustom
  | tableSwap => exact State.Keeps.kept_tableSwap
  | signalRennet => exact State.Keeps.kept_signalRennet
  | signalRetry => exact State.Keeps.kept_signalRetry
  | waitRennet => exact State.Keeps.kept_waitRennet
  | waitSatisfied => exact State.Keeps.kept_waitSatisfied
  | fence => exact State.Keeps.kept_fence
  | randomRaw => exact State.Keeps.kept_randomRaw
  | randomUniform => exact State.Keeps.kept_randomUniform
  | randomNormal => exact State.Keeps.kept_randomNormal
  | randomBernoulli => exact State.Keeps.kept_randomBernoulli
  | nop => exact State.Keeps.kept_nop
  | endProgram => exact State.Keeps.kept_endProgram
  | br => exact State.Keeps.kept_br
  | brc => exact State.Keeps.kept_brc
  | loopX => exact State.Keeps.kept_loopX
  | xalu => exact State.Keeps.kept_xalu
  | ximm => exact State.Keeps.kept_ximm
  | dset => exact State.Keeps.kept_dset
  | spillarea => exact State.Keeps.kept_spillarea
  | xget => exact State.Keeps.kept_xget
  | preempt => exact State.Keeps.kept_preempt
  | attach => exact State.Keeps.kept_attach
  | detach => exact State.Keeps.kept_detach
  | censusScan => exact State.Keeps.kept_censusScan
  | censusStore => exact State.Keeps.kept_censusStore
  | censusClear => exact State.Keeps.kept_censusClear
  | preemptIntervalExceeded => exact State.Keeps.kept_preemptIntervalExceeded
  | launchRun => exact State.Keeps.kept_launchRun
  | launchLoad => exact State.Keeps.kept_launchLoad
  | launchRestore => exact State.Keeps.kept_launchRestore
  | launchEligible => exact State.Keeps.kept_launchEligible
  | loadCopyComplete => exact State.Keeps.kept_loadCopyComplete
  | restoreLoadComplete => exact State.Keeps.kept_restoreLoadComplete
  | contextSaveComplete => exact State.Keeps.kept_contextSaveComplete
  | launchOverrun => exact State.Keeps.kept_launchOverrun
  | preemptCommand => exact State.Keeps.kept_preemptCommand
  | cancelCommand => exact State.Keeps.kept_cancelCommand
  | seedCommand => exact State.Keeps.kept_seedCommand
  | seedKeyReady => exact State.Keeps.kept_seedKeyReady
  | joinCommand => exact State.Keeps.kept_joinCommand
  | leaveCommand => exact State.Keeps.kept_leaveCommand
  | growthCommand => exact State.Keeps.kept_growthCommand
  | layoutCommand => exact State.Keeps.kept_layoutCommand
  | swapAreaCommand => exact State.Keeps.kept_swapAreaCommand
  | pipeOpen => exact State.Keeps.kept_pipeOpen
  | pipeClose => exact State.Keeps.kept_pipeClose
  | pipeConfigure => exact State.Keeps.kept_pipeConfigure
  | pipeCloseComplete => exact State.Keeps.kept_pipeCloseComplete
  | pipePacketAdvance => exact State.Keeps.kept_pipePacketAdvance
  | rennetCommand => exact State.Keeps.kept_rennetCommand
  | unitHold => exact State.Keeps.kept_unitHold
  | unitReadmit => exact State.Keeps.kept_unitReadmit
  | unitTailDrop => exact State.Keeps.kept_unitTailDrop
  | unitUpdateImage => exact State.Keeps.kept_unitUpdateImage
  | unitRecalibrate => exact State.Keeps.kept_unitRecalibrate
  | unitReclaim => exact State.Keeps.kept_unitReclaim
  | unitDrainComplete => exact State.Keeps.kept_unitDrainComplete
  | drainLimitPassed => exact State.Keeps.kept_drainLimitPassed
  | loadingComplete => exact State.Keeps.kept_loadingComplete
  | aggregateReevaluate => exact State.Keeps.kept_aggregateReevaluate
  | arrayOperandFault => exact State.Keeps.kept_arrayOperandFault
  | laneGroupFault => exact State.Keeps.kept_laneGroupFault
  | cultureFault => exact State.Keeps.kept_cultureFault
  | onchipUncorrectable => exact State.Keeps.kept_onchipUncorrectable
  | linkFlitUncorrectable => exact State.Keeps.kept_linkFlitUncorrectable
  | correctedErrorThreshold => exact State.Keeps.kept_correctedErrorThreshold
  | dieFault => exact State.Keeps.kept_dieFault
  | hubFault => exact State.Keeps.kept_hubFault
  | pageWork => exact State.Keeps.kept_pageWork
  | pageWorkEnd => exact State.Keeps.kept_pageWorkEnd
  | swapOutComplete => exact State.Keeps.kept_swapOutComplete
  | swapInComplete => exact State.Keeps.kept_swapInComplete
  | swapTransferFailed => exact State.Keeps.kept_swapTransferFailed
  | granuleClear => exact State.Keeps.kept_granuleClear
  | scrubPass => exact State.Keeps.kept_scrubPass
  | shadowMoveGranule => exact State.Keeps.kept_shadowMoveGranule
  | relocateGranule => exact State.Keeps.kept_relocateGranule
  | hbmStackFailure => exact State.Keeps.kept_hbmStackFailure
  | beatSymbolReceive => exact State.Keeps.kept_beatSymbolReceive
  | beatBegin => exact State.Keeps.kept_beatBegin
  | beatSymbolSend => exact State.Keeps.kept_beatSymbolSend
  | beatMissed => exact State.Keeps.kept_beatMissed
  | holdNotice => exact State.Keeps.kept_holdNotice
  | releaseNotice => exact State.Keeps.kept_releaseNotice
  | memberLossNotice => exact State.Keeps.kept_memberLossNotice
  | groupRequestForward => exact State.Keeps.kept_groupRequestForward
  | ptpMessage => exact State.Keeps.kept_ptpMessage
  | resultSlotRelease => exact State.Keeps.kept_resultSlotRelease
  | bar4Read => exact State.Keeps.kept_bar4Read
  | bar4Write => exact State.Keeps.kept_bar4Write
  | registerWrite => exact State.Keeps.kept_registerWrite
  | hostLinkRecovery => exact State.Keeps.kept_hostLinkRecovery
  | hostLinkBelowMinimum => exact State.Keeps.kept_hostLinkBelowMinimum
  | hostLinkDown => exact State.Keeps.kept_hostLinkDown
  | flrPhysical => exact State.Keeps.kept_flrPhysical
  | flrVirtual => exact State.Keeps.kept_flrVirtual
  | ideIntegrityFailure => exact State.Keeps.kept_ideIntegrityFailure
  | fabricLinkDown => exact State.Keeps.kept_fabricLinkDown
  | fabricLinkUp => exact State.Keeps.kept_fabricLinkUp
  | psigerData => exact State.Keeps.kept_psigerData
  | psigerAck => exact State.Keeps.kept_psigerAck
  | psigerNak => exact State.Keeps.kept_psigerNak
  | psigerCredit => exact State.Keeps.kept_psigerCredit
  | remoteSignalReceive => exact State.Keeps.kept_remoteSignalReceive
  | remoteSignalOutcome => exact State.Keeps.kept_remoteSignalOutcome
  | remoteSignalResend => exact State.Keeps.kept_remoteSignalResend
  | psigerReconcile => exact State.Keeps.kept_psigerReconcile
  | psigerProbe => exact State.Keeps.kept_psigerProbe
  | psigerProbeReply => exact State.Keeps.kept_psigerProbeReply
  | psigerFaultNotice => exact State.Keeps.kept_psigerFaultNotice
  | psigerExport => exact State.Keeps.kept_psigerExport
  | retransmitTimeout => exact State.Keeps.kept_retransmitTimeout
  | gapTimeout => exact State.Keeps.kept_gapTimeout
  | ackTimer => exact State.Keeps.kept_ackTimer
  | peerLossTimeout => exact State.Keeps.kept_peerLossTimeout
  | twinHeartbeat => exact State.Keeps.kept_twinHeartbeat
  | twinLossOfSignal => exact State.Keeps.kept_twinLossOfSignal
  | twinFlitTimeout => exact State.Keeps.kept_twinFlitTimeout
  | twinProbeTimeout => exact State.Keeps.kept_twinProbeTimeout
  | twinFlitCrcFail => exact State.Keeps.kept_twinFlitCrcFail
  | shadowData => exact State.Keeps.kept_shadowData
  | shadowCommit => exact State.Keeps.kept_shadowCommit
  | shadowAbort => exact State.Keeps.kept_shadowAbort
  | exportComplete => exact State.Keeps.kept_exportComplete
  | encodeFrame => exact State.Keeps.kept_encodeFrame
  | decodeAccessUnit => exact State.Keeps.kept_decodeAccessUnit
  | codecClose => exact State.Keeps.kept_codecClose
  | blockRowStart => exact State.Keeps.kept_blockRowStart
  | frameOutput => exact State.Keeps.kept_frameOutput
  | ringPoll => exact State.Keeps.kept_ringPoll
  | kopRead => exact State.Keeps.kept_kopRead
  | kopWrite => exact State.Keeps.kept_kopWrite
  | commit => exact State.Keeps.kept_commit
  | returnGeneration => exact State.Keeps.kept_returnGeneration
  | discard => exact State.Keeps.kept_discard
  | kopStatus => exact State.Keeps.kept_kopStatus
  | hello => exact State.Keeps.kept_hello
  | proofMessage => exact State.Keeps.kept_proofMessage
  | sessionClose => exact State.Keeps.kept_sessionClose
  | attest => exact State.Keeps.kept_attest
  | imagePiece => exact State.Keeps.kept_imagePiece
  | imageVerifyComplete => exact State.Keeps.kept_imageVerifyComplete
  | sessionIdleTimeout => exact State.Keeps.kept_sessionIdleTimeout
  | proofTimeout => exact State.Keeps.kept_proofTimeout
  | eventAcknowledge => exact State.Keeps.kept_eventAcknowledge
  | vatRunState => exact State.Keeps.kept_vatRunState
  | echoRequest => exact State.Keeps.kept_echoRequest
  | debugUnlock => exact State.Keeps.kept_debugUnlock
  | macsecKeyWrite => exact State.Keeps.kept_macsecKeyWrite
  | fuseWrite => exact State.Keeps.kept_fuseWrite
  | powerGood => cases hi
  | powerLoss => cases hi
  | throttleNChange => cases hi
  | powerSample => exact State.Keeps.kept_powerSample
  | capDutyStep => exact State.Keeps.kept_capDutyStep
  | thermalSample => exact State.Keeps.kept_thermalSample
  | thermalDutyStep => exact State.Keeps.kept_thermalDutyStep
  | gateFrameBoundary => exact State.Keeps.kept_gateFrameBoundary
  | pairRecordTimer => exact State.Keeps.kept_pairRecordTimer
  | commandFrameWrite => exact State.Keeps.kept_commandFrameWrite
  | croakHoldNChange => exact State.Keeps.kept_croakHoldNChange
  | croakRdyRelease => exact State.Keeps.kept_croakRdyRelease
  | stretchLimitReached => exact State.Keeps.kept_stretchLimitReached
  | hostLinkTrained => exact State.Keeps.kept_hostLinkTrained
  | vfEnableWrite => exact State.Keeps.kept_vfEnableWrite
  | msixVectorUnmask => exact State.Keeps.kept_msixVectorUnmask
  | ideKeyProgramming => exact State.Keeps.kept_ideKeyProgramming
  | twinLinkUp => exact State.Keeps.kept_twinLinkUp
  | twinFaultNotice => exact State.Keeps.kept_twinFaultNotice
  | twinPipeFlit => exact State.Keeps.kept_twinPipeFlit
  | pairRecordReceive => exact State.Keeps.kept_pairRecordReceive
  | twinAuditRecordReceive => exact State.Keeps.kept_twinAuditRecordReceive
  | debugUnlockComplete => exact State.Keeps.kept_debugUnlockComplete
  | testAccessPortClock => cases hi
  | neighbourSolicitation => exact State.Keeps.kept_neighbourSolicitation
  | pauseFrameReceive => exact State.Keeps.kept_pauseFrameReceive
  -- SEAL alone is left: its constructor has a name that is a word of Lean.
  | _ => exact State.Keeps.kept_seal

theorem State.clockedPower_off {s t : State} {p : Power} (h : s.power.clocks = false) : s.clockedPower t p = .next s := by
  rw [State.clockedPower, h, if_neg Bool.false_ne_true]

theorem State.clockedPower_on {s t : State} {p : Power} (h : s.power.clocks = true) :
    s.clockedPower t p = .next (s.endsPower t p) := by
  rw [State.clockedPower, h, if_pos rfl]

/-- What answers is the state answered. -/
theorem eq_of_next {s t : State} (h : (.next s : Host.Outcome State Fault Refusal) = .next t) : t = s := by
  cases h
  rfl

/-! ### Without clocks, and the queue -/

/-- Settles O54: every command but the lines of the board and the test access port is carried out by the clocks. -/
theorem clocksStopped : Obligations.ClocksStopped := by
  unfold Obligations.ClocksStopped
  intro c s off good loss line tap
  obtain ⟨t, p, he, -, -⟩ := s.kept_command (isBoardLine_of_ne good loss line tap)
  rw [he, State.clockedPower_off off]

/-- The state power is lost in: what it sends goes out before. -/
def State.lastWords (s : State) : State := (if s.power.clocks then s.faultNotice 3 else s).send ⟨.croak, 1, [1], []⟩

theorem State.keeps_lastWords (s : State) : s.Keeps s.lastWords :=
  (State.Keeps.ite (State.Keeps.refl s).faultNotice (State.Keeps.refl s)).send

theorem exec_powerLoss_eq (s : State) : exec .powerLoss s = .next (if !s.power.on then s else s.lastWords.unpowered) := rfl

/-- Settles O53: a clocked command answers with the queue of the state it found, and so do the lines of the board. -/
theorem everyCommandAnswers : Obligations.EveryCommandAnswers := by
  unfold Obligations.EveryCommandAnswers
  intro c s
  cases hb : isBoardLine c with
  | false =>
    obtain ⟨t, p, he, -, -⟩ := s.kept_command hb
    rw [he, State.clockedPower]
    refine ⟨_, rfl, ?_⟩
    split <;> rfl
  | true =>
    cases c
    case powerGood p =>
      refine ⟨_, rfl, ?_⟩
      split <;> rfl
    case powerLoss =>
      refine ⟨_, exec_powerLoss_eq s, ?_⟩
      split
      · rfl
      · exact s.keeps_lastWords.pending
    case throttleNChange b =>
      refine ⟨_, rfl, ?_⟩
      dsimp only
      split <;> rfl
    case testAccessPortClock p =>
      refine ⟨_, rfl, ?_⟩
      split
      · rfl
      · split <;> rfl
    all_goals cases hb

/-! ### The invariant of power -/

/-- The invariant of power speaks of a package with power through its clocks alone. -/
theorem State.Powered.of_on {s : State} (on : s.power.on = true) (tripped : s.power.tripped = true → s.power.clocks = false) : s.Powered :=
  ⟨fun _ => on, fun off => absurd (on.symm.trans off) (by decide), tripped⟩

/-- Every state with the same power is as good as one with power. -/
theorem State.Powered.of_power {s t : State} (h : s.Powered) (on : s.power.on = true) (e : t.power = s.power) : t.Powered :=
  .of_on (e ▸ on) (e ▸ h.tripped)

theorem State.Powered.unpowered (s : State) : s.unpowered.Powered := ⟨nofun, fun _ => rfl, fun _ => rfl⟩

/-- A command keeps the invariant of power. -/
theorem exec_powered {i : Instr} {s t : State} (h : s.Powered) (e : exec i s = .next t) : t.Powered := by
  cases hb : isBoardLine i with
  | false =>
    obtain ⟨u, p, he, -, hf⟩ := s.kept_command hb
    rw [he] at e
    cases hc : s.power.clocks with
    | false =>
      rw [State.clockedPower_off hc] at e
      exact eq_of_next e ▸ h
    | true =>
      rw [State.clockedPower_on hc] at e
      refine eq_of_next e ▸ .of_on (hf.on.trans (h.clocks hc)) fun ht => ?_
      obtain ⟨hq, ht'⟩ | hq := hf.clocks
      · exact hq.trans (h.tripped (ht'.symm.trans ht))
      · exact hq
  | true =>
    cases i
    case powerGood p =>
      refine eq_of_next e ▸ ?_
      split
      · exact h
      · exact .of_on rfl nofun
    case powerLoss =>
      rw [exec_powerLoss_eq] at e
      refine eq_of_next e ▸ ?_
      split
      · exact h
      · exact .unpowered _
    case throttleNChange b =>
      refine eq_of_next e ▸ ?_
      dsimp only
      split
      · next hc => exact .of_on (h.clocks hc) h.tripped
      · refine ⟨h.clocks, fun off => ?_, h.tripped⟩
        exact congrArg (fun u : State => { u with power := { u.power with throttleHigh := b } }) (h.nothing off)
    case testAccessPortClock p =>
      refine eq_of_next e ▸ ?_
      split
      · refine ⟨h.clocks, fun off => ?_, h.tripped⟩
        exact congrArg (fun u : State => { u with tap := Tap.reset }) (h.nothing off)
      · next hp =>
        have on : s.power.on = true := by
          cases hon : s.power.on with
          | true => rfl
          | false => exact absurd (by rw [hon]; rfl) hp
        split <;> exact .of_on on h.tripped
    all_goals cases hb

end Sys2Proof.Machine
end

section
/-! The invariants of power and of canonical form over a step (R236, R282, R293, R425, R426, R432), and what an empty queue does. -/

set_option Elab.async false
namespace Sys2Proof.Machine

/-! ### A core with nothing to go on with -/

theorem State.tryMove_of_none {s : State} {c : CoreId} (h : (s.cores[c]).moving = none) : s.tryMove c = s := by
  rw [State.tryMove, h]

theorem State.serveSync_of_nil {s : State} {c : CoreId} {n : Nat} (h : (s.cores[c]).syncQ = []) : s.serveSync c n = s := by
  cases n with
  | zero => rfl
  | succ n => rw [State.serveSync, h]

theorem State.recheckPoint_of_none {s : State} {c : CoreId} (h : (s.cores[c]).wait = none) : s.recheckPoint c = s := by
  rw [State.recheckPoint, h]

theorem State.tryHeld_of_nil {s : State} {c : CoreId} (h : (s.cores[c]).held = []) : s.tryHeld c = .next s := by
  rw [State.tryHeld, h]

theorem State.goOn_of_nothing {s : State} {c : CoreId} (held : (s.cores[c]).held = []) (moving : (s.cores[c]).moving = none)
    (queue : (s.cores[c]).syncQ = []) (wait : (s.cores[c]).wait = none) : s.goOn c = .next s := by
  rw [State.goOn, State.tryMove_of_none moving, State.serveSync_of_nil queue, State.recheckPoint_of_none wait, State.tryHeld_of_nil held]

/-- What a core goes on with keeps. -/
theorem State.keeps_goOn (s : State) (c : CoreId) : s.Keeps (((s.tryMove c).serveSync c 5).recheckPoint c) :=
  (State.Keeps.refl s).tryMove.serveSync.recheckPoint

theorem State.core_unpowered (s : State) (c : CoreId) : s.unpowered.cores[c] = Core.reset := by
  show (Vector.replicate 52 Core.reset)[c] = Core.reset
  rw [Fin.getElem_fin, Vector.getElem_replicate]

/-- In a package without power no core goes on. -/
theorem State.goOn_unpowered (s : State) (c : CoreId) : s.unpowered.goOn c = .next s.unpowered := by
  apply State.goOn_of_nothing <;> rw [State.core_unpowered] <;> rfl

/-- A core that is idle runs nothing. -/
theorem State.runs_unpowered (s : State) (c : CoreId) : s.unpowered.runs c = false := by
  rw [State.runs, State.core_unpowered]
  rfl

/-! ### The invariant of power over a step -/

/-- A core that goes on keeps the invariant of power: what it held back may be the loss of power, and then no core runs. -/
theorem goOn_powered {s t : State} {c : CoreId} (h : s.Powered) (e : s.goOn c = .next t) : t.Powered := by
  cases on : s.power.on with
  | false =>
    rw [h.nothing on, State.goOn_unpowered] at e
    exact eq_of_next e ▸ .unpowered s
  | true =>
    have hp := (s.keeps_goOn c).power
    rw [State.goOn, State.tryHeld] at e
    generalize ((s.tryMove c).serveSync c 5).recheckPoint c = u at e hp
    have hu := h.of_power on hp
    have hon : u.power.on = true := hp ▸ on
    split at e
    · exact eq_of_next e ▸ hu
    · next i rest _ =>
      have hv : (u.updCore c fun k => { k with held := [] }).Powered := hu.of_power hon rfl
      split at e
      · next v hx =>
        have hv := exec_powered hv hx
        refine eq_of_next e ▸ ?_
        split
        · next hr =>
          cases hon : v.power.on with
          | true => exact hv.of_power hon rfl
          | false =>
            rw [hv.nothing hon, State.runs_unpowered] at hr
            cases hr
        · exact hv
      · next hx => exact absurd e (hx t)

/-- What answers a next state in turn keeps what each turn keeps. -/
theorem foldl_next_keeps {α : Type} {P : State → Prop} {f : State → α → Host.Outcome State Fault Refusal} (hf : ∀ s a t, P s → f s a = .next t → P t)
    (l : List α) {o : Host.Outcome State Fault Refusal} (ho : ∀ s, o = .next s → P s) {t : State}
    (e : l.foldl (fun o a => match o with | .next t => f t a | o => o) o = .next t) : P t := by
  induction l generalizing o with
  | nil => exact ho t e
  | cons a l ih =>
    refine ih (fun s hs => ?_) e
    cases o with
    | next u => exact hf u a s (ho u rfl) hs
    | _ => cases hs

/-- What the package does before its cores go on keeps. -/
theorem State.keeps_takeAll (s : State) : s.Keeps s.takeAllWaiting.takeEarly.sendAllQueued :=
  (State.Keeps.refl s).takeAllWaiting.takeEarly.sendAllQueued

theorem State.idle_of_clocks {s : State} (h : s.power.clocks = true) : s.idle = (List.finRange 52).foldl (fun o c => match o with
    | .next t => t.goOn c
    | o => o) (s.ends s.takeAllWaiting.takeEarly.sendAllQueued).serveLate := by
  rw [State.idle, h]
  rfl

theorem State.idle_of_off {s : State} (h : s.power.clocks = false) : s.idle = .next s := by
  rw [State.idle, h]
  rfl

/-- What holds of a state after its late messages are taken in turn, each by its own command. -/
theorem State.serveLate_keeps {P : State → Prop} (command : ∀ i s t, P s → exec i s = .next t → P t) {s t : State} (h : P s)
    (cleared : P { s with host := { s.host with late := [] } }) (e : s.serveLate = .next t) : P t := by
  rw [State.serveLate] at e
  split at e
  · exact eq_of_next e ▸ h
  · refine foldl_next_keeps (P := P) (f := fun s m => exec (kopCommand m) s) (fun s m t => command (kopCommand m) s t) _ (fun u hu => ?_) e
    exact eq_of_next hu ▸ cleared

/-- What holds after what the package takes holds when every core has gone on. -/
theorem State.idle_keeps {P : State → Prop} (command : ∀ i s t, P s → exec i s = .next t → P t)
    (core : ∀ s (c : CoreId) t, P s → s.goOn c = .next t → P t) {s t u : State} (clocks : s.power.clocks = true)
    (hu : s.ends s.takeAllWaiting.takeEarly.sendAllQueued = u) (h : P u)
    (cleared : P { u with host := { u.host with late := [] } }) (e : s.idle = .next t) : P t := by
  rw [State.idle_of_clocks clocks, hu] at e
  exact foldl_next_keeps core _ (fun v hv => State.serveLate_keeps command h cleared hv) e

theorem idle_powered {s t : State} (h : s.Powered) (e : s.idle = .next t) : t.Powered := by
  cases hc : s.power.clocks with
  | false =>
    rw [State.idle_of_off hc] at e
    exact eq_of_next e ▸ h
  | true =>
    have on := h.clocks hc
    obtain ⟨u, hu⟩ : ∃ u, s.ends s.takeAllWaiting.takeEarly.sendAllQueued = u := ⟨_, rfl⟩
    have hp : u.power = s.power := hu ▸ rfl
    exact State.idle_keeps (fun _ _ _ => exec_powered) (fun _ _ _ => goOn_powered) hc hu (h.of_power on hp) (h.of_power on hp) e

/-- Settles O55: whatever the front command or the empty queue does keeps the invariant of power. -/
theorem powerInvariant : Obligations.PowerInvariant := by
  unfold Obligations.PowerInvariant
  intro s t h e
  rw [step] at e
  split at e
  · exact idle_powered h e
  · next c rest _ =>
    refine exec_powered (i := c) (s := { s with pending := rest }) ⟨h.clocks, fun off => ?_, h.tripped⟩ e
    exact congrArg (fun u : State => { u with pending := rest }) (h.nothing off)

end Sys2Proof.Machine
end

section
/-! The canonical form over a step (R236, R282, R293). -/

set_option Elab.async false
namespace Sys2Proof.Machine

/-- The canonical form speaks of the memories, the frames and the result slots alone. -/
theorem State.Canonical.of_fields {s t : State} (h : s.Canonical) (hbm : t.hbm = s.hbm) (hub : t.hubBuf = s.hubBuf) (dies : t.dieBuf = s.dieBuf)
    (cores : t.cores = s.cores) (funcs : t.funcs = s.funcs) (results : t.results = s.results) : t.Canonical :=
  ⟨hbm ▸ h.hbm, hub ▸ h.hub, dies ▸ h.dies, cores ▸ h.cores, funcs ▸ h.frames, results ▸ h.results⟩

theorem State.reset_func_wf (f : FnNo) : Sparse.wf 0#8 (State.reset.funcs[f]).frames = true := by
  show Sparse.wf 0#8 ((Vector.replicate 17 Func.reset)[f]).frames = true
  rw [Fin.getElem_fin, Vector.getElem_replicate]
  rfl

/-- Of a state as at reset but for its HBM3E storage, that storage alone matters. -/
theorem State.Canonical.of_hbm {t : State} (hbm : t.hbm.wf = true) (e : t.hubBuf = State.reset.hubBuf ∧ t.dieBuf = State.reset.dieBuf
    ∧ t.cores = State.reset.cores ∧ t.funcs = State.reset.funcs ∧ t.results = State.reset.results) : t.Canonical := by
  obtain ⟨hub, dies, cores, funcs, results⟩ := e
  exact ⟨hbm, hub ▸ State.reset_hubBuf_wf, dies ▸ State.reset_dieBuf_wf, cores ▸ State.reset_core_wf, funcs ▸ State.reset_func_wf, results ▸ rfl⟩

theorem State.Canonical.reset : State.reset.Canonical := .of_hbm State.reset_hbm_wf ⟨rfl, rfl, rfl, rfl, rfl⟩

theorem State.Canonical.unpowered {s : State} (h : s.Canonical) : s.unpowered.Canonical := .of_hbm h.hbm ⟨rfl, rfl, rfl, rfl, rfl⟩

theorem State.Canonical.endsPower {s t : State} {p : Power} (h : t.Canonical) : (s.endsPower t p).Canonical :=
  ((State.Keeps.refl t).settled.canonical h).of_fields rfl rfl rfl rfl rfl rfl

theorem State.Canonical.setVol {s : State} (h : s.Canonical) (k v : Nat) : (s.setVol k v).Canonical := (State.Keeps.refl s).setVol.canonical h

theorem State.Canonical.started {s : State} (h : s.Canonical) (straps : BitVec 5) : (s.started straps).Canonical := by
  have ht := (State.Keeps.refl s.unpowered).takeFused (first := 0) (last := 0xFFFF) |>.canonical h.unpowered
  unfold State.started
  dsimp only
  refine State.Canonical.setVol (State.Canonical.setVol ?_ _ _) _ _
  exact ht.of_fields rfl rfl rfl rfl rfl rfl

/-- A command keeps the canonical form. -/
theorem exec_canonical {i : Instr} {s t : State} (h : s.Canonical) (e : exec i s = .next t) : t.Canonical := by
  cases hb : isBoardLine i with
  | false =>
    obtain ⟨u, p, he, hk, -⟩ := s.kept_command hb
    rw [he, State.clockedPower] at e
    refine eq_of_next e ▸ ?_
    split
    · exact (hk.canonical h).endsPower
    · exact h
  | true =>
    cases i
    case powerGood p =>
      refine eq_of_next e ▸ ?_
      split
      · exact h
      · exact ((State.Keeps.refl _).detect.settled.canonical (h.started p.straps)).of_fields rfl rfl rfl rfl rfl rfl
    case powerLoss =>
      rw [exec_powerLoss_eq] at e
      refine eq_of_next e ▸ ?_
      split
      · exact h
      · exact (s.keeps_lastWords.canonical h).unpowered
    case throttleNChange b =>
      have ht : State.Canonical { s with power := { s.power with throttleHigh := b } } := h.of_fields rfl rfl rfl rfl rfl rfl
      refine eq_of_next e ▸ ?_
      dsimp only
      split
      · exact ht.setVol _ _
      · exact ht
    case testAccessPortClock p =>
      refine eq_of_next e ▸ ?_
      split
      · exact h.of_fields rfl rfl rfl rfl rfl rfl
      · split <;> exact h.of_fields rfl rfl rfl rfl rfl rfl
    all_goals cases hb

/-- A core that goes on keeps the canonical form. -/
theorem goOn_canonical {s t : State} {c : CoreId} (h : s.Canonical) (e : s.goOn c = .next t) : t.Canonical := by
  have hu := (s.keeps_goOn c).canonical h
  rw [State.goOn, State.tryHeld] at e
  generalize ((s.tryMove c).serveSync c 5).recheckPoint c = u at e hu
  split at e
  · exact eq_of_next e ▸ hu
  · split at e
    · next hx =>
      have hv := exec_canonical ((State.Keeps.refl u).updCore.canonical hu) hx
      refine eq_of_next e ▸ ?_
      split
      · exact (State.Keeps.refl _).updCore.canonical hv
      · exact hv
    · next hx => exact absurd e (hx t)

theorem idle_canonical {s t : State} (h : s.Canonical) (e : s.idle = .next t) : t.Canonical := by
  cases hc : s.power.clocks with
  | false =>
    rw [State.idle_of_off hc] at e
    exact eq_of_next e ▸ h
  | true =>
    obtain ⟨u, hu⟩ : ∃ u, s.ends s.takeAllWaiting.takeEarly.sendAllQueued = u := ⟨_, rfl⟩
    have hk : u.Canonical := hu ▸ (s.keeps_takeAll.canonical h).endsPower
    exact State.idle_keeps (fun _ _ _ => exec_canonical) (fun _ _ _ => goOn_canonical) hc hu hk (hk.of_fields rfl rfl rfl rfl rfl rfl) e

/-- Settles O56: whatever the front command or the empty queue does keeps the canonical form. -/
theorem canonicalForms : Obligations.CanonicalForms := by
  unfold Obligations.CanonicalForms
  intro s t h e
  rw [step] at e
  split at e
  · exact idle_canonical h e
  · next rest _ => exact exec_canonical (s := { s with pending := rest }) (h.of_fields rfl rfl rfl rfl rfl rfl) e

/-! ### Reset, the front of the queue, and the empty queue -/

/-- Where every unit's record is as at reset, every unit is ABSENT. -/
theorem State.ust_of_units {s : State} (h : s.units = Vector.replicate 284 UnitRec.reset) (u : UnitNo) : s.ust u = stAbsent := by
  have hu : s.units[u] = UnitRec.reset := by rw [h, Fin.getElem_fin, Vector.getElem_replicate]
  rw [State.ust, State.view, hu]
  split <;> rfl

/-- Settles O57: reset is the state of a package that never had power. -/
theorem powerAtReset : Obligations.PowerAtReset := by
  unfold Obligations.PowerAtReset
  refine ⟨⟨nofun, fun _ => rfl, nofun⟩, .reset, rfl, fun u => ?_, rfl, fun c => ?_, rfl, rfl⟩
  · exact State.ust_of_units rfl u
  · show ((Vector.replicate 52 Core.reset)[c]).buf = Mem.empty
    rw [Fin.getElem_fin, Vector.getElem_replicate]
    rfl

theorem State.takeAllWaiting_of_nil {s : State} (h : s.host.waiting = []) : s.takeAllWaiting = s := by
  rw [State.takeAllWaiting, h]
  rfl

theorem foldl_same {α β : Type} {f : β → α → β} {l : List α} {b : β} (h : ∀ a ∈ l, f b a = b) : l.foldl f b = b := by
  induction l with
  | nil => rfl
  | cons a l ih =>
    rw [List.foldl_cons, h a List.mem_cons_self]
    exact ih fun a' ha => h a' (List.mem_cons_of_mem _ ha)

theorem State.takeEarly_of_nil {s : State} (h : ∀ r ∈ s.peers, r.early = []) : s.takeEarly = s := by
  rw [State.takeEarly]
  refine foldl_same fun r hr => ?_
  rw [h r hr]
  rfl

theorem State.sendQueued_of_nil {s : State} (h : ∀ r ∈ s.peers, r.queued = []) (p : Peer) : s.sendQueued p = s := by
  have hq : ((s.peer p).map PeerRec.queued).getD [] = [] := by
    cases hp : s.peer p with
    | none => rfl
    | some r => exact h r (List.mem_of_find?_eq_some hp)
  rw [State.sendQueued, hq]
  rfl

theorem State.sendAllQueued_of_nil {s : State} (h : ∀ r ∈ s.peers, r.queued = []) : s.sendAllQueued = s := by
  rw [State.sendAllQueued]
  exact foldl_same fun r _ => s.sendQueued_of_nil h r.peer

theorem State.serveLate_of_nil {s : State} (h : s.host.late = []) : s.serveLate = .next s := by
  rw [State.serveLate, h]
  split
  · rfl
  · show Host.Outcome.next { s with host := { s.host with late := [] } } = .next s
    rw [← h]

/-- With nothing held back the empty queue changes nothing. -/
theorem State.idle_of_nothing {s : State} (waiting : s.host.waiting = []) (late : s.host.late = [])
    (cores : ∀ c : CoreId, (s.cores[c]).held = [] ∧ (s.cores[c]).moving = none ∧ (s.cores[c]).syncQ = [] ∧ (s.cores[c]).wait = none)
    (peers : ∀ r ∈ s.peers, r.early = [] ∧ r.queued = []) : s.idle = .next s := by
  cases hc : s.power.clocks with
  | false => exact State.idle_of_off hc
  | true =>
    rw [State.idle_of_clocks hc, State.takeAllWaiting_of_nil waiting, State.takeEarly_of_nil fun r hr => (peers r hr).1,
      State.sendAllQueued_of_nil fun r hr => (peers r hr).2, State.ends_eq rfl rfl rfl, State.serveLate_of_nil late]
    refine foldl_same fun c _ => ?_
    obtain ⟨held, moving, queue, wait⟩ := cores c
    exact State.goOn_of_nothing held moving queue wait

/-- Settles O52: the step is by the queue's first command, and idling is what the empty queue means. -/
theorem stepRunsFront : Obligations.StepRunsFront := by
  unfold Obligations.StepRunsFront
  refine ⟨fun c s empty => ⟨?_, ?_⟩, fun s empty waiting late cores peers => ?_, fun c rest s => rfl⟩
  · rw [step, empty]
  · show exec c { s with pending := [] } = exec c s
    rw [← empty]
  · rw [step, empty]
    exact State.idle_of_nothing waiting late cores peers

/-! ### Power and the test access port -/

end Sys2Proof.Machine
end

section
/-! Power-good, the loss of power and the test access port (R425, R426, R435, R452). -/

set_option Elab.async false
namespace Sys2Proof.Machine

/-- Settles O51: by the port's reset, and by the edge of its clock. -/
theorem testAccessPort : Obligations.TestAccessPort := by
  unfold Obligations.TestAccessPort
  intro p s
  refine ⟨?_, ?_, ?_⟩
  · intro h
    have hr : (!s.power.on || s.volAt (ek 0xA000 5) == 0 || !p.trstN) = true := by
      obtain h | h | h := h <;> simp [h]
    show Host.Outcome.next (if _ then _ else _) = _
    rw [if_pos hr]
  · intro on unlocked trst
    have hr : ¬(!s.power.on || s.volAt (ek 0xA000 5) == 0 || !p.trstN) = true := by simp [on, unlocked, trst]
    constructor
    · intro up
      refine ⟨{ s with tap := s.tap.rise p.tms p.tdi s.freeIx, freeIx := s.freeIx + 1 }, ?_, rfl, ?_, rfl, fun h => ?_, fun h => ?_, fun h ir => ?_⟩
      · show Host.Outcome.next (if _ then _ else if _ then _ else _) = _
        rw [if_neg hr, if_pos up]
      · show (s.tap.rise p.tms p.tdi s.freeIx).ir = s.tap.ir
        rw [Tap.rise]
        split <;> rfl
      · show (s.tap.rise p.tms p.tdi s.freeIx).dr = _
        rw [Tap.rise, h]
        rfl
      · show (s.tap.rise p.tms p.tdi s.freeIx).irShift = _
        rw [Tap.rise, h]
        rfl
      · show (s.tap.rise p.tms p.tdi s.freeIx).dr = _
        rw [Tap.rise, h]
        show s.tap.capture s.freeIx = _
        rw [Tap.capture, if_pos ir]
        rfl
    · intro down
      refine ⟨{ s with tap := s.tap.fall }, ?_, ?_, rfl, fun h => ?_, fun h => ?_⟩
      · show Host.Outcome.next (if _ then _ else if _ then _ else _) = _
        rw [if_neg hr, if_neg (by rw [down]; exact Bool.false_ne_true)]
      · show s.tap.fall.state = s.tap.state
        rw [Tap.fall]
        split <;> rfl
      · show s.tap.fall.ir = _
        rw [Tap.fall, h]
      · show s.tap.fall.tdo = _
        rw [Tap.fall, h]
  · cases s.tap.state <;> rfl

end Sys2Proof.Machine
end

section
/-! VECTOR: lanes, masks and scans (R89 to R91, R95 to R99). -/

set_option Elab.async false
namespace Sys2Proof.Machine

/-! ### An instruction that writes lanes and goes on to the next word -/

/-- With no poisoned lane written, a register written under its mask is all that changes. -/
theorem State.putV_clean {s : State} {c : CoreId} {f : VecF} {g : Nat → Lane} (h : cleanLanes s.cores[c] f g) :
    s.putV c f.vd (s.cores[c].mask f.mask) f.maskZero g = s.updCore c fun k => { withLanes k f g with pc := k.pc } := by
  have hn : ((List.range 128).filter fun i => (s.cores[c].mask f.mask).getLsbD i && (g i).poison) = [] := by
    rw [List.filter_eq_nil_iff]
    intro i hi
    cases hm : (s.cores[c].mask f.mask).getLsbD i with
    | false => exact Bool.false_ne_true
    | true => exact fun hp => Bool.false_ne_true ((h i (List.mem_range.mp hi) hm).symm.trans hp)
  have ha : ((List.range 128).any fun i => (s.cores[c].mask f.mask).getLsbD i && (g i).poison) = false := by
    rw [any_eq_count, hn]
    rfl
  rw [State.putV, hn, List.length_nil, if_pos rfl, State.writeV, ha]
  unfold State.updCore
  congr 2
  simp only [withLanes, hn, vset, vget, maskedReg, f.vd.isLt, dite_true, List.length_nil, if_true]
  rfl

/-- What an instruction makes of its core beside the lanes it writes. -/
theorem onCore_putV {i : Instr} {c : CoreId} {s : State} {f : VecF} {g : Nat → Lane} {r : Core → Core}
    (he : exec i s = .next (s.ends ((((s.countIssued c).putV c f.vd (s.cores[c].mask f.mask) f.maskZero g).updCore c
      fun k => r { k with pc := k.pc + 1 })))) :
    onCoreReports i c s (r (withLanes s.cores[c] f g))
    ∧ (cleanLanes s.cores[c] f g → onCore i c s (r (withLanes s.cores[c] f g))) := by
  constructor
  · refine ⟨_, he, State.reported_ends ?_⟩
    have counted : (s.updCore c fun k => r (withLanes k f g)).Reported ((s.countIssued c).updCore c fun k => r (withLanes k f g)) :=
      State.Reported.updCore (s.reported_count _ _ _ _ _) c _
    have written := ((s.countIssued c).reported_putV c f g).updCore c fun k => r { k with pc := k.pc + 1 }
    rw [State.updCore_updCore, State.countIssued_cores] at written
    exact counted.trans written
  · intro clean
    have hc : cleanLanes ((s.countIssued c).cores[c]) f g := by rw [State.countIssued_cores]; exact clean
    have hw := State.putV_clean hc
    rw [State.countIssued_cores] at hw
    rw [hw, State.updCore_updCore] at he
    exact onCore_of he

/-! ### Lane arithmetic and copies (R89 to R91) -/

theorem givesLanes_of_exec {mk : CoreId → Hdr → VecF → Instr} {g : VecF → Core → Nat → Lane}
    (he : ∀ c h f s, exec (mk c h f) s = s.clocked (s.lanes (mk c h f) c h f (g f))) : givesLanes mk g :=
  fun c h f s hi => ⟨onCoreReports_lanes _ c h f s _ hi (he c h f s), onCore_lanes _ c h f s _ hi (he c h f s)⟩

theorem floatLanes : holdsFloatLanes :=
  ⟨givesLanes_of_exec exec_fadd, givesLanes_of_exec exec_fsub, givesLanes_of_exec exec_fmul, givesLanes_of_exec exec_ffma,
    givesLanes_of_exec exec_fmin, givesLanes_of_exec exec_fmax⟩

theorem laneCopies : holdsLaneCopies :=
  ⟨givesLanes_of_exec exec_selLanes, givesLanes_of_exec exec_bcast, givesLanes_of_exec exec_mov⟩

/-- An integer is an INT32 or lies outside on one side. -/
theorem int32_inside_iff (x : Int) : ((⟨32, true⟩ : IFmt).least ≤ x ∧ x ≤ (⟨32, true⟩ : IFmt).greatest)
    ↔ (decide (x < -2147483648) || decide (2147483647 < x)) = false := by
  show (-2147483648 ≤ x ∧ x ≤ 2147483647) ↔ _
  simp

theorem int32Code (x : Int) : BitVec.ofNat 32 ((⟨32, true⟩ : IFmt).code x) = BitVec.ofInt 32 x := by
  refine BitVec.eq_of_toNat_eq ?_
  rw [BitVec.toNat_ofNat, BitVec.toNat_ofInt]
  show (x % ((2 ^ 32 : Nat) : Int)).toNat % 2 ^ 32 = _
  omega

/-- The bits of an INT32 result and whether it wrapped (R91). -/
theorem int32Result_eq (sat : Bool) (x : Int) :
    int32Result sat x = (if sat && (decide (x < -2147483648) || decide (2147483647 < x)) then
        (if x < 0 then 0x80000000#32 else 0x7FFFFFFF#32) else BitVec.ofInt 32 x,
      !sat && (decide (x < -2147483648) || decide (2147483647 < x))) := by
  simp only [int32Result, int32Code]
  cases ho : decide (x < -2147483648) || decide (2147483647 < x) with
  | false =>
    rw [if_pos ((int32_inside_iff x).mpr ho), Bool.and_false, Bool.and_false]
    rfl
  | true =>
    have out : ¬((⟨32, true⟩ : IFmt).least ≤ x ∧ x ≤ (⟨32, true⟩ : IFmt).greatest) := fun hi =>
      Bool.false_ne_true (((int32_inside_iff x).mp hi).symm.trans ho)
    rw [if_neg out]
    cases sat with
    | false => rfl
    | true =>
      rw [Bool.or_eq_true, decide_eq_true_eq, decide_eq_true_eq] at ho
      have side : x < (⟨32, true⟩ : IFmt).least ↔ x < 0 := by
        show x < -2147483648 ↔ x < 0
        omega
      by_cases hn : x < 0
      · rw [if_pos (side.mpr hn), if_pos hn]
        rfl
      · rw [if_neg (mt side.mp hn), if_neg hn]
        rfl

theorem orStat_advance (s : State) (c : CoreId) (w : Bool) : (if w then s.updCore c fun k => k.orStat 2#32 else s).advance c
    = s.updCore c fun k => { k with vstat := if w then k.vstat ||| 2#32 else k.vstat, pc := k.pc + 1 } := by
  cases w with
  | true =>
    show (s.updCore c fun k => k.orStat 2#32).advance c = _
    rw [State.advance, State.updCore_updCore]
    rfl
  | false => rfl

theorem givesInts_of_exec {mk : CoreId → Hdr → VecF → Instr} {op : Int → Int → Int}
    (he : ∀ c h f s, exec (mk c h f) s = s.clocked (s.intLanes (mk c h f) c h f op)) : givesInts mk op := by
  intro c h f s hi k exact_ out value lane wraps k1 k2
  refine onCore_putV (r := fun k => { k with vstat := if wraps then k.vstat ||| 2#32 else k.vstat }) ?_
  have hw : ((List.range 128).any fun i => (s.cores[c].mask f.mask).getLsbD i
      && (int32Result f.sat (op (s.cores[c].lane f.va i).val.toInt (s.cores[c].lane f.vb i).val.toInt)).2) = wraps := by
    simp only [int32Result_eq]
    cases hs : f.sat with
    | true =>
      simp only [wraps, hs, Bool.not_true, Bool.false_and, Bool.and_false]
      exact List.any_eq_false.mpr fun _ _ => Bool.false_ne_true
    | false => simp only [wraps, hs, Bool.not_false, Bool.true_and, out, exact_, k]
  rw [he, State.intLanes, State.clocked_issue _ hi]
  dsimp only
  rw [State.countIssued_cores, orStat_advance, hw]
  simp only [int32Result_eq]
  rfl

theorem intLanes : holdsIntLanes := ⟨givesInts_of_exec exec_iadd, givesInts_of_exec exec_isub, givesInts_of_exec exec_imul⟩

/-- Settles O1: by what the two shared lane operations leave. -/
theorem laneArithmetic : Obligations.LaneArithmetic := ⟨floatLanes, intLanes⟩

/-! ### Masks (R90) -/

theorem bitsOf_getLsbD (g : Nat → Bool) {i : Nat} (hi : i < 128) : (bitsOf g).getLsbD i = g i :=
  BitVec.iunfoldr_getLsbD (w := 128) (f := fun i _ => ((), g i.val)) (fun _ => ()) ⟨i, hi⟩ fun _ => rfl

theorem givesMask_of_exec {mk : CoreId → Hdr → VecF → Instr} {op top : Nat} {g : VecF → Core → Nat → Bool}
    (he : ∀ c h f s, exec (mk c h f) s = s.clocked (s.maskBits (mk c h f) c h f op top (g f))) : givesMask mk top g := by
  intro c h f s hi hop
  refine ⟨maskedBits (s.cores[c].mask f.md) (s.cores[c].mask f.mask) f.maskZero (g f s.cores[c]), ?_, fun i h => bitsOf_getLsbD _ h⟩
  refine onCore_of (g := fun k => { k with
    m := if f.md = 0 then k.m else k.m.set f.md (maskedBits (k.mask f.md) (k.mask f.mask) f.maskZero (g f k)), pc := k.pc + 1 }) ?_
  rw [he, State.maskBits, State.clocked_issue _ hi, decide_eq_false (Nat.not_lt.mpr hop), State.checked_of rfl, State.advance, State.updCore_updCore]
  refine congrArg (fun r => Host.Outcome.next (s.ends ((s.countIssued c).updCore c r))) (funext fun k => ?_)
  rw [Core.setMask]
  split <;> rfl

/-- A reserved comparison or mask operation stops (R134). -/
theorem maskBits_stops {mk : CoreId → Hdr → VecF → Instr} {op top : Nat} {g : VecF → Core → Nat → Bool}
    (he : ∀ c h f s, exec (mk c h f) s = s.clocked (s.maskBits (mk c h f) c h f op top (g f))) {c : CoreId} {h : Hdr} {f : VecF} {s : State}
    (hi : s.issues c h clsVector false = true) (hop : top < f.cmp.toNat) :
    exec (mk c h f) s = .next (s.ends ((s.countIssued c).stopProgram c 0x0700 [(s.cores[c].pc, 2), (5, 1), (op, 1), (88, 2)])) := by
  rw [he, State.maskBits, State.clocked_issue _ hi, decide_eq_true hop]
  show Host.Outcome.next (s.ends ((s.countIssued c).stopProgram c 0x0700 [((s.countIssued c).wordOf c, 2), (5, 1), (op, 1), (88, 2)])) = _
  rw [State.countIssued_wordOf]
  rfl

theorem maskResults : holdsMaskResults :=
  ⟨givesMask_of_exec exec_fcmp, givesMask_of_exec exec_maskop,
    fun _ _ _ _ hi => ⟨maskBits_stops exec_fcmp hi, maskBits_stops exec_maskop hi⟩⟩

/-- Settles O2. -/
theorem laneSelection : Obligations.LaneSelection := ⟨laneCopies, maskResults⟩

/-! ### Scans (R99) -/

theorem orStat_setX_advance (s : State) (c : CoreId) (w : Bool) (x : XReg) (v : DWord) :
    ((if w then s.updCore c fun k => k.orStat 2#32 else s).setX c x v).advance c
    = s.updCore c fun k => { k with vstat := if w then k.vstat ||| 2#32 else k.vstat, x := k.x.set x v, pc := k.pc + 1 } := by
  rw [State.advance, State.setX, State.updCore_updCore]
  cases w with
  | true =>
    rw [if_pos rfl, State.updCore_updCore]
    rfl
  | false => rfl

theorem scansAs_of_exec {mk : CoreId → Hdr → VecF → Instr} {excl : Bool} {ident : Word} {op : VecF → ScanOp}
    (he : ∀ c h f s, exec (mk c h f) s = s.clocked (s.scan (mk c h f) c h f excl ident (op f))) : scansAs mk excl ident op := by
  intro c h f s hi k mask r lane k1 k2 clean
  refine onCore_putV (g := lane)
    (r := fun q => { q with vstat := if r.wrap then q.vstat ||| 2#32 else q.vstat, x := q.x.set f.xd (r.last.val.zeroExtend 64) }) ?_
  rw [he, State.scan, State.clocked_issue _ hi]
  dsimp only
  rw [State.countIssued_cores, State.checked_of (by rw [show (scanOf _ _ _ _ _ _).last.poison = false from clean]; rfl)]
  exact congrArg (fun t => Host.Outcome.next (s.ends t)) (orStat_setX_advance ..)

theorem scans : holdsScans :=
  ⟨scansAs_of_exec exec_scanInclFadd, scansAs_of_exec exec_scanInclFmax, scansAs_of_exec exec_scanInclFmin, scansAs_of_exec exec_scanInclIadd,
    scansAs_of_exec exec_scanExclFadd, scansAs_of_exec exec_scanExclFmax, scansAs_of_exec exec_scanExclFmin, scansAs_of_exec exec_scanExclIadd⟩

/-- Settles O3: the reductions by the shared reduction, the scans by the shared scan. -/
theorem reductionsAndScans : Obligations.ReductionsAndScans := ⟨reductions_reduce, scans⟩

end Sys2Proof.Machine
end

section
/-! CONTROL: registers, descriptors, branches, and words of a reserved class or operation (R134, R141). -/

set_option Elab.async false
namespace Sys2Proof.Machine

/-! ### Results -/

/-- An instruction whose one check passes leaves its core as its effect says, and goes on to the next word. -/
theorem onCore_checked {i : Instr} {c : CoreId} {h : Hdr} {s : State} {cls : Nat} {all : Bool} {l : State → List (Option Stop)} {eff : State → State} {g : Core → Core}
    (hi : s.issues c h cls all = true) (he : exec i s = s.clocked (s.issue i c h cls all fun s => s.checked c (l s) eff))
    (hl : passes (l (s.countIssued c)) = true) (hg : eff (s.countIssued c) = (s.countIssued c).updCore c g) :
    onCore i c s { g s.cores[c] with pc := (g s.cores[c]).pc + 1 } := by
  refine onCore_of (g := fun k => { g k with pc := (g k).pc + 1 }) ?_
  rw [he, State.clocked_issue _ hi, State.checked_of hl, hg, State.advance, State.updCore_updCore]

theorem aluOp_min (a b : DWord) : aluOp 9 a b = BitVec.ofInt 64 (min a.toInt b.toInt) := by
  show (if a.slt b then a else b) = _
  rw [BitVec.slt]
  by_cases hab : a.toInt < b.toInt
  · rw [decide_eq_true hab, Int.min_eq_left (Int.le_of_lt hab), if_pos rfl, BitVec.ofInt_toInt]
  · rw [decide_eq_false hab, Int.min_eq_right (Int.not_lt.mp hab), if_neg Bool.false_ne_true, BitVec.ofInt_toInt]

theorem aluOp_max (a b : DWord) : aluOp 10 a b = BitVec.ofInt 64 (max a.toInt b.toInt) := by
  show (if a.slt b then b else a) = _
  rw [BitVec.slt]
  by_cases hab : a.toInt < b.toInt
  · rw [decide_eq_true hab, Int.max_eq_right (Int.le_of_lt hab), if_pos rfl, BitVec.ofInt_toInt]
  · rw [decide_eq_false hab, Int.max_eq_left (Int.not_lt.mp hab), if_neg Bool.false_ne_true, BitVec.ofInt_toInt]

theorem aluOp_shiftLeft {a b : DWord} (h : b.toNat < 64) : aluOp 6 a b = a <<< b.toNat := if_pos h

theorem aluOp_shiftRight {a b : DWord} (h : b.toNat < 64) : aluOp 7 a b = a >>> b.toNat := if_pos h

theorem aluOp_shiftSigned {a b : DWord} (h : b.toNat < 64) : aluOp 8 a b = BitVec.ofInt 64 (a.toInt / 2 ^ b.toNat) := by
  refine (if_pos h).trans ?_
  rw [BitVec.sshiftRight, Int.shiftRight_eq_div_pow]
  norm_cast

theorem unitObj_key_ne {u : UnitNo} {k k' sub sub' : Nat} (hs : sub < 256) (hs' : sub' < 256) (h : k ≠ k') :
    ek (unitObj u k) sub ≠ ek (unitObj u k') sub' := by
  unfold ek unitObj
  omega

theorem unitObj_key_ne_ring (u : UnitNo) (k : Nat) {sub sub' : Nat} (hk : k < 16) (hs : sub < 256) (hs' : sub' < 256) :
    ek (unitObj u k) sub ≠ ek 0x9010 sub' := by
  have hu := u.isLt
  unfold ek unitObj
  omega

theorem State.launchAt_counted (s : State) (c : CoreId) : (s.countIssued c).launchAt = s.launchAt := by
  funext l
  rw [State.launchAt, State.countIssued_launches]
  rfl

/-- The value of XGET is a register's worth of what its selector names. -/
theorem xgetValue_counted (s : State) (c : CoreId) (n : Nat) : BitVec.ofNat 64 ((s.countIssued c).xgetValue c n)
    = (match n with
      | 0 => BitVec.ofNat 64 (s.lq c) | 1 => BitVec.ofNat 64 (s.stampOf c) | 2 => s.cores[c].vstat.zeroExtend 64
      | _ => BitVec.ofNat 64 (s.volAt (ek (unitObj (coreUnit c) 9) 4))) := by
  have hv : (s.countIssued c).volAt (ek (unitObj (coreUnit c) 9) 4) = s.volAt (ek (unitObj (coreUnit c) 9) 4) :=
    s.volAt_count _ _ _ _ _ (unitObj_key_ne (by decide) (by decide) (by decide))
      (unitObj_key_ne_ring _ _ (by decide) (by decide) (by decide))
  match n with
  | 0 => exact congrArg (BitVec.ofNat 64) (s.countIssued_lq c c)
  | 1 =>
    refine congrArg (BitVec.ofNat 64) ?_
    simp only [State.xgetValue, State.stampOf, State.countIssued_cores, State.launchAt_counted]
  | 2 =>
    refine BitVec.eq_of_toNat_eq ?_
    simp only [State.xgetValue, State.countIssued_cores, BitVec.toNat_ofNat, BitVec.truncate_eq_setWidth, BitVec.toNat_setWidth]
  | n + 3 => exact congrArg (BitVec.ofNat 64) hv

/-- XGET with nothing to wait for. -/
theorem exec_xget_issues {c : CoreId} {h : Hdr} {f : CtlF} {s : State} (free : f.sel.toNat = 2 → s.writing c = false) : exec (.xget c h f) s
    = s.clocked (s.issue (.xget c h f) c h clsControl false fun s =>
        s.checked c [stopIf (decide (3 < f.sel.toNat)) (ctlIllegal s c 9 (atWord 5 0))] fun s =>
          s.setX c f.xd (BitVec.ofNat 64 (s.xgetValue c f.sel.toNat))) := by
  refine clocked_holdBack_unless ?_ (exec_xget c h f s)
  by_cases h2 : f.sel.toNat = 2
  · rw [free h2, Bool.and_false, Bool.false_and]
  · rw [decide_eq_false h2, Bool.false_and, Bool.false_and]

/-- A core that issues runs. -/
theorem State.issues_runs {s : State} {c : CoreId} {h : Hdr} {cls : Nat} {all : Bool} (hi : s.issues c h cls all = true) : s.runs c = true := by
  simp only [State.issues, State.canIssue, Bool.and_eq_true] at hi
  exact hi.1.2.1.1

theorem State.issues_executes {s : State} {c : CoreId} {h : Hdr} {cls : Nat} {all : Bool} (hi : s.issues c h cls all = true) :
    s.executes c h = true := by
  simp only [State.issues, Bool.and_eq_true] at hi
  exact hi.2

/-- An instruction that waits where it is, of a core that runs. -/
theorem heldBack_of {i : Instr} {c : CoreId} {h : Hdr} {s t : State} {cls : Nat} {all waits : Bool} (hi : s.issues c h cls all = true)
    (he : exec i s = s.clocked (if waits then s.holdBack c i else t)) (hw : waits = true) : heldBack i c s := by
  rw [heldBack, he, hw, State.clocked_of (State.issues_clocks hi), if_pos rfl, State.holdBack, if_pos (State.issues_runs hi)]
  exact congrArg Host.Outcome.next (State.ends_eq rfl rfl rfl)

theorem controlResults : holdsControlResults := by
  intro c h f s hi k a b leavesCore
  refine ⟨?nop, ?ximm, fun hop => ⟨aluOp f.alu.toNat a b, ?xalu, ?values⟩, fun hsel free => ?xget, fun hsel busy => ?waits, ?dset,
    fun hall hs => ?spill⟩
  case nop => exact onCore_of (g := fun k => { k with pc := k.pc + 1 }) (State.clocked_issue _ hi _)
  case ximm => exact onCore_checked (l := fun _ => []) (eff := fun s => s.setX c f.xd f.imm) (g := fun k => { k with x := k.x.set f.xd f.imm }) hi rfl rfl rfl
  case xalu =>
    refine onCore_checked (eff := fun s => s.setX c f.xd (aluOp f.alu.toNat (s.xr c f.xa) (s.second c f)))
      (g := fun k => { k with x := k.x.set f.xd (aluOp f.alu.toNat a b) }) hi (exec_xalu c h f s) ?_ ?_
    · rw [decide_eq_false (Nat.not_lt.mpr hop)]
      rfl
    · rw [State.countIssued_xr, State.countIssued_second]
      rfl
  case values =>
    refine ⟨?_, ?_, ?_, ?_, ?_, ?_, fun hb => ⟨?_, ?_, ?_⟩, ?_, ?_⟩ <;> intro hf <;> rw [hf]
    all_goals try rfl
    · exact aluOp_shiftLeft hb
    · exact aluOp_shiftRight hb
    · exact aluOp_shiftSigned hb
    · exact aluOp_min a b
    · exact aluOp_max a b
  case xget =>
    refine onCore_checked (eff := fun s => s.setX c f.xd (BitVec.ofNat 64 (s.xgetValue c f.sel.toNat)))
      (g := fun k => { k with x := k.x.set f.xd _ }) hi (exec_xget_issues free) ?_ ?_
    · rw [decide_eq_false (Nat.not_lt.mpr hsel)]
      rfl
    · rw [xgetValue_counted]
      rfl
  case waits => exact heldBack_of hi (exec_xget c h f s) (by rw [decide_eq_true hsel, busy, State.issues_executes hi]; rfl)
  case dset => exact onCore_checked (l := fun _ => []) (eff := fun s => s.updCore c fun k => { k with
      d := k.d.set f.d (cleanDesc (setDWord k.d[f.d] f.word ((k.x[f.xa]).truncate 32)))
      checked := k.checked &&& ~~~(BitVec.twoPow 64 f.d) }) hi rfl rfl rfl
  case spill =>
    refine onCore_checked (eff := fun s => s.updCore c fun k => { k with spillWord := f.imm.truncate 32 &&& 0xFFFF#32 }) hall (exec_spillarea c h f s) ?_ rfl
    rw [State.countIssued_cores, hs]
    rfl

/-! ### Stops -/

/-- An instruction whose check fails stops the program with its reason. -/
theorem stops_of_checked {i : Instr} {c : CoreId} {h : Hdr} {s : State} {cls : Nat} {all : Bool} {l : State → List (Option Stop)}
    {eff : State → State → State} {e : Stop} (hi : s.issues c h cls all = true)
    (he : exec i s = s.clocked (s.issue i c h cls all fun s => s.checked c (l s) (eff s))) (hl : firstStop (l (s.countIssued c)) = some e) :
    exec i s = .next (s.ends ((s.countIssued c).stopProgram c e.1 e.2)) := by
  rw [he, State.clocked_issue _ hi, State.checked_of_stop _ _ _ hl]

theorem ctlIllegal_counted (s : State) (c : CoreId) (op field : Nat) :
    ctlIllegal (s.countIssued c) c op field = (0x0700, [(s.cores[c].pc, 2), (11, 1), (op, 1), (field, 2)]) := by
  rw [ctlIllegal, State.countIssued_wordOf]
  rfl

theorem controlStops : holdsControlStops := by
  intro c h f s hi stop
  refine ⟨fun hop => ?_, fun hsel => ?_, fun hcmp => ?_, fun hall hs => ?_⟩
  · refine stops_of_checked hi (exec_xalu c h f s) (e := (0x0700, _)) ?_
    rw [decide_eq_true hop, ctlIllegal_counted]
    rfl
  · refine stops_of_checked hi (exec_xget_issues (fun h2 => absurd hsel (by omega))) (e := (0x0700, _)) ?_
    rw [decide_eq_true hsel, ctlIllegal_counted]
    rfl
  · rw [exec_brc, execBrc, State.clocked_issue _ hi, State.branch, decide_eq_true hcmp, ctlIllegal_counted]
    rfl
  · refine stops_of_checked hall (exec_spillarea c h f s) (e := (0x0700, _)) ?_
    rw [State.countIssued_cores, hs, ctlIllegal_counted]
    rfl

/-! ### Descriptor words -/

theorem descReserved_word (m : Fin 16) : descReserved.extractLsb' (32 * m.val) 32
    = if m = 0 then 0x007F000F#32 else if m = 12 then 0xFFFF0000#32 else 0#32 := by
  revert m
  decide +kernel

/-- A word of an image with one word replaced. -/
theorem setDWord_word (d : BitVec 512) (n m : Fin 16) (w : Word) :
    (setDWord d n w).extractLsb' (32 * m.val) 32 = if m = n then w else d.extractLsb' (32 * m.val) 32 := by
  refine BitVec.eq_of_getLsbD_eq fun i hi => ?_
  have hm := m.isLt
  have hn := n.isLt
  have bit (j : Nat) : (0xFFFFFFFF#512).getLsbD j = decide (j < 32) := by
    rw [BitVec.getLsbD_ofNat, show 0xFFFFFFFF = 2 ^ 32 - 1 from rfl, Nat.testBit_two_pow_sub_one]
    by_cases hj : j < 32
    · simp [hj, show j < 512 by omega]
    · simp [hj]
  have hin : 32 * m.val + i < 512 := by omega
  simp only [setDWord, BitVec.truncate_eq_setWidth, BitVec.getLsbD_extractLsb', BitVec.getLsbD_or, BitVec.getLsbD_and, BitVec.getLsbD_not,
    BitVec.getLsbD_shiftLeft, BitVec.getLsbD_setWidth, bit, hi, hin, decide_true, Bool.true_and]
  split
  · next h =>
    subst h
    rw [Nat.add_sub_cancel_left]
    simp [hi, show i < 512 by omega, Nat.not_lt.mpr (Nat.le_add_right (32 * m.val) i)]
  · next h =>
    have h' : m.val ≠ n.val := fun e => h (Fin.ext e)
    rw [BitVec.getLsbD_extractLsb']
    by_cases hlt : 32 * m.val + i < 32 * n.val
    · simp [hlt, hi]
    · have past : ¬ 32 * m.val + i - 32 * n.val < 32 := by omega
      simp [hi, past, BitVec.getLsbD_of_ge w _ (Nat.le_of_not_lt past)]

theorem cleanDesc_word (d : BitVec 512) (m : Fin 16) :
    (cleanDesc d).extractLsb' (32 * m.val) 32 = d.extractLsb' (32 * m.val) 32 &&& ~~~ (descReserved.extractLsb' (32 * m.val) 32) := by
  refine BitVec.eq_of_getLsbD_eq fun i hi => ?_
  simp [cleanDesc, hi, show 32 * m.val + i < 512 by omega]

theorem descriptorWords : holdsDescriptorWords := by
  intro d n m w clean kept
  rw [cleanDesc_word, setDWord_word]
  split
  · next hm =>
    subst hm
    rw [descReserved_word]
    show _ = if m = 0 then w &&& 0xFF80FFF0#32 else if m = 12 then w &&& 0xFFFF#32 else w
    split
    · rfl
    · split
      · rfl
      · exact BitVec.and_allOnes
  · rw [← cleanDesc_word, clean]

/-! ### Branches -/

theorem State.updCore_id (s : State) (c : CoreId) : s.updCore c id = s := by
  rw [State.updCore, id, Fin.getElem_fin, Vector.set_getElem_self]

theorem onCore_branch {i : Instr} {c : CoreId} {h : Hdr} {s : State} {l : State → List (Option Stop)} {taken : State → Bool} {target : BitVec 13}
    {eff : State → State → State} {g : Core → Core} {b : Bool} (hi : s.issues c h clsControl false = true)
    (he : exec i s = s.clocked (s.issue i c h clsControl false fun s => s.branch c (l s) (taken s) target (eff s)))
    (hl : passes (l (s.countIssued c)) = true) (ht : taken (s.countIssued c) = b) (there : b = true → target.toNat < s.cores[c].loaded)
    (hg : eff (s.countIssued c) (s.countIssued c) = (s.countIssued c).updCore c g) :
    onCore i c s { g s.cores[c] with pc := if b then target.toNat else (g s.cores[c]).pc + 1 } := by
  refine onCore_of (g := fun k => { g k with pc := if b then target.toNat else (g k).pc + 1 }) ?_
  have hs : firstStop (l (s.countIssued c) ++ [(s.countIssued c).branchStop c b target]) = none := by
    have hb : (b && decide (s.cores[c].loaded ≤ target.toNat)) = false := by
      cases b with
      | false => rfl
      | true => rw [decide_eq_false (Nat.not_le.mpr (there rfl))]; rfl
    rw [firstStop, List.findSome?_append, show List.findSome? id (l (s.countIssued c)) = none from Option.isNone_iff_eq_none.mp hl,
      State.branchStop, State.countIssued_cores, hb]
    rfl
  rw [he, State.clocked_issue _ hi, State.branch, ht, hs, hg, State.goto, State.updCore_updCore]

theorem branch_stops {i : Instr} {c : CoreId} {h : Hdr} {s : State} {l : State → List (Option Stop)} {taken : State → Bool} {target : BitVec 13}
    {eff : State → State → State} (hi : s.issues c h clsControl false = true)
    (he : exec i s = s.clocked (s.issue i c h clsControl false fun s => s.branch c (l s) (taken s) target (eff s)))
    (hl : passes (l (s.countIssued c)) = true) (ht : taken (s.countIssued c) = true) (past : s.cores[c].loaded ≤ target.toNat) :
    exec i s = .next (s.ends ((s.countIssued c).stopProgram c 0x0702 [(s.cores[c].pc, 2), (target.toNat, 2)])) := by
  have hs : firstStop (l (s.countIssued c) ++ [(s.countIssued c).branchStop c true target]) = some (0x0702, [(s.cores[c].pc, 2), (target.toNat, 2)]) := by
    rw [firstStop, List.findSome?_append, show List.findSome? id (l (s.countIssued c)) = none from Option.isNone_iff_eq_none.mp hl,
      State.branchStop, State.countIssued_cores, decide_eq_true past, State.countIssued_wordOf]
    rfl
  rw [he, State.clocked_issue _ hi, State.branch, ht, hs]

theorem branches : holdsBranches := by
  intro c h f s hi k there b v
  refine ⟨fun ht => ?_, fun hcmp ht => ?_, fun ht => ?_⟩
  · exact onCore_branch (l := fun _ => []) (taken := fun _ => true) (eff := fun _ => id) (g := id) hi rfl rfl rfl (fun _ => ht) (State.updCore_id _ c).symm
  · refine onCore_branch (eff := fun _ => id) (g := id) hi (exec_brc c h f s) ?_ ?_ ht (State.updCore_id _ c).symm
    · rw [decide_eq_false (Nat.not_lt.mpr hcmp)]
      rfl
    · rw [State.countIssued_xr, State.countIssued_second]
      rfl
  · have run := onCore_branch (l := fun _ => []) (taken := fun s => s.xr c f.xa - 1#64 != 0#64) (b := v != 0#64)
      (eff := fun u s => s.setX c f.xa (u.xr c f.xa - 1#64)) (g := fun k => { k with x := k.x.set f.xa v }) hi (exec_loopX c h f s) rfl
      (by rw [State.countIssued_xr]; rfl) (fun hb => ht (bne_iff_ne.mp hb)) (by rw [State.countIssued_xr]; rfl)
    by_cases hz : v = 0#64
    · rw [if_pos hz]
      rwa [if_neg (by simp [hz])] at run
    · rw [if_neg hz]
      rwa [if_pos (bne_iff_ne.mpr hz)] at run

theorem branchStops : holdsBranchStops := by
  intro c h f s hi past stop
  refine ⟨?_, fun hcmp ht => ?_, fun hx => ?_⟩
  · exact branch_stops (l := fun _ => []) (taken := fun _ => true) (eff := fun _ => id) hi (exec_br c h f s) rfl rfl past
  · refine branch_stops (eff := fun _ => id) hi (exec_brc c h f s) ?_ ?_ past
    · rw [decide_eq_false (Nat.not_lt.mpr hcmp)]
      rfl
    · rw [State.countIssued_xr, State.countIssued_second]
      exact ht
  · refine branch_stops (l := fun _ => []) (taken := fun s => s.xr c f.xa - 1#64 != 0#64) (eff := fun u s => s.setX c f.xa (u.xr c f.xa - 1#64)) hi
      (exec_loopX c h f s) rfl ?_ past
    rw [State.countIssued_xr, bne_iff_ne]
    exact fun h0 => hx ((BitVec.sub_eq_iff_eq_add.mp h0).trans (BitVec.zero_add _))

/-! ### Words of a reserved class or operation -/

/-- A core with every earlier instruction complete waits for none (R142 to R144). -/
theorem State.canIssue_of_quiet {s : State} {c : CoreId} (runs : s.runs c = true) (held : s.cores[c].held = []) (quiet : s.quiet c = true)
    (h : Hdr) (cls : Nat) (all : Bool) : s.canIssue c h cls all = true := by
  have q := quiet
  simp only [State.quiet, State.syncIdle, Bool.and_eq_true, Bool.not_eq_true', Option.isNone_iff_eq_none, List.isEmpty_iff] at q
  obtain ⟨⟨⟨wait, -⟩, queue⟩, writing⟩ := q
  simp only [State.canIssue, runs, held, quiet, writing, queue, wait, List.isEmpty_nil, List.length_nil, List.any_nil, Bool.or_true, Bool.not_false,
    Bool.and_self, decide_true, Nat.zero_lt_succ]

/-- Which field of a word is at fault (Table 7-2, Table 7-3). -/
theorem reservedField_cases {w : BitVec 256} {field : Nat} (h : reservedField w = some field) :
    (field = 27 ↔ w.toNat / 2 ^ 27 % 32 = 0 ∨ 14 ≤ w.toNat / 2 ^ 27 % 32) ∧ (field = 27 ∨ field = 21) := by
  have hcls : classOps (wordClass w) = [] ↔ w.toNat / 2 ^ 27 % 32 = 0 ∨ 14 ≤ w.toNat / 2 ^ 27 % 32 := by
    unfold wordClass
    have hlt : w.toNat / 2 ^ 27 % 32 < 32 := Nat.mod_lt _ (by decide)
    generalize w.toNat / 2 ^ 27 % 32 = n at hlt
    revert n
    decide
  rw [reservedField] at h
  split at h
  · next he =>
    obtain rfl := Option.some.inj h
    exact ⟨⟨fun _ => hcls.mp he, fun _ => rfl⟩, .inl rfl⟩
  · next he =>
    split at h
    · cases h
    · obtain rfl := Option.some.inj h
      exact ⟨⟨nofun, fun hc => absurd (hcls.mpr hc) he⟩, .inr rfl⟩

theorem reservedWords : holdsReservedWords := by
  intro c h s field clocks runs held quiet loaded readable pred reserved w stop
  obtain ⟨hclass, hfield⟩ := reservedField_cases reserved
  refine ⟨hclass, hfield, ?_⟩
  have off : hdrOff h (s.xr c h.xp) = false := by rw [hdrOff, pred, Bool.false_and]
  have hx : s.executes c h = false := by rw [State.executes, reserved, Option.isNone_some, Bool.and_false]
  refine everyTile_of_issue hx fun i cls all body he => ?_
  rw [he, State.clocked_of clocks, State.issue, State.canIssue_of_quiet runs held quiet, readable, off, reserved]
  rw [if_neg (by decide), if_neg (Nat.not_le.mpr loaded), if_neg Bool.false_ne_true, if_neg Bool.false_ne_true]
  rfl

/-- Settles O4. -/
theorem controls : Obligations.Controls := ⟨controlResults, controlStops, descriptorWords, reservedWords, branches, branchStops⟩

end Sys2Proof.Machine
end

section
/-! Sweeps, tile operations and chains: each runs once its checks pass (R65, R71, R92, R134 to R136). -/

set_option Elab.async false
namespace Sys2Proof.Machine

/-! ### What waits for a range of the core buffer (R143) -/

/-- An instruction of the core buffer waits while an outstanding MOVE has still to write what it touches. -/
theorem heldBack_of_bufferWaits {i : Instr} {c : CoreId} {h : Hdr} {s : State} {cls cls' : Nat} {all : Bool} {sp : Spans} {body : State → State}
    (hi : s.issues c h cls all = true) (he : exec i s = s.clocked (s.issueOver i c h cls' sp body)) (hw : s.bufferWaits c sp = true) :
    heldBack i c s :=
  heldBack_of hi he (by rw [hw, State.issues_executes hi]; rfl)

/-- With nothing to wait for it issues. -/
theorem exec_of_issueOver {i : Instr} {c : CoreId} {h : Hdr} {s : State} {cls : Nat} {sp : Spans} {body : State → State}
    (hi : s.issues c h cls false = true) (he : exec i s = s.clocked (s.issueOver i c h cls sp body)) (hw : s.bufferWaits c sp = false) :
    exec i s = .next (s.ends (body (s.countIssued c))) := by
  rw [he, State.issueOver, hw, Bool.false_and, if_neg Bool.false_ne_true, State.clocked_issue _ hi]

@[simp] theorem State.countIssued_xi (s : State) (c d : CoreId) (r : XReg) : (s.countIssued c).xi d r = s.xi d r := by
  rw [State.xi, State.countIssued_xr]
  rfl

@[simp] theorem State.countIssued_units (s : State) (c : CoreId) : (s.countIssued c).units = s.units := by simp [State.countIssued]

@[simp] theorem State.countIssued_arrayUp (s : State) (c d : CoreId) (a : Fin 4) : (s.countIssued c).arrayUp d a = s.arrayUp d a := by
  rw [State.arrayUp, State.ust, State.view, State.countIssued_units]
  rfl

/-! ### Checks in turn -/

theorem firstStop_append (l m : List (Option Stop)) : firstStop (l ++ m) = (firstStop l).or (firstStop m) := List.findSome?_append

theorem firstStop_of_passes {l : List (Option Stop)} (h : passes l = true) : firstStop l = none := Option.isNone_iff_eq_none.mp h

/-- The check after those that pass decides. -/
theorem firstStop_after {l : List (Option Stop)} (h : passes l = true) (m : List (Option Stop)) : firstStop (l ++ m) = firstStop m := by
  rw [firstStop_append, firstStop_of_passes h]
  rfl

/-! ### Sweeps -/

theorem sweepsAs_of_exec {mk : CoreId → Hdr → SweepF → Instr} {cls op : Nat}
    {mode : State → CoreId → Desc → Desc → Except Stop (SweepOp × Feed × Feed)}
    (he : ∀ c h f s, exec (mk c h f) s = s.clocked (s.sweepOf (mk c h f) c h cls op f fun s da dw => mode s c da dw)) : sweepsAs mk cls op mode := by
  intro c h f s hi u da dw
  refine ⟨fun hw => heldBack_of_bufferWaits hi (he c h f s) hw, fun o fa fw hw hk hd hm ha => ?_⟩
  rw [exec_of_issueOver hi (he c h f s) hw]
  have hk : firstStop [u.descStop c cls op f.da [2], u.descStop c cls op f.dw [2], stopIf (f.k == 0) (illegal (u.wordOf c) cls op (atWord 3 0))] = none := by
    refine (firstStop_after hd [_]).trans ?_
    rw [beq_eq_false_iff_ne.mpr hk]
    rfl
  have ha : firstStop [alignStop (u.wordOf c) cls op o (u.desc c f.da) (u.desc c f.dw) (u.xi c f.xk), u.arrayStop c f.enable, u.bindStop c [f.tile]] = none := by
    rw [State.countIssued_wordOf, State.countIssued_desc, State.countIssued_desc, State.countIssued_xi]
    exact firstStop_of_passes ha
  have hm : mode u c (u.desc c f.da) (u.desc c f.dw) = .ok (o, fa, fw) := by
    rw [State.countIssued_desc, State.countIssued_desc]
    exact hm
  dsimp only
  rw [hk]
  dsimp only
  rw [hm]
  dsimp only
  rw [ha]

theorem sweepsRun : holdsSweepsRun :=
  ⟨sweepsAs_of_exec exec_sweep, sweepsAs_of_exec exec_minPlus, sweepsAs_of_exec exec_maxPlus, sweepsAs_of_exec exec_l1Sweep, sweepsAs_of_exec exec_squaredL2⟩

/-- An enabled array out of service stops (R65). -/
theorem State.arrayStop_of_out {s : State} {c : CoreId} {e : BitVec 4} (out : ∃ a : Fin 4, e.getLsbD a = true ∧ s.arrayUp c a = false) :
    (s.countIssued c).arrayStop c e = some (0x0404, [(e.toNat, 1), (((List.finRange 4).filter fun a => s.arrayUp c a).length, 1)]) := by
  obtain ⟨a, on, down⟩ := out
  have hany : ((List.finRange 4).any fun a => e.getLsbD a && !s.arrayUp c a) = true :=
    List.any_eq_true.mpr ⟨a, List.mem_finRange a, by rw [on, down]; rfl⟩
  simp only [State.arrayStop, State.countIssued_arrayUp, hany]
  rfl

theorem sweepStops : holdsSweepStops := by
  intro c h f s hi hw u hd
  refine ⟨fun hk => ?_, fun o fa fw hk hm ha out => ?_⟩
  · have hs : firstStop [u.descStop c clsSweep 0 f.da [2], u.descStop c clsSweep 0 f.dw [2], stopIf (f.k == 0) (illegal (u.wordOf c) clsSweep 0 (atWord 3 0))]
        = some (0x0700, [(s.cores[c].pc, 2), (1, 1), (0, 1), (96, 2)]) := by
      refine (firstStop_after hd [_]).trans ?_
      rw [hk, State.countIssued_wordOf]
      rfl
    rw [exec_of_issueOver hi (exec_sweep c h f s) hw]
    dsimp only
    rw [hs]
  · have hs : firstStop [u.descStop c clsSweep 0 f.da [2], u.descStop c clsSweep 0 f.dw [2], stopIf (f.k == 0) (illegal (u.wordOf c) clsSweep 0 (atWord 3 0))] = none := by
      refine (firstStop_after hd [_]).trans ?_
      rw [beq_eq_false_iff_ne.mpr hk]
      rfl
    have hm : u.sweepMode c (u.desc c f.da) (u.desc c f.dw) = .ok (o, fa, fw) := by
      rw [State.countIssued_desc, State.countIssued_desc]
      exact hm
    have ha : alignStop (u.wordOf c) clsSweep 0 o (u.desc c f.da) (u.desc c f.dw) (u.xi c f.xk) = none := by
      rw [State.countIssued_wordOf, State.countIssued_desc, State.countIssued_desc, State.countIssued_xi]
      exact ha
    rw [exec_of_issueOver hi (exec_sweep c h f s) hw]
    dsimp only
    rw [hs]
    dsimp only
    rw [hm]
    dsimp only
    rw [ha, State.arrayStop_of_out out]
    rfl

/-- Settles O5. -/
theorem sweeps : Obligations.Sweeps := ⟨sweepsRun, sweepStops⟩

/-! ### Tile operations -/

theorem accopAs_of_exec {mk : CoreId → Hdr → AccF → Instr} {names : AccF → List TileNo}
    {own : AccF → CoreId → State → List (Option Stop)} {pre : AccF → CoreId → State → State}
    {scales : AccF → CoreId → State → (Word × Word) × State} {g : AccF → CoreId → State → Fin 4 → TileArr × Bool}
    {sp : AccF → CoreId → State → Spans}
    (he : ∀ c h f s, exec (mk c h f) s = s.clocked (s.accop (mk c h f) c h f (names f) (own f c) (pre f c) (scales f c) (g f c) (sp f c))) :
    accopAs mk names own pre scales g sp := by
  intro c h f s hi u r b
  refine ⟨fun hw => heldBack_of_bufferWaits hi (he c h f s) hw, fun hw hp => ?_⟩
  rw [runsAs, exec_of_issueOver hi (he c h f s) hw, State.checked_of hp]
  rfl

theorem accop2As_of_exec {mk : CoreId → Hdr → AccF → Instr} {op : FVal → FVal → FVal × Bool}
    (he : ∀ c h f s, exec (mk c h f) s = s.clocked (s.accop2 (mk c h f) c h f op)) : accop2As mk op := accopAs_of_exec he

theorem tileOps : holdsTileOps :=
  ⟨accopAs_of_exec exec_clearTile, accopAs_of_exec exec_fillTile, accopAs_of_exec exec_copyTile, accop2As_of_exec exec_addTile,
    accop2As_of_exec exec_subTile, accop2As_of_exec exec_accopMax, accop2As_of_exec exec_accopMin⟩

theorem tileScales : holdsTileScales :=
  ⟨accopAs_of_exec exec_scaleTile, accopAs_of_exec exec_scaleRow, accopAs_of_exec exec_scaleCol, accopAs_of_exec exec_addCol,
    accopAs_of_exec exec_accopLoad⟩

/-- Settles O6: every operation is the shared one. -/
theorem tileElements : Obligations.TileElements := ⟨tileOps, tileScales⟩

end Sys2Proof.Machine
end

section
/-! A cleared tile, chains, and moves (R71, R92, R120 to R123, R136, R137, R192, R198, R200). -/

set_option Elab.async false
namespace Sys2Proof.Machine

/-! ### CLEAR of a bound tile (R71) -/

theorem State.bindTiles_of_bound {s : State} {c : CoreId} {t : TileNo} {n : Fin 8} (h : s.cores[c].tiles[t] = .bound n) (named : List TileNo) :
    s.bindTiles c named [t] = .ok (s.touch c t) := by
  rw [State.bindTiles, State.bindTile, h]
  rfl

theorem State.bound_of_bound {s : State} {c : CoreId} {t : TileNo} {n : Fin 8} (h : s.cores[c].tiles[t] = .bound n) : s.bound c [t] = s.touch c t := by
  rw [State.bound, State.bindTiles_of_bound h]

theorem State.bindStop_of_bound {s : State} {c : CoreId} {t : TileNo} {n : Fin 8} (h : s.cores[c].tiles[t] = .bound n) : s.bindStop c [t] = none := by
  rw [State.bindStop, State.bindTiles_of_bound h]

theorem State.arrayStop_of_up {s : State} {c : CoreId} {e : BitVec 4} (h : ∀ a : Fin 4, e.getLsbD a = true → s.arrayUp c a = true) :
    s.arrayStop c e = none := by
  have hany : ((List.finRange 4).any fun a => e.getLsbD a && !s.arrayUp c a) = false := by
    rw [List.any_eq_false]
    intro a _
    cases he : e.getLsbD a with
    | false => exact Bool.false_ne_true
    | true => rw [h a he]; exact Bool.false_ne_true
  rw [State.arrayStop, hany]
  rfl

@[simp] theorem State.updCore_core (s : State) (c : CoreId) (g : Core → Core) : (s.updCore c g).cores[c] = g s.cores[c] := by
  rw [State.updCore_cores, Fin.getElem_fin, Vector.getElem_set_self]

theorem State.bufferWaits_nil (s : State) (c : CoreId) : s.bufferWaits c [] = false := by
  rw [State.bufferWaits]
  split
  · rfl
  · dsimp only
    split <;> rfl

/-- A free value drawn beside the count. -/
theorem State.Counted.draw {c : CoreId} {s t : State} (h : s.Counted c t) :
    ({ s with freeIx := s.freeIx + 1 } : State).Counted c { t with freeIx := t.freeIx + 1 } where
  same := by
    unfold State.Reported
    exact congrArg (fun u : State => { u with freeIx := u.freeIx + 1 }) h.same
  entries := h.entries
  quiet := fun hq => congrArg (fun u : State => { u with freeIx := u.freeIx + 1 }) (h.quiet hq)

/-- What CLEAR writes: zero in the enabled arrays, free coarse scales. -/
def zeroedTile (s : State) (c : CoreId) (e : BitVec 4) (n : Fin 8) : Tile :=
  ⟨Vector.ofFn fun a => if e.getLsbD a then TileArr.zero else s.cores[c].slots[n].arr[a], (freeScales s).1.1, (freeScales s).1.2⟩

/-- A tile written into the slot it is bound to. -/
theorem State.writeTile_of_bound {s : State} {c : CoreId} {t : TileNo} {n : Fin 8} (h : s.cores[c].tiles[t] = .bound n) (e : BitVec 4) (ca cw : Word) :
    s.writeTile c e t ca cw (fun _ => (TileArr.zero, false)) = s.updCore c fun k => { k with slots := k.slots.set n (⟨Vector.ofFn fun a => if e.getLsbD a then TileArr.zero else s.cores[c].slots[n].arr[a], ca, cw⟩ : Tile) } := by
  have hany : ((enabled e).any fun _ => false) = false := List.any_eq_false.mpr fun _ _ => Bool.false_ne_true
  rw [State.writeTile, hany]
  simp only [State.setTile, State.tileOf, h]
  rfl

/-- CLEAR of a tile bound to a slot whose enabled arrays are in service. -/
theorem exec_clearTile_of_bound {c : CoreId} {h : Hdr} {f : AccF} {s : State} {n : Fin 8} (hi : s.issues c h clsAccop false = true)
    (bound : s.cores[c].tiles[f.td] = .bound n) (up : ∀ a : Fin 4, f.enable.getLsbD a = true → s.arrayUp c a = true) :
    exec (.clearTile c h f) s = .next (s.ends (({ s.countIssued c with freeIx := (s.countIssued c).freeIx + 1 } : State).updCore c fun k => { k with
      slots := k.slots.set n (zeroedTile (s.countIssued c) c f.enable n), recency := k.recency.erase f.td ++ [f.td], pc := k.pc + 1 })) := by
  have hu : (s.countIssued c).cores = s.cores := s.countIssued_cores c
  generalize hg : s.countIssued c = u at hu
  have hb : u.cores[c].tiles[f.td] = .bound n := by rw [hu]; exact bound
  have hup (a : Fin 4) (ha : f.enable.getLsbD a = true) : u.arrayUp c a = true := by rw [← hg, State.countIssued_arrayUp]; exact up a ha
  have hp : passes ([] ++ [u.arrayStop c f.enable, u.bindStop c [f.td]]) = true := by
    rw [State.bindStop_of_bound hb, State.arrayStop_of_up hup]
    rfl
  have hk : (freeScales (u.touch c f.td)).2.cores[c] = { u.cores[c] with recency := u.cores[c].recency.erase f.td ++ [f.td] } := by
    show (u.touch c f.td).cores[c] = _
    rw [State.touch, State.updCore_core]
  have hs : ((freeScales (u.touch c f.td)).2.cores[c]).tiles[f.td] = .bound n := by rw [hk]; exact hb
  rw [exec_of_issueOver hi (exec_clearTile c h f s) (s.bufferWaits_nil c), hg, State.checked_of hp]
  dsimp only [id]
  rw [State.bound_of_bound hb, State.writeTile_of_bound hs, State.advance, State.updCore_updCore, hk]
  refine congrArg (fun t => Host.Outcome.next (s.ends t)) ?_
  exact State.updCore_updCore { u with freeIx := u.freeIx + 1 } c (fun k => { k with recency := k.recency.erase f.td ++ [f.td] }) _

/-- Settles O7: a bound tile stays in its slot, and its recency is all that binding changes. -/
theorem clearedTile : Obligations.ClearedTile := by
  unfold Obligations.ClearedTile
  intro c h f s n hi bound up
  have run := exec_clearTile_of_bound hi bound up
  have counted := ((s.counted_countIssued c).draw.updCore fun k => { k with
    slots := k.slots.set n (zeroedTile (s.countIssued c) c f.enable n), recency := k.recency.erase f.td ++ [f.td], pc := k.pc + 1 }).ends
  obtain ⟨t, run, counted⟩ : ∃ t, exec (.clearTile c h f) s = .next t ∧ (({ s with freeIx := s.freeIx + 1 } : State).updCore c fun k => { k with
      slots := k.slots.set n (zeroedTile (s.countIssued c) c f.enable n), recency := k.recency.erase f.td ++ [f.td], pc := k.pc + 1 }).Counted c t :=
    ⟨_, run, counted⟩
  refine ⟨t, zeroedTile (s.countIssued c) c f.enable n, run, counted, fun a => ?_, ?_⟩
  · show (Vector.ofFn _)[a.val] = _
    rw [Vector.getElem_ofFn, State.countIssued_cores]
  · have hk := congrArg (fun v : Vector Core 52 => v[c]) counted.same.cores
    rw [State.updCore_core] at hk
    have htiles := congrArg Core.tiles hk
    refine ⟨htiles, ?_⟩
    rw [State.tileOf, htiles, bound, hk]
    exact Vector.getElem_set_self ..

/-! ### Chains (R92, R120 to R123, R136) -/

theorem chainsRun : holdsChainsRun := by
  intro c h f s hi u reg hp mk hmk
  have run (i : Instr) (he : exec i s = s.clocked (s.chain i c h f)) : runsAs i c s fun s => s.chainRun c f := by
    rw [runsAs, he, State.chain, State.clocked_issue _ hi, reg, if_neg Bool.false_ne_true, State.checked_of hp]
  simp only [List.mem_cons, List.not_mem_nil, or_false] at hmk
  obtain rfl | rfl | rfl := hmk
  · exact run _ (exec_chainDrain c h f s)
  · exact run _ (exec_chainTensor c h f s)
  · exact run _ (exec_chainRegister c h f s)

theorem regOnlyAs_of_exec {mk : CoreId → Hdr → ChainF → Instr} {code : BitVec 6}
    (he : ∀ c h f s, exec (mk c h f) s = s.clocked (s.chain (mk c h f) c h { f with fn := true, fnCode := (f.fnCode &&& 0x20#6) ||| code })) :
    regOnlyAs mk code := by
  intro c h f s hi g reg hp
  rw [runsAs, he, State.chain, State.clocked_issue _ hi, if_pos reg, State.checked_of hp]

theorem registerChains : holdsRegisterChains :=
  ⟨regOnlyAs_of_exec exec_smaxEnd, regOnlyAs_of_exec exec_nstatFast, regOnlyAs_of_exec exec_nstatMean, regOnlyAs_of_exec exec_nstatStable,
    regOnlyAs_of_exec exec_nstatRms⟩

theorem packedConversion : holdsPackedConversion := by
  intro c h f s hi hp
  rw [runsAs, exec_vectorCvt, execVectorCvt, State.clocked_issue _ hi, State.countIssued_wordOf, State.checked_of hp]

/-- Settles O8. -/
theorem chains : Obligations.Chains := ⟨chainsRun, registerChains, packedConversion⟩

end Sys2Proof.Machine
end

section
/-! Moves, conditional stores, register loads and stores (R137, R139, R142, R192, R198, R200, R227, R228). -/

set_option Elab.async false
namespace Sys2Proof.Machine

/-! ### What counting leaves -/

@[simp] theorem State.countIssued_pipes (s : State) (c : CoreId) : (s.countIssued c).pipes = s.pipes := by simp [State.countIssued]
@[simp] theorem State.countIssued_verdicts (s : State) (c : CoreId) : (s.countIssued c).verdicts = s.verdicts := by simp [State.countIssued]
@[simp] theorem State.countIssued_hbm (s : State) (c : CoreId) : (s.countIssued c).hbm = s.hbm := by simp [State.countIssued]
@[simp] theorem State.countIssued_dieBuf (s : State) (c : CoreId) : (s.countIssued c).dieBuf = s.dieBuf := by simp [State.countIssued]
@[simp] theorem State.countIssued_hubBuf (s : State) (c : CoreId) : (s.countIssued c).hubBuf = s.hubBuf := by simp [State.countIssued]

@[simp] theorem State.countIssued_pipeNeed (s : State) (c d : CoreId) (f : MoveF) : (s.countIssued c).pipeNeed d f = s.pipeNeed d f := by
  rw [State.pipeNeed, State.countIssued_desc, State.countIssued_xi]
  rfl

@[simp] theorem State.countIssued_headShort (s : State) (c d : CoreId) (f : MoveF) : (s.countIssued c).headShort d f = s.headShort d f := by
  simp only [State.headShort, State.countIssued_desc, State.countIssued_cores, State.countIssued_pipes, State.countIssued_pipeNeed]

/-- An instruction whose checks pass runs its effect and goes on to the next word. -/
theorem runsAs_checked {i : Instr} {c : CoreId} {h : Hdr} {s : State} {cls : Nat} {all : Bool} {l : State → List (Option Stop)} {eff : State → State}
    (hi : s.issues c h cls all = true) (he : exec i s = s.clocked (s.issue i c h cls all fun s => s.checked c (l s) eff))
    (hl : passes (l (s.countIssued c)) = true) : runsAs i c s eff := by
  rw [runsAs, he, State.clocked_issue _ hi, State.checked_of hl]

/-- An effect may be told otherwise on the state with the instruction counted. -/
theorem runsAs_congr {i : Instr} {c : CoreId} {s : State} {eff eff' : State → State} (h : runsAs i c s eff)
    (e : eff (s.countIssued c) = eff' (s.countIssued c)) : runsAs i c s eff' := by
  rw [runsAs, ← e]
  exact h

/-! ### Tensor moves -/

/-- Another core is left alone. -/
theorem State.updCore_core_ne (s : State) {c d : CoreId} (g : Core → Core) (h : d ≠ c) : (s.updCore c g).cores[d] = s.cores[d] := by
  rw [State.updCore_cores, Fin.getElem_fin, Vector.getElem_set_ne _ _ fun e => h (Fin.ext e.symm)]
  rfl

theorem State.updPipe_pipe_ne (s : State) {n q : Fin 1024} (g : Pipe → Pipe) (h : q ≠ n) : (s.updPipe n g).pipes[q] = s.pipes[q] := by
  show (s.pipes.set n (g s.pipes[n]))[q] = s.pipes[q]
  rw [Fin.getElem_fin, Vector.getElem_set_ne _ _ fun e => h (Fin.ext e.symm)]
  rfl

/-- What a move leaves that takes the bytes it finds in its pipe and waits for the rest (R142, R257): its core but for the marks, the bytes
and the wait, and every other core, memory and pipe. -/
structure State.MoveWaits (s t : State) (c : CoreId) (f : MoveF) : Prop where
  core : ∃ checked pipeIn, t.cores[c] = { s.cores[c] with
    checked := checked, pipeIn := pipeIn, moving := some ⟨f, s.cores[c].x, s.cores[c].d, s.cores[c].pc⟩ }
  others : ∀ d, d ≠ c → t.cores[d] = s.cores[d]
  hbm : t.hbm = s.hbm
  dies : t.dieBuf = s.dieBuf
  hub : t.hubBuf = s.hubBuf
  pipes : ∀ q, q ≠ (s.desc c f.ds).pipe → t.pipes[q] = s.pipes[q]

theorem State.moveWaits_spec (s : State) (c : CoreId) (f : MoveF) : s.MoveWaits (s.moveWaits c f) c f where
  core := by
    refine ⟨?_, ?_, ?_⟩
    rotate_left 2
    · rw [State.moveWaits, State.updCore_core, State.pipeTake]
      dsimp only
      rw [show ∀ (u : State) n g, (u.updPipe n g).cores = u.cores from fun _ _ _ => rfl, State.updCore_core, State.markChecked, State.updCore_core,
        State.markChecked, State.updCore_core]
  others d hd := by
    rw [State.moveWaits, State.updCore_core_ne _ _ hd, State.pipeTake]
    rw [show ∀ (u : State) n g, (u.updPipe n g).cores = u.cores from fun _ _ _ => rfl, State.updCore_core_ne _ _ hd, State.markChecked,
      State.updCore_core_ne _ _ hd, State.markChecked, State.updCore_core_ne _ _ hd]
  hbm := rfl
  dies := rfl
  hub := rfl
  pipes q hq := by
    show (State.pipeTake _ _ _ _).pipes[q] = _
    rw [State.pipeTake]
    rw [State.updPipe_pipe_ne _ _ hq]
    rfl

theorem movesAs_of_exec {mk : CoreId → Hdr → MoveF → Instr} {stops : State → CoreId → MoveF → List (Option Stop)} {may : State → CoreId → Prop}
    (he : ∀ c h f s, s.issues c h clsMove false = true → may s c → passes (stops (s.countIssued c) c f) = true →
      runsAs (mk c h f) c s fun s => s.moveStart c f) : movesAs mk stops may := by
  intro c h f s hi hm hp
  have run := he c h f s hi hm hp
  refine ⟨fun short => runsAs_congr run ?_, fun short => ?_⟩
  · rw [State.moveStart, State.countIssued_headShort, short, if_neg Bool.false_ne_true]
    rfl
  · have waits : runsAs (mk c h f) c s fun s => s.moveWaits c f := runsAs_congr run (by
      rw [State.moveStart, State.countIssued_headShort, short, if_pos rfl])
    refine ⟨waits, ?_⟩
    have w := (s.countIssued c).moveWaits_spec c f
    have pipe := w.pipes
    obtain ⟨checked, pipeIn, core⟩ := w.core
    rw [State.countIssued_cores] at core
    rw [State.countIssued_desc, State.countIssued_pipes] at pipe
    have next : (s.ends (((s.countIssued c).moveWaits c f).advance c)).cores[c] = { s.cores[c] with
        checked := checked, pipeIn := pipeIn, moving := some ⟨f, s.cores[c].x, s.cores[c].d, s.cores[c].pc⟩, pc := s.cores[c].pc + 1 } := by
      rw [State.ends_cores, State.advance, State.updCore_core, core]
    refine ⟨_, waits, ?_⟩
    rw [next]
    refine ⟨rfl, rfl, rfl, rfl, rfl, fun d hd => ?_, ?_, ?_, ?_, fun q hq => ?_⟩
    · rw [State.ends_cores, State.advance, State.updCore_core_ne _ _ hd, w.others d hd, State.countIssued_cores]
    · rw [State.ends_hbm]
      exact w.hbm.trans (s.countIssued_hbm c)
    · rw [State.ends_dieBuf]
      exact w.dies.trans (s.countIssued_dieBuf c)
    · rw [State.ends_hubBuf]
      exact w.hub.trans (s.countIssued_hubBuf c)
    · rw [State.ends_pipes]
      exact pipe q hq

/-- Settles O9. -/
theorem movesRun : Obligations.MovesRun := by
  unfold Obligations.MovesRun
  refine ⟨movesAs_of_exec fun c h f s hi _ hp => runsAs_checked hi (exec_moveTensor c h f s) hp, fun c h f s hi => ?_⟩
  refine ⟨fun hp => ?_, fun hp ok => ?_, fun m hp bad => ?_, fun w hw hp => ?_⟩
  · exact runsAs_checked hi (exec_zpack c h f s) hp
  · rw [runsAs, exec_zunpack, execZunpack, State.clocked_issue _ hi, firstStop_of_passes hp]
    dsimp only
    rw [ok]
  · rw [exec_zunpack, execZunpack, State.clocked_issue _ hi, firstStop_of_passes hp]
    dsimp only
    rw [bad, State.countIssued_wordOf]
    rfl
  · exact runsAs_checked hw (exec_window c h w s) hp

/-! ### Conditional stores -/

@[simp] theorem State.countIssued_bad (s : State) (c : CoreId) :
    (s.countIssued c).verdicts[(s.countIssued c).vatOf c].bad = s.verdicts[s.vatOf c].bad := by
  simp only [State.countIssued_verdicts, State.countIssued_vatOf]

theorem goodStores : holdsGoodStores := by
  refine ⟨movesAs_of_exec fun c h f s hi good hp => ?_, fun c h f s hi good hp => ?_⟩
  · refine runsAs_congr (runsAs_checked hi (exec_vtensor c h f s) hp) ?_
    rw [State.countIssued_bad, good, if_neg Bool.false_ne_true]
  · refine runsAs_congr (eff' := fun s => s.splitRun c f) (runsAs_checked hi (exec_vsplit c h f s) hp) ?_
    rw [State.countIssued_bad, good, if_neg Bool.false_ne_true]

/-- An instruction that only marks its descriptors as checked. -/
theorem onCore_marks {i : Instr} {c : CoreId} {s : State} {eff : State → State} {g : Core → Core} (run : runsAs i c s eff)
    (e : eff (s.countIssued c) = (s.countIssued c).updCore c g) : onCore i c s { g s.cores[c] with pc := (g s.cores[c]).pc + 1 } := by
  refine onCore_of (g := fun k => { g k with pc := (g k).pc + 1 }) ?_
  rw [run, e, State.advance, State.updCore_updCore]

theorem badStores : holdsBadStores := by
  intro c h f s hi bad u k ds
  refine ⟨fun hp => ?_, fun hp => ?_⟩
  · have run := onCore_marks (g := fun k => { k with checked := k.checked ||| BitVec.twoPow 64 f.ds ||| BitVec.twoPow 64 f.dd })
      (runsAs_checked hi (exec_vtensor c h f s) hp)
      (by rw [State.countIssued_bad, bad, if_pos rfl, State.markChecked, State.markChecked, State.updCore_updCore])
    rw [BitVec.or_assoc] at run
    exact run
  · have run := onCore_marks (g := fun k => { k with checked := k.checked ||| BitVec.twoPow 64 f.ds ||| BitVec.twoPow 64 f.dd ||| BitVec.twoPow 64 f.reg })
      (runsAs_checked hi (exec_vsplit c h f s) hp)
      (by rw [State.countIssued_bad, bad, if_pos rfl, State.markChecked, State.markChecked, State.markChecked, State.updCore_updCore,
            State.updCore_updCore]; rfl)
    rw [BitVec.or_assoc k.checked] at run
    exact run

/-- A verdict other than the one sealed stops a conditional store. -/
theorem State.verdictStop_of_other {s : State} {c : CoreId} {f : MoveF} (other : f.w5 ≠ s.verdicts[s.vatOf c].seq) :
    (s.countIssued c).verdictStop c f = some (0x0C03, [(s.cores[c].pc, 2), (f.w5.toNat, 4), ((s.verdicts[s.vatOf c].seq).toNat, 4)]) := by
  have hs : (s.countIssued c).sealedSeq c = s.verdicts[s.vatOf c].seq := by
    simp only [State.sealedSeq, State.countIssued_verdicts, State.countIssued_vatOf]
  rw [State.verdictStop, hs, bne_iff_ne.mpr other, State.countIssued_wordOf]
  rfl

theorem verdictMismatch : holdsVerdictMismatch := by
  intro c h f s hi u stop other
  refine ⟨fun hp => ?_, fun hp => ?_⟩
  · refine stops_of_checked (eff := fun _ _ => _) hi (exec_vtensor c h f s) (e := (0x0C03, _)) ?_
    exact (firstStop_after hp _).trans (by rw [State.verdictStop_of_other other]; rfl)
  · refine stops_of_checked hi (exec_vsplit c h f s) (e := (0x0C03, _)) ?_
    have last : (s.countIssued c).splitStops c f = ((s.countIssued c).splitStops c f).dropLast ++ [(s.countIssued c).verdictStop c f] := rfl
    rw [last]
    exact (firstStop_after hp _).trans (by rw [State.verdictStop_of_other other]; rfl)

/-- Settles O10. -/
theorem conditionalStore : Obligations.ConditionalStore := ⟨goodStores, badStores, verdictMismatch⟩

end Sys2Proof.Machine
end

section
/-! What a memory reads as after a write (R236, Table 13-3). -/

set_option Elab.async false
namespace Sys2Proof.Machine

theorem Sparse.above_of_wf {α : Type} [DecidableEq α] {d : α} {m : Sparse α} (h : Sparse.wf d m = true) : Sparse.above 0 m = true := by
  simp only [Sparse.wf, Bool.and_eq_true] at h
  exact h.1

/-! ### Writes of a run of bytes -/

theorem cellsAt_nil (a : Nat) : cellsAt a [] = [] := rfl

theorem cellsAt_cons (a : Nat) (b : Byte) (bs : List Byte) : cellsAt a (b :: bs) = (a, b) :: cellsAt (a + 1) bs := by
  simp only [cellsAt, List.zipIdx_cons, List.map_cons, Nat.add_zero, Nat.zero_add]
  rw [List.zipIdx_eq_map_add (l := bs) (i := 1), List.map_map]
  refine congrArg _ (List.map_congr_left fun p _ => ?_)
  simp only [Function.comp, Prod.mk.injEq, and_true]
  omega

theorem mem_cellsAt {a : Nat} {bs : List Byte} {p : Nat × Byte} (h : p ∈ cellsAt a bs) : a ≤ p.1 ∧ p.1 < a + bs.length := by
  induction bs generalizing a with
  | nil => cases h
  | cons b bs ih =>
    rw [cellsAt_cons] at h
    rw [List.length_cons]
    obtain rfl | h := List.mem_cons.mp h
    · simp
    · have := ih h
      omega

theorem exists_mem_cellsAt {a : Nat} {bs : List Byte} {k : Nat} (h : a ≤ k ∧ k < a + bs.length) : ∃ p ∈ cellsAt a bs, p.1 = k := by
  induction bs generalizing a with
  | nil => simp at h; omega
  | cons b bs ih =>
    rw [cellsAt_cons]
    by_cases e : k = a
    · exact ⟨_, List.mem_cons_self, e.symm⟩
    · rw [List.length_cons] at h
      obtain ⟨p, hp, hk⟩ := ih (a := a + 1) (by omega)
      exact ⟨p, List.mem_cons_of_mem _ hp, hk⟩

/-- An address that no cell writes, or that lies in a word whose bytes are lost, reads as before. -/
theorem get_bytes_foldl_of_kept (P : Nat → Bool) (k : Nat) (l : List (Nat × Byte)) (m : Sparse Byte)
    (h : ∀ p ∈ l, p.1 = k → P (p.1 / 16) = true) :
    Sparse.get 0#8 (l.foldl (fun b c => if P (c.1 / 16) then b else Sparse.set 0#8 b c.1 c.2) m) k = Sparse.get 0#8 m k := by
  induction l generalizing m with
  | nil => rfl
  | cons p l ih =>
    rw [List.foldl_cons, ih _ fun q hq => h q (List.mem_cons_of_mem _ hq)]
    split
    · rfl
    · next hp => exact Sparse.get_set_ne _ _ _ _ _ fun e => hp (h p List.mem_cons_self e.symm)

/-- Each byte of a run reads as written where its word is not lost. -/
theorem get_bytes_foldl_cellsAt (P : Nat → Bool) {i : Nat} {bs : List Byte} (hi : i < bs.length) (a : Nat) (m : Sparse Byte)
    (hm : Sparse.wf 0#8 m = true) (hp : P ((a + i) / 16) = false) :
    Sparse.get 0#8 ((cellsAt a bs).foldl (fun b c => if P (c.1 / 16) then b else Sparse.set 0#8 b c.1 c.2) m) (a + i) = bs.getD i 0#8 := by
  induction bs generalizing a m i with
  | nil => cases hi
  | cons b bs ih =>
    rw [cellsAt_cons, List.foldl_cons]
    cases i with
    | zero =>
      rw [get_bytes_foldl_of_kept P _ _ _ fun p hp he => absurd (mem_cellsAt hp).1 (by omega), if_neg (by dsimp only; exact ne_true_of_eq_false hp)]
      exact Sparse.get_set_self _ _ _ _ (Sparse.above_of_wf hm)
    | succ i =>
      have e : a + (i + 1) = a + 1 + i := by omega
      rw [e] at hp ⊢
      refine ih (Nat.lt_of_succ_lt_succ hi) (a + 1) _ ?_ hp
      split
      · exact hm
      · exact Sparse.wf_set _ _ _ _ hm

/-- A key whose value depends on the key alone, written by every element of a list. -/
theorem get_foldl_set_key {β : Type} (f : β → Nat) (v : Nat → Nat) (l : List β) (m : Sparse Nat) (hm : Sparse.wf 0 m = true) (k : Nat) :
    Sparse.get 0 (l.foldl (fun m b => Sparse.set 0 m (f b) (v (f b))) m) k = if ∃ b ∈ l, f b = k then v k else Sparse.get 0 m k := by
  induction l generalizing m with
  | nil => simp
  | cons b l ih =>
    rw [List.foldl_cons, ih _ (Sparse.wf_set _ _ _ _ hm)]
    by_cases hl : ∃ b ∈ l, f b = k
    · rw [if_pos hl, if_pos]
      obtain ⟨b', hb, e⟩ := hl
      exact ⟨b', List.mem_cons_of_mem _ hb, e⟩
    · rw [if_neg hl]
      by_cases e : f b = k
      · rw [if_pos ⟨b, List.mem_cons_self, e⟩, e, Sparse.get_set_self _ _ _ _ (Sparse.above_of_wf hm)]
      · rw [if_neg, Sparse.get_set_ne _ _ _ _ _ (Ne.symm e)]
        rintro ⟨b', hb, e'⟩
        obtain rfl | hb := List.mem_cons.mp hb
        · exact e e'
        · exact hl ⟨b', hb, e'⟩

/-! ### Mem.write -/

theorem Mem.write_bytes_of_kept (m : Mem) {cells : List (Nat × Byte)} {k : Nat} (h : ∀ p ∈ cells, p.1 = k → m.lost cells (p.1 / 16) = true) :
    Sparse.get 0#8 (m.write cells).bytes k = Sparse.get 0#8 m.bytes k :=
  get_bytes_foldl_of_kept (m.lost cells) k cells m.bytes h

/-- A write leaves every byte outside it. -/
theorem Mem.read_write_outside (m : Mem) (a : Nat) (bs : List Byte) {b : Nat} (h : b < a ∨ a + bs.length ≤ b) :
    ((m.write (cellsAt a bs)).read b).1 = (m.read b).1 :=
  m.write_bytes_of_kept fun p hp e => absurd (mem_cellsAt hp) (by omega)

theorem Mem.mark_write {m : Mem} (hm : m.wf = true) (cells : List (Nat × Byte)) (w : Nat) : Sparse.get 0 (m.write cells).marks w
    = if ∃ c ∈ cells, c.1 / 16 = w then (if m.lost cells w then 3 else 0) else Sparse.get 0 m.marks w :=
  get_foldl_set_key (fun c : Nat × Byte => c.1 / 16) (fun w => if m.lost cells w then 3 else 0) cells m.marks ((Mem.wf_iff m).mp hm).2.1 w

/-- A run of bytes in words whose bytes are not lost is read back, unpoisoned. -/
theorem Mem.read_write_inside {m : Mem} (hm : m.wf = true) {a i : Nat} {bs : List Byte} (hi : i < bs.length)
    (h : m.lost (cellsAt a bs) ((a + i) / 16) = false) : (m.write (cellsAt a bs)).read (a + i) = (bs.getD i 0#8, false) := by
  have hk : ∃ c ∈ cellsAt a bs, c.1 / 16 = (a + i) / 16 := by
    obtain ⟨p, hp, e⟩ := exists_mem_cellsAt (a := a) (bs := bs) (k := a + i) (by omega)
    exact ⟨p, hp, by rw [e]⟩
  refine Prod.ext (get_bytes_foldl_cellsAt (m.lost (cellsAt a bs)) hi a m.bytes ((Mem.wf_iff m).mp hm).1 h) ?_
  show decide (2 ≤ Sparse.get 0 (m.write (cellsAt a bs)).marks ((a + i) / 16)) = false
  rw [Mem.mark_write hm, if_pos hk, h]
  rfl

theorem Mem.lost_of_mark {m : Mem} {w : Nat} (h : Sparse.get 0 m.marks w < 2) (cells : List (Nat × Byte)) : m.lost cells w = false := by
  rw [Mem.lost, decide_eq_false (Nat.not_le.mpr h), Bool.false_and]

/-- A word that no listed mark of a clean range lies in reads as clean. -/
theorem mark_of_cleanAt {m : Mem} {a n b : Nat} (h : cleanAt m a n) (hb : a ≤ b ∧ b < a + n) : Sparse.get 0 m.marks (b / 16) = 0 := by
  refine Classical.byContradiction fun hne => ?_
  have hk : ∃ p ∈ m.marks, p.1 = b / 16 := by
    refine Classical.byContradiction fun hno => ?_
    refine hne ?_
    have : ∀ p ∈ m.marks, p.1 ≠ b / 16 := fun p hp e => hno ⟨p, hp, e⟩
    generalize m.marks = l at this
    induction l with
    | nil => rfl
    | cons p l ih =>
      rw [Sparse.get, if_neg (this p List.mem_cons_self)]
      exact ih fun q hq => this q (List.mem_cons_of_mem _ hq)
  obtain ⟨p, hp, e⟩ := hk
  exact h p hp (by omega)

/-- A run shorter than a word covers none. -/
theorem coversWord_of_short {a w : Nat} {bs : List Byte} (h : bs.length < 16) : coversWord (cellsAt a bs) w = false := by
  refine Classical.byContradiction fun hc => ?_
  rw [Bool.not_eq_false, coversWord, List.all_eq_true] at hc
  have inside (i : Nat) (hi : i < 16) : a ≤ 16 * w + i ∧ 16 * w + i < a + bs.length := by
    obtain ⟨p, hp, e⟩ := List.any_eq_true.mp (hc i (List.mem_range.mpr hi))
    have := mem_cellsAt hp
    rw [beq_iff_eq.mp e] at this
    exact this
  have := inside 0 (by decide)
  have := inside 15 (by decide)
  omega

theorem coversWord_of_whole {w : Nat} {bs : List Byte} (h : bs.length = 16) : coversWord (cellsAt (16 * w) bs) w = true := by
  rw [coversWord, List.all_eq_true]
  intro i hi
  obtain ⟨p, hp, e⟩ := exists_mem_cellsAt (a := 16 * w) (bs := bs) (k := 16 * w + i) (by rw [h]; have := List.mem_range.mp hi; omega)
  exact List.any_eq_true.mpr ⟨p, hp, beq_iff_eq.mpr e⟩

/-- Settles O58: by what the fold of a write leaves of bytes and of marks. -/
theorem memoryWrites : Obligations.MemoryWrites := by
  unfold Obligations.MemoryWrites
  intro m a bs hm t
  refine ⟨fun b hb => m.read_write_outside a bs hb, fun clean i hi => ?_, fun w hw hpos hshort hin marked i hi => ?_, fun w hw hl i hi => ?_⟩
  · refine Mem.read_write_inside hm hi (Mem.lost_of_mark ?_ _)
    rw [mark_of_cleanAt clean (by omega)]
    exact Nat.zero_lt_two
  · have lost : m.lost (cellsAt a bs) w = true := by rw [Mem.lost, decide_eq_true marked, coversWord_of_short hshort]; rfl
    have hk : ∃ c ∈ cellsAt a bs, c.1 / 16 = w := by
      obtain ⟨p, hp, e⟩ := exists_mem_cellsAt (a := a) (bs := bs) (k := a) (by omega)
      exact ⟨p, hp, by rw [e, hw]⟩
    refine Prod.ext (m.write_bytes_of_kept fun p hp e => ?_) ?_
    · rw [e, show (16 * w + i) / 16 = w by omega]
      exact lost
    · show decide (2 ≤ Sparse.get 0 (m.write (cellsAt a bs)).marks ((16 * w + i) / 16)) = true
      rw [show (16 * w + i) / 16 = w by omega, Mem.mark_write hm, if_pos hk, lost]
      rfl
  · subst hw
    refine Mem.read_write_inside hm (by omega) ?_
    rw [show (16 * w + i) / 16 = w by omega, Mem.lost, coversWord_of_whole hl]
    exact Bool.and_false _

end Sys2Proof.Machine
end

section
/-! Register loads and stores of the core buffer (R137, R139). -/

set_option Elab.async false
namespace Sys2Proof.Machine

/-! ### What a store leaves -/

/-- A state with another buffer of one core: its registers, the other cores and the other memories as before. -/
structure State.Stores (s t : State) (c : CoreId) (m : Mem) : Prop where
  buf : t.cores[c].buf = m
  pc : t.cores[c].pc = s.cores[c].pc
  x : t.cores[c].x = s.cores[c].x
  v : t.cores[c].v = s.cores[c].v
  m : t.cores[c].m = s.cores[c].m
  d : t.cores[c].d = s.cores[c].d
  others : ∀ d, d ≠ c → t.cores[d] = s.cores[d]
  hbm : t.hbm = s.hbm
  dies : t.dieBuf = s.dieBuf
  hub : t.hubBuf = s.hubBuf

namespace State.Stores
variable {s t : State} {c : CoreId} {m : Mem}

theorem refl (s : State) (c : CoreId) : s.Stores s c s.cores[c].buf := ⟨rfl, rfl, rfl, rfl, rfl, rfl, fun _ _ => rfl, rfl, rfl, rfl⟩

theorem trans {u : State} {n : Mem} (h : s.Stores t c m) (k : t.Stores u c n) : s.Stores u c n where
  buf := k.buf
  pc := k.pc.trans h.pc
  x := k.x.trans h.x
  v := k.v.trans h.v
  m := k.m.trans h.m
  d := k.d.trans h.d
  others q hq := (k.others q hq).trans (h.others q hq)
  hbm := k.hbm.trans h.hbm
  dies := k.dies.trans h.dies
  hub := k.hub.trans h.hub

/-- What only reports, or changes nothing of cores and memories. -/
theorem same (cores : t.cores = s.cores) (hbm : t.hbm = s.hbm) (dies : t.dieBuf = s.dieBuf) (hub : t.hubBuf = s.hubBuf) :
    s.Stores t c s.cores[c].buf := by
  refine ⟨?_, ?_, ?_, ?_, ?_, ?_, fun q _ => ?_, hbm, dies, hub⟩ <;> rw [cores]

theorem reported (h : s.Reported t) : s.Stores t c s.cores[c].buf := same h.cores h.hbm h.dieBuf h.hubBuf

/-- A change of the core beside its registers. -/
theorem updCore (s : State) (c : CoreId) (g : Core → Core) (hg : ∀ k, (g k).pc = k.pc ∧ (g k).x = k.x ∧ (g k).v = k.v ∧ (g k).m = k.m ∧ (g k).d = k.d) :
    s.Stores (s.updCore c g) c (g s.cores[c]).buf := by
  obtain ⟨pc, x, v, m, d⟩ := hg s.cores[c]
  refine ⟨?_, ?_, ?_, ?_, ?_, ?_, fun q hq => s.updCore_core_ne g hq, rfl, rfl, rfl⟩ <;> rw [State.updCore_core]
  all_goals assumption

theorem setMem (s : State) (c : CoreId) (m : Mem) : s.Stores (s.setMem (.core c) m) c m :=
  updCore s c (fun k => { k with buf := m }) fun _ => ⟨rfl, rfl, rfl, rfl, rfl⟩

/-- What only reports after a store. -/
theorem report {u : State} (h : s.Stores t c m) (r : t.Reported u) : s.Stores u c m := h.buf ▸ h.trans (reported r)

/-- A change of the core beside its buffer and registers. -/
theorem core (h : s.Stores t c m) (g : Core → Core)
    (hg : ∀ k, (g k).buf = k.buf ∧ (g k).pc = k.pc ∧ (g k).x = k.x ∧ (g k).v = k.v ∧ (g k).m = k.m ∧ (g k).d = k.d) : s.Stores (t.updCore c g) c m := by
  have k := h.trans (updCore t c g fun k => (hg k).2)
  rw [(hg _).1, h.buf] at k
  exact k

theorem markPoison (h : s.Stores t c m) (hot : Bool) : s.Stores (t.markPoison c hot) c m := by
  rw [State.markPoison]
  split
  · exact h.core _ fun _ => ⟨rfl, rfl, rfl, rfl, rfl, rfl⟩
  · exact h

theorem addCensus (h : s.Stores t c m) (slot : Fin 16) (n : Counts) : s.Stores (t.addCensus c slot n) c m := by
  have told (l : List (Fin 9)) (u : State) (k : s.Stores u c m) :
      s.Stores (l.foldl (fun s i => s.raise 0x0C00 (corePath c) [(slot.val, 1), (i.val, 2)]) u) c m := by
    induction l generalizing u with
    | nil => exact k
    | cons i l ih => exact ih _ (k.report (u.reported_raise _ _ _))
  exact told _ _ (h.core _ fun _ => ⟨rfl, rfl, rfl, rfl, rfl, rfl⟩)

end State.Stores

/-- Resolving a word of a core's buffer changes a mark at most. -/
theorem State.stores_resolveWord (s : State) (c : CoreId) (w : Nat) :
    ∃ marks, s.Stores (s.resolveWord (.core c) w) c { s.cores[c].buf with marks := marks } := by
  rw [State.resolveWord]
  dsimp only
  split
  · exact ⟨Sparse.set 0 s.cores[c].buf.marks w 0, (State.Stores.setMem s c _).report (State.reported_count ..)⟩
  · exact ⟨Sparse.set 0 s.cores[c].buf.marks w 3,
      (State.Stores.setMem s c _).report ((State.reported_count ..).trans (State.reported_raise ..))⟩
  · exact ⟨_, .refl s c⟩

theorem State.stores_mergeWord (s : State) (c : CoreId) (w : Nat) :
    ∃ marks, s.Stores (s.mergeWord (.core c) w) c { s.cores[c].buf with marks := marks } := s.stores_resolveWord c w

theorem State.stores_mergeWords (l : List Nat) (s : State) (c : CoreId) :
    ∃ marks, s.Stores (l.foldl (fun s w => s.mergeWord (.core c) w) s) c { s.cores[c].buf with marks := marks } := by
  induction l generalizing s with
  | nil => exact ⟨_, .refl s c⟩
  | cons w l ih =>
    obtain ⟨m, hw⟩ := s.stores_mergeWord c w
    obtain ⟨n, hl⟩ := ih (s.mergeWord (.core c) w)
    refine ⟨n, ?_⟩
    have h := hw.trans hl
    rw [hw.buf] at h
    exact h

/-- What cells stored in a core's buffer leave: the buffer written, some marks resolved before; none where no marked word is touched. -/
theorem State.stores_storeCells (s : State) (c : CoreId) (cells : List (Nat × Byte)) (bad : List Nat) :
    ∃ marks, s.Stores (s.storeCells c 2 cells bad) c ((Mem.write { s.cores[c].buf with marks := marks } cells).poison bad)
      ∧ ((∀ k ∈ s.cores[c].buf.marks, ∀ p ∈ cells, p.1 / 16 ≠ k.1) → marks = s.cores[c].buf.marks) := by
  have store : s.storeCells c 2 cells bad = (s.writeMem (.core c) cells).setMem (.core c) (((s.writeMem (.core c) cells).mem (.core c)).poison bad) := rfl
  rw [store, State.writeMem]
  dsimp only
  generalize hpart : (((s.mem (.core c)).marks.filter _).map Prod.fst : List Nat) = part
  obtain ⟨marks, merged⟩ := State.stores_mergeWords part s c
  refine ⟨if part = [] then s.cores[c].buf.marks else marks, ?_, fun clean => if_pos ?_⟩
  · have done : s.Stores (part.foldl (fun s w => s.mergeWord (.core c) w) s) c
        { s.cores[c].buf with marks := if part = [] then s.cores[c].buf.marks else marks } := by
      split
      · next he =>
        rw [he]
        exact .refl s c
      · exact merged
    generalize part.foldl (fun s w => s.mergeWord (.core c) w) s = t at done ⊢
    have written := done.trans (State.Stores.setMem t c ((t.mem (.core c)).write cells))
    have stored := written.trans (State.Stores.setMem _ c (((t.setMem (.core c) ((t.mem (.core c)).write cells)).mem (.core c)).poison bad))
    have buf : t.mem (.core c) = { s.cores[c].buf with marks := if part = [] then s.cores[c].buf.marks else marks } := done.buf
    have buf' : (t.setMem (.core c) ((t.mem (.core c)).write cells)).mem (.core c) = (t.mem (.core c)).write cells := written.buf
    rw [buf', buf] at stored
    rw [buf'] 
    rw [buf]
    exact stored
  · rw [← hpart, List.map_eq_nil_iff, List.filter_eq_nil_iff]
    intro k hk hc
    rw [Bool.and_eq_true] at hc
    obtain ⟨p, hp, e⟩ := List.any_eq_true.mp hc.1
    exact clean k hk p hp (beq_iff_eq.mp e)

/-- What a register's bytes stored at an address of the core buffer leave. -/
theorem storesAt_of_stores {c : CoreId} {s t : State} {a : Nat} {bs : List Byte} {marks : Sparse Nat} {bad : List Nat}
    (h : s.Stores t c ((Mem.write { s.cores[c].buf with marks := marks } (cellsAt a bs)).poison bad))
    (clean : cleanAt s.cores[c].buf a bs.length → marks = s.cores[c].buf.marks) : storesAt c s (s.ends (t.advance c)) a bs := by
  have next : (s.ends (t.advance c)).cores[c] = { t.cores[c] with pc := t.cores[c].pc + 1 } := by
    rw [State.ends_cores, State.advance, State.updCore_core]
  have read (b : Nat) : ((s.ends (t.advance c)).cores[c].buf.read b).1
      = ((Mem.write { s.cores[c].buf with marks := marks } (cellsAt a bs)).read b).1 := by
    rw [next]
    show Sparse.get 0#8 t.cores[c].buf.bytes b = _
    rw [h.buf]
    rfl
  refine ⟨?_, fun b hb => ?_, fun wf hc i hi => ?_, ?_, ?_, ?_, fun d hd => ?_, ?_, ?_, ?_, ?_⟩
  · rw [next]
    exact congrArg (· + 1) h.pc
  · rw [read, Mem.read_write_outside _ a bs hb]
    rfl
  · have hm : ({ s.cores[c].buf with marks := marks } : Mem) = s.cores[c].buf := by rw [clean hc]
    rw [read, hm, Mem.read_write_inside wf hi]
    refine Mem.lost_of_mark ?_ _
    rw [mark_of_cleanAt hc (by omega)]
    exact Nat.zero_lt_two
  · exact (State.ends_hbm ..).trans h.hbm
  · exact (State.ends_dieBuf ..).trans h.dies
  · exact (State.ends_hubBuf ..).trans h.hub
  · rw [State.ends_cores, State.advance, State.updCore_core_ne _ _ hd]
    exact h.others d hd
  · rw [next]
    exact h.x
  · rw [next]
    exact h.v
  · rw [next]
    exact h.m
  · rw [next]
    exact h.d

/-- Cells of a run of bytes in clean words touch no marked word. -/
theorem untouched_of_cleanAt {m : Mem} {a : Nat} {bs : List Byte} (h : cleanAt m a bs.length) :
    ∀ k ∈ m.marks, ∀ p ∈ cellsAt a bs, p.1 / 16 ≠ k.1 := by
  intro k hk p hp e
  have := mem_cellsAt hp
  exact h k hk (by omega)

/-- What a register form's store leaves, the instruction counted. -/
theorem State.stores_regStore (s : State) (c : CoreId) (d : DReg) (f : MoveF) (bs : List Byte) (bad : List Nat) :
    ∃ marks, s.Stores ((s.countIssued c).regStore c d f bs bad) c ((Mem.write { s.cores[c].buf with marks := marks }
        (cellsAt (formAddr s c d f).toNat bs)).poison (bad.map fun i => (formAddr s c d f).toNat + i))
      ∧ (cleanAt s.cores[c].buf (formAddr s c d f).toNat bs.length → marks = s.cores[c].buf.marks) := by
  have marked : s.Stores ((s.countIssued c).markChecked c d) c s.cores[c].buf := by
    have := (State.Stores.reported (c := c) (s.reported_count _ _ _ _ _ : s.Reported (s.countIssued c))).trans
      (State.Stores.updCore (s.countIssued c) c (fun k => { k with checked := k.checked ||| BitVec.twoPow 64 d }) fun _ => ⟨rfl, rfl, rfl, rfl, rfl⟩)
    rw [State.countIssued_cores] at this
    exact this
  obtain ⟨marks, stored, clean⟩ := ((s.countIssued c).markChecked c d).stores_storeCells c (cellsAt (formAddr s c d f).toNat bs)
    (bad.map fun i => (formAddr s c d f).toNat + i)
  rw [marked.buf] at stored clean
  refine ⟨marks, ?_, fun hc => clean (untouched_of_cleanAt hc)⟩
  rw [State.regStore, State.countIssued_regAddr]
  exact marked.trans stored

/-- Settles O11. -/
theorem registerStores : Obligations.RegisterStores := by
  unfold Obligations.RegisterStores
  intro c h f s hi u a
  refine ⟨fun hp => ?_, fun hp => ?_⟩
  · refine ⟨_, runsAs_checked hi (exec_stx c h f s) hp, ?_⟩
    obtain ⟨marks, stored, clean⟩ := s.stores_regStore c f.dd f (leBytes (vget 0#64 (s.countIssued c).cores[c].x f.reg.val).toNat 8) []
    have done := storesAt_of_stores stored clean
    rw [State.countIssued_cores] at done
    rw [State.countIssued_cores]
    exact done
  · refine ⟨_, runsAs_checked hi (exec_stv c h f s) hp, ?_⟩
    dsimp only
    rw [State.countIssued_cores]
    generalize hbad : (((List.range 128).filter fun i => (s.cores[c].lane f.reg.val i).poison) : List Nat) = bad
    obtain ⟨marks, stored, clean⟩ := s.stores_regStore c f.dd f ((List.range 128).flatMap fun i => leBytes (s.cores[c].lane f.reg.val i).val.toNat 4)
      (bad.flatMap fun i => [4 * i, 4 * i + 1, 4 * i + 2, 4 * i + 3])
    exact storesAt_of_stores ((stored.addCensus _ _).markPoison _) clean

/-! ### Loads -/

/-- Words no mark of which is listed are read as they are. -/
theorem State.resolve_of_cleanAt {s : State} {c : CoreId} {a n N : Nat} (h : cleanAt s.cores[c].buf a N) (hn : n ≤ N) : s.resolve (.core c) a n = s := by
  have hl : (s.mem (.core c)).marked a n = [] := by
    rw [Mem.marked, List.map_eq_nil_iff, List.filter_eq_nil_iff]
    intro k hk hin
    have := of_decide_eq_true hin
    exact h k hk (by omega)
  rw [State.resolve, hl]
  rfl

theorem Mem.read_of_cleanAt {m : Mem} {a n i : Nat} (h : cleanAt m a n) (hi : i < n) : m.read (a + i) = ((m.read (a + i)).1, false) := by
  refine Prod.ext rfl ?_
  show decide (2 ≤ Sparse.get 0 m.marks ((a + i) / 16)) = false
  rw [mark_of_cleanAt h (by omega)]
  rfl

/-- A register form of clean words opens them as they are. -/
theorem State.regOpen_of_cleanAt {s : State} {c : CoreId} {d : DReg} {f : MoveF} {n N : Nat} (h : cleanAt s.cores[c].buf (formAddr s c d f).toNat N)
    (hn : n ≤ N) : (s.countIssued c).regOpen c d f n = (s.countIssued c).markChecked c d := by
  rw [State.regOpen, State.countIssued_regAddr]
  refine State.resolve_of_cleanAt (N := N) ?_ hn
  rw [State.markChecked_buf, State.countIssued_cores]
  exact h

theorem State.regBytes_of_cleanAt {s : State} {c : CoreId} {d : DReg} {f : MoveF} {n N : Nat} (h : cleanAt s.cores[c].buf (formAddr s c d f).toNat N)
    (hn : n ≤ N) : ((s.countIssued c).markChecked c d).regBytes c d f n
      = (List.range n).map fun i => ((s.cores[c].buf.read ((formAddr s c d f).toNat + i)).1, false) := by
  rw [State.regBytes, State.markChecked_regAddr, State.countIssued_regAddr, State.markChecked_buf, State.countIssued_cores]
  refine List.map_congr_left fun i hi => ?_
  exact Mem.read_of_cleanAt h (Nat.lt_of_lt_of_le (List.mem_range.mp hi) hn)

theorem State.regPoison_of_cleanAt {s : State} {c : CoreId} {d : DReg} {f : MoveF} {n N : Nat} (h : cleanAt s.cores[c].buf (formAddr s c d f).toNat N)
    (hn : n ≤ N) : passes [((s.countIssued c).markChecked c d).regPoison c d f n] = true := by
  have hot : (((s.countIssued c).markChecked c d).regBytes c d f n).any Prod.snd = false := by
    rw [State.regBytes_of_cleanAt h hn, List.any_map]
    exact List.any_eq_false.mpr fun _ _ => Bool.false_ne_true
  rw [State.regPoison, hot]
  rfl

/-- The bytes read, without their poison. -/
theorem State.regBytes_fst {s : State} {c : CoreId} {d : DReg} {f : MoveF} {n N : Nat} (h : cleanAt s.cores[c].buf (formAddr s c d f).toNat N)
    (hn : n ≤ N) : (((s.countIssued c).markChecked c d).regBytes c d f n).map Prod.fst
      = (List.range n).map fun i => (s.cores[c].buf.read ((formAddr s c d f).toNat + i)).1 := by
  rw [State.regBytes_of_cleanAt h hn, List.map_map]
  rfl

/-- With no lane poisoned a whole register written is all that changes. -/
theorem State.putV_all {s : State} {c : CoreId} {v : Nat} {new : Nat → Lane} (h : ∀ i, i < 128 → (new i).poison = false) :
    s.putV c v (BitVec.allOnes 128) false new = s.updCore c fun k => { k with v := vset k.v v (Vector.ofFn fun i => new i) } := by
  have on {i : Nat} (hi : i < 128) : (BitVec.allOnes 128).getLsbD i = true := by rw [BitVec.getLsbD_allOnes, decide_eq_true hi]
  have hn : ((List.range 128).filter fun i => (BitVec.allOnes 128).getLsbD i && (new i).poison) = [] := by
    rw [List.filter_eq_nil_iff]
    intro i hi
    rw [h i (List.mem_range.mp hi), Bool.and_false]
    exact Bool.false_ne_true
  have ha : ((List.range 128).any fun i => (BitVec.allOnes 128).getLsbD i && (new i).poison) = false := by
    rw [any_eq_count, hn]
    rfl
  have hr (old : Vector Lane 128) : maskedReg old (BitVec.allOnes 128) false new = Vector.ofFn fun i => new i := by
    rw [maskedReg]
    exact congrArg Vector.ofFn (funext fun i => by rw [on i.isLt, if_pos rfl])
  rw [State.putV, hn, List.length_nil, if_pos rfl, State.writeV, ha]
  simp only [hr, Bool.false_eq_true, if_false]

/-- Four bytes of a run. -/
theorem take_four_drop {α : Type} (g : Nat → α) {i : Nat} (hi : i < 128) :
    (((List.range 512).map g).drop (4 * i)).take 4 = (List.range 4).map fun j => g (4 * i + j) := by
  refine List.ext_getElem (by simp; omega) fun j h₁ h₂ => ?_
  simp

/-- Settles O12. -/
theorem registerLoads : Obligations.RegisterLoads := by
  unfold Obligations.RegisterLoads
  intro c h f s hi u a byte k clean passed
  refine ⟨fun hp => ?_, fun hp => ?_, fun hp => ?_⟩
  · refine onCore_of (g := fun k => { k with pc := k.pc + 1, checked := k.checked ||| BitVec.twoPow 64 f.ds, x := vset k.x f.reg.val (BitVec.ofNat 64 (leNat ((List.range 8).map byte))) }) ?_
    rw [exec_ldx, execLdx, State.clocked_issue _ hi, firstStop_of_passes hp]
    dsimp only
    rw [State.regOpen_of_cleanAt clean (by decide), State.checked_of (State.regPoison_of_cleanAt clean (by decide)), State.regBytes_fst clean (by decide),
      State.markChecked, State.advance, State.updCore_updCore, State.updCore_updCore]
  · refine onCore_of (g := fun k => { k with
      pc := k.pc + 1, d := k.d.set f.reg (cleanDesc (BitVec.ofNat 512 (leNat ((List.range 64).map byte))))
      checked := (k.checked ||| BitVec.twoPow 64 f.ds) &&& ~~~(BitVec.twoPow 64 f.reg) }) ?_
    rw [exec_lddesc, execLddesc, State.clocked_issue _ hi, firstStop_of_passes hp]
    dsimp only
    rw [State.regOpen_of_cleanAt clean (by decide), State.checked_of (State.regPoison_of_cleanAt clean (by decide)), State.regBytes_fst clean (by decide),
      State.markChecked, State.advance, State.updCore_updCore, State.updCore_updCore]
  · refine onCore_of (g := fun k => { k with
      pc := k.pc + 1, checked := k.checked ||| BitVec.twoPow 64 f.ds
      v := vset k.v f.reg.val (Vector.ofFn fun i =>
        ⟨BitVec.ofNat 32 (leNat ((List.range 4).map fun j => byte (4 * i.val + j))), false⟩) }) ?_
    have lane {i : Nat} (hi : i < 128) : (⟨BitVec.ofNat 32 (leNat (((((List.range 512).map fun i => (byte i, false)).drop (4 * i)).take 4).map Prod.fst)),
        ((((List.range 512).map fun i => (byte i, false)).drop (4 * i)).take 4).any Prod.snd⟩ : Lane)
        = ⟨BitVec.ofNat 32 (leNat ((List.range 4).map fun j => byte (4 * i + j))), false⟩ := by
      rw [take_four_drop _ hi, List.map_map]
      rfl
    rw [runsAs_checked hi (exec_ldv c h f s) hp]
    dsimp only
    rw [State.regOpen_of_cleanAt clean (by decide), State.regBytes_of_cleanAt clean (by decide),
      State.putV_all fun i hi => (congrArg Lane.poison (lane hi)).trans rfl, State.markChecked, State.advance, State.updCore_updCore, State.updCore_updCore]
    refine congrArg (fun r => Host.Outcome.next (s.ends ((s.countIssued c).updCore c r))) (funext fun k => ?_)
    exact congrArg (fun reg => ({ k with pc := k.pc + 1, checked := k.checked ||| BitVec.twoPow 64 f.ds, v := vset k.v f.reg.val reg } : Core))
      (congrArg Vector.ofFn (funext fun i : Fin 128 => lane i.isLt))

end Sys2Proof.Machine
end

section
/-! Tables, random draws and censuses (R57, R118, R140, R207 to R209, R216 to R219, R223). -/

set_option Elab.async false
namespace Sys2Proof.Machine

/-! ### TABLE and TABLE_SWAP -/

theorem or_executes_true {s : State} {c : CoreId} {h : Hdr} {cls : Nat} {all : Bool} (hi : s.issues c h cls all = true) {b : Bool} (hb : b = true) :
    (b && s.executes c h) = true := by rw [hb, State.issues_executes hi]; rfl

/-- A table load waits for its shadow copy and for its image (R57, R143). -/
theorem heldBack_tableLoad {i : Instr} {c : CoreId} {h : Hdr} {s : State} {op n : Nat} {f : TabF} {busy : Bool} {bad : List Byte → Option Stop}
    {fill : List Byte → Core → Core} (hi : s.issues c h clsTable false = true) (he : exec i s = s.clocked (s.tableLoad i c h op f n busy bad fill))
    (hw : s.bufferWaits c [((s.desc c f.ds).base + f.off.toNat, n)] = true ∨ busy = true) : heldBack i c s := by
  cases hb : busy with
  | true => exact heldBack_of hi he (or_executes_true hi hb)
  | false =>
    have wait := hw.resolve_right (by rw [hb]; exact Bool.false_ne_true)
    rw [State.tableLoad, hb, Bool.false_and, if_neg Bool.false_ne_true] at he
    exact heldBack_of_bufferWaits hi he wait

/-- A table load of a good image fills the shadow copy (R118, R140). -/
theorem exec_tableLoad {i : Instr} {c : CoreId} {h : Hdr} {s : State} {op n : Nat} {f : TabF} {busy : Bool} {bad : List Byte → Option Stop}
    {fill : List Byte → Core → Core} (hi : s.issues c h clsTable false = true) (he : exec i s = s.clocked (s.tableLoad i c h op f n busy bad fill))
    (hw : s.bufferWaits c [((s.desc c f.ds).base + f.off.toNat, n)] = false) (hb : busy = false)
    (hp : passes ((s.countIssued c).tableStops c op f n) = true)
    (good : bad (((s.countIssued c).markChecked c f.ds).imageBytes c ((s.desc c f.ds).base + f.off.toNat) n).1 = none) :
    exec i s = .next (s.ends (((((s.countIssued c).markChecked c f.ds).imageBytes c ((s.desc c f.ds).base + f.off.toNat) n).2.updCore c
      (fill (((s.countIssued c).markChecked c f.ds).imageBytes c ((s.desc c f.ds).base + f.off.toNat) n).1)).advance c)) := by
  rw [State.tableLoad, hb, Bool.false_and, if_neg Bool.false_ne_true] at he
  rw [exec_of_issueOver hi he hw, firstStop_of_passes hp]
  dsimp only
  rw [State.countIssued_desc, State.checked_of (by rw [passes, good]; rfl)]

theorem State.ends_updCore (s : State) (c : CoreId) (g : Core → Core) : s.ends (s.updCore c g) = s.updCore c g := State.ends_eq rfl rfl rfl

theorem exec_tableSwap_expansion {c : CoreId} {t : Fin 8} {s : State} {v : ExpTable} (clocks : s.power.clocks = true)
    (hv : s.cores[c].expShadow[t] = some v) : exec (.tableSwap c false t) s = .next (s.updCore c fun k =>
      { k with exps := k.exps.set t v, expShadow := k.expShadow.set t none, expVer := k.expVer.set t (k.expVer[t] + 1) }) := by
  rw [exec_tableSwap, execTableSwap, State.clocked_of clocks, State.ends_updCore]
  refine congrArg (fun k => Host.Outcome.next { s with cores := s.cores.set c k }) ?_
  dsimp only
  rw [hv]
  rfl

theorem exec_tableSwap_custom {c : CoreId} {t : Fin 8} {s : State} {v : CustomTable} (clocks : s.power.clocks = true)
    (hv : s.cores[c].custShadow[t] = some v) : exec (.tableSwap c true t) s = .next (s.updCore c fun k =>
      { k with custs := k.custs.set t v, custShadow := k.custShadow.set t none, custVer := k.custVer.set t (k.custVer[t] + 1) }) := by
  rw [exec_tableSwap, execTableSwap, State.clocked_of clocks, State.ends_updCore]
  refine congrArg (fun k => Host.Outcome.next { s with cores := s.cores.set c k }) ?_
  dsimp only
  rw [hv]
  rfl

/-- Settles O13. -/
theorem tableLoads : Obligations.TableLoads := by
  unfold Obligations.TableLoads
  intro c h f s clocks
  refine ⟨fun hi hw => ?_, fun hi hw => ?_, fun hi hw hb hp good => ?_, fun hi hw hb hp good => ?_, fun t v hv => ?_, fun t v hv => ?_⟩
  · exact heldBack_tableLoad hi (exec_tableExpansion c h f s) (hw.imp_right Option.isSome_iff_ne_none.mpr)
  · exact heldBack_tableLoad hi (exec_tableCustom c h f s) (hw.imp_right Option.isSome_iff_ne_none.mpr)
  · have free : (s.cores[c].expShadow[f.table]).isSome = false := by rw [show s.cores[c].expShadow[f.table] = none from hb]; rfl
    have run := exec_tableLoad hi (exec_tableExpansion c h f s) hw free hp good
    exact run
  · have free : (s.cores[c].custShadow[f.table]).isSome = false := by rw [show s.cores[c].custShadow[f.table] = none from hb]; rfl
    have run := exec_tableLoad hi (exec_tableCustom c h f s) hw free hp good
    exact run
  · exact exec_tableSwap_expansion clocks hv
  · exact exec_tableSwap_custom clocks hv

/-! ### RANDOM -/

theorem runsAs_random {i : Instr} {c : CoreId} {h : Hdr} {f : RandF} {s : State} {op : Nat} (hi : s.issues c h clsRandom false = true)
    (he : exec i s = s.clocked (s.random i c h op f)) (hp : passes ((s.countIssued c).randomStops c op f) = true) :
    runsAs i c s (fun s => s.randomRun c op f)
    ∧ (f.dstKind = 1#2 →
        let v := (s.countIssued c).randomVals c op f ((List.range 128).map fun i => (((s.xr c f.xi).toNat + i) % 2 ^ 64, i))
        runsAs i c s fun _ => v.2.writeV c f.dst.toNat (BitVec.allOnes 128) false fun i => ⟨v.1.getD i 0#32, false⟩) := by
  have run : runsAs i c s fun s => s.randomRun c op f := runsAs_checked hi he hp
  refine ⟨run, fun hk => runsAs_congr run ?_⟩
  rw [State.randomRun, hk, State.countIssued_xr]
  rfl

/-- Settles O14: every kind is the shared draw. -/
theorem randomRuns : Obligations.RandomRuns := by
  unfold Obligations.RandomRuns
  intro c h f s hi u p hmem hp
  simp only [List.mem_cons, List.not_mem_nil, or_false] at hmem
  obtain rfl | rfl | rfl | rfl := hmem
  · exact runsAs_random hi (exec_randomRaw c h f s) hp
  · exact runsAs_random hi (exec_randomUniform c h f s) hp
  · exact runsAs_random hi (exec_randomNormal c h f s) hp
  · exact runsAs_random hi (exec_randomBernoulli c h f s) hp

/-! ### CENSUS -/

/-- A census operation with nothing to wait for and its checks passed runs. -/
theorem runsAs_cen {i : Instr} {c : CoreId} {h : Hdr} {s : State} {stops : State → List (Option Stop)} {eff : State → State} {sp : Spans}
    (hi : s.issues c h clsCensus false = true) (he : exec i s = s.clocked (s.cen i c h stops eff sp)) (hw : s.bufferWaits c sp = false)
    (hp : passes (stops (s.countIssued c)) = true) : runsAs i c s eff := by
  rw [runsAs, exec_of_issueOver hi he hw, State.checked_of hp]

theorem censusSlots : holdsCensusSlots := by
  intro c h f s hi k
  refine ⟨fun h15 => ?_, fun h15 => ?_, ?_, ?_⟩
  · exact onCore_marks (g := fun k => { k with attach := k.attach.set f.d (some f.slot) })
      (runsAs_cen hi (exec_attach c h f s) (s.bufferWaits_nil c) (by rw [beq_eq_false_iff_ne.mpr h15]; rfl)) rfl
  · rw [exec_of_issueOver hi (exec_attach c h f s) (s.bufferWaits_nil c)]
    dsimp only
    rw [h15, State.checked_of_stop _ _ (e := (0x0700, [(s.cores[c].pc, 2), (13, 1), (0, 1), (60, 2)]))]
    rw [State.countIssued_wordOf]
    rfl
  · exact onCore_marks (g := fun k => { k with attach := k.attach.set f.d none })
      (runsAs_cen hi (exec_detach c h f s) (s.bufferWaits_nil c) rfl) rfl
  · exact onCore_marks (g := fun k => { k with census := k.census.set f.slot Census.zero })
      (runsAs_cen hi (exec_censusClear c h f s) (s.bufferWaits_nil c) rfl) rfl

/-- A fold over the indices that pass a test is a fold over what they give. -/
theorem foldl_filterMap_ite {α β γ : Type} (p : α → Prop) [DecidablePred p] (r : α → β) (f : γ → β → γ) (l : List α) (z : γ) :
    (l.filterMap fun a => if p a then some (r a) else none).foldl f z = (l.filter fun a => decide (p a)).foldl (fun n a => f n (r a)) z := by
  induction l generalizing z with
  | nil => rfl
  | cons a l ih =>
    by_cases h : p a
    · rw [List.filterMap_cons_some (b := r a) (by rw [if_pos h]), List.filter_cons_of_pos (by rw [decide_eq_true h]), List.foldl_cons, List.foldl_cons, ih]
    · rw [List.filterMap_cons_none (by rw [if_neg h]), List.filter_cons_of_neg (by rw [decide_eq_false h]; exact Bool.false_ne_true), ih]

/-- STORE waits for the bytes still in its core's hands (R256). -/
theorem exec_censusStore_cen {c : CoreId} {h : Hdr} {f : CenF} {s : State} (hl : (s.desc c f.d).loc = 3 → s.tailWaits c h (s.desc c f.d).pipe = false) :
    exec (.censusStore c h f) s = s.clocked (s.cen (.censusStore c h f) c h (fun s => s.censusStops c f) (fun s =>
      let d := s.desc c f.d
      let z := s.cores[c].census[f.slot]
      let bs := z.record (s.lq c) f.slot
      let at_ := s.storeAddr c f
      let s := s.markChecked c f.d
      let s := if d.loc = 3 then s.pipeWrite c d.pipe (bs.map fun b => (b, false)) else s.storeCells c d.loc (cellsAt at_ bs) []
      if f.slot.val < 8 then s.updCore c fun k => { k with folds := k.folds ++ [z] } else s)
      (if (s.desc c f.d).loc = 2 then [(s.storeAddr c f, 128)] else [])) := by
  refine clocked_holdBack_unless ?_ (exec_censusStore c h f s)
  by_cases h3 : (s.desc c f.d).loc = 3
  · rw [hl h3, Bool.and_false]
  · rw [beq_eq_false_iff_ne.mpr h3, Bool.false_and]

@[simp] theorem State.countIssued_storeAddr (s : State) (c d : CoreId) (f : CenF) : (s.countIssued c).storeAddr d f = s.storeAddr d f := by
  rw [State.storeAddr, State.countIssued_desc, State.countIssued_xr]
  rfl

theorem censusRecords : holdsCensusRecords := by
  intro c h f s hi u d v
  refine ⟨fun hw => ?_, fun hl hw => ?_, fun hl hw => ?_, fun hw hp => ?_, fun hl hw hp => ?_, fun hr => ?_⟩
  · exact heldBack_of_bufferWaits hi (exec_censusScan c h f s) hw
  · refine heldBack_of_bufferWaits hi (exec_censusStore_cen fun h3 => absurd (hl.symm.trans h3) (by decide)) ?_
    rw [if_pos hl]
    exact hw
  · exact heldBack_of hi (exec_censusStore c h f s) (by rw [beq_iff_eq.mpr hl, hw]; rfl)
  · refine runsAs_congr (runsAs_cen hi (exec_censusScan c h f s) hw ?_) ?_
    · rw [State.countIssued_wordOf, State.countIssued_desc]
      exact hp
    · dsimp only
      rw [foldl_filterMap_ite, State.countIssued_desc]
  · refine runsAs_congr (runsAs_cen hi (exec_censusStore_cen hl) ?_ hp) ?_
    · split
      · next h2 => exact hw h2
      · exact s.bufferWaits_nil c
    · dsimp only
      rw [State.countIssued_desc, State.countIssued_cores, State.countIssued_lq, State.countIssued_storeAddr, State.countIssued_xr]
      rfl
  · refine runsAs_congr (runsAs_cen hi (exec_seal c h f s) (s.bufferWaits_nil c) ?_) ?_
    · rw [State.inRegions, Option.isNone_iff_eq_none] at hr
      rw [State.countIssued_vatOf]
      dsimp only
      rw [hr]
      rfl
    · rw [State.countIssued_vatOf]

/-- Settles O15. -/
theorem census : Obligations.Census := ⟨censusSlots, censusRecords⟩

end Sys2Proof.Machine
end

section
/-! O20, O21, O22, O23, O26: the commands of the apertures (R280 to R286), each row's own effect under `takesAs_of`. -/

set_option Elab.async false
namespace Sys2Proof.Machine

/-! ### A row whose effect is one list of checks -/

/-- A row whose effect is `checkAll` of its checks before its effect takes its command as R284 says. -/
theorem takesAs_of_checkAll {mk : FrameWrite → Instr} {mine : Cmd → Bool} {checks : State → Cmd → List (Bool × Nat)}
    {post : State → Cmd → State} (eff : State → Cmd → Except Refused State)
    (he : ∀ w s, exec (mk w) s = s.clocked (s.command w mine eff))
    (hk : ∀ t c, eff t c = checkAll (checks t c) (.ok (post t c))) : takesAs mk mine checks post :=
  takesAs_of eff he fun t c _ => by rw [hk]; exact checkAll_cases _ _

/-- LAUNCH of each kind (R286). -/
theorem holdsLaunchCommands_holds : holdsLaunchCommands :=
  ⟨takesAs_of_checkAll State.takeLaunch (fun w s => exec_launchRun w s) fun _ _ => rfl,
   takesAs_of_checkAll State.takeLaunch (fun w s => exec_launchLoad w s) fun _ _ => rfl,
   takesAs_of_checkAll State.takeLaunch (fun w s => exec_launchRestore w s) fun _ _ => rfl⟩

/-- PREEMPT's effect: its two checks, then the request (R298). -/
theorem State.takePreempt_cases (s : State) (c : Cmd) :
    s.takePreempt c = checkAll [(!s.slotIn c.vat (c.field 1 11 0), 2), ((s.launchAt (c.field 1 11 0)).all fun l => !l.started || l.vat != c.vat, 6)]
      (.ok ((s.updLaunch (c.field 1 11 0) fun l => { l with preSlots := l.preSlots ++ [c.slot] }).requestPreempt (c.field 1 11 0))) := by
  unfold State.takePreempt
  cases hl : s.launchAt (c.field 1 11 0) with
  | none => cases hs : s.slotIn c.vat (c.field 1 11 0) <;> simp [hl, hs, checkAll]
  | some l => simp [hl]

/-- CANCEL's effect: its two checks, then the waiting launch or the pending join ends (R301). -/
theorem State.takeCancel_cases (s : State) (c : Cmd) :
    s.takeCancel c = checkAll [(!s.slotIn c.vat (c.field 1 11 0), 2),
        ((s.launches.find? fun l : Launch => l.slot == c.field 1 11 0 && l.vat == c.vat && !l.started).isNone
          && (s.joins.find? fun j : JoinRec => j.slot == c.field 1 11 0 && j.vat == c.vat).isNone, 6)]
      (.ok ((match s.launches.find? fun l : Launch => l.slot == c.field 1 11 0 && l.vat == c.vat && !l.started,
          s.joins.find? fun j : JoinRec => j.slot == c.field 1 11 0 && j.vat == c.vat with
        | some l, _ => s.cancelLaunch l 0
        | none, some j => s.cancelJoin j 0
        | none, none => s).doneCmd c)) := by
  unfold State.takeCancel
  cases hl : s.launches.find? fun l : Launch => l.slot == c.field 1 11 0 && l.vat == c.vat && !l.started <;>
    cases hj : s.joins.find? fun j : JoinRec => j.slot == c.field 1 11 0 && j.vat == c.vat <;>
    cases hs : s.slotIn c.vat (c.field 1 11 0) <;> simp [hl, hj, hs, checkAll]

/-- PREEMPT, CANCEL and SEED (Table 15-2). -/
theorem holdsLaunchControl_holds : holdsLaunchControl :=
  ⟨takesAs_of_checkAll State.takePreempt (fun w s => exec_preemptCommand w s) State.takePreempt_cases,
   takesAs_of_checkAll State.takeCancel (fun w s => exec_cancelCommand w s) State.takeCancel_cases,
   takesAs_of_checkAll State.takeSeed (fun w s => exec_seedCommand w s) fun _ _ => rfl⟩

/-- Settles O20: the launch commands are one list of checks before their effect; PREEMPT and CANCEL by what their target is. -/
theorem launchAperture : Obligations.LaunchAperture := by
  unfold Obligations.LaunchAperture
  exact ⟨holdsLaunchCommands_holds, holdsLaunchControl_holds⟩

/-- Settles O21: JOIN, LEAVE and GROWTH are each one list of checks before their effect. -/
theorem batchCommands : Obligations.BatchCommands := by
  unfold Obligations.BatchCommands
  exact ⟨takesAs_of_checkAll State.takeJoin (fun w s => exec_joinCommand w s) fun _ _ => rfl,
    takesAs_of_checkAll State.takeLeave (fun w s => exec_leaveCommand w s) fun _ _ => rfl,
    takesAs_of_checkAll State.takeGrowth (fun w s => exec_growthCommand w s) fun _ _ => rfl⟩

/-! ### O22: areas, rennets, layouts and pipes -/

/-- Whether two pipes have the same shape is the comparison of their seven numbers (R254). -/
theorem State.takePipeConfigure_eq (s : State) (c : Cmd) :
    s.takePipeConfigure c = checkAll (s.pipeChecks c c.newPipe (s.pipes[c.pipe].state != 1
      || (!(s.pipes[c.pipe].empty && !s.pipeRead c.pipe)
        && !(s.pipes[c.pipe].k == c.newPipe.k && s.pipes[c.pipe].wheyBase == c.newPipe.wheyBase && s.pipes[c.pipe].whey == c.newPipe.whey
          && s.pipes[c.pipe].prodHub == c.newPipe.prodHub && s.pipes[c.pipe].prod == c.newPipe.prod
          && s.pipes[c.pipe].consHub == c.newPipe.consHub && s.pipes[c.pipe].cons == c.newPipe.cons))))
      (.ok ((s.pipeSet c.vat c.pipe { s.pipes[c.pipe] with
        k := c.newPipe.k, short := c.newPipe.short, threshold := c.newPipe.threshold, prodHub := c.newPipe.prodHub
        prod := c.newPipe.prod, consHub := c.newPipe.consHub, cons := c.newPipe.cons, wheyBase := c.newPipe.wheyBase
        whey := c.newPipe.whey, notice := c.newPipe.notice, noticeOn := c.newPipe.noticeOn
        head := if s.pipes[c.pipe].noticeOn then s.pipes[c.pipe].head
          else s.pipes[c.pipe].head.map fun k => { k with noticed := true } }).doneCmd c)) := by
  simp only [State.takePipeConfigure, bne, Bool.and_assoc]
  rfl

/-- SWAPAREA and RENNET (Table 15-2, R260). -/
theorem holdsAreaAndRennetCommands_holds : holdsAreaAndRennetCommands :=
  ⟨takesAs_of_checkAll State.takeSwapArea (fun w s => exec_swapAreaCommand w s) fun _ _ => rfl,
   takesAs_of_checkAll State.takeRennet (fun w s => exec_rennetCommand w s) fun _ _ => rfl⟩

/-- PIPE (R253, R254, R259). -/
theorem holdsPipeCommands_holds : holdsPipeCommands :=
  ⟨takesAs_of_checkAll State.takePipeOpen (fun w s => exec_pipeOpen w s) fun _ _ => rfl,
   takesAs_of_checkAll State.takePipeClose (fun w s => exec_pipeClose w s) fun _ _ => rfl,
   takesAs_of_checkAll State.takePipeConfigure (fun w s => exec_pipeConfigure w s) State.takePipeConfigure_eq⟩

/-- A command that comes whole to a package that takes it, its slot RELEASED: it is taken and its row's effect is run, or it is
refused with reason 7 in a stopped vat (R284, R281). -/
theorem State.command_taken (s : State) (w : FrameWrite) (mine : Cmd → Bool) (eff : State → Cmd → Except Refused State)
    (hc : s.comes w = true) (hm : mine (s.cmdOf w) = true) (hn : s.takesNone = false) (hw : s.host.waiting = [])
    (hi : s.slotIn (s.cmdOf w).vat (s.cmdOf w).slot = true) (hr : (s.rslot (s.cmdOf w).slot).state = 0) :
    s.command w mine eff = if !(s.takenAt w).vatRunning (s.cmdOf w).vat && !whileStopped (s.cmdOf w).code then
        (s.takenAt w).refuseCmd (s.cmdOf w) ⟨7, none⟩
      else match eff (s.takenAt w) (s.cmdOf w) with
        | .ok t => t
        | .error r => (s.takenAt w).refuseCmd (s.cmdOf w) r := by
  obtain ⟨hslot, hrs, -, -⟩ := s.cleared_slots w
  rw [s.command_of w mine eff hc hm, if_neg (by simp [hn, hw]), State.takeCmd, if_neg (by rw [hslot, hrs, hi, hr]; decide)]
  rfl

/-- LAYOUT (R169, Table 15-2): a layout command is one of those a stopped vat takes. -/
theorem holdsLayoutCommand_holds : holdsLayoutCommand := by
  intro w s hclk hc hcode hn hw c t n hi hr bad
  have key : exec (.layoutCommand w) s = .next (s.ends (match t.takeLayout c with
      | .ok t' => t'
      | .error r => t.refuseCmd c r)) := by
    rw [exec_layoutCommand, execLayoutCommand, State.clocked_of hclk,
      s.command_taken w _ _ hc (by simp [hcode]) hn hw hi hr, if_neg (by rw [hcode]; simp [whileStopped])]
  rw [key]
  refine ⟨fun hb => ?_, fun hb => ⟨t.free.1, ?_⟩⟩
  · rw [State.takeLayout, if_neg (show ¬ bad = true by rw [hb]; decide)]
  · rw [State.takeLayout, if_pos (show bad = true from hb)]

/-- Settles O22: each command is one list of checks before its effect, LAYOUT a refusal with an event of its own. -/
theorem tableCommands : Obligations.TableCommands := by
  unfold Obligations.TableCommands
  exact ⟨holdsAreaAndRennetCommands_holds, holdsLayoutCommand_holds, holdsPipeCommands_holds⟩

/-! ### O26: UNITOP -/

/-- A unit operation's effect in the three refusals of R26 and R280 and the request. -/
theorem State.unitop_eq (s : State) (c : Cmd) : s.unitop c = .ok (
    if c.fn ≠ 0 then
      (s.auditRec { AuditEntry.plain 8 4 4 10 with vat := c.vat.val, path := c.field 1 15 0 }).refuseCmd c ⟨10, none⟩
    else match unitOfPath (c.field 1 15 0) with
    | none => (s.auditRec { AuditEntry.plain 8 4 4 2 with vat := c.vat.val, path := c.field 1 15 0 }).refuseCmd c ⟨16, none⟩
    | some u => if s.foreign c.vat u then
        (s.auditRec { AuditEntry.plain 8 4 4 2 with vat := c.vat.val, path := c.field 1 15 0 }).refuseCmd c ⟨2, none⟩
      else s.submitReq ⟨u, BitVec.ofNat 8 (c.field 1 23 16), c.pair 2, BitVec.ofNat 16 (c.field 4 15 0), .driver, 0#16,
        List.replicate 8 0#8, 4, some ⟨c.fn, c.slot, c.vat, c.frame⟩⟩) := by
  unfold State.unitop
  by_cases h : c.fn ≠ 0
  · simp only [if_pos h]
  · simp only [if_neg h]
    cases hu : unitOfPath (c.field 1 15 0) with
    | none => rfl
    | some u =>
      simp only
      split <;> rfl

/-- A row of UNITOP that gives its frames to `unitOperation` with its code does what R26 says of that code. -/
theorem unitopAs_of {mk : UnitSrc → Instr} {op : Nat} (he : ∀ r s, exec (mk r) s = s.clocked (s.unitOperation r op)) : unitopAs mk op :=
  takesAs_of (fun s c => s.unitop c) (fun w s => he (.frame w) s) fun t c hc => by
    obtain ⟨-, hop⟩ := Bool.and_eq_true_iff.mp hc
    refine ⟨fun b hb => by simp at hb, fun _ => ?_⟩
    rw [t.unitop_eq c, beq_iff_eq.mp hop] <;> rfl

/-- Settles O26: the six operations of Table 2-7 differ in their code alone. -/
theorem unitCommands : Obligations.UnitCommands := by
  unfold Obligations.UnitCommands
  exact ⟨unitopAs_of fun r s => exec_unitHold r s, unitopAs_of fun r s => exec_unitReadmit r s,
    unitopAs_of fun r s => exec_unitTailDrop r s, unitopAs_of fun r s => exec_unitUpdateImage r s,
    unitopAs_of fun r s => exec_unitRecalibrate r s, unitopAs_of fun r s => exec_unitReclaim r s⟩

/-! ### O23: frames and pending slots -/

/-- Bytes set one after another from `a` on, as the cells of a write whose words are all clean. -/
theorem setBytes_eq (a : Nat) (bs : List Byte) (m : Sparse Byte) :
    bs.zipIdx.foldl (fun m p => Sparse.set 0#8 m (a + p.2) p.1) m
      = (cellsAt a bs).foldl (fun b c => if (fun _ => false) (c.1 / 16) then b else Sparse.set 0#8 b c.1 c.2) m := by
  simp only [cellsAt, List.foldl_map, Bool.false_eq_true, if_false]

/-- The bytes outside a run of bytes set are as before. -/
theorem get_setBytes_outside {a k : Nat} {bs : List Byte} (m : Sparse Byte) (h : k < a ∨ a + bs.length ≤ k) :
    Sparse.get 0#8 (bs.zipIdx.foldl (fun m p => Sparse.set 0#8 m (a + p.2) p.1) m) k = Sparse.get 0#8 m k := by
  rw [setBytes_eq]
  exact get_bytes_foldl_of_kept (fun _ => false) k _ m fun p hp e => absurd (mem_cellsAt hp) (by omega)

/-- A byte of a run of bytes set reads back. -/
theorem get_setBytes_inside {a i : Nat} {bs : List Byte} {m : Sparse Byte} (hm : Sparse.wf 0#8 m = true) (h : i < bs.length) :
    Sparse.get 0#8 (bs.zipIdx.foldl (fun m p => Sparse.set 0#8 m (a + p.2) p.1) m) (a + i) = bs.getD i 0#8 := by
  rw [setBytes_eq]
  exact get_bytes_foldl_cellsAt (fun _ => false) h a m hm rfl

/-- A run of bytes set leaves the buffers in canonical form. -/
theorem wf_setBytes {bs : List (Byte × Nat)} {a : Nat} {m : Sparse Byte} (hm : Sparse.wf 0#8 m = true) :
    Sparse.wf 0#8 (bs.foldl (fun m p => Sparse.set 0#8 m (a + p.2) p.1) m) = true := by
  induction bs generalizing m with
  | nil => exact hm
  | cons p bs ih => exact ih (Sparse.wf_set _ _ _ _ hm)

/-- The assembly buffers of a function after a write's bytes, the part beyond a frame boundary in the next frame (R282, R327). -/
def framesWritten (w : FrameWrite) (m : Sparse Byte) : Sparse Byte :=
  let store (w : FrameWrite) (m : Sparse Byte) : Sparse Byte :=
    w.data.zipIdx.foldl (fun m p => Sparse.set 0#8 m (frameKey w + w.off + p.2) p.1) m
  store (lastPart w) (if crosses w then store (firstPart w) m else m)

/-- Accumulating a write changes its function's assembly buffers alone (R282). -/
theorem State.frameBody_frameStore (s : State) (w : FrameWrite) : (s.frameBody w).frameStore (lastPart w)
    = s.updFunc w.fn fun g => { g with frames := framesWritten w g.frames } := by
  unfold State.frameBody framesWritten lastPart
  split
  · simp [State.frameStore, State.updFunc, firstPart]
  · rfl

/-- A write that crosses a frame boundary lies in two adjacent runs of bytes. -/
theorem framesWritten_of_crosses {w : FrameWrite} (h : crosses w = true) (m : Sparse Byte) : framesWritten w m
    = (w.data.drop (512 - w.off)).zipIdx.foldl (fun m p => Sparse.set 0#8 m (frameKey w + 512 + p.2) p.1)
        ((w.data.take (512 - w.off)).zipIdx.foldl (fun m p => Sparse.set 0#8 m (frameKey w + w.off + p.2) p.1) m) := by
  have key : frameKey (lastPart w) + (lastPart w).off = frameKey w + 512 := by
    simp only [lastPart, h, if_true, frameKey]; omega
  have data : (lastPart w).data = w.data.drop (512 - w.off) := by simp only [lastPart, h, if_true]
  simp only [framesWritten, h, if_true, key, data]
  rfl

theorem framesWritten_of_inside {w : FrameWrite} (h : crosses w = false) (m : Sparse Byte) :
    framesWritten w m = w.data.zipIdx.foldl (fun m p => Sparse.set 0#8 m (frameKey w + w.off + p.2) p.1) m := by
  simp only [framesWritten, lastPart, h, Bool.false_eq_true, if_false]

/-- The bytes outside a write are as before. -/
theorem get_framesWritten_outside {w : FrameWrite} (hoff : w.off < 512) {k : Nat} (m : Sparse Byte)
    (hk : k < frameKey w + w.off ∨ frameKey w + w.off + w.data.length ≤ k) :
    Sparse.get 0#8 (framesWritten w m) k = Sparse.get 0#8 m k := by
  cases hx : crosses w with
  | false => rw [framesWritten_of_inside hx, get_setBytes_outside m hk]
  | true =>
    have long : 512 < w.off + w.data.length := of_decide_eq_true hx
    rw [framesWritten_of_crosses hx, get_setBytes_outside _ (by rw [List.length_drop]; omega),
      get_setBytes_outside m (by rw [List.length_take]; omega)]

/-- A byte of a write reads back from the assembly buffers. -/
theorem get_framesWritten_inside {w : FrameWrite} (hoff : w.off < 512) {i : Nat} {m : Sparse Byte} (hm : Sparse.wf 0#8 m = true)
    (hi : i < w.data.length) : Sparse.get 0#8 (framesWritten w m) (frameKey w + w.off + i) = w.data.getD i 0#8 := by
  cases hx : crosses w with
  | false => rw [framesWritten_of_inside hx, get_setBytes_inside hm hi]
  | true =>
    have long : 512 < w.off + w.data.length := of_decide_eq_true hx
    rw [framesWritten_of_crosses hx]
    by_cases first : i < 512 - w.off
    · rw [get_setBytes_outside _ (by omega), get_setBytes_inside hm (by rw [List.length_take]; omega)]
      simp [List.getD_eq_getElem?_getD, first]
    · obtain ⟨j, rfl⟩ : ∃ j, i = 512 - w.off + j := ⟨i - (512 - w.off), by omega⟩
      have at_ : frameKey w + w.off + (512 - w.off + j) = frameKey w + 512 + j := by omega
      rw [at_, get_setBytes_inside (wf_setBytes hm) (by rw [List.length_drop]; omega)]
      simp [List.getD_eq_getElem?_getD, List.getElem?_drop]

theorem State.updFunc_func_ne (s : State) {f g : FnNo} (k : Func → Func) (h : g ≠ f) : (s.updFunc f k).funcs[g] = s.funcs[g] := by
  show (s.funcs.set f (k s.funcs[f]))[g] = s.funcs[g]
  rw [Fin.getElem_fin, Vector.getElem_set_ne _ _ fun e => h (Fin.ext e.symm)]
  rfl

/-- A stopped vat takes no reserved code (R281). -/
theorem whileStopped_of_reserved {code : Nat} (h : code = 0 ∨ 12 < code) : whileStopped code = false := by
  simp only [whileStopped, List.contains_eq_mem, decide_eq_false_iff_not, List.mem_cons, List.not_mem_nil, or_false]
  omega

/-- The commands `commandFrameWrite` takes of the two kinds of its row (Table 15-2). -/
theorem holdsFrameWrites_holds : holdsFrameWrites := by
  refine ⟨fun w s hclk hok hide hno => ?_, fun w s hclk hok hide => ?_, ?_⟩
  · have hoff : w.off < 512 := (of_decide_eq_true (Bool.and_eq_true_iff.mp hok).2).1
    refine ⟨s.updFunc w.fn fun g => { g with frames := framesWritten w g.frames }, ?_, rfl, fun g hg => ?_, ?_, fun k hk => ?_, fun hm i hi => ?_⟩
    · rw [exec_commandFrameWrite, execCommandFrameWrite, State.clocked_of hclk, if_neg (by simp [hok]), if_neg (by simp [hide]),
        if_pos (by simp [hno]), State.frameBody_frameStore,
        s.ends_eq (t := s.updFunc w.fn _) rfl rfl rfl]
    · exact s.updFunc_func_ne _ hg
    · simp only [State.updFunc, Fin.getElem_fin, Vector.getElem_set_self]
    · simp only [State.updFunc, Fin.getElem_fin, Vector.getElem_set_self]
      exact get_framesWritten_outside hoff _ hk
    · simp only [State.updFunc, Fin.getElem_fin, Vector.getElem_set_self]
      exact get_framesWritten_inside hoff hm hi
  · rw [exec_commandFrameWrite, execCommandFrameWrite, State.clocked_of hclk, if_neg (by simp [hok]), if_pos (by simp [hide])]
  · intro w s hclk hc hn hw c t hi hr
    have hcm := hc
    simp only [State.comes, Bool.and_eq_true] at hcm
    obtain ⟨⟨hok, hide⟩, hcov⟩ := hcm
    have run : exec (.commandFrameWrite w) s = .next (s.ends (s.command w
        (fun c => decide (c.code = 0 ∨ 12 < c.code) || (c.code == 12 && decide (c.field 1 23 16 = 0 ∨ 6 < c.field 1 23 16)))
        fun s c => if c.code = 12 then s.unitop c else refuse 1)) := by
      rw [exec_commandFrameWrite, execCommandFrameWrite, State.clocked_of hclk, if_neg (by simp [hok]), if_neg (by simp [hide]),
        if_neg (by simp [hcov])]
    refine ⟨fun hcode => ?_, fun u hcode hop hfn hu hf => ?_⟩
    · rw [run, s.command_taken w _ _ hc (by simp [show (s.cmdOf w).code = 0 ∨ 12 < (s.cmdOf w).code from hcode]) hn hw hi hr,
        if_neg (show ¬ (s.cmdOf w).code = 12 by rintro e; rw [show c.code = 12 from e] at hcode; omega)]
      have open_ : whileStopped (s.cmdOf w).code = false := whileStopped_of_reserved hcode
      cases hv : t.vatRunning c.vat <;> simp_all [t, c, refuse]
    · rw [run, s.command_taken w _ _ hc
        (by simp [show (s.cmdOf w).code = 12 from hcode, show (s.cmdOf w).field 1 23 16 = 0 ∨ 6 < (s.cmdOf w).field 1 23 16 from hop]) hn hw hi hr,
        if_neg (by rw [show (s.cmdOf w).code = 12 from hcode]; simp [whileStopped]), if_pos hcode, State.unitop_eq]
      rw [if_neg (Classical.not_not.mpr hfn), hu]
      exact congrArg (fun x => Host.Outcome.next (s.ends x)) (if_neg (show ¬ t.foreign c.vat u = true by rw [hf]; decide))

/-- A result slot set to a value that is not the reset one reads back, in whatever form the slots are. -/
theorem State.rslot_setRslot_of_ne_reset (s : State) (r : Nat) {x : RSlot} (hx : x ≠ RSlot.reset) : (s.setRslot r x).rslot r = x := by
  rw [State.rslot, State.setRslot, Sparse.set, if_neg hx, Sparse.get_put, if_pos rfl]

/-- Word 1 of a pending slot: state 1 in its top four bits over the code (R292). -/
theorem pendingWord_toNat {code : Nat} (h : code < 256) : (BitVec.ofNat 32 (2 ^ 28 + code * 2 ^ 20)).toNat = 2 ^ 28 + code * 2 ^ 20 := by
  rw [BitVec.toNat_ofNat]; omega

/-- A slot that becomes PENDING is not as it was at reset, so it reads back (R292). -/
theorem State.rslot_slotPending (s : State) (r : Nat) {code : Nat} (h : code < 256) : (s.slotPending r code).rslot r
    = ⟨#v[(s.rslot r).w[0], BitVec.ofNat 32 (2 ^ 28 + code * 2 ^ 20), 0#32, 0#32, 0#32, 0#32, 0#32, 0#32, 0#32, 0#32,
        0#32, 0#32, 0#32, 0#32, 0#32, 0#32]⟩ := by
  refine s.rslot_setRslot_of_ne_reset r fun e => ?_
  have word : BitVec.ofNat 32 (2 ^ 28 + code * 2 ^ 20) = 0#32 := congrArg (fun x : RSlot => x.w[1]) e
  have := pendingWord_toNat h
  rw [word, BitVec.toNat_zero] at this
  omega

/-- Words 2 to 15 of a pending slot are zero (R292). -/
theorem pendingWord_zero (a b : Word) (i : Fin 16) (hi : 2 ≤ i.val) :
    (#v[a, b, 0#32, 0#32, 0#32, 0#32, 0#32, 0#32, 0#32, 0#32, 0#32, 0#32, 0#32, 0#32, 0#32, 0#32] : Vector Word 16)[i] = 0#32 := by
  match i, hi with
  | ⟨n + 2, hn⟩, _ => exact List.getElem_replicate (n := 14) (a := 0#32) (show n < _ by rw [List.length_replicate]; omega)

/-- A command word whose slot is RELEASED becomes PENDING (R292). -/
theorem holdsSlotPending_holds : holdsSlotPending := by
  intro s r code hcode t
  have slot : t.rslot r = _ := s.rslot_slotPending r hcode
  refine ⟨?_, ?_, ?_, fun i hi => ?_, fun q hq => s.rslot_setRslot_ne _ hq, rfl⟩
  · rw [slot, RSlot.state]
    simp only [Vector.getElem_mk, List.getElem_toArray, List.getElem_cons_succ, List.getElem_cons_zero]
    rw [pendingWord_toNat hcode]
    omega
  · rw [slot]; rfl
  · rw [slot]; rfl
  · rw [slot]
    exact pendingWord_zero _ _ i hi

/-- Settles O23: what a frame write does before it is a command, and the slot a command takes. -/
theorem commandFrames : Obligations.CommandFrames := by
  unfold Obligations.CommandFrames
  exact ⟨holdsFrameWrites_holds, holdsSlotPending_holds⟩

end Sys2Proof.Machine
end

section
/-! What telling of a unit's change, and what an audit record, can change: events and what is sent, as in `State.Reported`, and the lists
and pools that follow the states of units; every other field is as before. -/

set_option Elab.async false
namespace Sys2Proof.Machine

/-- Two states alike but for what `State.Reported` leaves open, the audit ring and its mirror, the twin's credits, the cores lost, the
fabric ports and their bindings. -/
def State.Notes (s t : State) : Prop :=
  t = { s with events := t.events, evCount := t.evCount, evBeat := t.evBeat, raised := t.raised, vol := t.vol, funcs := t.funcs,
               host := t.host, out := t.out, audit := t.audit, mirrorBeat := t.mirrorBeat, twinPool := t.twinPool,
               lostCores := t.lostCores, fports := t.fports, bindings := t.bindings }

namespace State.Notes

theorem refl (s : State) : s.Notes s := rfl

theorem trans {s t u : State} (h : s.Notes t) (k : t.Notes u) : s.Notes u := by
  unfold State.Notes at *
  rw [k, h]

theorem of_reported {s t : State} (h : s.Reported t) : s.Notes t := by
  unfold State.Reported at h
  unfold State.Notes
  rw [h]

section
variable {s t : State} (h : s.Notes t)
include h

theorem pending : t.pending = s.pending := by rw [h]
theorem cores : t.cores = s.cores := by rw [h]
theorem units : t.units = s.units := by rw [h]
theorem launches : t.launches = s.launches := by rw [h]
theorem results : t.results = s.results := by rw [h]
theorem cfg : t.cfg = s.cfg := by rw [h]
theorem freeIx : t.freeIx = s.freeIx := by rw [h]
theorem hbm : t.hbm = s.hbm := by rw [h]
theorem dieBuf : t.dieBuf = s.dieBuf := by rw [h]
theorem hubBuf : t.hubBuf = s.hubBuf := by rw [h]
theorem sessions : t.sessions = s.sessions := by rw [h]
theorem fuseBanks : t.fuseBanks = s.fuseBanks := by rw [h]
theorem unlocking : t.unlocking = s.unlocking := by rw [h]
theorem rennets : t.rennets = s.rennets := by rw [h]
theorem retries : t.retries = s.retries := by rw [h]
theorem pipes : t.pipes = s.pipes := by rw [h]
theorem seqs : t.seqs = s.seqs := by rw [h]
theorem power : t.power = s.power := by rw [h]

end

/-- A fold of steps that each tell of something tells of all of it. -/
theorem foldl {β : Type} {f : State → β → State} (h : ∀ (s : State) b, s.Notes (f s b)) (l : List β) (s : State) : s.Notes (l.foldl f s) := by
  induction l generalizing s with
  | nil => exact refl s
  | cons b l ih => exact (h s b).trans (ih _)

end State.Notes

theorem State.notes_raise (s : State) (code path : Nat) (fs : List (Nat × Nat)) : s.Notes (s.raise code path fs) :=
  .of_reported (s.reported_raise code path fs)

theorem State.notes_send (s : State) (m : OutMsg) : s.Notes (s.send m) := .of_reported (s.reported_send m)

theorem State.notes_setVol (s : State) (k v : Nat) : s.Notes (s.setVol k v) := rfl
theorem State.notes_host (s : State) (h : HostPort) : s.Notes { s with host := h } := rfl
theorem State.notes_twinPool (s : State) (p : TwinPool) : s.Notes { s with twinPool := p } := rfl
theorem State.notes_fports (s : State) (p : Vector FPort 8) : s.Notes { s with fports := p } := rfl
theorem State.notes_audit (s : State) (l : List (List Byte)) : s.Notes { s with audit := l } := rfl
theorem State.notes_mirrorBeat (s : State) (b : Bool) : s.Notes { s with mirrorBeat := b } := rfl

/-- A volatile entry set where something holds. -/
theorem State.notes_setVol_ite (s : State) (b : Prop) [Decidable b] (k v : Nat) : s.Notes (if b then s.setVol k v else s) := by
  split
  · exact s.notes_setVol k v
  · exact .refl s

theorem State.notes_sendMgmt (s : State) (m : OutMsg) : s.Notes (s.sendMgmt m) := by
  unfold State.sendMgmt
  split
  · exact s.notes_send m
  · exact .refl s

theorem State.notes_sendTwin (s : State) (cls : Fin 4) (m : OutMsg) : s.Notes (s.sendTwin cls m) := by
  unfold State.sendTwin
  dsimp only
  split <;> rfl

theorem State.notes_twinReturns (s : State) (n : Vector Nat 4) : s.Notes (s.twinReturns n) := by
  unfold State.twinReturns
  exact (s.notes_twinPool _).trans (State.Notes.foldl (fun s (w : Fin 4 × OutMsg) => s.notes_sendTwin w.1 w.2) _ _)

theorem State.notes_count48 (s : State) (key : Nat) : s.Notes (s.count48 key) := by
  unfold State.count48
  dsimp only
  split
  · exact .refl s
  · split <;> rfl

theorem State.notes_noteLost (s : State) (u : UnitNo) : s.Notes (s.noteLost u) := by
  unfold State.noteLost
  split
  · dsimp only
    split
    · split
      · split <;> rfl
      · rfl
    · rfl
  · rfl

theorem State.notes_driveHold (s : State) (before after : Bool) : s.Notes (s.driveHold before after) := by
  unfold State.driveHold
  split
  · exact (s.notes_send _).trans (State.notes_sendMgmt _ _)
  · split
    · exact s.notes_send _
    · exact .refl s

theorem State.notes_noteHold (s : State) (old : UView) : s.Notes (s.noteHold old) := by
  unfold State.noteHold
  dsimp only
  split
  · exact .refl s
  · split
    · exact (s.notes_driveHold _ _).trans (State.notes_sendMgmt _ _)
    · exact s.notes_driveHold _ _

theorem State.notes_serveBound (s : State) (h : HostBound) : s.Notes (s.serveBound h) := by
  unfold State.serveBound
  exact ((s.notes_host _).trans (.of_reported (State.reported_asks _ h))).trans (State.notes_setVol_ite _ _ _ _)

theorem State.notes_serveHost (n : Nat) (s : State) : s.Notes (State.serveHost n s) := by
  induction n generalizing s with
  | zero => exact .refl s
  | succ n ih =>
    unfold State.serveHost
    split
    · exact .refl s
    · exact (s.notes_serveBound _).trans (ih _)

theorem State.notes_flushHost (s : State) : s.Notes s.flushHost := by
  unfold State.flushHost
  split
  · exact State.notes_serveHost _ s
  · exact .refl s

theorem State.notes_pathsLost (s : State) : s.Notes s.pathsLost := by
  unfold State.pathsLost
  refine State.Notes.foldl (fun s b => ?_) _ _
  split
  · rfl
  · exact .refl s

theorem State.notes_portAway (s : State) (p : Fin 8) : s.Notes (s.portAway p) := by
  unfold State.portAway
  split
  · exact (s.notes_fports _).trans (State.notes_pathsLost _)
  · exact .refl s

/-- What follows a change of a unit's state tells of it (R31, R332, R349). -/
theorem State.notes_noteChange (s : State) (u : UnitNo) (old : UView) : s.Notes (s.noteChange u old) := by
  unfold State.noteChange
  refine (s.notes_noteLost u).trans ?_
  dsimp only
  split
  · exact State.notes_noteHold _ _
  split
  · exact State.notes_flushHost _
  split
  · exact State.notes_twinReturns _ _
  split
  · exact State.notes_portAway _ _
  · exact .refl _

/-- A unit's view adopted: its record changed, and the change told (R23). -/
theorem State.notes_adoptView (s : State) (u : UnitNo) (v : UView) :
    (s.updUnit u fun r => { r with mg := v, dp := v, lastBeat := s.beat }).Notes (s.adoptView u v) := by
  unfold State.adoptView
  exact ((State.notes_count48 _ _).trans (State.notes_raise _ _ _ _)).trans (State.notes_noteChange _ _ _)

theorem State.notes_mirrorAudit (s : State) (seq : Nat) (r : List Byte) : s.Notes (s.mirrorAudit seq r) := by
  unfold State.mirrorAudit
  dsimp only
  split
  · exact .refl s
  · have sent := State.Notes.of_reported (s.reported_toHost 0 16
      ⟨.host, 0, [0, s.cfgAt (ek 0x9000 2) + (seq + 2 ^ 32 - 1) % 2 ^ 32 % (max 1 (s.cfgAt (ek 0x9000 3))) * 256], r⟩)
    split
    · exact sent
    · exact sent.trans rfl

theorem State.notes_skipMirror (s : State) (gone : List (List Byte)) : s.Notes (s.skipMirror gone) := by
  unfold State.skipMirror
  split
  · exact .refl s
  · next r rest =>
    split
    · exact .refl s
    · have counted : s.Notes (({ s with host := { s.host with
          held := s.host.held.filter fun h => h.msg.data != r, lost := s.host.lost.filter fun b => b != r } } : State).count
        (ek 0x9000 5) 1 0x1404 0x5000 [(5, 2)]) := (s.notes_host _).trans (.of_reported (State.reported_count _ _ _ _ _ _))
      dsimp only
      split
      · exact counted
      · exact (counted.trans (State.notes_mirrorBeat _ _)).trans (State.notes_raise _ _ _ _)

theorem State.notes_auditTwin (s : State) (seq : Nat) (r : List Byte) : s.Notes (s.auditTwin seq r) := by
  unfold State.auditTwin
  exact (s.notes_sendTwin _ _).trans (State.notes_twinPool _ _)

/-- An audit record sent to the twin where something holds. -/
theorem State.notes_auditTwin_ite (s : State) (b : Prop) [Decidable b] (seq : Nat) (r : List Byte) :
    s.Notes (if b then s.auditTwin seq r else s) := by
  split
  · exact s.notes_auditTwin seq r
  · exact .refl s

/-- An audit record is kept, mirrored and sent to the twin (R390, R391). -/
theorem State.notes_auditRec (s : State) (e : AuditEntry) : s.Notes (s.auditRec e) := by
  unfold State.auditRec
  exact ((((s.notes_audit _).trans (State.notes_setVol _ _ _)).trans (State.notes_skipMirror _ _)).trans (State.notes_mirrorAudit _ _ _)).trans
    (State.notes_auditTwin_ite _ _ _ _)

end Sys2Proof.Machine
end

section
/-! O44 to O47: messages of the object protocol (R378 to R384, R402): one row's front, body and answer, and what a message that
nothing refuses comes to. -/

set_option Elab.async false
namespace Sys2Proof.Machine

/-! ### A row of the protocol -/

/-- A row whose command runs `State.kop` with its own body does what R381 and R402 say of every row. -/
theorem kopAs_of {mk : KopMsg → Instr} {row : KopRow} {body : State → Session → KopMsg → State × Nat × List Byte}
    (he : ∀ m s, exec (mk m) s = s.clocked (s.kop m (rowOf m == row) fun s x => body s x m)) : kopAs mk row body := by
  intro m s
  refine ⟨fun other hclk => ?_, fun mine => ?_⟩
  · rw [he, State.clocked_of hclk, State.kop, if_pos (by simp [other])]
  · have run (hclk : s.power.clocks = true) : exec (mk m) s = .next (s.ends (match s.kopFront m with
        | .done t => t
        | .serve x =>
          let r := if x.id == 0 && !zeroAccepts m then s.denied x m else body s x m
          r.1.answer x m r.2.1 r.2.2)) := by
      rw [he, State.clocked_of hclk, State.kop, if_neg (by simp [mine])] <;> rfl
    refine ⟨fun t done hclk => by rw [run hclk, done], fun x serve => ?_⟩
    refine ⟨fun shut hclk => ?_, fun shut hclk => ?_⟩
    · rw [run hclk, serve]; simp only [if_pos shut, State.denied]
    · rw [run hclk, serve]; simp only [shut, Bool.false_eq_true, if_false]

/-- A message whose sequence is newer than the session's last is served (R381). -/
theorem State.bySequence_newer {s : State} {x : Session} {m : KopMsg} (h : seqNewer m.seq x.last = true) : s.bySequence x m = .serve x := by
  rw [State.bySequence, if_pos h]

/-- A management core that is READY or RUNNING serves its port (R378, R435). -/
theorem State.mgmtUp_of {s : State} (h : s.ust (hubUnit 11) = stReady ∨ s.ust (hubUnit 11) = stRunning) : s.mgmtUp = true := by
  have core : s.ust 271 = stReady ∨ s.ust 271 = stRunning := h
  unfold State.mgmtUp
  rcases core with h | h <;> rw [h] <;> decide

/-- A message that an open session hears is served (R381). -/
theorem State.kopFront_of_hears {s : State} {x : Session} {m : KopMsg} (h : s.hears x m) : s.kopFront m = .serve x := by
  obtain ⟨port, up, magic, session, open_, known, whole, auth, newer⟩ := h
  have up := State.mgmtUp_of up
  simp only [State.kopFront, port, viaFn, up, if_true]
  rw [State.checkMsg, if_neg (by simp [magic]), if_neg (by simp [session, open_]), session, known]
  simp only [port]
  rw [if_neg (by simp [open_, whole]), if_neg (by simp [auth]), State.bySequence_newer newer]

/-- A row that does what R381 says, of a message that its session hears and whose body comes to a state, a status and data. -/
theorem kopDone_of {mk : KopMsg → Instr} {row : KopRow} {body : State → Session → KopMsg → State × Nat × List Byte}
    {eff : State → Session → KopMsg → State → Nat → List Byte → Prop} (h : kopAs mk row body)
    (he : ∀ (s : State) (x : Session) (m : KopMsg) (v : State) (status : Nat) (data : List Byte), s.hears x m → rowOf m = row →
      eff s x m v status data → body s x m = (v, status, data)) : kopDone mk row eff := by
  intro m s x v status data hclk hears mine done
  have served := ((h m s).2 mine).2 x (State.kopFront_of_hears hears)
  obtain ⟨-, -, -, -, open_, -⟩ := id hears
  have run := served.2 (by simp [open_]) hclk
  rw [he s x m v status data hears mine done] at run
  exact run

/-! ### Every form -/

/-- Reads, writes and unit operations in every form (R26, R375 to R379, R385). -/
theorem holdsKopEntryForms_holds : holdsKopEntryForms :=
  ⟨kopAs_of fun m s => exec_kopRead m s, kopAs_of fun m s => exec_kopWrite m s,
   kopAs_of fun m s => exec_unitHold (.kop m) s, kopAs_of fun m s => exec_unitReadmit (.kop m) s,
   kopAs_of fun m s => exec_unitTailDrop (.kop m) s, kopAs_of fun m s => exec_unitUpdateImage (.kop m) s,
   kopAs_of fun m s => exec_unitRecalibrate (.kop m) s, kopAs_of fun m s => exec_unitReclaim (.kop m) s⟩

/-- Generations, status and images in every form (R385 to R389, R398, R400). -/
theorem holdsKopGenerations_holds : holdsKopGenerations :=
  ⟨kopAs_of fun m s => exec_commit m s, kopAs_of fun m s => exec_returnGeneration m s, kopAs_of fun m s => exec_discard m s,
   kopAs_of fun m s => exec_kopStatus m s, kopAs_of fun m s => exec_imagePiece m s⟩

/-- Sessions and attestation in every form (R402, R403, R404). -/
theorem holdsKopSessionForms_holds : holdsKopSessionForms :=
  ⟨kopAs_of fun m s => exec_hello m s, kopAs_of fun m s => exec_proofMessage m s, kopAs_of fun m s => exec_sessionClose m s,
   kopAs_of fun m s => exec_attest m s⟩

/-- Writes with an effect of their own in every form (R33, R281, R316, R339, R377, R405, R410). -/
theorem holdsKopSpecialWrites_holds : holdsKopSpecialWrites :=
  ⟨kopAs_of fun m s => exec_eventAcknowledge m s, kopAs_of fun m s => exec_vatRunState m s, kopAs_of fun m s => exec_echoRequest m s,
   kopAs_of fun m s => exec_macsecKeyWrite m s, kopAs_of fun m s => exec_fuseWrite m s, kopAs_of fun m s => by
     simp only [exec_debugUnlock, execDebugUnlock, Bool.not_eq_true', Option.isNone_iff_eq_none]⟩

/-! ### O47: the checks in their order -/

/-- A message on the port of a management core that is up goes to the checks (R381, R435). -/
theorem State.kopFront_port {s : State} {m : KopMsg} (port : m.via = .port)
    (up : s.ust (hubUnit 11) = stReady ∨ s.ust (hubUnit 11) = stRunning) : s.kopFront m = s.checkMsg m := by
  simp only [State.kopFront, port, viaFn, State.mgmtUp_of up, if_true]

/-- Once magic, session and authenticator hold, what a port's message comes to is its sequence's (R381). -/
theorem State.checkMsg_port {s : State} {m : KopMsg} {x : Session} (port : m.via = .port) (magic : m.magic = 0x4B4F#32)
    (open_ : m.session ≠ 0) (known : s.session m.session = some x) (whole : x.half = false) (auth : m.auth = authOf x.key (msgBytes m)) :
    s.checkMsg m = s.bySequence x m := by
  rw [State.checkMsg, if_neg (by simp [magic]), if_neg (by simp [open_]), known]
  simp only [port]
  rw [if_neg (by simp [open_, whole]), if_neg (by simp [auth])]

/-- The last sequence and one just half the numbers away are not newer (R264, R381). -/
theorem seqNewer_eq_false {a b : Word} (h : a = b ∨ a - b = 0x80000000#32) : seqNewer a b = false := by
  rw [seqNewer, decide_eq_false_iff_not]
  rcases h with rfl | h
  · simp
  · rw [h]; decide

/-- The last sequence with a stored response is answered with it again (R381). -/
theorem State.bySequence_again {s : State} {x : Session} {m : KopMsg} {r : OutMsg} (h : m.seq = x.last ∨ m.seq - x.last = 0x80000000#32)
    (hr : x.reply = some r) : s.bySequence x m = .done (s.deliver m.via r.data) := by
  rw [State.bySequence, if_neg (by rw [seqNewer_eq_false h]; decide), if_pos h, hr]

/-- Settles O47: each clause is one branch of the checks, in their order. -/
theorem kopChecks : Obligations.KopChecks := by
  unfold Obligations.KopChecks
  intro m s port up mine
  obtain ⟨done, serve⟩ := (holdsKopGenerations_holds.2.2.2.1 m s).2 mine
  rw [State.kopFront_port port up] at done serve
  refine ⟨fun magic => done _ ?_, fun magic zero => done _ ?_, fun magic open_ => ⟨fun unknown => done _ ?_, fun x known => ?_⟩⟩
  · rw [State.checkMsg, if_pos magic, port]
  · rw [State.checkMsg, if_neg (by simp [magic]), if_neg (by simp [port])]
    cases known : s.session m.session with
    | none => simp only [port]
    | some x => simp only [zero, true_or, if_true, port]
  · rw [State.checkMsg, if_neg (by simp [magic]), if_neg (by simp [open_]), unknown, port]
  · refine ⟨fun half => done _ ?_, fun whole wrong => done _ ?_, fun whole auth => ?_⟩
    · rw [State.checkMsg, if_neg (by simp [magic]), if_neg (by simp [open_]), known]
      simp only [half, or_true, if_true, port]
    · rw [State.checkMsg, if_neg (by simp [magic]), if_neg (by simp [open_]), known]
      simp only [port]
      rw [if_neg (by simp [open_, whole]), if_pos wrong]
    · rw [State.checkMsg_port port magic open_ known whole auth] at done serve
      refine ⟨fun same r hr => done _ ?_, fun older ne far id => done _ ?_, fun newer id => ?_⟩
      · rw [State.bySequence_again same hr, port]; rfl
      · rw [State.bySequence, if_neg (by simp [older]), if_neg (by simp [ne, far])]
        simp only [id, if_false, port]
        rfl
      · exact (serve x (State.bySequence_newer newer)).2 (by simp [id])

/-! ### A write that nothing refuses -/

/-- A value that one message holds whole is taken, the collection of pieces standing as it does (R379; log entry 130). -/
theorem State.takePiece_whole {s : State} {x : Session} {m : KopMsg} {key size : Nat} (first : m.offset = 0) (whole : m.data.length = size) :
    s.takePiece x m key size = .ok (if x.pieces.isSome then s else s.updSession x.id fun y => { y with pieces := none }, some m.data) := by
  unfold State.takePiece
  cases x.pieces with
  | some p => simp [first, whole]
  | none => simp [first, whole]

/-- A write that `mayWrite` allows is whole (R375, R376, R379, R384). -/
theorem State.writeIn_of_mayWrite {s t : State} {x : Session} {m : KopMsg} {r : EntryRow} {v : Nat} (h : s.mayWrite x m r v t) :
    s.writeIn x m = .whole t r v := by
  obtain ⟨scope, sub, row, ro, no, covers, first, length, bool, range, rfl, rfl⟩ := h
  have inScope : s.inScope x m true = true := by rw [State.inScope, scope]
  rw [State.writeIn, if_neg (by simp [inScope]), if_neg sub, row]
  simp only
  rw [if_neg (by simp [ro, no, covers])]
  have checks : ¬ (r.typ = 7 ∧ 1 < leNat m.data) := fun h => by have := bool h.1; omega
  by_cases short : r.typ < 8
  · have size : m.data.length = r.bytes := by omega
    rw [if_pos short, if_neg (by simp [first, size]), if_neg checks, if_neg (by simp [range]), if_pos (Or.inl short)]
  · rw [if_neg short, State.takePiece_whole first (by split <;> omega)]
    simp only
    rw [if_neg checks, if_neg (by simp [range])]
    simp only [short, false_or]

/-- The effect of a write that nothing refuses is its row's own (R375). -/
theorem State.writeMsg_of_mayWrite {s t : State} {x : Session} {m : KopMsg} {r : EntryRow} {v : Nat} (h : s.mayWrite x m r v t)
    (eff : State → EntryRow → Nat → State × Nat) : s.writeMsg x m eff = ((eff t r v).1, (eff t r v).2, []) := by
  rw [State.writeMsg, State.writeIn_of_mayWrite h]

/-! ### O44: entries read, staged and written, and unit operations -/

/-- A READ that nothing refuses answers the entry's value in force (R374 to R376, R379). -/
theorem State.readMsg_of {s : State} {x : Session} {m : KopMsg} {r : EntryRow} (port : m.via = .port) (typ : m.typ = 0x01#8)
    (scope : viaVat x.via = none) (sub : subOf m ≠ 0) (force : m.staged = false) (row : entryRow (idxOf m) (subOf m) = some r)
    (wo : r.access x.role ≠ .wo) (no : r.access x.role ≠ .no) (covers : x.covers (idxOf m) (subOf m) = true) (first : m.offset = 0) :
    s.readMsg x m = (s, 0, (s.entryValue (idxOf m) (subOf m) r).take 1168) := by
  have inScope : s.inScope x m false = true := by rw [State.inScope, scope]
  have value : s.readValue x m r = s.entryValue (idxOf m) (subOf m) r := by simp [State.readValue, force]
  simp [State.readMsg, typ, inScope, sub, row, wo, no, covers, value, first, port, maxData]

/-- A session after a change to itself that keeps its number. -/
theorem State.session_updSession {s : State} {id : Nat} {x : Session} (f : Session → Session) (known : s.session id = some x)
    (keeps : (f x).id = x.id) : (s.updSession id f).session id = some (f x) := by
  unfold State.session at known
  show (s.sessions.map fun y => if y.id = id then f y else y).find? (fun y => y.id == id) = some (f x)
  generalize s.sessions = l at known
  induction l with
  | nil => cases known
  | cons y l ih =>
    by_cases h : y.id = id
    · rw [List.find?_cons_of_pos (by simp [h])] at known
      obtain rfl := Option.some.inj known
      simp [h, keeps]
    · rw [List.find?_cons_of_neg (by simp [h])] at known
      simp only [List.map_cons, if_neg h]
      rw [List.find?_cons_of_neg (by simp [h])]
      exact ih known

/-- A session whose write is whole keeps its staging (R377, R379). -/
theorem State.session_of_mayWrite {s t : State} {x : Session} {m : KopMsg} {r : EntryRow} {v : Nat} (known : s.session x.id = some x)
    (h : s.mayWrite x m r v t) : ∃ y, t.session x.id = some y ∧ y.id = x.id ∧ y.staging = x.staging := by
  obtain ⟨-, -, -, -, -, -, -, -, -, -, -, rfl⟩ := h
  split
  · exact ⟨x, known, rfl, rfl⟩
  · exact ⟨_, State.session_updSession _ known rfl, rfl, rfl⟩

/-- A request of a unit of this package that nothing refuses is PENDING, or in effect where its beat has come (R26). -/
theorem State.submitReq_accepted {s : State} {q : UnitReq} (pair : q.unit ≠ uPair) (group : q.unit ≠ uGroup) (noSlot : q.slot = none)
    (ok : (s.asSeen false [q.unit]).whyRefused q.unit q.op.toNat q.version q.role q.mask = none) :
    s.submitReq q = (
      let q := { q with target := if q.target = 0 then s.beat + 1 else q.target }
      let b := (s.opStatus q.unit 1).auditReq q 8 0
      if q.target ≤ b.beat then b.applyReq q else { b with unitReqs := b.unitReqs ++ [q] }) := by
  have far : (q.unit == uPair || q.unit == uGroup) = false := by simp [pair, group]
  have shape : (if q.target = 0 then { q with target := s.beat + (if (q.unit == uPair || q.unit == uGroup) = true then 2 else 1) } else q)
      = { q with target := if q.target = 0 then s.beat + 1 else q.target } := by
    rw [far]; split <;> simp
  unfold State.submitReq
  simp only [shape]
  generalize (if q.target = 0 then s.beat + 1 else q.target) = target
  rw [if_neg (by simp [group]), show (q.slot.isSome) = false by rw [noSlot]; rfl, ok]
  simp only
  rw [if_neg group, State.sharePair, if_neg (show ¬ q.unit = uPair from pair)]

/-- A unit operation of a row that writes whole values as `unitWrite` does (R26). -/
theorem unitDone_of {mk : KopMsg → Instr} {code : Nat} (h : kopAs mk (.unitOp code) fun s x m => s.unitWrite x m) : unitDone mk code := by
  refine kopDone_of h fun s x m v status data hears _ done => ?_
  obtain ⟨r, n, k, t, may, unit, pair, group, rfl, rfl, ok, rfl⟩ := done
  obtain ⟨port, -⟩ := hears
  rw [State.unitWrite, State.writeMsg_of_mayWrite may, unit]
  simp only [port]
  have accepted := State.submitReq_accepted (q := ⟨unitOf n, BitVec.ofNat 8 k, Sparse.get 0 x.targets n,
    BitVec.ofNat 16 (Sparse.get 0 x.versions n), x.role, x.mask, x.keyId, 1, none⟩) pair group rfl ok
  exact congrArg (fun t => (t, 0, [])) accepted

/-- Reads, staged writes and unit operations that nothing refuses (R26, R375 to R379, R384). -/
theorem holdsKopEntryEffects_holds : holdsKopEntryEffects := by
  obtain ⟨read, write, hold, readmit, tailDrop, update, recalibrate, reclaim⟩ := holdsKopEntryForms_holds
  refine ⟨kopDone_of read fun s x m v status data hears _ done => ?_, kopDone_of write fun s x m v status data hears _ done => ?_,
    kopDone_of write fun s x m v status data hears _ done => ?_, unitDone_of hold, unitDone_of readmit, unitDone_of tailDrop,
    unitDone_of update, unitDone_of recalibrate, unitDone_of reclaim⟩
  · obtain ⟨r, typ, scope, sub, force, row, wo, no, covers, first, rfl, rfl, rfl⟩ := done
    exact State.readMsg_of hears.1 typ scope sub force row wo no covers first
  · obtain ⟨r, k, t, may, pers, room, rfl, rfl, rfl⟩ := done
    obtain ⟨-, -, -, -, -, known, -⟩ := hears
    obtain ⟨y, hy, yid, staging⟩ := State.session_of_mayWrite known may
    rw [State.writeMsg_of_mayWrite may, if_pos pers, hy]
    rw [← staging] at room
    simp only [State.stage, room, true_or, if_true, yid]
  · obtain ⟨r, k, t, n, may, pers, unit, sub, rfl, rfl, hv⟩ := done
    rw [State.writeMsg_of_mayWrite may, if_neg pers, unit, hv]
    simp only [if_neg sub]

/-- Settles O44: every form from its row's command, and where nothing refuses it the body's one branch. -/
theorem kopEntries : Obligations.KopEntries := by
  unfold Obligations.KopEntries
  exact ⟨holdsKopEntryForms_holds, holdsKopEntryEffects_holds⟩

/-! ### O45: writes with effects of their own, generations and images -/

/-- A write of 1 to the debug entry that nothing refuses begins an unlock (R406). -/
theorem debugUnlock_begins {t : State} {x : Session} {m : KopMsg} {r : EntryRow} {v : Nat} (one : v = 1) (idle : t.launches = [])
    (none_ : t.unlocking = none) (stopped : ∀ i, i < 16 → t.volAt (ek 0x2029 (i + 1)) = 0) {old : Nat} (ho : old = t.volAt (ek 0xA000 5))
    (locked : t.volAt (ek 0xA000 5) = 0) {quiet : Bool}
    (hq : quiet = (t.launches.isEmpty && (List.range 16).all fun i => t.volAt (ek 0x2029 (i + 1)) == 0)) {u : State}
    (hu : u = t.auditWrite x m 2 r (leBytes old r.bytes) (leBytes v r.bytes)) :
    (if 1 < v ∨ (v = 1 ∧ quiet = false) ∨ (v = 0 ∧ old = 1) then (t, 4)
     else (if v = 1 ∧ old = 0 ∧ u.unlocking = none then { u with unlocking := some x.id } else u, 0))
    = ({ u with unlocking := some x.id }, 0) := by
  have wide : quiet = true := by
    rw [hq, idle, List.isEmpty_nil, Bool.true_and, List.all_eq_true]
    exact fun i hi => by rw [stopped i (List.mem_range.mp hi)]; rfl
  have unlocking : u.unlocking = none := by rw [hu, State.auditWrite, (State.notes_auditRec _ _).unlocking, none_]
  rw [if_neg (by simp [one, wide]), if_pos ⟨one, ho.trans locked, unlocking⟩]

/-- A commit or return that nothing refuses is pending, or at once in force while beats are absent (R385 to R389). -/
theorem State.requestGen_of {s v : State} {x : Session} {m : KopMsg} {kind status : Nat} {values : Sparse Nat} (port : m.via = .port)
    (length : m.data.length = 524) (some_ : kind = 2 → s.volAt (ek 0x2000 5) ≠ 0)
    (signed : verifies x.modulus (signedBytes (leNat ((m.data.drop 8).take 4)) (leNat (m.data.take 8)) values) (m.data.drop 12) = true)
    (free : s.pendingGen = none)
    (h : let g : PendingGen := ⟨kind, x.id, x.role, 1, x.keyId, max (leNat (m.data.take 8)) (s.beat + 1), leNat ((m.data.drop 8).take 4), values⟩
      (s.beatsAbsent = false ∧ status = 8
        ∧ v = (State.setVol { s with pendingGen := some g } (ek 0x2000 3) g.target).setVol (ek 0x2000 4) kind)
      ∨ (s.beatsAbsent = true ∧ (s.applyGen g).2 = true ∧ status = 0 ∧ v = (s.applyGen g).1)) :
    s.requestGen x m kind values = (v, status, []) := by
  unfold State.requestGen
  simp only [port, viaSource]
  rw [if_neg (by simp [length]), if_neg (by rintro ⟨k, z⟩; exact some_ k z), if_neg (by simp [signed]), if_neg (by simp [free])]
  rcases h with ⟨beats, rfl, rfl⟩ | ⟨beats, applied, rfl, rfl⟩
  · rw [if_neg (by simp [beats])]
  · rw [if_pos beats, applied, if_pos rfl]

/-- A piece that follows on from what a slot holds, and with it is not longer than the slot, is kept, or starts the verification where it
ends the image (R379, R397). -/
theorem State.placePiece_of {s v : State} {m : KopMsg} {k : Nat} {so b : List Byte}
    (hso : so = if s.slotState k = 1 then (vget ImageSlot.reset s.images (k - 1)).bytes else [])
    (hb : b = if m.offset = 0 then m.data else so ++ m.data) (follows : m.offset = 0 ∨ (s.slotState k = 1 ∧ so.length = m.offset))
    (fits : b.length ≤ 0x100000)
    (h : ((b.length < 16 ∨ b.length < imgWord b 3) ∧ v = s.setSlot k 1 ⟨b, [], 0⟩)
        ∨ (16 ≤ b.length ∧ b.length = imgWord b 3 ∧ v = s.setSlot k 2 ⟨b, [], 0⟩)) : s.placePiece m k = (v, 0) := by
  have size : slotSize = 0x100000 := rfl
  unfold State.placePiece
  simp only [← hso, ← hb]
  rw [if_neg (by rintro ⟨h, h'⟩; rcases follows with f | ⟨f, f'⟩ <;> simp_all), if_neg (by omega)]
  rcases h with ⟨short, rfl⟩ | ⟨long, whole, rfl⟩
  · rw [if_neg (by omega), if_neg (by omega)]
  · rw [if_neg (by omega), if_pos ⟨long, whole.symm⟩]

/-- Writes with effects of their own, generations and images that nothing refuses. -/
theorem holdsKopChangeEffects_holds : holdsKopChangeEffects := by
  obtain ⟨eventAck, runState, echo, macsec, fuse, debug⟩ := holdsKopSpecialWrites_holds
  obtain ⟨commit, ret, discard, status_, image⟩ := holdsKopGenerations_holds
  refine ⟨kopDone_of eventAck fun s x m v status data hears _ done => ?_, kopDone_of runState fun s x m v status data hears _ done => ?_,
    kopDone_of echo fun s x m v status data hears _ done => ?_, kopDone_of macsec fun s x m v status data hears _ done => ?_,
    kopDone_of fuse fun s x m v status data hears _ done => ?_, kopDone_of debug fun s x m v status data hears _ done => ?_, ?_,
    kopDone_of discard fun s x m v status data hears _ done => ?_, kopDone_of status_ fun s x m v status data hears _ done => ?_,
    kopDone_of image fun s x m v status data hears _ done => ?_⟩
  · obtain ⟨r, k, t, may, above, below, rfl, rfl, hv⟩ := done
    rw [State.writeMsg_of_mayWrite may, if_pos ⟨above, below⟩, hv]
  · obtain ⟨r, k, t, may, allowed, rfl, rfl, hv⟩ := done
    rw [State.writeMsg_of_mayWrite may, if_neg (fun h => allowed.elim (fun a => a h.1) fun a => a h.2), hv]
  · obtain ⟨r, k, t, may, rfl, rfl, hv⟩ := done
    rw [State.writeMsg_of_mayWrite may, hv]
  · obtain ⟨r, k, t, may, rfl, rfl, hv⟩ := done
    rw [State.writeMsg_of_mayWrite may, hv]
  · obtain ⟨r, k, t, may, rfl, rfl, room, hv⟩ := done
    rw [State.writeMsg_of_mayWrite may, hv]
    simp only [if_neg (Nat.not_le.mpr room)]
  · obtain ⟨r, t, may, idle, none_, stopped, locked, rfl, rfl, hv⟩ := done
    rw [State.writeMsg_of_mayWrite may, debugUnlock_begins rfl idle none_ stopped rfl locked rfl rfl, hv, locked]
  · intro kind hkind
    simp only [List.mem_cons, List.not_mem_nil, or_false] at hkind
    rcases hkind with rfl | rfl
    · refine kopDone_of commit fun s x m v status data hears _ done => ?_
      obtain ⟨role, scope, length, some_, signed, free, rfl, h⟩ := done
      simp only [if_true] at signed h
      have installer : x.role = .installer := by simpa using role
      rw [if_neg (Classical.not_not.mpr installer)]
      exact State.requestGen_of hears.1 length some_ signed free h
    · refine kopDone_of ret fun s x m v status data hears _ done => ?_
      obtain ⟨role, scope, length, some_, signed, free, rfl, h⟩ := done
      simp only [if_false] at signed h
      rw [if_neg (by simp [scope]), if_neg fun h => role.elim h.1 fun r => h.2 r.2]
      exact State.requestGen_of hears.1 length some_ signed free h
  · obtain ⟨rfl, rfl, hv⟩ := done
    rw [hv]
    cases hg : s.pendingGen with
    | none => rfl
    | some g => simp
  · obtain ⟨rfl, rfl, rfl⟩ := done
    rfl
  · obtain ⟨low, high, idle, follows, fits, rfl, rfl, placed⟩ := done
    have piece := State.placePiece_of rfl rfl follows fits placed
    simp only
    rw [if_neg (by simp [hears.1, viaVat]; omega), if_neg (by simp [idle]), piece]

/-- Settles O45: every form from its row's command, and where nothing refuses it the body's one branch. -/
theorem kopChanges : Obligations.KopChanges := by
  unfold Obligations.KopChanges
  exact ⟨holdsKopSpecialWrites_holds, holdsKopGenerations_holds, holdsKopChangeEffects_holds⟩

/-! ### O46: sessions and attestation -/

/-- A message that the physical function's mailbox holds whole for session 0 is served (R381, R402). -/
theorem State.kopFront_of_hearsZero {s : State} {x : Session} {m : KopMsg} (h : s.hearsZero x m) : s.kopFront m = .serve x := by
  obtain ⟨pf, present, up, submitted, ide, magic, zero, rfl, newer⟩ := h
  simp only [State.kopFront, pf, viaFn]
  rw [if_neg (by simp [present, State.fnExists, submitted]), if_neg (by simp [ide]), if_neg up,
    State.checkMsg, if_neg (by simp [magic]), if_pos ⟨zero, pf⟩, State.bySequence_newer newer]

/-- Session 0, kept or not yet, has the number 0. -/
theorem State.hearsZero.session_id {s : State} {x : Session} {m : KopMsg} (h : s.hearsZero x m) : x.id = 0 := by
  obtain ⟨-, -, -, -, -, -, -, rfl, -⟩ := h
  cases known : s.session 0 with
  | none => rfl
  | some x => exact beq_iff_eq.mp (List.find?_some (p := fun x : Session => x.id == 0) known)

/-- A row's command of a message of session 0 that its mailbox holds whole, of a type that session 0 accepts. -/
theorem kopAs.zero {mk : KopMsg → Instr} {row : KopRow} {body : State → Session → KopMsg → State × Nat × List Byte} (h : kopAs mk row body)
    {m : KopMsg} {s : State} {x : Session} (hclk : s.power.clocks = true) (hears : s.hearsZero x m) (mine : rowOf m = row)
    (accepts : zeroAccepts m = true) :
    exec (mk m) s = .next (s.ends ((body s x m).1.answer x m (body s x m).2.1 (body s x m).2.2)) :=
  (((h m s).2 mine).2 x (State.kopFront_of_hearsZero hears)).2 (by simp [accepts]) hclk

/-- A HELLO whose credential and point hold opens a half after the sessions there are (R401 to R403). -/
theorem State.openHalf_of {s : State} {m : KopMsg} {b : List Byte} {hello : Hello} {role : Role} {modulus : List Byte} {mask : BitVec 16}
    {q : Nat × Nat} (room : (s.sessions.filter fun x => x.id != 0).length < 8)
    (cred : s.credential m.via hello = some (role, modulus, mask)) (point : pointOf hello.point = some q) :
    (s.openHalf m b hello).2.1 = 0 ∧ ∃ y, (s.openHalf m b hello).1.sessions = s.sessions ++ [y] ∧ y.half = true ∧ y.role = role
      ∧ y.modulus = modulus ∧ y.mask = mask ∧ y.via = m.via := by
  unfold State.openHalf
  rw [if_neg (Nat.not_le.mpr room), cred, point]
  exact ⟨rfl, _, rfl, rfl, rfl, rfl, rfl, rfl⟩

/-- Sessions open and close, and the package attests (R402, R403, R405). -/
theorem holdsKopSessionEffects_holds : holdsKopSessionEffects := by
  obtain ⟨hello, proof, close, attest⟩ := holdsKopSessionForms_holds
  refine ⟨fun m s x r n role modulus mask q hclk hears typ first head size whole room cred point => ?_,
    fun m s x y hclk hears typ latest first length signed => ?_, kopDone_of close fun s x m v status data _ _ done => ?_,
    kopDone_of attest fun s x m v status data _ _ done => ?_⟩
  · have via : m.via = .pf := hears.1
    intro o
    have opened := State.openHalf_of (s := s.keepHello .pf []) (m := m) (b := m.data) room (via ▸ cred) point
    have run := hello.zero hclk hears (by simp [rowOf, typ]) (by simp [zeroAccepts, typ])
    simp only [first, if_true, ne_eq, not_true_eq_false, false_and, if_false, head, size, whole, Nat.lt_irrefl, via] at run
    rw [opened.1] at run
    exact ⟨run, via ▸ opened.2⟩
  · have via : m.via = .pf := hears.1
    have run := proof.zero hclk hears (by simp [rowOf, typ]) (by simp [zeroAccepts, typ])
    simp only [hears.session_id, beq_self_eq_true, Bool.true_and, via, latest] at run
    rw [if_pos ⟨first, length, signed⟩] at run
    exact run
  · obtain ⟨rfl, rfl, rfl⟩ := done
    rfl
  · obtain ⟨first, length, rfl, rfl, rfl⟩ := done
    rw [if_neg (by simp [first, length])]

/-- Settles O46: every form from its row's command, and where nothing refuses it the body's one branch. -/
theorem kopSessions : Obligations.KopSessions := by
  unfold Obligations.KopSessions
  exact ⟨holdsKopSessionForms_holds, holdsKopSessionEffects_holds⟩

/-! ### O48: timeouts, image verification and debug unlock -/

/-- A key that a filter drops reads as an unlisted one. -/
theorem Sparse.get_filter_dropped {α : Type} (d : α) (keep : Nat → Bool) (m : Sparse α) {k : Nat} (h : keep k = false) :
    Sparse.get d (m.filter fun p => keep p.1) k = d := by
  induction m with
  | nil => rfl
  | cons p m ih =>
    by_cases hp : keep p.1 = true
    · rw [List.filter_cons_of_pos (by exact hp), Sparse.get, if_neg (by rintro rfl; rw [h] at hp; cases hp)]
      exact ih
    · rw [List.filter_cons_of_neg (by exact hp)]
      exact ih

/-- The session timeouts (R403): only an open session idles out, and only a half times out. -/
theorem sessionTimeouts (id : Nat) (s : State) :
    (s.session id = none → leaves (.sessionIdleTimeout id) s s ∧ leaves (.proofTimeout id) s s)
    ∧ ∀ x, s.session id = some x →
      ((x.half = true ∨ x.id = 0) → leaves (.sessionIdleTimeout id) s s)
      ∧ (x.half = false → x.id ≠ 0 → leaves (.sessionIdleTimeout id) s (s.dropSession id))
      ∧ (x.half = false → leaves (.proofTimeout id) s s)
      ∧ (x.half = true → leaves (.proofTimeout id) s ((s.dropSession id).sessionRefused x.role.number 3)) := by
  have idle : s.power.clocks = true → exec (.sessionIdleTimeout id) s = _ := fun hclk => by
    rw [exec_sessionIdleTimeout, execSessionIdleTimeout, State.clocked_of hclk]
  have proof : s.power.clocks = true → exec (.proofTimeout id) s = _ := fun hclk => by
    rw [exec_proofTimeout, execProofTimeout, State.clocked_of hclk]
  refine ⟨fun none_ => ⟨fun hclk => ?_, fun hclk => ?_⟩, fun x known => ?_⟩
  · rw [idle hclk, none_]
  · rw [proof hclk, none_]
  · have xid : x.id = id := beq_iff_eq.mp (List.find?_some (p := fun x : Session => x.id == id) known)
    refine ⟨fun stays hclk => ?_, fun whole open_ hclk => ?_, fun whole hclk => ?_, fun half hclk => ?_⟩
    · rw [idle hclk, known]; simp only [if_pos stays]
    · rw [idle hclk, known]; rw [← xid]; simp only [whole, open_, Bool.false_eq_true, or_self, if_false]
    · rw [proof hclk, known]; simp only [whole, Bool.false_eq_true, if_false]
    · rw [proof hclk, known]; simp only [if_pos half, xid]

/-- A slot's verification (R397, R398). -/
theorem imageVerification (k : Fin 6) (s : State) : (s.slotState (k.val + 1) ≠ 2 → leaves (.imageVerifyComplete k) s s)
    ∧ (s.slotState (k.val + 1) = 2 →
      let b := s.images[k].bytes
      (∀ c, ((s.imageChecks (k.val + 1) b).find? fun c => !c.2) = some c → leaves (.imageVerifyComplete k) s
        (((s.setSlot (k.val + 1) 4 ImageSlot.reset).raise 0x1500 0x5000 [(k.val + 1, 1), (c.1, 1)]).countSecure 3))
      ∧ (((s.imageChecks (k.val + 1) b).all fun c => c.2) = true → leaves (.imageVerifyComplete k) s
        ((s.setSlot (k.val + 1) 3 ⟨b, (b.drop 16).take 64, imgWord b 2⟩).loadCold (k.val + 1)))) := by
  have slot : vget ImageSlot.reset s.images k.val = s.images[k] := by rw [vget, dif_pos k.isLt]; rfl
  have run : s.power.clocks = true → exec (.imageVerifyComplete k) s = _ := fun hclk => by
    rw [exec_imageVerifyComplete, execImageVerifyComplete, State.clocked_of hclk]
  refine ⟨fun other hclk => ?_, fun verifying => ⟨fun c failed hclk => ?_, fun good hclk => ?_⟩⟩
  · rw [run hclk, if_pos other]
  · rw [run hclk, if_neg (Classical.not_not.mpr verifying), slot]; simp only [failed]
  · have none_ : ((s.imageChecks (k.val + 1) s.images[k].bytes).find? fun c => !c.2) = none := by
      rw [List.find?_eq_none]
      exact fun c hc => by simpa using List.all_eq_true.mp good c hc
    rw [run hclk, if_neg (Classical.not_not.mpr verifying), slot]; simp only [none_]

/-- A volatile entry set to what is not its default reads back, in whatever form the entries are. -/
theorem State.volAt_setVol_of_ne_default (s : State) {k v : Nat} (h : v ≠ volDefault k) : (s.setVol k v).volAt k = v := by
  rw [State.volAt, State.setVol, Sparse.set, if_neg h, Sparse.get_put, if_pos rfl]

/-- The state of a debug unlock of a session before its event (R406). -/
def State.unlocked (s : State) (id : Nat) : State :=
  let s := s.clearStores.zeroKeys
  let s := { s with unlocking := none, helloPieces := [], sessions := s.sessions.filter fun x => x.id == 0 || x.id == id }
  (s.extend 0x6000 0xFF 0 (zeros 64)).setVol (ek 0xA000 5) 1

/-- Settles O48: each timer by what it finds; an unlock zeroes what it names before its event, which changes none of it. -/
theorem securityTimers : Obligations.SecurityTimers := by
  unfold Obligations.SecurityTimers
  refine ⟨fun id s => (sessionTimeouts id s).1, fun id x s => (sessionTimeouts id s).2 x, fun k s => imageVerification k s,
    fun s none_ hclk => ?_, fun s id hclk some_ => ?_⟩
  · rw [exec_debugUnlockComplete, execDebugUnlockComplete, State.clocked_of hclk, none_]
  · obtain ⟨fs, run⟩ : ∃ fs, exec .debugUnlockComplete s = .next (s.ends ((s.unlocked id).raise 0x1503 0x5000 fs)) :=
      ⟨_, by rw [exec_debugUnlockComplete, execDebugUnlockComplete, State.clocked_of hclk, some_]; rfl⟩
    generalize ht : (s.unlocked id).raise 0x1503 0x5000 fs = t at run
    have said : (s.unlocked id).Reported t := ht ▸ State.reported_raise _ _ _ _
    refine ⟨_, run, ?_, ?_, ?_, ?_, fun c => ?_, fun d => ?_, ?_, ?_, ?_, fun v => ?_, ?_, fun p => ?_, fun i hi => ?_⟩
    · rw [State.ends_unlocking, said.unlocking]; rfl
    · rw [State.volAt_ends _ _ (by decide), ← ht, State.volAt_raise _ _ _ _ (by decide)]
      exact State.volAt_setVol_of_ne_default _ (by decide)
    · rw [State.ends_sessions, said.sessions]; rfl
    · rw [State.ends_fuseBanks, said.fuseBanks]; rfl
    · simp only [State.ends_cores, said.cores]
      show ((s.cores.map fun c : Core => { c with buf := Mem.empty })[c]).buf = Mem.empty
      simp
    · simp only [State.ends_dieBuf, said.dieBuf]
      show (Vector.replicate 4 Mem.empty)[d] = Mem.empty
      simp
    · rw [State.ends_hubBuf, said.hubBuf]; rfl
    · rw [State.ends_hbm, said.hbm]; rfl
    · rw [State.ends_bindings, said.bindings]
      intro p hp g hg
      obtain ⟨q, -, rfl⟩ := List.mem_map.mp (show p ∈ s.bindings.map _ from hp)
      obtain ⟨f, -, rfl⟩ := List.mem_map.mp hg
      refine ⟨fun w hw => ?_, fun b hb => ?_⟩
      · obtain ⟨-, -, rfl⟩ := List.mem_map.mp hw; rfl
      · obtain ⟨-, -, rfl⟩ := List.mem_map.mp hb; rfl
    · simp only [State.ends_seeds, said.seeds]
      show ((s.seeds.map fun v : VatSeed => { v with zeroed := true })[v]).zeroed = true
      simp
    · rw [State.ends_launches, said.launches]
      intro l hl
      obtain ⟨k, -, rfl⟩ := List.mem_map.mp (show l ∈ s.launches.map _ from hl)
      rfl
    · simp only [State.ends_fports, said.fports]
      show ((s.fports.map fun p : FPort => { p with keys := [], newKeys := [] })[p]).keys = []
        ∧ ((s.fports.map fun p : FPort => { p with keys := [], newKeys := [] })[p]).newKeys = []
      simp
    · rw [State.cfgAt, State.ends_cfg, said.cfg]
      exact Sparse.get_filter_dropped _ (fun k => k / 256 != 0xA020) s.cfg (by simp [ek]; omega)

end Sys2Proof.Machine
end

section
/-! What an access to HBM3E can change (R234 to R236, R241, R248): the bytes and marks of HBM3E, the granules still to be cleared, moved
or relocated, the counts of corrected words, the accesses refused in a beat, the model's own draws, and what reports; every other field is
as before. -/

set_option Elab.async false
namespace Sys2Proof.Machine

/-- Two states alike but for what an access to HBM3E can change. -/
def State.Accessed (s t : State) : Prop :=
  t = { s with events := t.events, evCount := t.evCount, evBeat := t.evBeat, raised := t.raised, vol := t.vol, funcs := t.funcs,
               host := t.host, out := t.out, hbm := t.hbm, uncleared := t.uncleared, shadowMove := t.shadowMove, reloc := t.reloc,
               scrubCount := t.scrubCount, agentBeat := t.agentBeat, freeIx := t.freeIx }

namespace State.Accessed

theorem refl (s : State) : s.Accessed s := rfl

theorem trans {s t u : State} (h : s.Accessed t) (k : t.Accessed u) : s.Accessed u := by
  unfold State.Accessed at *
  rw [k, h]

theorem of_reported {s t : State} (h : s.Reported t) : s.Accessed t := by
  unfold State.Reported at h
  unfold State.Accessed
  rw [h]

section
variable {s t : State} (h : s.Accessed t)
include h

theorem pending : t.pending = s.pending := by rw [h]
theorem power : t.power = s.power := by rw [h]
theorem cores : t.cores = s.cores := by rw [h]
theorem units : t.units = s.units := by rw [h]
theorem seqs : t.seqs = s.seqs := by rw [h]
theorem codecs : t.codecs = s.codecs := by rw [h]
theorem launches : t.launches = s.launches := by rw [h]
theorem cfg : t.cfg = s.cfg := by rw [h]
theorem frames : t.frames = s.frames := by rw [h]

end

/-- A fold of accesses is an access. -/
theorem foldl {β : Type} {f : State → β → State} (h : ∀ (s : State) b, s.Accessed (f s b)) (l : List β) (s : State) :
    s.Accessed (l.foldl f s) := by
  induction l generalizing s with
  | nil => exact refl s
  | cons b l ih => exact (h s b).trans (ih _)

/-- A fold that collects values while it accesses is an access. -/
theorem foldl_snd {β γ : Type} {f : γ × State → β → γ × State} (h : ∀ (p : γ × State) b, p.2.Accessed (f p b).2) (l : List β)
    (p : γ × State) : p.2.Accessed (l.foldl f p).2 := by
  induction l generalizing p with
  | nil => exact refl p.2
  | cons b l ih => exact (h p b).trans (ih _)

end State.Accessed

theorem State.accessed_raise (s : State) (code path : Nat) (fs : List (Nat × Nat)) : s.Accessed (s.raise code path fs) :=
  .of_reported (s.reported_raise code path fs)

theorem State.accessed_count (s : State) (key n code path : Nat) (fs : List (Nat × Nat)) : s.Accessed (s.count key n code path fs) :=
  .of_reported (s.reported_count key n code path fs)

theorem State.accessed_setVol (s : State) (k v : Nat) : s.Accessed (s.setVol k v) := rfl
theorem State.accessed_hbm (s : State) (m : Mem) : s.Accessed { s with hbm := m } := rfl
theorem State.accessed_cleared (s : State) (m : Mem) (l : List (Nat × Nat)) : s.Accessed { s with hbm := m, uncleared := l } := rfl
theorem State.accessed_scrubCount (s : State) (m : Sparse Nat) : s.Accessed { s with scrubCount := m } := rfl
theorem State.accessed_reloc (s : State) (r : Vector (Option Reloc) 4) : s.Accessed { s with reloc := r } := rfl
theorem State.accessed_shadowMove (s : State) (m : Option ShadowMove) : s.Accessed { s with shadowMove := m } := rfl
theorem State.accessed_shadowDone (s : State) (r : Vector (Option Reloc) 4) : s.Accessed { s with shadowMove := none, reloc := r } := rfl
theorem State.accessed_free (s : State) : s.Accessed s.free.2 := rfl

theorem State.accessed_hbmCorrected (s : State) (key : Nat) : s.Accessed (s.hbmCorrected key) := by
  have counted (a b c d e f g h i : Nat) (m : Sparse Nat) :
      s.Accessed { ((s.countMem a b c).countMem d e f).countMem g h i with scrubCount := m } :=
    (((s.accessed_count _ _ _ _ _).trans (State.accessed_count _ _ _ _ _ _)).trans (State.accessed_count _ _ _ _ _ _)).trans
      (State.accessed_scrubCount _ m)
  unfold State.hbmCorrected
  dsimp only
  split
  · exact (counted _ _ _ _ _ _ _ _ _ _).trans (State.accessed_raise _ _ _ _)
  · exact counted _ _ _ _ _ _ _ _ _ _

theorem State.accessed_hbmUncorrectable (s : State) (key source : Nat) : s.Accessed (s.hbmUncorrectable key source) := by
  unfold State.hbmUncorrectable
  exact ((s.accessed_count _ _ _ _ _).trans (State.accessed_count _ _ _ _ _ _)).trans (State.accessed_raise _ _ _ _)

theorem State.accessed_resolveWord (s : State) (w : Nat) : s.Accessed (s.resolveWord .hbm w) := by
  unfold State.resolveWord
  dsimp only
  split
  · exact (s.accessed_hbm _).trans (State.accessed_hbmCorrected _ _)
  · exact (s.accessed_hbm _).trans (State.accessed_hbmUncorrectable _ _ _)
  · exact .refl s

theorem State.accessed_resolve (s : State) (a n : Nat) : s.Accessed (s.resolve .hbm a n) := by
  unfold State.resolve
  exact .foldl State.accessed_resolveWord _ _

theorem State.accessed_copyShadow (s : State) (m : ShadowMove) (i : Nat) : s.Accessed (s.copyShadow m i) := by
  have moved (a n k v : Nat) (h : Mem) (l : List (Nat × Nat)) :
      s.Accessed (({ s.resolve .hbm a n with hbm := h, uncleared := l } : State).setVol k v) :=
    ((s.accessed_resolve a n).trans (State.accessed_cleared _ h l)).trans (State.accessed_setVol _ k v)
  unfold State.copyShadow
  dsimp only
  split
  · exact ((moved _ _ _ _ _ _).trans (State.accessed_shadowDone _ _)).trans (State.accessed_raise _ _ _ _)
  · exact (moved _ _ _ _ _ _).trans (State.accessed_shadowMove _ _)

theorem State.accessed_copyAhead (n : Nat) (s : State) (g : Nat) : s.Accessed (State.copyAhead n s g) := by
  induction n generalizing s g with
  | zero => exact .refl s
  | succ n ih =>
    unfold State.copyAhead
    split
    · exact .refl s
    · split
      · exact .refl s
      · split
        · exact .refl s
        · dsimp only
          split
          · exact (ih _ _).trans (State.accessed_copyShadow _ _ _)
          · exact ih _ _

theorem State.accessed_clearGranule (s : State) (g : Nat) : s.Accessed (s.clearGranule g) := by
  unfold State.clearGranule
  exact (State.accessed_copyAhead _ _ _).trans (State.accessed_cleared _ _ _)

theorem State.accessed_clearFirst (s : State) (a n : Nat) : s.Accessed (s.clearFirst a n) := by
  unfold State.clearFirst
  refine .foldl (fun s g => ?_) _ _
  split
  · exact s.accessed_clearGranule g
  · exact .refl s

theorem State.accessed_relocateRow (s : State) (d : Fin 4) (j : Nat) : s.Accessed (s.relocateRow d j) := by
  unfold State.relocateRow
  split
  · exact .refl s
  · split
    · exact .refl s
    · dsimp only
      refine State.Accessed.trans ?_ (State.accessed_reloc _ _)
      refine State.Accessed.trans ?_ (State.accessed_setVol _ _ _)
      split
      · exact s.accessed_hbm _
      · refine .foldl (fun s w => ?_) _ _
        split
        · exact (s.accessed_hbm _).trans (State.accessed_hbmUncorrectable _ _ _)
        · exact (s.accessed_hbm _).trans (State.accessed_hbmCorrected _ _)
        · exact .refl s

theorem State.accessed_relocateFirst (s : State) (a n : Nat) : s.Accessed (s.relocateFirst a n) := by
  unfold State.relocateFirst
  refine .foldl (fun s g => ?_) _ _
  dsimp only
  split
  · split
    · exact s.accessed_relocateRow _ _
    · exact .refl s
  · exact .refl s

theorem State.accessed_openHbm (s : State) (a n : Nat) : s.Accessed (s.openHbm a n) := by
  unfold State.openHbm
  refine .foldl (fun s g => ?_) _ _
  split
  · exact ((s.accessed_clearFirst _ _).trans (State.accessed_relocateFirst _ _ _)).trans (State.accessed_resolve _ _ _)
  · exact .refl s

theorem State.accessed_readyHbm (s : State) (a n : Nat) : s.Accessed (s.readyHbm a n) := by
  unfold State.readyHbm
  refine .foldl (fun s g => ?_) _ _
  split
  · exact (s.accessed_clearFirst _ _).trans (State.accessed_relocateFirst _ _ _)
  · exact .refl s

theorem State.accessed_refuseAccess (s : State) (code path a agent vat : Nat) : s.Accessed (s.refuseAccess code path a agent vat) := by
  have told (fs : List (Nat × Nat)) (l : List (Nat × Nat)) : s.Accessed (({ s with agentBeat := l } : State).raise code path fs) :=
    State.Accessed.trans (t := { s with agentBeat := l }) rfl (State.accessed_raise _ _ _ _)
  unfold State.refuseAccess
  split
  · exact .refl s
  · dsimp only
    split
    · exact (told _ _).trans (.of_reported (State.reported_vatEvent _ _))
    · exact told _ _

theorem State.accessed_refuseInvalid (s : State) (a n agent : Nat) : s.Accessed (s.refuseInvalid a n agent) :=
  s.accessed_refuseAccess _ _ _ _ _

theorem State.accessed_refuseOutside (s : State) (vat a n agent : Nat) : s.Accessed (s.refuseOutside vat a n agent) := by
  unfold State.refuseOutside
  split
  · exact s.accessed_refuseInvalid _ _ _
  · exact s.accessed_refuseAccess _ _ _ _ _

theorem State.accessed_readHbm (s : State) (a n agent : Nat) : s.Accessed (s.readHbm a n agent).2 := by
  unfold State.readHbm
  dsimp only
  split
  · exact s.accessed_openHbm a n
  · exact (s.accessed_openHbm a n).trans (State.accessed_refuseInvalid _ _ _ _)

theorem State.accessed_agentRead (s : State) (vat a n agent : Nat) : s.Accessed (s.agentRead vat a n agent).2 := by
  unfold State.agentRead
  split
  · exact s.accessed_readHbm a n agent
  · exact s.accessed_refuseOutside vat a n agent

theorem State.accessed_mergeWord (s : State) (w : Nat) : s.Accessed (s.mergeWord .hbm w) := by
  unfold State.mergeWord
  split
  · exact (s.accessed_hbm _).trans (State.accessed_hbmUncorrectable _ _ _)
  · exact s.accessed_raise _ _ _
  · exact s.accessed_resolveWord w

theorem State.accessed_writeMem (s : State) (cells : List (Nat × Byte)) : s.Accessed (s.writeMem .hbm cells) := by
  unfold State.writeMem
  exact (State.Accessed.foldl (fun s w => s.accessed_mergeWord w) _ s).trans (State.accessed_hbm _ _)

theorem State.accessed_writeHbm (s : State) (a : Nat) (bs : List Byte) (agent : Nat) : s.Accessed (s.writeHbm a bs agent) := by
  have refused : s.Accessed (if (s.readyHbm a bs.length).reachable a bs.length then s.readyHbm a bs.length
      else (s.readyHbm a bs.length).refuseInvalid a bs.length agent) := by
    split
    · exact s.accessed_readyHbm a _
    · exact (s.accessed_readyHbm a _).trans (State.accessed_refuseInvalid _ _ _ _)
  unfold State.writeHbm
  dsimp only
  split
  · exact refused
  · exact refused.trans (State.accessed_writeMem _ _)

theorem State.accessed_agentWrite (s : State) (vat a : Nat) (bs : List Byte) (agent : Nat) : s.Accessed (s.agentWrite vat a bs agent) := by
  unfold State.agentWrite
  split
  · exact s.accessed_writeHbm a bs agent
  · exact s.accessed_refuseOutside vat a _ agent

theorem State.accessed_kWrite (s : State) (v : VatNo) (a : Nat) (bs : List Byte) : s.Accessed (s.kWrite v a bs) :=
  s.accessed_agentWrite v a bs 3

/-- A poisoned byte that the page keeper reads is drawn (R236). -/
theorem State.accessed_kRead (s : State) (v : VatNo) (a n : Nat) : s.Accessed (s.kRead v a n).2 := by
  unfold State.kRead
  refine (s.accessed_agentRead v a n 3).trans (State.Accessed.foldl_snd (fun p b => ?_) _ ([], (s.agentRead v a n 3).2))
  split
  · exact p.2.accessed_free
  · exact .refl p.2

theorem State.accessed_readBlock (s : State) (q : SeqRec) (t : Nat) : s.Accessed (s.readBlock q t).2 := s.accessed_kRead _ _ _

theorem State.accessed_writeBlock (s : State) (q : SeqRec) (t : Nat) (ws : List Nat) : s.Accessed (s.writeBlock q t ws) :=
  s.accessed_kWrite _ _ _

theorem State.accessed_readBlocks (s : State) (q : SeqRec) (a b : Nat) : s.Accessed (s.readBlocks q a b).2 :=
  State.Accessed.foldl_snd (f := fun (p : List (List Nat) × State) i => ((p.2.readBlock q (a + i)).1 :: p.1, (p.2.readBlock q (a + i)).2))
    (fun p i => p.2.accessed_readBlock q (a + i)) _ ([], s)

theorem State.accessed_heldEntries (s : State) (q : SeqRec) : s.Accessed (s.heldEntries q).2 := s.accessed_readBlocks _ _ _

end Sys2Proof.Machine
end

section
/-! O31: page work (R181), the ends of swaps (R184 to R186) and the closing of pipes (R259). -/

set_option Elab.async false
namespace Sys2Proof.Machine

/-- Page work begins for the first due beat, and ends when its demands are met (R181); pipes close (R259). -/
theorem holdsPageWork_holds : holdsPageWork := by
  refine ⟨fun v s n rest due idle => ⟨fun early hclk => ?_, fun down => ⟨fun hclk => ?_, fun hclk => ?_⟩, fun up late hclk => ?_⟩,
    fun v s n busy demanded up => ⟨fun inbound => ?_, fun b waits out hclk => ?_⟩, fun n s => ⟨fun done hclk => ?_, fun open_ hclk => ?_⟩⟩
  · rw [exec_pageWork, execPageWork, State.clocked_of hclk, due, idle]; simp only [early, Bool.or_true, if_true]
  · rw [exec_pageWork, execPageWork, State.clocked_of hclk, due, idle]; simp only [down, Bool.not_false, Bool.true_or, if_true]
  · rw [exec_pageWorkEnd, execPageWorkEnd, State.clocked_of hclk, idle]
  · rw [exec_pageWork, execPageWork, State.clocked_of hclk, due, idle]; simp only [up, late, Bool.not_true, Bool.or_self, Bool.false_eq_true, if_false]
  · have none_ : (s.work[v].waitFor.any fun i => if h : i < 64 then s.seqs[i].state == 2 else false) = false := by
      rw [List.any_eq_false]
      intro i hi
      split
      · next h => simpa using inbound ⟨i, h⟩ hi
      · decide
    refine ⟨fun met hclk => ?_, fun unmet hclk => ?_⟩
    · rw [exec_pageWorkEnd, execPageWorkEnd, State.clocked_of hclk, busy]
      simp only [up, demanded, none_, Bool.not_true, Bool.or_self, Bool.false_eq_true, if_false]
      rw [if_pos (by rw [met]; rfl)]
    · rw [exec_pageWorkEnd, execPageWorkEnd, State.clocked_of hclk, busy]
      simp only [up, demanded, none_, Bool.not_true, Bool.or_self, Bool.false_eq_true, if_false]
      rw [if_neg (by simpa using unmet)]
  · have some_ : (s.work[v].waitFor.any fun i => if h : i < 64 then s.seqs[i].state == 2 else false) = true := by
      rw [List.any_eq_true]
      exact ⟨b.val, waits, by rw [dif_pos b.isLt]; simpa using out⟩
    rw [exec_pageWorkEnd, execPageWorkEnd, State.clocked_of hclk, busy]
    simp only [some_, Bool.or_true, if_true]
  · rw [exec_pipeCloseComplete, execPipeCloseComplete, State.clocked_of hclk, if_pos done]
  · rw [exec_pipeCloseComplete, execPipeCloseComplete, State.clocked_of hclk, if_neg (by simp [open_])]

theorem State.setSeq_seq_ne (s : State) {b d : Fin 64} (q : SeqRec) (h : d ≠ b) : (s.setSeq b q).seqs[d] = s.seqs[d] := by
  show (s.seqs.set b q)[d] = s.seqs[d]
  rw [Fin.getElem_fin, Vector.getElem_set_ne _ _ fun i => h (Fin.ext i.symm)]
  rfl

theorem State.setSeq_seq (s : State) (b : Fin 64) (q : SeqRec) : (s.setSeq b q).seqs[b] = q := by
  simp [State.setSeq]

/-- What follows a slot's sequence record: the frames of its own counted, nothing of another slot (R168). -/
theorem State.refreshPriv_seqs (s : State) (b : Fin 64) :
    (s.refreshPriv b).seqs[b] = { s.seqs[b] with priv := ((s.refreshPriv b).seqs[b]).priv }
    ∧ (∀ d, d ≠ b → (s.refreshPriv b).seqs[d] = s.seqs[d]) ∧ (s.refreshPriv b).cores = s.cores := by
  unfold State.refreshPriv
  dsimp only
  split
  · exact ⟨rfl, fun _ _ => rfl, rfl⟩
  · have held := s.accessed_heldEntries s.seqs[b]
    refine ⟨?_, fun d hd => ?_, held.cores⟩
    · simp only [State.setSeq, Fin.getElem_fin, Vector.getElem_set_self]
    · exact (s.heldEntries s.seqs[b]).2.setSeq_seq_ne _ hd |>.trans (by rw [held.seqs])

/-- Frames set one after another change no sequence and no core. -/
theorem State.foldl_setFrame (l : List Nat) (s : State) (r : State → Frame) :
    (l.foldl (fun (s : State) f => s.setFrame f (r s)) s).seqs = s.seqs ∧ (l.foldl (fun (s : State) f => s.setFrame f (r s)) s).cores = s.cores := by
  induction l generalizing s with
  | nil => exact ⟨rfl, rfl⟩
  | cons f l ih => exact ih (s.setFrame f (r s))

/-- The end of a swap-out (R184): its sequence is swapped, with nothing moving; no other sequence and no core changes. -/
theorem State.swapOutDone_seqs (s : State) (b : Fin 64) :
    (s.swapOutDone b).seqs[b] = { s.seqs[b] with state := 3, moving := [], priv := ((s.swapOutDone b).seqs[b]).priv }
    ∧ (∀ d, d ≠ b → (s.swapOutDone b).seqs[d] = s.seqs[d]) ∧ (s.swapOutDone b).cores = s.cores := by
  let q := s.seqs[b]
  obtain ⟨fix, hs⟩ : ∃ fix : Nat → Nat, s.swapOutDone b = (((((q.moving.foldl (fun (s : State) f => s.setFrame f Frame.free)
      ((List.range q.blocks).foldl (fun (s : State) t => (s.readBlock q t).2.writeBlock q t ((s.readBlock q t).1.map fix)) s)).setSeq b
        { q with state := 3, moving := [] }).refreshPriv b).countPage 6 q.moving.length).raise 0x0901 0x5000
        [(b.val, 1), (q.moving.length, 4), (q.hostFrames.length, 4)]) := ⟨_, rfl⟩
  have moved := State.Accessed.foldl (fun (s : State) t =>
    (s.accessed_readBlock q t).trans (State.accessed_writeBlock _ q t ((s.readBlock q t).1.map fix))) (List.range q.blocks) s
  generalize (List.range q.blocks).foldl _ s = u at moved hs
  obtain ⟨freedSeqs, freedCores⟩ := State.foldl_setFrame q.moving u fun _ => Frame.free
  generalize q.moving.foldl _ u = v at freedSeqs freedCores hs
  obtain ⟨own, others, cores⟩ := (v.setSeq b { q with state := 3, moving := [] }).refreshPriv_seqs b
  generalize (v.setSeq b { q with state := 3, moving := [] }).refreshPriv b = w at own others cores hs
  have told : w.Reported (s.swapOutDone b) := hs ▸ (State.reported_count _ _ _ _ _ _).trans (State.reported_raise _ _ _ _)
  rw [told.seqs, told.cores]
  refine ⟨?_, fun d hd => ?_, ?_⟩
  · rw [v.setSeq_seq] at own
    exact own
  · rw [others d hd, v.setSeq_seq_ne _ hd, freedSeqs, moved.seqs]
  · rw [cores]
    exact freedCores.trans moved.cores

/-- The reads that came back leave the host's port (R332). -/
theorem State.notes_readsBack (s : State) (v : VatNo) (p : Nat → Bool) : s.Notes (s.readsBack v p) := by
  unfold State.readsBack
  exact ((State.Notes.trans (t := s.readsEnd v p) rfl (State.Notes.foldl (fun s h => s.notes_send _) _ _))).trans (State.notes_flushHost _)

/-- The ends of swaps (R184 to R186). -/
theorem holdsSwaps_holds : holdsSwaps := by
  intro b s hclk q e
  have outRun (out : q.state = 2) (up : s.hostHeld q.vat = false) :
      exec (.swapOutComplete b) s = .next (s.ends ((s.swapReads b).swapOutDone b)) := by
    rw [exec_swapOutComplete, execSwapOutComplete, State.clocked_of hclk, if_neg (by rw [show s.seqs[b].state = 2 from out, up]; decide)]
  have failRun (status : Nat) : exec (.swapTransferFailed b status) s = .next (s.ends (s.swapFail b status)) := by
    rw [exec_swapTransferFailed, execSwapTransferFailed, State.clocked_of hclk]
  refine ⟨fun out up => ⟨fun _ => outRun out up, _, outRun out up, ?_⟩, fun data in_ up length _ => ?_, fun status out _ => ?_,
    fun status in_ _ => ?_, fun out in_ status _ => ?_⟩
  · have back : s.Notes (s.swapReads b) := s.notes_readsBack _ _
    obtain ⟨own, others, cores⟩ := (s.swapReads b).swapOutDone_seqs b
    simp only [State.ends_seqs, State.ends_cores]
    rw [back.seqs] at own
    exact ⟨own, fun d hd => (others d hd).trans (by rw [back.seqs]), cores.trans back.cores⟩
  · rw [exec_swapInComplete, execSwapInComplete, State.clocked_of hclk,
      if_neg (by rw [show s.seqs[b].state = 4 from in_, up, length]; simp [q])]
  · rw [failRun, State.swapFail, if_pos out]
  · rw [failRun, State.swapFail, if_neg (by rw [show s.seqs[b].state = 4 from in_]; decide), if_pos in_]
  · rw [failRun, State.swapFail, if_neg out, if_neg in_]

/-- Settles O31: each command by what it finds; the end of a swap-out replaces its own sequence alone. -/
theorem pagesAndSwaps : Obligations.PagesAndSwaps := by
  unfold Obligations.PagesAndSwaps
  exact ⟨holdsPageWork_holds, holdsSwaps_holds⟩

end Sys2Proof.Machine
end

section
/-! O32: clearing, scrubbing, shadow moves, relocation and stack failure (R240, R241, R246, R248, R249). -/

set_option Elab.async false
namespace Sys2Proof.Machine

/-! ### Keys kept, dropped and copied -/

/-- A key that a filter keeps reads as before. -/
theorem Sparse.get_filter_kept {α : Type} (d : α) (keep : Nat → Bool) (m : Sparse α) {k : Nat} (h : keep k = true) :
    Sparse.get d (m.filter fun p => keep p.1) k = Sparse.get d m k := by
  induction m with
  | nil => rfl
  | cons p m ih =>
    by_cases hp : keep p.1 = true
    · rw [List.filter_cons_of_pos (by exact hp)]
      simp only [Sparse.get, ih]
    · rw [List.filter_cons_of_neg (by exact hp), ih, Sparse.get, if_neg (by rintro rfl; exact hp h)]

/-- The entries of one granule copied to another, in a form with each key listed once: a key of the other granule reads what was
copied to it, and otherwise as before. -/
theorem get_foldl_copy (from_ goal : Nat) (bs : Sparse Byte) {low : Nat} (rising : Sparse.above low bs = true)
    (here : ∀ p ∈ bs, p.1 / 4096 = from_) (m : Sparse Byte) (hm : Sparse.wf 0#8 m = true) (k : Nat) :
    Sparse.get 0#8 (bs.foldl (fun b p => Sparse.set 0#8 b (goal * 4096 + p.1 % 4096) p.2) m) k
      = if k / 4096 = goal then Sparse.get (Sparse.get 0#8 m k) bs (from_ * 4096 + k % 4096) else Sparse.get 0#8 m k := by
  induction bs generalizing m low with
  | nil => simp [Sparse.get]
  | cons p bs ih =>
    simp only [Sparse.above, Bool.and_eq_true, decide_eq_true_eq] at rising
    have first : p.1 / 4096 = from_ := here p List.mem_cons_self
    rw [List.foldl_cons, ih rising.2 (fun q hq => here q (List.mem_cons_of_mem _ hq)) _ (Sparse.wf_set _ _ _ _ hm)]
    by_cases inside : k / 4096 = goal
    · rw [if_pos inside, if_pos inside, Sparse.get]
      by_cases same : p.1 = from_ * 4096 + k % 4096
      · have key : goal * 4096 + p.1 % 4096 = k := by omega
        rw [key, Sparse.get_set_self _ _ _ _ (Sparse.above_of_wf hm), if_pos same,
          Sparse.get_of_above _ _ (p.1 + 1) _ rising.2 (by omega)]
      · rw [Sparse.get_set_ne _ _ _ _ _ (by omega), if_neg same]
    · rw [if_neg inside, if_neg inside, Sparse.get_set_ne _ _ _ _ _ (by omega)]

/-- A granule copied: its goal reads what it held, and every other byte is as before (R241). -/
theorem Mem.get_copyGranule {m : Mem} (hm : Sparse.wf 0#8 m.bytes = true) (from_ goal x : Nat) :
    Sparse.get 0#8 (m.copyGranule from_ goal).bytes x
      = if x / 4096 = goal then Sparse.get 0#8 m.bytes (from_ * 4096 + x % 4096) else Sparse.get 0#8 m.bytes x := by
  have rising := Sparse.above_filter (fun p => p.1 / 4096 == from_) m.bytes 0 (Sparse.above_of_wf hm)
  have here : ∀ p ∈ m.bytes.filter fun p => p.1 / 4096 == from_, p.1 / 4096 = from_ := fun p hp => by simpa using (List.mem_filter.mp hp).2
  unfold Mem.copyGranule
  dsimp only
  rw [get_foldl_copy from_ goal _ rising here _ (Sparse.wf_filter _ _ _ hm)]
  split
  · next h =>
    rw [Sparse.get_filter_dropped _ (fun k => k / 4096 != goal) m.bytes (by simp [h]),
      Sparse.get_filter_kept _ (fun k => k / 4096 == from_) m.bytes (by simp; omega)]
  · next h => exact Sparse.get_filter_kept _ (fun k => k / 4096 != goal) m.bytes (by simpa using h)

/-! ### The order of a shadow move -/

/-- The place of a granule in the order of a move is its own inverse (R241). -/
theorem ShadowMove.place_place {m : ShadowMove} {i : Nat} (h : i < m.granules) (two : 2 ≤ m.granules) : m.place (m.place i) = i := by
  have half : 0 < m.granules / 2 := by omega
  unfold ShadowMove.place
  dsimp only
  by_cases both : (m.up 0 && m.up 1) = true
  · simp only [both, if_true]; omega
  · simp only [both, if_false, Bool.false_eq_true]
    by_cases up : m.up (i / (m.granules / 2)) = true
    · have lt := Nat.mod_lt i half
      have quot (e : Nat) (he : e < m.granules / 2) :
          (i / (m.granules / 2) * (m.granules / 2) + e) / (m.granules / 2) = i / (m.granules / 2) := by
        rw [Nat.add_comm, Nat.add_mul_div_right _ _ half, Nat.div_eq_of_lt he, Nat.zero_add]
      have rem (e : Nat) (he : e < m.granules / 2) :
          (i / (m.granules / 2) * (m.granules / 2) + e) % (m.granules / 2) = e := by
        rw [Nat.add_comm, Nat.add_mul_mod_self_right, Nat.mod_eq_of_lt he]
      have small : m.granules / 2 - 1 - i % (m.granules / 2) < m.granules / 2 :=
        Nat.lt_of_le_of_lt (Nat.sub_le _ _) (Nat.sub_lt half Nat.one_pos)
      rw [if_pos up, quot _ small, if_pos up, rem _ small]
      have back : m.granules / 2 - 1 - (m.granules / 2 - 1 - i % (m.granules / 2)) = i % (m.granules / 2) :=
        Nat.sub_sub_self (Nat.le_sub_one_of_lt lt)
      rw [back, Nat.div_add_mod']
    · simp only [up, if_false, Bool.false_eq_true]

/-- With nothing done out of order the next place is the next number. -/
theorem skipEarly_nil (n : Nat) : skipEarly [] n = n := by simp [skipEarly]

/-- The next place of a move noted: one more copied. -/
theorem ShadowMove.note_next {m : ShadowMove} (h : m.early = []) : m.note m.copied = { m with copied := m.copied + 1 } := by
  simp [ShadowMove.note, h, skipEarly_nil]

/-! ### The commands -/

/-- GRANULE_CLEAR of the lowest uncleared granule while no shadow moves (R240, R374). -/
theorem granuleClear_runs {d : Fin 4} {g : Nat} {s : State} (hclk : s.power.clocks = true) (still : s.shadowMove = none)
    (lowest : s.lowestUncleared d.val = some (d.val * 2 ^ 25 + g)) :
    exec (.granuleClear d g) s = .next { s with
      hbm := ⟨s.hbm.bytes.filter fun c => c.1 / 4096 != d.val * 2 ^ 25 + g, s.hbm.marks.filter fun k => k.1 / 256 != d.val * 2 ^ 25 + g,
        s.hbm.parts⟩
      uncleared := cutRange s.uncleared (d.val * 2 ^ 25 + g) } := by
  have ahead (n g : Nat) : State.copyAhead n s g = s := by
    cases n with
    | zero => rfl
    | succ n => rw [State.copyAhead, still]
  rw [exec_granuleClear, execGranuleClear, State.clocked_of hclk, if_pos lowest, State.clearGranule, ahead]
  exact congrArg Host.Outcome.next (State.ends_eq rfl rfl rfl)

/-- A scrub pass (R246). -/
theorem scrubPass_of {p : ScrubReport} {s : State} (on : s.cfgAt (ek (0xD040 + p.die.val) 4) = 0)
    (answers : s.dieAnswers (p.die.val * 2 ^ 37) = true) :
    (s.clearing p.die.val = false → s.reloc[p.die] = none → (s.hbm.marks.all fun k => k.1 / 2 ^ 33 != p.die.val) = true →
      let onDie (s : State) (k n : Nat) : State :=
        s.count (ek (0xD050 + 3 * p.die.val + k) 4) n 0x0D08 (diePath p.die.val) [(0xD050 + 3 * p.die.val + k, 2), (4, 2)]
      leaves (.scrubPass p) s ((onDie (onDie (onDie s 0 p.n0) 1 p.n1) 2 p.n2).scrubDone p.die.val))
    ∧ ((s.clearing p.die.val = true ∨ s.reloc[p.die] ≠ none) → (s.volAt (ek (0xD040 + p.die.val) 8)).testBit 62 = false →
      leaves (.scrubPass p) s (s.setVol (ek (0xD040 + p.die.val) 8) (s.volAt (ek (0xD040 + p.die.val) 8) + 2 ^ 62))) := by
  refine ⟨fun cleared still clean hclk => ?_, fun busy fresh hclk => ?_⟩
  · have words : (s.hbm.marks.filter fun k => k.1 / 2 ^ 33 == p.die.val && decide (16 * k.1 % 2 ^ 37 < s.dieTop p.die.val)) = [] := by
      rw [List.filter_eq_nil_iff]
      intro k hk
      have := List.all_eq_true.mp clean k hk
      simp_all
    rw [exec_scrubPass, execScrubPass, State.clocked_of hclk]
    dsimp only
    rw [if_neg (by rw [on, answers]; decide), if_neg (by rw [cleared, still]; decide), words]
    rfl
  · rw [exec_scrubPass, execScrubPass, State.clocked_of hclk]
    dsimp only
    rw [if_neg (by rw [on, answers]; decide), if_pos (by simpa [Option.isSome_iff_ne_none] using busy),
      if_neg (by rw [fresh]; decide)]

/-- A granule copied, with more of the move to come (R241): the move is one further, and its goal holds what its origin held. -/
theorem State.copyShadow_next {s : State} {m : ShadowMove} (early : m.early = []) (more : m.copied + 1 < m.granules) :
    let i := m.place m.copied
    let r := s.resolve .hbm (s.rawKey (m.origin i)) 4096
    let a := s.rawKey (m.origin i)
    let b := s.rawKey (m.goal i)
    (s.copyShadow m i).shadowMove = some { m with copied := m.copied + 1 }
    ∧ (s.copyShadow m i).volAt (ek 0xD000 7) = m.granules - (m.copied + 1)
    ∧ (r.dieAnswers a = true → r.dieAnswers b = true → (s.copyShadow m i).hbm = r.hbm.copyGranule (a / 4096) (b / 4096)) := by
  intro i r a b
  have note : m.note (m.place i) = { m with copied := m.copied + 1 } := by
    rw [ShadowMove.place_place (by omega) (by omega), ShadowMove.note_next early]
  have left : ({ m with copied := m.copied + 1 } : ShadowMove).left = m.granules - (m.copied + 1) := by
    simp [ShadowMove.left, early]
  have some_ : m.granules - (m.copied + 1) ≠ 0 := by omega
  unfold State.copyShadow
  dsimp only
  rw [note, left, if_neg some_]
  refine ⟨rfl, ?_, fun ha hb => ?_⟩
  · exact State.volAt_setVol_of_ne_default _ (by rw [show volDefault (ek 0xD000 7) = 0 from by decide]; exact some_)
  · show (if (!r.dieAnswers b) = true then r.hbm else if r.dieAnswers a = true then _ else _) = _
    rw [if_neg (by rw [hb]; decide), if_pos ha]

/-- A shadow move goes on (R241). -/
theorem shadowMove_goes (s : State) (m : ShadowMove) (moving : s.shadowMove = some m) (early : m.early = []) (more : m.copied + 1 < m.granules)
    (hclk : s.power.clocks = true) :
    let i := m.place m.copied
    let a := s.rawKey (m.origin i)
    let b := s.rawKey (m.goal i)
    let r := s.resolve .hbm a 4096
    ∃ t, exec .shadowMoveGranule s = .next t ∧ t.shadowMove = some { m with copied := m.copied + 1 } ∧ t.cores = s.cores
      ∧ t.volAt (ek 0xD000 7) = m.granules - (m.copied + 1)
      ∧ (r.dieAnswers a = true → r.dieAnswers b = true → Sparse.wf 0#8 r.hbm.bytes = true →
        (∀ x, x / 4096 = b / 4096 → Sparse.get 0#8 t.hbm.bytes x = Sparse.get 0#8 r.hbm.bytes (a / 4096 * 4096 + x % 4096))
        ∧ ∀ x, x / 4096 ≠ b / 4096 → Sparse.get 0#8 t.hbm.bytes x = Sparse.get 0#8 r.hbm.bytes x) := by
  intro i a b r
  obtain ⟨move, left, bytes⟩ := s.copyShadow_next early more
  refine ⟨s.ends (s.copyShadow m i), ?_, ?_, ?_, ?_, fun ha hb hm => ?_⟩
  · rw [exec_shadowMoveGranule, execShadowMoveGranule, State.clocked_of hclk, moving]
  · rw [State.ends_shadowMove, move]
  · rw [State.ends_cores, (s.accessed_copyShadow m i).cores]
  · rw [State.volAt_ends _ _ (by decide), left]
  · rw [State.ends_hbm, bytes ha hb]
    refine ⟨fun x hx => ?_, fun x hx => ?_⟩
    · rw [Mem.get_copyGranule hm, if_pos hx]
    · rw [Mem.get_copyGranule hm, if_neg hx]

/-- A row of a relocation that has begun is its next one; the relocation after it (R248). -/
theorem State.relocateRow_reloc {s : State} {d : Fin 4} {r : Reloc} (hr : s.reloc[d] = some r) (begun : r.begun = true) (early : r.early = []) :
    ∃ n, (s.relocateRow d r.next).reloc[d] = some { r with next := r.next + 1, early := [], poisoned := n } := by
  unfold State.relocateRow
  rw [hr]
  dsimp only
  rw [if_neg (by simp [begun, early])]
  simp only [if_true, early]
  exact ⟨_, Vector.getElem_set_self d.isLt⟩

/-- A relocation with nothing done out of order and more than one row to come does its next row (R248). -/
theorem relocateGranule_next (d : Fin 4) (s : State) (r : Reloc) (hr : s.reloc[d] = some r) (begun : r.begun = true)
    (more : r.next + 1 < setRows) (early : r.early = []) :
    let u : State := { s with reloc := s.reloc.set d (some r) }
    leaves (.relocateGranule d) s (u.relocateRow d r.next) := by
  intro u hclk
  have same : ({ r with next := r.next, early := [] } : Reloc) = r := by rw [← early]
  have hu : u.reloc[d] = some r := by simp only [u, Fin.getElem_fin, Vector.getElem_set_self]
  obtain ⟨n, after⟩ := State.relocateRow_reloc hu begun early
  rw [exec_relocateGranule, execRelocateGranule, State.clocked_of hclk, hr]
  simp only [early, skipEarly_nil, List.filter_nil, same]
  have room : r.next < setRows := by omega
  have end_ : ¬ setRows ≤ r.next + 1 := by omega
  have next : (State.relocateRow { s with reloc := s.reloc.set d (some r) } d r.next).reloc[d]
      = some { r with next := r.next + 1, early := [], poisoned := n } := after
  simp only [begun, Bool.not_true, Bool.false_eq_true, if_false, if_pos room, next, skipEarly_nil, if_neg end_]
  rfl

/-- Settles O32: a granule cleared and one copied by what their keys read; the others by their one branch. -/
theorem storageSteps : Obligations.StorageSteps := by
  unfold Obligations.StorageSteps
  refine ⟨fun d g s hclk still lowest => ⟨_, granuleClear_runs hclk still lowest, fun a ha => ?_, fun a ha => ?_, fun w hw => ?_,
      fun w hw => ?_, rfl, rfl, rfl⟩, fun p s hclk off => ?_, fun p s on answers => scrubPass_of on answers,
    fun s m moving early more hclk => shadowMove_goes s m moving early more hclk,
    fun d s r hr begun more early => relocateGranule_next d s r hr begun more early,
    fun k cause s => ⟨fun failed hclk => ?_, fun works hclk => ?_⟩⟩
  · exact Sparse.get_filter_dropped _ (fun k => k / 4096 != d.val * 2 ^ 25 + g) _ (by simp [ha])
  · exact Sparse.get_filter_kept _ (fun k => k / 4096 != d.val * 2 ^ 25 + g) _ (by simpa using ha)
  · exact Sparse.get_filter_dropped _ (fun k => k / 256 != d.val * 2 ^ 25 + g) _ (by simp [hw])
  · exact Sparse.get_filter_kept _ (fun k => k / 256 != d.val * 2 ^ 25 + g) _ (by simpa using hw)
  · rw [exec_scrubPass, execScrubPass, State.clocked_of hclk]
    dsimp only
    rw [if_pos (Or.inl off), State.ends_eq rfl rfl rfl]
  · rw [exec_hbmStackFailure, execHbmStackFailure, State.clocked_of hclk]
    dsimp only
    rw [if_pos failed]
  · rw [exec_hbmStackFailure, execHbmStackFailure, State.clocked_of hclk]
    dsimp only
    rw [if_neg works]

end Sys2Proof.Machine
end

section
/-! O36: what the host reads and writes (R322 to R333). -/

set_option Elab.async false
namespace Sys2Proof.Machine

/-! ### BAR4 -/

/-- BAR4 (R326): the outcome is the refusal's, or the one of the bytes read. -/
theorem holdsBar4_holds : holdsBar4 := by
  intro fn off secure s ide a
  have hide : ¬ (!s.ideOk fn secure) = true := by simp [ide]
  refine ⟨fun n inside => ?_, fun data inside => ?_⟩
  · have hin : ¬ (!s.inBar4 fn off n) = true := by simp [inside]
    refine ⟨fun code refused clocks => ?_, fun free => ⟨fun clean clocks => ?_, fun poison clocks => ?_⟩⟩ <;>
      rw [exec_bar4Read, execBar4Read, State.clocked_of clocks, if_neg hin, if_neg hide] <;> dsimp only
    · rw [show s.bar4Refusal fn (s.bar4Addr fn off) n = some code from refused] <;> rfl
    · rw [show s.bar4Refusal fn (s.bar4Addr fn off) n = none from free]
      exact congrArg (fun t => Host.Outcome.next (s.ends t)) (if_neg (Bool.eq_false_iff.mp clean))
    · rw [show s.bar4Refusal fn (s.bar4Addr fn off) n = none from free]
      exact congrArg (fun t => Host.Outcome.next (s.ends t)) (if_pos poison)
  · have hin : ¬ (!s.inBar4 fn off data.length) = true := by simp [inside]
    refine ⟨fun code refused clocks => ?_, fun free clocks => ?_⟩ <;>
      rw [exec_bar4Write, execBar4Write, State.clocked_of clocks, if_neg hin, if_neg hide] <;> dsimp only
    · rw [show s.bar4Refusal fn (s.bar4Addr fn off) data.length = some code from refused] <;> rfl
    · rw [show s.bar4Refusal fn (s.bar4Addr fn off) data.length = none from free] <;> rfl

/-! ### The registers of BAR0 -/

theorem State.updFunc_of_fixed {s : State} {fn : FnNo} {f : Func → Func} (h : f s.funcs[fn] = s.funcs[fn]) : s.updFunc fn f = s := by
  unfold State.updFunc
  rw [h, show s.funcs.set fn s.funcs[fn] = s.funcs from Vector.set_getElem_self fn.isLt]

theorem State.updFunc_func_self (s : State) (fn : FnNo) (f : Func → Func) : (s.updFunc fn f).funcs[fn] = f s.funcs[fn] :=
  Vector.getElem_set_self fn.isLt

theorem State.ends_updFunc (s : State) (fn : FnNo) (f : Func → Func) : s.ends (s.updFunc fn f) = s.updFunc fn f :=
  State.ends_eq rfl rfl rfl

/-- A write of one byte gives a register of one byte its value. -/
theorem overlay_byte (at_ old : Nat) (b : Byte) : overlay at_ 1 old at_ [b] = b.toNat := by
  simp [overlay, leBytes, leNat, List.range_succ, List.zipIdx]

/-- A write beside a register of one byte leaves it. -/
theorem overlay_beside {at_ old off : Nat} {data : List Byte} (h : touches at_ 1 off data = false) : overlay at_ 1 old off data = old % 256 := by
  simp only [touches, decide_eq_false_iff_not] at h
  have out : ¬ (off ≤ at_ ∧ at_ < off + data.length) := by omega
  simp [overlay, leBytes, leNat, List.range_succ, List.zipIdx, out]

/-- A write beside a register of two bytes, taken as zero, leaves it zero. -/
theorem overlay_beside_two {at_ off : Nat} {data : List Byte} (h : touches at_ 2 off data = false) : overlay at_ 2 0 off data = 0 := by
  simp only [touches, decide_eq_false_iff_not] at h
  have lo : ¬ (off ≤ at_ ∧ at_ < off + data.length) := by omega
  have hi : ¬ (off ≤ at_ + 1 ∧ at_ + 1 < off + data.length) := by omega
  simp [overlay, leBytes, leNat, List.range_succ, List.zipIdx, lo, hi]

/-- The request length a write of its two bytes gives. -/
theorem overlay_leBytes_two {at_ n : Nat} (h : n < 65536) : overlay at_ 2 0 at_ (leBytes n 2) = n := by
  simp [overlay, leBytes, leNat, List.range_succ, List.zipIdx, Nat.shiftRight_eq_div_pow]
  omega

/-- A write of the request length alone (Table 17-4). -/
theorem State.writeRegs_length (s : State) (fn : FnNo) {n : Nat} (pos : 0 < n) (small : n < 65536) :
    s.writeRegs fn 0x30 (leBytes n 2)
      = if s.funcs[fn].busy then s.countHost 6 1 else s.updFunc fn fun g => { g with busy := true, reqLen := n } := by
  have len : (leBytes n 2).length = 2 := by simp [leBytes]
  have enables : overlay 0x10 1 s.funcs[fn].enables.toNat 0x30 (leBytes n 2) = s.funcs[fn].enables.toNat := by
    rw [overlay_beside (by simp [touches, len]), Nat.mod_eq_of_lt (by omega)]
  have causes : overlay 0x18 1 0 0x30 (leBytes n 2) = 0 := overlay_beside (by simp [touches, len])
  have kept : (s.updFunc fn fun g => { g with
      enables := BitVec.ofNat 6 (overlay 0x10 1 g.enables.toNat 0x30 (leBytes n 2))
      causes := g.causes &&& ~~~BitVec.ofNat 6 (overlay 0x18 1 0 0x30 (leBytes n 2)) }) = s :=
    State.updFunc_of_fixed (by
      rw [enables, causes, BitVec.ofNat_toNat, BitVec.setWidth_eq, BitVec.not_zero, BitVec.and_allOnes])
  have base : ¬ touches 0x08 8 0x30 (leBytes n 2) = true := by simp [touches, len]
  unfold State.writeRegs
  dsimp only
  rw [if_neg base, kept, overlay_leBytes_two small, if_neg (by omega)]

/-- A write of one byte to the enables alone (Table 17-4). -/
theorem State.writeRegs_enables (s : State) (fn : FnNo) (b : Byte) :
    s.writeRegs fn 0x10 [b] = s.updFunc fn fun g => { g with enables := BitVec.ofNat 6 b.toNat } := by
  have base : ¬ touches 0x08 8 0x10 [b] = true := by simp [touches]
  have causes : overlay 0x18 1 0 0x10 [b] = 0 := overlay_beside (by simp [touches])
  have length : overlay 0x30 2 0 0x10 [b] = 0 := overlay_beside_two (by simp [touches])
  unfold State.writeRegs
  dsimp only
  simp only [if_neg base, causes, length, overlay_byte, if_true, BitVec.not_zero, BitVec.and_allOnes]

/-- A write of one byte to the causes alone clears those it names (Table 17-4). -/
theorem State.writeRegs_causes (s : State) (fn : FnNo) (b : Byte) :
    s.writeRegs fn 0x18 [b] = s.updFunc fn fun g => { g with causes := g.causes &&& ~~~BitVec.ofNat 6 b.toNat } := by
  have enables (g : Func) : BitVec.ofNat 6 (overlay 0x10 1 g.enables.toNat 0x18 [b]) = g.enables := by
    rw [overlay_beside (by simp [touches]), Nat.mod_eq_of_lt (by omega), BitVec.ofNat_toNat, BitVec.setWidth_eq]
  have base : ¬ touches 0x08 8 0x18 [b] = true := by simp [touches]
  have length : overlay 0x30 2 0 0x18 [b] = 0 := overlay_beside_two (by simp [touches])
  unfold State.writeRegs
  dsimp only
  simp only [if_neg base, enables, length, overlay_byte, if_true]

/-- A write to the host registers of a function that takes it. -/
theorem exec_registerWrite_regs {fn : FnNo} {off : Nat} {data : List Byte} {secure : Bool} {s : State} (clocks : s.power.clocks = true)
    (there : s.fnExists fn = true) (on : s.barOn fn 0 = true) (ide : s.ideOk fn secure = true) (low : off < 0x1000) :
    exec (.registerWrite fn (.bar0 off) data secure) s = .next (s.ends (s.writeRegs fn off data)) := by
  simp [exec_registerWrite, execRegisterWrite, State.clocked_of clocks, there, on, ide, State.writeBar0, low]

/-- A write to the configuration space of the physical function (R322). -/
theorem exec_registerWrite_config {r : ConfigReg} {data : List Byte} {secure : Bool} {s : State} (clocks : s.power.clocks = true)
    (there : s.fnExists 0 = true) (powered : s.portPowered = true) :
    exec (.registerWrite 0 (.config r) data secure) s = .next (s.ends (s.writeConfig r (leNat data))) := by
  simp [exec_registerWrite, execRegisterWrite, State.clocked_of clocks, there, powered]

/-! ### MSI-X -/

/-- An unmasked vector's mask bit is clear; its pending bit, if it was masked and pending, is clear too. -/
theorem BitVec.getLsbD_and_not_twoPow {w : Nat} (x : BitVec w) (v : Nat) : (x &&& ~~~BitVec.twoPow w v).getLsbD v = false := by
  by_cases h : v < w <;> simp [h]


/-- A message to the host, sent or held, changes the host port and what is sent alone. -/
theorem State.toHost_kept (s : State) (fn : FnNo) (flow : Fin 17) (m : OutMsg) : let t := s.toHost fn flow m
    t.funcs = s.funcs ∧ t.pending = s.pending ∧ t.power = s.power ∧ t.raised = s.raised := by
  unfold State.toHost State.asks
  dsimp only
  split
  · split <;> exact ⟨rfl, rfl, rfl, rfl⟩
  · exact ⟨rfl, rfl, rfl, rfl⟩

/-- A vector unmasked that was masked and pending becomes one message (R330). -/
theorem State.unmask_due {s : State} {fn : FnNo} {v : Nat} (due : (s.funcs[fn].masked.getLsbD v && s.funcs[fn].pend.getLsbD v) = true) :
    s.unmask fn v = (s.updFunc fn fun g => { g with
      masked := g.masked &&& ~~~BitVec.twoPow 128 v, pend := g.pend &&& ~~~BitVec.twoPow 128 v }).toHost fn 16 ⟨.msix, 0, [fn.val, v], []⟩ := by
  simp only [State.unmask, due, if_true]

/-- A vector unmasked that was not pending changes its mask bit alone (R330). -/
theorem State.unmask_idle {s : State} {fn : FnNo} {v : Nat} (idle : (s.funcs[fn].masked.getLsbD v && s.funcs[fn].pend.getLsbD v) = false) :
    s.unmask fn v = s.updFunc fn fun g => { g with masked := g.masked &&& ~~~BitVec.twoPow 128 v } := by
  simp only [State.unmask, idle, Bool.false_eq_true, if_false]

/-- An unmasked vector (R330): pending and masked before, it is one message; otherwise only its mask bit changes. -/
theorem State.unmask_cases (s : State) (fn : FnNo) (v : Nat) : ∃ t, s.ends (s.unmask fn v) = t ∧ (t.funcs[fn]).masked.getLsbD v = false
    ∧ ((s.funcs[fn].masked.getLsbD v && s.funcs[fn].pend.getLsbD v) = true →
        t = s.ends (State.toHost { s with funcs := t.funcs } fn 16 ⟨.msix, 0, [fn.val, v], []⟩) ∧ (t.funcs[fn]).pend.getLsbD v = false)
    ∧ ((s.funcs[fn].masked.getLsbD v && s.funcs[fn].pend.getLsbD v) = false →
        t = { s with funcs := t.funcs } ∧ (t.funcs[fn]).pend = s.funcs[fn].pend) := by
  cases due : s.funcs[fn].masked.getLsbD v && s.funcs[fn].pend.getLsbD v with
  | true =>
    let u := s.updFunc fn fun g => { g with masked := g.masked &&& ~~~BitVec.twoPow 128 v, pend := g.pend &&& ~~~BitVec.twoPow 128 v }
    obtain ⟨funcs, pending, power, raised⟩ := u.toHost_kept fn 16 ⟨.msix, 0, [fn.val, v], []⟩
    have ends : s.ends (s.unmask fn v) = u.toHost fn 16 ⟨.msix, 0, [fn.val, v], []⟩ := by
      rw [State.unmask_due due]
      exact State.ends_eq pending power raised
    refine ⟨_, ends, ?_, fun _ => ⟨?_, ?_⟩, fun h => absurd h (by decide)⟩
    · rw [funcs, State.updFunc_func_self]
      exact BitVec.getLsbD_and_not_twoPow _ _
    · rw [funcs]
      exact (State.ends_eq (s := s) pending power raised).symm
    · rw [funcs, State.updFunc_func_self]
      exact BitVec.getLsbD_and_not_twoPow _ _
  | false =>
    refine ⟨_, rfl, ?_⟩
    rw [State.unmask_idle due, State.ends_updFunc, State.updFunc_func_self]
    exact ⟨BitVec.getLsbD_and_not_twoPow _ _, fun h => absurd h (by decide), fun _ => ⟨rfl, rfl⟩⟩

/-- MSI-X vectors of a function (R330, R333). -/
theorem exec_msixVectorUnmask_of {fn : FnNo} {v : Nat} {secure : Bool} {s : State} (clocks : s.power.clocks = true)
    (there : s.fnExists fn = true) (on : s.barOn fn 0 = true) (hv : v < vectorsOf fn) :
    exec (.msixVectorUnmask fn ⟨v, secure⟩) s = .next (s.ends (if !s.ideOk fn secure then s.discardTlp fn 0 else s.unmask fn v)) := by
  simp [exec_msixVectorUnmask, execMsixVectorUnmask, State.clocked_of clocks, there, on, Nat.not_le.mpr hv]

/-- The option registers of the physical function (Tables 17-1, 17-2). -/
theorem State.writeConfig_taken (s : State) (n : Nat) :
    (n ∈ [128, 256, 512] → s.writeConfig .maxPayload n = { s with host := { s.host with maxPayload := n } })
    ∧ (n ∈ [128, 256, 512, 1024, 2048, 4096] → s.writeConfig .maxReadRequest n = { s with host := { s.host with maxRead := n } })
    ∧ (30 ≤ n → n ≤ 39 → s.writeConfig .barSize n = s.setVol (ek 0x1100 5) n)
    ∧ (30 ≤ n → n ≤ 39 → s.writeConfig .vfBarSize n = { s with host := { s.host with vfBar := n } }) :=
  ⟨fun h => if_pos (List.contains_iff_mem.mpr h), fun h => if_pos (List.contains_iff_mem.mpr h), fun lo hi => if_pos ⟨lo, hi⟩,
    fun lo hi => if_pos ⟨lo, hi⟩⟩

/-- Registers, mailbox, MSI-X and configuration space (R322 to R333). -/
theorem holdsHostRegisters_holds : holdsHostRegisters := by
  intro fn secure s clocks there
  refine ⟨fun off => ⟨fun o data _ => ?_, fun v _ => ?_⟩, fun on ide off data => ?_,
    fun on ide => ⟨fun b => ?_, fun b => ?_, fun n pos small idle => ?_, fun n pos small busy _ => ?_⟩,
    fun v hv on ide _ => ?_, fun v hv on ide => ?_, fun data => ⟨fun hf r _ => ?_, ?_⟩⟩
  · simp [exec_registerWrite, execRegisterWrite, State.clocked_of clocks, there, off]
  · simp [exec_msixVectorUnmask, execMsixVectorUnmask, State.clocked_of clocks, off]
  · simp [exec_registerWrite, execRegisterWrite, State.clocked_of clocks, there, on, ide]
  · rw [exec_registerWrite_regs clocks there on ide (by decide), State.writeRegs_causes, State.ends_updFunc]
    exact ⟨_, rfl, State.updFunc_func_self .., rfl⟩
  · rw [exec_registerWrite_regs clocks there on ide (by decide), State.writeRegs_enables, State.ends_updFunc]
    exact ⟨_, rfl, State.updFunc_func_self .., rfl⟩
  · rw [exec_registerWrite_regs clocks there on ide (by decide), State.writeRegs_length s fn pos small, if_neg (Bool.eq_false_iff.mp idle), State.ends_updFunc]
    exact ⟨_, rfl, State.updFunc_func_self .., rfl⟩
  · rw [exec_registerWrite_regs clocks there on ide (by decide), State.writeRegs_length s fn pos small, if_pos busy]
  · rw [exec_msixVectorUnmask_of clocks there on hv, if_pos (by simp [ide])]
  · rw [exec_msixVectorUnmask_of clocks there on hv, if_neg (by simp [ide])]
    obtain ⟨t, ht, cases⟩ := s.unmask_cases fn v
    exact ⟨t, congrArg _ ht, cases⟩
  · simp [exec_registerWrite, execRegisterWrite, State.clocked_of clocks, there, hf]
  · rintro rfl powered
    obtain ⟨payload, request, bar, vfBar⟩ := s.writeConfig_taken (leNat data)
    refine ⟨fun h _ => ?_, fun h _ => ?_, fun lo hi _ => ?_, fun k => ?_, fun lo hi _ => ?_⟩ <;>
      rw [exec_registerWrite_config clocks there powered]
    · rw [payload h]
    · rw [request h]
    · rw [bar lo hi]
    · refine ⟨s.writeConfig (.bar k) (leNat data), congrArg Host.Outcome.next (State.ends_eq rfl rfl rfl), ?_, rfl, fun j hj => ?_⟩
      · exact (congrArg Option.isSome (Vector.getElem_set_self k.isLt)).trans rfl
      · exact Vector.getElem_set_ne k.isLt j.isLt fun e => hj (Fin.ext e.symm)
    · rw [vfBar lo hi]

/-- Settles O36: a BAR4 access by its refusal; a register write and a vector by the one function record it changes. -/
theorem hostAccess : Obligations.HostAccess := by
  unfold Obligations.HostAccess
  exact ⟨holdsBar4_holds, holdsHostRegisters_holds⟩

end Sys2Proof.Machine
end

section
/-! O17: pre-emption points and the report of a long interval (R146, R147, R150). -/

set_option Elab.async false
namespace Sys2Proof.Machine

/-- The count of long intervals of every core starts at zero (U+8:02). -/
theorem volDefault_intervals : ∀ c : CoreId, volDefault (ek (unitObj (coreUnit c) 8) 2) = 0 := by decide +kernel

/-- A count below saturation reads one more. -/
theorem State.volAt_count_self (s : State) {key n : Nat} (code path : Nat) (fs : List (Nat × Nat)) (pos : 0 < n) (dflt : volDefault key = 0)
    (h : s.volAt key + n < 2 ^ 48 - 1) : (s.count key n code path fs).volAt key = s.volAt key + n := by
  have idle : ¬ (n = 0 ∨ 2 ^ 63 ≤ s.volAt key) := by omega
  unfold State.count
  simp only [if_neg idle, if_pos h]
  exact s.volAt_setVol_of_ne_default (by omega)

/-- The state behind a pre-emption point that goes on: the interval ended and the next word (R146). -/
def State.passedPoint (s : State) (c : CoreId) : State := ((s.countIssued c).closeInterval c).advance c

theorem State.passedPoint_cores (s : State) (c : CoreId) : (s.passedPoint c).cores = s.cores.set c { s.cores[c] with
    pc := s.cores[c].pc + 1, interval := 0, intervalRaised := false, lastPoint := s.cores[c].pc } := by
  have closed : ((s.countIssued c).closeInterval c).cores = s.cores.set c { s.cores[c] with
      interval := 0, intervalRaised := false, lastPoint := s.cores[c].pc } := by rw [← s.countIssued_cores c] <;> rfl
  unfold State.passedPoint State.advance
  rw [State.updCore_cores, closed]
  simp

theorem State.passedPoint_launches (s : State) (c : CoreId) : (s.passedPoint c).launches = s.launches := s.countIssued_launches c

theorem State.passedPoint_hbm (s : State) (c : CoreId) : (s.passedPoint c).hbm = s.hbm := (s.reported_count _ _ _ _ _).hbm

/-- A point reached with no request of its launch's end or of pre-emption goes on (R146). -/
theorem State.reachPoint_of_unasked {s : State} {c : CoreId} {word : Nat} {l : Launch} (hl : s.cores[c].launch.bind s.launchAt = some l)
    (quiet : s.cores[c].preReq = false) (others : (l.cores.all fun k => k.phys != some c || k.fin != .stopping) = true) :
    s.reachPoint c word = s := by
  have none : ¬ (l.cores.any fun k => k.phys == some c && k.fin == .stopping) = true := by
    rw [List.all_eq_not_any_not] at others
    simpa using others
  simp only [State.reachPoint, hl, if_neg none, quiet, Bool.false_and, Bool.false_eq_true, if_false]

/-- A pre-emption point with no request of its own (R146). -/
theorem exec_preempt_unasked {c : CoreId} {h : Hdr} {s : State} {l : Launch} (hi : s.issues c h clsPreempt false = true)
    (hl : s.cores[c].launch.bind s.launchAt = some l) (quiet : s.cores[c].preReq = false)
    (others : (l.cores.all fun k => k.phys != some c || k.fin != .stopping) = true) :
    exec (.preempt c h) s = .next (s.ends (s.passedPoint c)) := by
  have core : (s.passedPoint c).cores[c] = { s.cores[c] with
      pc := s.cores[c].pc + 1, interval := 0, intervalRaised := false, lastPoint := s.cores[c].pc } := by
    simp only [State.passedPoint_cores, Fin.getElem_fin, Vector.getElem_set_self]
  have launch : (s.passedPoint c).cores[c].launch.bind (s.passedPoint c).launchAt = some l := by
    rw [core, ← hl]
    unfold State.launchAt
    rw [s.passedPoint_launches]
  have run : ¬ (s.cores[c].preReq && !s.quiet c && s.executes c h) = true := by rw [quiet]; exact Bool.false_ne_true
  rw [exec_preempt, execPreempt, if_neg run, State.clocked_issue _ hi]
  exact congrArg (fun t => Host.Outcome.next (s.ends t)) (State.reachPoint_of_unasked launch ((congrArg Core.preReq core).trans quiet) others)

/-- The state that a first report of a long interval leaves before its event: the report noted and counted (R147, R150). -/
def State.intervalNoted (s : State) (c : CoreId) (cycles : Nat) : State :=
  (s.updCore c fun k => { k with intervalRaised := true, interval := cycles }).count
    (ek (unitObj (coreUnit c) 8) 2) 1 0x0406 (corePath c) [(2, 2)]

theorem State.intervalNoted_cores (s : State) (c : CoreId) (cycles : Nat) : (s.intervalNoted c cycles).cores
    = s.cores.set c { s.cores[c] with intervalRaised := true, interval := cycles } := (State.reported_count ..).cores

/-- A first report of a long interval (R147). -/
theorem exec_preemptIntervalExceeded_long {c : CoreId} {cycles : Nat} {s : State} (clocks : s.power.clocks = true) (long : 8192 < cycles)
    (running : s.cores[c].run = .running) (first : s.cores[c].intervalRaised = false) :
    exec (.preemptIntervalExceeded c cycles) s = .next (s.ends ((s.intervalNoted c cycles).raise 0x0703 (corePath c)
      [(s.cores[c].lastPoint, 2), (cycles, 4)])) := by
  have open_ : ¬ (cycles ≤ 8192 ∨ s.cores[c].run ≠ .running ∨ s.cores[c].intervalRaised = true) := by
    rw [running, first]; simp; omega
  have last : (s.intervalNoted c cycles).cores[c].lastPoint = s.cores[c].lastPoint := by
    rw [State.intervalNoted_cores, Fin.getElem_fin, Vector.getElem_set_self]
  rw [exec_preemptIntervalExceeded, execPreemptIntervalExceeded, State.clocked_of clocks, if_neg open_, ← last] <;> rfl

/-- Settles O17: an unasked point closes the interval and advances; the report of a long interval counts and raises once. -/
theorem preemptPoints : Obligations.PreemptPoints := by
  unfold Obligations.PreemptPoints
  refine ⟨fun c h s l hi hl quiet others => ⟨_, exec_preempt_unasked hi hl quiet others, ?_, fun d hd => ?_, ?_, ?_⟩,
    fun c cycles s clocks => ⟨fun long running first =>
      ⟨_, exec_preemptIntervalExceeded_long clocks long running first, ?_, rfl, fun room => ?_⟩, fun told => ?_, fun short => ?_⟩⟩
  · simp only [State.ends_cores, State.passedPoint_cores, Fin.getElem_fin, Vector.getElem_set_self]
  · rw [State.ends_cores, State.passedPoint_cores, Fin.getElem_fin, Vector.getElem_set_ne _ _ fun e => hd (Fin.ext e.symm)] <;> rfl
  · rw [State.ends_launches, State.passedPoint_launches]
  · rw [State.ends_hbm, State.passedPoint_hbm]
  · rw [State.ends_cores, State.raise_cores, State.intervalNoted_cores, Fin.getElem_fin, Vector.getElem_set_self]
  · have dropped : ek (unitObj (coreUnit c) 8) 2 ≠ ek 0x9010 3 := by simp only [ek, unitObj]; omega
    have mirrored : ek (unitObj (coreUnit c) 8) 2 ≠ ek 0x9010 6 := by simp only [ek, unitObj]; omega
    rw [State.volAt_ends _ _ mirrored, State.volAt_raise _ _ _ _ dropped]
    exact State.volAt_count_self _ _ _ _ Nat.one_pos (volDefault_intervals c) room
  · rw [exec_preemptIntervalExceeded, execPreemptIntervalExceeded, State.clocked_of clocks, if_pos (.inr (.inr told)), State.ends_eq rfl rfl rfl]
  · rw [exec_preemptIntervalExceeded, execPreemptIntervalExceeded, State.clocked_of clocks, if_pos (.inl short), State.ends_eq rfl rfl rfl]

end Sys2Proof.Machine
end

section
/-! How a unit's records change when it moves between states (R23 to R25): which record each operation replaces, which it leaves, and that
everything else is told of at most, as `State.Notes` says. -/

set_option Elab.async false
namespace Sys2Proof.Machine

/-! ### One record changed -/

theorem State.updUnit_unit_self (s : State) (u : UnitNo) (f : UnitRec → UnitRec) : (s.updUnit u f).units[u] = f s.units[u] :=
  Vector.getElem_set_self u.isLt

theorem State.updUnit_unit_ne (s : State) {u m : UnitNo} (f : UnitRec → UnitRec) (h : m ≠ u) : (s.updUnit u f).units[m] = s.units[m] :=
  Vector.getElem_set_ne u.isLt m.isLt fun e => h (Fin.ext e.symm)

theorem State.view_of_record {s t : State} {u : UnitNo} (h : t.units[u] = s.units[u]) : t.view u = s.view u := by
  unfold State.view
  rw [h]

theorem State.ust_of_record {s t : State} {u : UnitNo} (h : t.units[u] = s.units[u]) : t.ust u = s.ust u :=
  congrArg UView.state (State.view_of_record h)

/-- A unit whose two views agree stands as they say. -/
theorem State.view_of_same {s : State} {u : UnitNo} {v : UView} (mg : s.units[u].mg = v) (dp : s.units[u].dp = v) : s.view u = v := by
  unfold State.view
  rw [mg, dp]
  exact ite_self v

theorem State.adoptView_unit_self (s : State) (u : UnitNo) (v : UView) :
    (s.adoptView u v).units[u] = { s.units[u] with mg := v, dp := v, lastBeat := s.beat } := by
  rw [(s.notes_adoptView u v).units]
  exact s.updUnit_unit_self u _

theorem State.adoptView_unit_ne (s : State) {u m : UnitNo} (v : UView) (h : m ≠ u) : (s.adoptView u v).units[m] = s.units[m] := by
  rw [(s.notes_adoptView u v).units]
  exact s.updUnit_unit_ne _ h

theorem State.transition_unit_self (s : State) (u : UnitNo) (new : Fin 9) (causes : Byte) : (s.transition u new causes).units[u]
    = { s.units[u] with mg := ⟨new, causes, (s.view u).version + 1⟩, dp := ⟨new, causes, (s.view u).version + 1⟩, lastBeat := s.beat } :=
  s.adoptView_unit_self u _

theorem State.transition_unit_ne (s : State) {u m : UnitNo} (new : Fin 9) (causes : Byte) (h : m ≠ u) :
    (s.transition u new causes).units[m] = s.units[m] := s.adoptView_unit_ne _ h

theorem State.transition_view (s : State) (u : UnitNo) (new : Fin 9) (causes : Byte) :
    (s.transition u new causes).view u = ⟨new, causes, (s.view u).version + 1⟩ := by
  have h := s.transition_unit_self u new causes
  exact State.view_of_same (by rw [h]) (by rw [h])

theorem State.setCauses_notes (s : State) (u : UnitNo) (causes : Byte) : (s.updUnit u fun r => { r with
    mg := { r.mg with causes := causes }, dp := { r.dp with causes := causes } }).Notes (s.setCauses u causes) :=
  State.notes_noteChange _ _ _

theorem State.setCauses_unit_ne (s : State) {u m : UnitNo} (causes : Byte) (h : m ≠ u) : (s.setCauses u causes).units[m] = s.units[m] := by
  rw [(s.setCauses_notes u causes).units]
  exact s.updUnit_unit_ne _ h

theorem State.setCauses_ust (s : State) (u m : UnitNo) (causes : Byte) : (s.setCauses u causes).ust m = s.ust m := by
  by_cases h : m = u
  · subst h
    unfold State.ust State.view
    rw [(s.setCauses_notes m causes).units, State.updUnit_unit_self]
    dsimp only
    split <;> rfl
  · exact State.ust_of_record (s.setCauses_unit_ne causes h)

/-! ### What moves with a unit -/

/-- Two states alike but for units, pipes and what `State.Notes` leaves open. -/
def State.Moved (s t : State) : Prop :=
  t = { s with events := t.events, evCount := t.evCount, evBeat := t.evBeat, raised := t.raised, vol := t.vol, funcs := t.funcs,
               host := t.host, out := t.out, audit := t.audit, mirrorBeat := t.mirrorBeat, twinPool := t.twinPool,
               lostCores := t.lostCores, fports := t.fports, bindings := t.bindings, units := t.units, pipes := t.pipes }

namespace State.Moved

theorem of_notes {s t : State} (h : s.Notes t) : s.Moved t := by
  unfold State.Notes at h
  unfold State.Moved
  rw [h]

theorem refl (s : State) : s.Moved s := of_notes (.refl s)

theorem trans {s t u : State} (h : s.Moved t) (k : t.Moved u) : s.Moved u := by
  unfold State.Moved at *
  rw [k, h]

theorem foldl {β : Type} {f : State → β → State} (h : ∀ (s : State) b, s.Moved (f s b)) (l : List β) (s : State) : s.Moved (l.foldl f s) := by
  induction l generalizing s with
  | nil => exact refl s
  | cons b l ih => exact (h s b).trans (ih _)

section
variable {s t : State} (h : s.Moved t)
include h

theorem pending : t.pending = s.pending := by rw [h]
theorem power : t.power = s.power := by rw [h]
theorem cores : t.cores = s.cores := by rw [h]
theorem launches : t.launches = s.launches := by rw [h]
theorem results : t.results = s.results := by rw [h]
theorem cfg : t.cfg = s.cfg := by rw [h]
theorem hbm : t.hbm = s.hbm := by rw [h]
theorem dieBuf : t.dieBuf = s.dieBuf := by rw [h]
theorem hubBuf : t.hubBuf = s.hubBuf := by rw [h]
theorem fuseBanks : t.fuseBanks = s.fuseBanks := by rw [h]
theorem sessions : t.sessions = s.sessions := by rw [h]

end

end State.Moved

theorem State.moved_updUnit (s : State) (u : UnitNo) (f : UnitRec → UnitRec) : s.Moved (s.updUnit u f) := rfl

theorem State.moved_transition (s : State) (u : UnitNo) (new : Fin 9) (causes : Byte) : s.Moved (s.transition u new causes) :=
  (s.moved_updUnit u _).trans (.of_notes (s.notes_adoptView u _))

theorem State.moved_setCauses (s : State) (u : UnitNo) (causes : Byte) : s.Moved (s.setCauses u causes) :=
  (s.moved_updUnit u _).trans (.of_notes (s.setCauses_notes u causes))

theorem State.moved_pipesLost (s : State) (u : UnitNo) : s.Moved (s.pipesLost u) := rfl

theorem State.moved_holdBelow (s : State) (u : UnitNo) : s.Moved (s.holdBelow u) := by
  unfold State.holdBelow
  refine State.Moved.foldl (fun s m => ?_) _ _
  split
  · exact .refl s
  split
  · exact s.moved_transition m _ _
  split
  · exact (s.moved_updUnit m _).trans (State.moved_transition _ m _ _)
  · exact .refl s

theorem State.moved_releaseBelow (s : State) (u : UnitNo) : s.Moved (s.releaseBelow u) := by
  unfold State.releaseBelow
  refine State.Moved.foldl (fun s m => ?_) _ _
  dsimp only
  split
  · exact .refl s
  split
  · exact .refl s
  split
  · exact s.moved_transition m _ _
  · exact s.moved_setCauses m _

theorem State.notes_updBinding (s : State) (b : Nat) (f : Binding → Binding) : s.Notes (s.updBinding b f) := rfl

theorem State.notes_count (s : State) (key n code path : Nat) (fs : List (Nat × Nat)) : s.Notes (s.count key n code path fs) :=
  .of_reported (s.reported_count key n code path fs)

theorem State.notes_sendNow (s : State) (b : Nat) (h : HeldSeg) : s.Notes (s.sendNow b h) := by
  unfold State.sendNow
  dsimp only
  split
  · exact ((s.notes_updBinding _ _).trans (State.notes_send _ _)).trans (State.notes_count _ _ _ _ _ _)
  · exact s.notes_updBinding _ _

theorem State.notes_psigerSend (s : State) (b typ cls w6 w7 : Nat) (payload : List Byte) : s.Notes (s.psigerSend b typ cls w6 w7 payload) := by
  unfold State.psigerSend
  dsimp only
  split
  · exact s.notes_sendNow _ _
  split
  · exact (s.notes_updBinding _ _).trans (State.notes_count _ _ _ _ _ _)
  · exact s.notes_updBinding _ _

theorem State.notes_faultNotice (s : State) (cause : Nat) : s.Notes (s.faultNotice cause) := by
  have twin : s.Notes (if s.volAt (ek 0xC010 3) = 2 then s.sendTwin 0 ⟨.twin, 9, [], []⟩ else s) := by
    split
    · exact s.notes_sendTwin _ _
    · exact .refl s
  unfold State.faultNotice
  exact (twin.trans (State.Notes.foldl (fun s b => s.notes_psigerSend b _ _ _ _ _) _ _)).trans (State.notes_raise _ _ _ _)

/-! ### The units below -/

/-- No unit is below itself. -/
theorem not_mem_below_self : ∀ u : UnitNo, u ∉ below u := by decide +kernel

theorem State.foldl_unit_ne {m : UnitNo} {f : State → UnitNo → State} (h : ∀ (s : State) u, m ≠ u → (f s u).units[m] = s.units[m])
    (l : List UnitNo) (hm : m ∉ l) (s : State) : (l.foldl f s).units[m] = s.units[m] := by
  induction l generalizing s with
  | nil => rfl
  | cons u l ih =>
    rw [List.mem_cons, not_or] at hm
    exact (ih hm.2 _).trans (h s u hm.1)

theorem State.holdBelow_unit (s : State) {u m : UnitNo} (h : m ∉ below u) : (s.holdBelow u).units[m] = s.units[m] := by
  unfold State.holdBelow
  refine State.foldl_unit_ne (fun s n hn => ?_) _ h s
  split
  · rfl
  split
  · exact s.transition_unit_ne _ _ hn
  split
  · exact (State.transition_unit_ne _ _ _ hn).trans (s.updUnit_unit_ne _ hn)
  · rfl

theorem State.releaseBelow_unit (s : State) {u m : UnitNo} (h : m ∉ below u) : (s.releaseBelow u).units[m] = s.units[m] := by
  unfold State.releaseBelow
  refine State.foldl_unit_ne (fun s n hn => ?_) _ h s
  dsimp only
  split
  · rfl
  split
  · rfl
  split
  · exact s.transition_unit_ne _ _ hn
  · exact s.setCauses_unit_ne _ hn

/-- The release of what is below a unit moves HELD units alone (R24). -/
theorem State.releaseBelow_ust (s : State) {u m : UnitNo} (h : s.ust m ≠ stHeld) : (s.releaseBelow u).ust m = s.ust m := by
  have step (l : List UnitNo) (t : State) (ht : t.ust m = s.ust m) : (l.foldl (fun s m =>
      let r := s.view m
      if r.causes &&& 8#8 = 0#8 then s
      else if (parents m).any fun p => s.ust p == stHeld then s
      else
        let c := r.causes &&& 0xF7#8
        if r.state = stHeld ∧ c = 0#8 then s.transition m stReady 0#8 else s.setCauses m c) t).ust m = s.ust m := by
    induction l generalizing t with
    | nil => exact ht
    | cons n l ih =>
      refine ih _ ?_
      dsimp only
      split
      · exact ht
      split
      · exact ht
      split
      · next held =>
        have hn : m ≠ n := fun e => h (by rw [← ht, e]; exact held.1)
        exact (State.ust_of_record (t.transition_unit_ne _ _ hn)).trans ht
      · exact (t.setCauses_ust n m _).trans ht
  exact step (below u) s rfl

/-! ### A unit moves -/

theorem State.pipesLost_ite_units (s : State) (u : UnitNo) (b : Prop) [Decidable b] : (if b then s.pipesLost u else s).units = s.units := by
  split <;> rfl

/-- What a unit's move does around it, behind its transition (R24, R25, R354). -/
def State.movedAround (s : State) (old : Fin 9) (u : UnitNo) (new : Fin 9) : State :=
  let s := if old = stHeld ∧ new ≠ stHeld then s.releaseBelow u else s
  let s := if new = stHeld ∧ old ≠ stHeld then s.holdBelow u else s
  if u = uPackage ∧ new = stFaulted then s.faultNotice 1 else s

/-- A move is a transition with the pipes of a lost unit before it and what it does around the unit behind it. -/
theorem State.moveTo_eq (s : State) (u : UnitNo) (new : Fin 9) (causes : Byte) : s.moveTo u new causes
    = (((if new = stFaulted ∨ new = stShed then s.pipesLost u else s).transition u new
        (if new = stReady then 0#8 else causes)).movedAround (s.ust u) u new) := rfl

theorem State.movedAround_unit (s : State) (old : Fin 9) {u m : UnitNo} (new : Fin 9) (h : m ∉ below u) :
    (s.movedAround old u new).units[m] = s.units[m] := by
  have released : (if old = stHeld ∧ new ≠ stHeld then s.releaseBelow u else s).units[m] = s.units[m] := by
    split
    · exact s.releaseBelow_unit h
    · rfl
  have held (t : State) : (if new = stHeld ∧ old ≠ stHeld then t.holdBelow u else t).units[m] = t.units[m] := by
    split
    · exact t.holdBelow_unit h
    · rfl
  have told (t : State) : (if u = uPackage ∧ new = stFaulted then t.faultNotice 1 else t).units = t.units := by
    split
    · exact (t.notes_faultNotice 1).units
    · rfl
  unfold State.movedAround
  dsimp only
  rw [told]
  exact (held _).trans released

theorem State.moved_movedAround (s : State) (old : Fin 9) (u : UnitNo) (new : Fin 9) : s.Moved (s.movedAround old u new) := by
  have released : s.Moved (if old = stHeld ∧ new ≠ stHeld then s.releaseBelow u else s) := by
    split
    · exact s.moved_releaseBelow u
    · exact .refl s
  have held (t : State) : t.Moved (if new = stHeld ∧ old ≠ stHeld then t.holdBelow u else t) := by
    split
    · exact t.moved_holdBelow u
    · exact .refl t
  have told (t : State) : t.Moved (if u = uPackage ∧ new = stFaulted then t.faultNotice 1 else t) := by
    split
    · exact .of_notes (t.notes_faultNotice 1)
    · exact .refl t
  exact (released.trans (held _)).trans (told _)

theorem State.moved_pipesLost_ite (s : State) (u : UnitNo) (b : Prop) [Decidable b] : s.Moved (if b then s.pipesLost u else s) := by
  split
  · exact s.moved_pipesLost u
  · exact .refl s

theorem State.moved_moveTo (s : State) (u : UnitNo) (new : Fin 9) (causes : Byte) : s.Moved (s.moveTo u new causes) := by
  rw [State.moveTo_eq]
  exact ((s.moved_pipesLost_ite u _).trans (State.moved_transition _ u new _)).trans (State.moved_movedAround _ _ u new)

/-- The record of a unit that has moved (R23). -/
theorem State.moveTo_unit_self (s : State) (u : UnitNo) (new : Fin 9) (causes : Byte) :
    let v : UView := ⟨new, if new = stReady then 0#8 else causes, (s.view u).version + 1⟩
    (s.moveTo u new causes).units[u] = { s.units[u] with mg := v, dp := v, lastBeat := s.beat } := by
  rw [State.moveTo_eq, State.movedAround_unit _ _ _ (not_mem_below_self u), State.transition_unit_self]
  by_cases lost : new = stFaulted ∨ new = stShed
  · simp only [if_pos lost]
    rfl
  · simp only [if_neg lost]

/-- A unit that is not below one that moves, and is another, keeps its record. -/
theorem State.moveTo_unit_ne (s : State) {u m : UnitNo} (new : Fin 9) (causes : Byte) (h : m ≠ u) (hb : m ∉ below u) :
    (s.moveTo u new causes).units[m] = s.units[m] := by
  rw [State.moveTo_eq, State.movedAround_unit _ _ _ hb, State.transition_unit_ne _ _ _ h, State.pipesLost_ite_units]

theorem State.moveTo_view (s : State) (u : UnitNo) (new : Fin 9) (causes : Byte) :
    (s.moveTo u new causes).view u = ⟨new, if new = stReady then 0#8 else causes, (s.view u).version + 1⟩ := by
  have h := s.moveTo_unit_self u new causes
  exact State.view_of_same (by rw [h]) (by rw [h])

theorem State.moveTo_ust (s : State) (u : UnitNo) (new : Fin 9) (causes : Byte) : (s.moveTo u new causes).ust u = new :=
  congrArg UView.state (s.moveTo_view u new causes)

/-- A unit that moves to FAULTED leaves no other unit that is not HELD in another state (R24). -/
theorem State.moveTo_faulted_ust (s : State) {u m : UnitNo} (causes : Byte) (h : m ≠ u) (hm : s.ust m ≠ stHeld) :
    (s.moveTo u stFaulted causes).ust m = s.ust m := by
  let t := (s.pipesLost u).transition u stFaulted causes
  have same : t.ust m = s.ust m := State.ust_of_record ((State.transition_unit_ne _ _ _ h).trans rfl)
  have released : (if s.ust u = stHeld then t.releaseBelow u else t).ust m = t.ust m := by
    split
    · exact t.releaseBelow_ust (by rw [same]; exact hm)
    · rfl
  have told (t : State) : (if u = uPackage then t.faultNotice 1 else t).ust m = t.ust m := by
    split
    · exact State.ust_of_record (by rw [(t.notes_faultNotice 1).units])
    · rfl
  have eq : s.moveTo u stFaulted causes
      = if u = uPackage then (if s.ust u = stHeld then t.releaseBelow u else t).faultNotice 1
        else (if s.ust u = stHeld then t.releaseBelow u else t) := by
    simp [State.moveTo, t, stFaulted, stHeld, stReady]
  rw [eq, told, released, same]

end Sys2Proof.Machine
end

section
/-! O28: transitions, draining, loading and re-evaluation of units (R23, R25, R29, R398). -/

set_option Elab.async false
namespace Sys2Proof.Machine

/-! ### What tells of a change of a unit raises no event -/

/-- Two states with the same events to be written and the same volatile entries but for the last audit record mirrored, 0x9000:04. -/
def State.Silent (s t : State) : Prop := t.raised = s.raised ∧ ∀ k, k ≠ ek 0x9000 4 → t.volAt k = s.volAt k

namespace State.Silent

theorem refl (s : State) : s.Silent s := ⟨rfl, fun _ _ => rfl⟩

theorem trans {s t u : State} (h : s.Silent t) (k : t.Silent u) : s.Silent u := ⟨k.1.trans h.1, fun e he => (k.2 e he).trans (h.2 e he)⟩

theorem of_vol {s t : State} (raised : t.raised = s.raised) (vol : t.vol = s.vol) : s.Silent t := ⟨raised, fun _ _ => State.volAt_of_vol vol⟩

theorem foldl {β : Type} {f : State → β → State} (h : ∀ (s : State) b, s.Silent (f s b)) (l : List β) (s : State) :
    s.Silent (l.foldl f s) := by
  induction l generalizing s with
  | nil => exact refl s
  | cons b l ih => exact (h s b).trans (ih _)

end State.Silent

theorem State.silent_sendMgmt (s : State) (m : OutMsg) : s.Silent (s.sendMgmt m) := by
  unfold State.sendMgmt
  split
  · exact .of_vol rfl rfl
  · exact .refl s

theorem State.silent_noteLost (s : State) (u : UnitNo) : s.Silent (s.noteLost u) := by
  unfold State.noteLost
  split
  · dsimp only
    split
    · split
      · split
        · exact .refl s
        · exact .of_vol rfl rfl
      · exact .refl s
    · exact .refl s
  · exact .refl s

theorem State.silent_driveHold (s : State) (before after : Bool) : s.Silent (s.driveHold before after) := by
  unfold State.driveHold
  split
  · exact (State.Silent.of_vol (t := s.send _) rfl rfl).trans (State.silent_sendMgmt _ _)
  · split
    · exact .of_vol rfl rfl
    · exact .refl s

theorem State.silent_noteHold (s : State) (old : UView) : s.Silent (s.noteHold old) := by
  unfold State.noteHold
  dsimp only
  split
  · exact .refl s
  · split
    · exact (s.silent_driveHold _ _).trans (State.silent_sendMgmt _ _)
    · exact s.silent_driveHold _ _

theorem State.silent_host (s : State) (h : HostPort) : s.Silent { s with host := h } := .of_vol rfl rfl

theorem State.silent_serveBound (s : State) (h : HostBound) : s.Silent (s.serveBound h) := by
  have asked (t : State) : t.Silent (t.asks h) := by
    unfold State.asks
    split <;> exact .of_vol rfl rfl
  have mirrored (t : State) (b : Prop) [Decidable b] (n : Nat) : t.Silent (if b then t.setVol (ek 0x9000 4) n else t) := by
    split
    · exact ⟨rfl, fun _ hk => t.volAt_setVol_ne _ hk⟩
    · exact .refl t
  unfold State.serveBound
  exact ((s.silent_host _).trans (asked _)).trans (mirrored _ _ _)

theorem State.silent_flushHost (s : State) : s.Silent s.flushHost := by
  have served (n : Nat) (t : State) : t.Silent (State.serveHost n t) := by
    induction n generalizing t with
    | zero => exact .refl t
    | succ n ih =>
      unfold State.serveHost
      split
      · exact .refl t
      · exact (t.silent_serveBound _).trans (ih _)
  unfold State.flushHost
  split
  · exact served _ s
  · exact .refl s

theorem State.silent_twinReturns (s : State) (n : Vector Nat 4) : s.Silent (s.twinReturns n) := by
  have sent (t : State) (w : Fin 4 × OutMsg) : t.Silent (t.sendTwin w.1 w.2) := by
    unfold State.sendTwin
    dsimp only
    split <;> exact .of_vol rfl rfl
  unfold State.twinReturns
  exact (State.Silent.of_vol rfl rfl).trans (State.Silent.foldl sent _ _)

theorem State.silent_portAway (s : State) (p : Fin 8) : s.Silent (s.portAway p) := by
  have lost (t : State) : t.Silent t.pathsLost := by
    unfold State.pathsLost
    refine State.Silent.foldl (fun s b => ?_) _ _
    split
    · exact .of_vol rfl rfl
    · exact .refl s
  unfold State.portAway
  split
  · exact (State.Silent.of_vol rfl rfl).trans (lost _)
  · exact .refl s

/-- What follows a change of a unit's state raises no event (R31, R332, R349). -/
theorem State.silent_noteChange (s : State) (u : UnitNo) (old : UView) : s.Silent (s.noteChange u old) := by
  unfold State.noteChange
  refine (s.silent_noteLost u).trans ?_
  dsimp only
  split
  · exact State.silent_noteHold _ _
  split
  · exact State.silent_flushHost _
  split
  · exact State.silent_twinReturns _ _
  split
  · exact State.silent_portAway _ _
  · exact .refl _

/-! ### Transitions are counted and told -/

/-- The count of transitions of every unit starts at zero (U+4:01). -/
theorem volDefault_transitions : ∀ u : UnitNo, volDefault (ek (unitObj u 4) 1) = 0 := by decide +kernel

theorem State.volAt_count48_ne (s : State) {key j : Nat} (h : j ≠ key) : (s.count48 key).volAt j = s.volAt j := by
  unfold State.count48
  dsimp only
  split
  · rfl
  · split <;> exact s.volAt_setVol_ne _ h

theorem State.volAt_count48_self (s : State) {key : Nat} (dflt : volDefault key = 0) (h : s.volAt key + 1 < 2 ^ 48 - 1) :
    (s.count48 key).volAt key = s.volAt key + 1 := by
  have open_ : ¬ 2 ^ 63 ≤ s.volAt key := by omega
  unfold State.count48
  simp only [if_neg open_, if_pos h]
  exact s.volAt_setVol_of_ne_default (by omega)

theorem State.count48_evBeat (s : State) (key : Nat) : (s.count48 key).evBeat = s.evBeat := by
  unfold State.count48
  dsimp only
  split
  · rfl
  · split <;> rfl

/-- An event of a kind that fewer than sixteen of the beat went before is one of those to be written (R411). -/
theorem State.mem_raised_raise (s : State) {code path : Nat} (fs : List (Nat × Nat)) (h : raisedCount s.evBeat (path, code) < 16) :
    (⟨s.beat, code % 65536, path % 65536, packDetail fs⟩ : EventRec) ∈ (s.raise code path fs).raised := by
  have room : ¬ 16 ≤ raisedCount s.evBeat (path, code) := by omega
  simp only [State.raise, State.emit, if_neg room, if_true]
  exact List.mem_append_right _ (List.mem_singleton.mpr rfl)

/-- A transition is counted in U+4:01 (R23). -/
theorem State.volAt_transition (s : State) (u : UnitNo) (new : Fin 9) (causes : Byte)
    (room : s.volAt (ek (unitObj u 4) 1) + 1 < 2 ^ 48 - 1) :
    (s.transition u new causes).volAt (ek (unitObj u 4) 1) = s.volAt (ek (unitObj u 4) 1) + 1 := by
  have mirrored : ek (unitObj u 4) 1 ≠ ek 0x9000 4 := by simp only [ek, unitObj]; omega
  have dropped : ek (unitObj u 4) 1 ≠ ek 0x9010 3 := by simp only [ek, unitObj]; omega
  unfold State.transition State.adoptView
  rw [(State.silent_noteChange _ _ _).2 _ mirrored, State.volAt_raise _ _ _ _ dropped]
  exact State.volAt_count48_self _ (volDefault_transitions u) room

/-- A transition raises EV-0x0200 (R23). -/
theorem State.mem_raised_transition (s : State) (u : UnitNo) (new : Fin 9) (causes : Byte)
    (few : raisedCount s.evBeat (unitPath u, 0x0200) < 16) :
    (⟨s.beat, 0x0200, unitPath u % 65536, packDetail
      [((s.view u).state.val, 1), (new.val, 1), (((s.view u).version + 1).toNat, 2), (causes.toNat, 1)]⟩ : EventRec)
      ∈ (s.transition u new causes).raised := by
  let v : UView := ⟨new, causes, (s.view u).version + 1⟩
  let t := (s.updUnit u fun r => { r with mg := v, dp := v, lastBeat := s.beat }).count48 (ek (unitObj u 4) 1)
  have beat : t.beat = s.beat := State.volAt_count48_ne _ (by simp only [ek, unitObj]; omega)
  have few' : raisedCount t.evBeat (unitPath u, 0x0200) < 16 := by rw [State.count48_evBeat]; exact few
  have member := t.mem_raised_raise [((s.view u).state.val, 1), (new.val, 1), (((s.view u).version + 1).toNat, 2), (causes.toNat, 1)] few'
  rw [beat] at member
  unfold State.transition State.adoptView
  rw [(State.silent_noteChange _ _ _).1]
  exact member

/-- Every transition is recorded, counted and told (R23). -/
theorem holdsTransitionsCount_holds : holdsTransitionsCount := by
  intro s u new causes
  have record := s.transition_unit_self u new causes
  exact ⟨by rw [record], by rw [record], by rw [record], fun m hm => s.transition_unit_ne _ _ hm, s.volAt_transition u new causes,
    s.mem_raised_transition u new causes⟩

/-! ### Draining and loading -/

/-- A unit that has drained stands where it was to go, READY where nothing holds it any more (R24). -/
theorem State.drained_ust (s : State) (u : UnitNo) : let goal := (s.units[u].drainTo).getD stHeld
    (s.drained u).ust u = if goal = stHeld ∧ (s.view u).causes = 0#8 then stReady else goal := by
  intro goal
  let t := (s.updUnit u fun r => { r with drainTo := none }).moveTo u goal ((s.view u).causes)
  have view := (s.updUnit u fun r => { r with drainTo := none }).moveTo_view u goal ((s.view u).causes)
  have state : t.ust u = goal := congrArg UView.state view
  have causes : (t.view u).causes = if goal = stReady then 0#8 else (s.view u).causes := congrArg UView.causes view
  have eq : s.drained u = if t.ust u = stHeld ∧ (t.view u).causes = 0#8 then t.moveTo u stReady 0#8 else t := rfl
  have free : (t.ust u = stHeld ∧ (t.view u).causes = 0#8) ↔ (goal = stHeld ∧ (s.view u).causes = 0#8) := by
    rw [state, causes]
    refine and_congr_right fun held => ?_
    rw [if_neg (by rw [held]; decide)]
  by_cases h : goal = stHeld ∧ (s.view u).causes = 0#8
  · rw [eq, if_pos (free.mpr h), if_pos h, State.moveTo_ust]
  · rw [eq, if_neg (mt free.mp h), if_neg h, state]

/-- Draining, its limit, loading and re-evaluation (R23, R25, R29, R398). -/
theorem holdsUnitProgress_holds : holdsUnitProgress := by
  intro u s
  refine ⟨fun drains boundary => ⟨fun clocks => ?_, s.drained_ust u⟩, fun drains boundary clocks => ?_,
    fun other => ⟨fun clocks => ?_, fun n clocks => ?_⟩, fun n drains late clocks => ?_, fun n early clocks => ?_,
    fun r loads clocks => ?_, fun r other clocks => ?_, fun clocks => ?_⟩
  · rw [exec_unitDrainComplete, execUnitDrainComplete, State.clocked_of clocks, if_pos ⟨drains, boundary⟩]
  · rw [exec_unitDrainComplete, execUnitDrainComplete, State.clocked_of clocks, if_neg (by simp [boundary])]
  · rw [exec_unitDrainComplete, execUnitDrainComplete, State.clocked_of clocks, if_neg (fun h => other h.1)]
  · rw [exec_drainLimitPassed, execDrainLimitPassed, State.clocked_of clocks, if_neg (fun h => other h.1)]
  · rw [exec_drainLimitPassed, execDrainLimitPassed, State.clocked_of clocks, if_pos ⟨drains, late⟩]
  · rw [exec_drainLimitPassed, execDrainLimitPassed, State.clocked_of clocks, if_neg (fun h => Nat.not_le.mpr early h.2)]
  · rw [exec_loadingComplete, execLoadingComplete, State.clocked_of clocks]
  · rw [exec_loadingComplete, execLoadingComplete, State.clocked_of clocks, State.endLoading, if_pos other]
  · rw [exec_aggregateReevaluate, execAggregateReevaluate, State.clocked_of clocks]

/-! ### The end of a load -/

/-- Two states whose units differ in other things than views, lists and versions. -/
theorem State.view_updUnit_of_views (s : State) (u m : UnitNo) (f : UnitRec → UnitRec) (mg : ∀ r, (f r).mg = r.mg) (dp : ∀ r, (f r).dp = r.dp) :
    (s.updUnit u f).view m = s.view m := by
  by_cases h : m = u
  · subst h
    unfold State.view
    rw [State.updUnit_unit_self, mg, dp]
  · exact State.view_of_record (s.updUnit_unit_ne f h)

theorem State.slotFinal_units (s : State) (fn : FnNo) (r : Nat) (f : Final) : (s.slotFinal fn r f).units = s.units := by
  unfold State.slotFinal
  exact (State.reported_cause _ _ _ _).units

/-- The end of an operation changes a unit's status alone (U+2:04). -/
theorem State.opDone_units (s : State) (u : UnitNo) (slot : Option OpSlot) : (s.opDone u slot).units = (s.opStatus u 2).units := by
  unfold State.opDone
  split
  · exact State.slotFinal_units _ _ _ _
  · rfl

theorem State.opDone_unit_self (s : State) (u : UnitNo) (slot : Option OpSlot) :
    (s.opDone u slot).units[u] = { s.units[u] with opStatus := 2 } := by
  rw [State.opDone_units]
  exact s.updUnit_unit_self u _

theorem State.opDone_unit_ne (s : State) {u m : UnitNo} (slot : Option OpSlot) (h : m ≠ u) : (s.opDone u slot).units[m] = s.units[m] := by
  rw [State.opDone_units]
  exact s.updUnit_unit_ne _ h

/-- The record of a unit whose load has ended (R398). -/
theorem State.loadDone_unit_self (s : State) (u : UnitNo) : ∃ n, (s.loadDone u).units[u]
    = { s.units[u] with opSlot := none, streaming := false, doomed := false, opStatus := n } := by
  unfold State.loadDone
  dsimp only
  split
  · refine ⟨2, (State.opDone_unit_self _ _ _).trans ?_⟩
    rw [State.updUnit_unit_self]
  · exact ⟨_, State.updUnit_unit_self ..⟩

theorem State.loadDone_unit_ne (s : State) {u m : UnitNo} (h : m ≠ u) : (s.loadDone u).units[m] = s.units[m] := by
  unfold State.loadDone
  dsimp only
  split
  · exact (State.opDone_unit_ne _ _ h).trans (State.updUnit_unit_ne _ _ h)
  · exact State.updUnit_unit_ne _ _ h

theorem State.loadDone_view (s : State) (u m : UnitNo) : (s.loadDone u).view m = s.view m := by
  by_cases h : m = u
  · subst h
    obtain ⟨n, record⟩ := s.loadDone_unit_self m
    unfold State.view
    rw [record]
  · exact State.view_of_record (s.loadDone_unit_ne h)

/-- Fused entries taken change entries alone: whatever does not read them is as before (R404). -/
theorem State.takeFused_kept {α : Type} {f : State → α} (h : ∀ (s : State) c, f { s with cfg := c } = f s) (s : State) (first last : Nat) :
    f (s.takeFused first last) = f s := by
  unfold State.takeFused
  generalize s.fuseBanks = l
  induction l generalizing s with
  | nil => rfl
  | cons p l ih =>
    refine (ih _).trans ?_
    dsimp only
    split
    · split
      · exact h _ _
      · rfl
    · rfl

theorem State.takeFused_units (s : State) (first last : Nat) : (s.takeFused first last).units = s.units :=
  State.takeFused_kept (fun _ _ => rfl) s first last

theorem State.clockReading_units (s : State) : s.clockReading.units = s.units := by
  unfold State.clockReading
  dsimp only
  split <;> rfl

/-! ### Faults -/

theorem State.freeze_view (s : State) (u m : UnitNo) : (s.freeze u).view m = s.view m :=
  s.view_updUnit_of_views u m _ (fun _ => rfl) fun _ => rfl

theorem State.loadFailed_view (s : State) (u m : UnitNo) (why : Nat) : (s.loadFailed u why).view m = s.view m := by
  unfold State.loadFailed
  refine (State.view_updUnit_of_views _ u m (fun r => { r with image := [] }) (fun _ => rfl) fun _ => rfl).trans ?_
  exact State.view_of_record (by rw [State.raise_units])

/-- What precedes a unit's fault: a load it was in has failed, its holdings are frozen and it drains no more (R23, R275). -/
def State.frozenFor (s : State) (u : UnitNo) : State :=
  ((if s.ust u = stLoading then s.loadFailed u 2 else s).freeze u).updUnit u fun r => { r with drainTo := none }

theorem State.frozenFor_view (s : State) (u m : UnitNo) : (s.frozenFor u).view m = s.view m := by
  unfold State.frozenFor
  refine ((State.view_updUnit_of_views _ u m (fun r => { r with drainTo := none }) (fun _ => rfl) fun _ => rfl).trans
    (State.freeze_view _ u m)).trans ?_
  split
  · exact s.loadFailed_view u m 2
  · rfl

/-- A fault of a unit that is no core (R23, R419). -/
theorem State.faultUnit_eq (s : State) {u : UnitNo} (ev : Nat) (core : ¬ (208 ≤ u.val ∧ u.val < 260))
    (up : ¬ (s.ust u = stAbsent ∨ s.ust u = stFaulted)) : s.faultUnit u ev
      = if s.ust u = stLoading then ((s.frozenFor u).moveTo u stFaulted ((s.frozenFor u).view u).causes).loadDone u
        else (s.frozenFor u).moveTo u stFaulted ((s.frozenFor u).view u).causes := by
  unfold State.faultUnit
  rw [if_neg up, dif_neg core]
  rfl

theorem State.faultUnit_ust_self (s : State) {u : UnitNo} (ev : Nat) (core : ¬ (208 ≤ u.val ∧ u.val < 260)) (there : s.ust u ≠ stAbsent) :
    (s.faultUnit u ev).ust u = stFaulted := by
  by_cases faulted : s.ust u = stFaulted
  · unfold State.faultUnit
    rw [if_pos (.inr faulted)]
    exact faulted
  · rw [s.faultUnit_eq ev core (not_or.mpr ⟨there, faulted⟩)]
    split
    · unfold State.ust
      rw [State.loadDone_view]
      exact State.moveTo_ust _ _ _ _
    · exact State.moveTo_ust _ _ _ _

/-- A fault of a unit that is no core leaves every other unit that is not HELD in its state (R24). -/
theorem State.faultUnit_ust_ne (s : State) {u m : UnitNo} (ev : Nat) (core : ¬ (208 ≤ u.val ∧ u.val < 260)) (h : m ≠ u)
    (held : s.ust m ≠ stHeld) : (s.faultUnit u ev).ust m = s.ust m := by
  by_cases up : s.ust u = stAbsent ∨ s.ust u = stFaulted
  · unfold State.faultUnit
    rw [if_pos up]
  · have before : (s.frozenFor u).ust m = s.ust m := congrArg UView.state (s.frozenFor_view u m)
    have moved (causes : Byte) : ((s.frozenFor u).moveTo u stFaulted causes).ust m = s.ust m :=
      (State.moveTo_faulted_ust _ causes h (by rw [before]; exact held)).trans before
    rw [s.faultUnit_eq ev core up]
    split
    · unfold State.ust
      rw [State.loadDone_view]
      exact moved _
    · exact moved _

/-- A fault of a unit that is no core leaves what is not below it as it was. -/
theorem State.faultUnit_view_ne (s : State) {u m : UnitNo} (ev : Nat) (core : ¬ (208 ≤ u.val ∧ u.val < 260)) (h : m ≠ u)
    (hb : m ∉ below u) : (s.faultUnit u ev).view m = s.view m := by
  by_cases up : s.ust u = stAbsent ∨ s.ust u = stFaulted
  · unfold State.faultUnit
    rw [if_pos up]
  · have moved (causes : Byte) : ((s.frozenFor u).moveTo u stFaulted causes).view m = s.view m :=
      (State.view_of_record (State.moveTo_unit_ne _ _ _ h hb)).trans (s.frozenFor_view u m)
    rw [s.faultUnit_eq ev core up]
    split
    · exact (State.loadDone_view _ _ _).trans (moved _)
    · exact moved _

/-- The hub die's fault takes the package with it (R416). -/
theorem State.enterFaulted_hub (s : State) (ev : Nat) (hub : s.ust uHub ≠ stAbsent) (package : s.ust uPackage ≠ stAbsent) :
    (s.enterFaulted uHub ev).ust uHub = stFaulted ∧ (s.enterFaulted uHub ev).ust uPackage = stFaulted := by
  have first : (s.faultUnit uHub ev).ust uHub = stFaulted := s.faultUnit_ust_self ev (by decide) hub
  rw [State.enterFaulted, if_pos rfl]
  refine ⟨(State.faultUnit_ust_ne _ ev (by decide) (by decide) (by rw [first]; decide)).trans first, State.faultUnit_ust_self _ ev (by decide) ?_⟩
  have kept : (s.faultUnit uHub ev).ust uPackage = s.ust uPackage :=
    congrArg UView.state (s.faultUnit_view_ne ev (by decide) (by decide) (by decide))
  rw [kept]
  exact package

/-! ### A move leaves the operation of every unit -/

/-- What a load has of a unit's record: the operation that asked for it, and whether it streams an image. -/
def UnitRec.load (r : UnitRec) : Option OpSlot × Bool := (r.opSlot, r.streaming)

/-- Two states whose units have the same loads. -/
def State.SameLoads (s t : State) : Prop := ∀ m : UnitNo, (t.units[m]).load = (s.units[m]).load

namespace State.SameLoads

theorem of_units {s t : State} (h : t.units = s.units) : s.SameLoads t := fun m => by rw [h]

theorem trans {s t u : State} (h : s.SameLoads t) (k : t.SameLoads u) : s.SameLoads u := fun m => (k m).trans (h m)

theorem foldl {β : Type} {f : State → β → State} (h : ∀ (s : State) b, s.SameLoads (f s b)) (l : List β) (s : State) :
    s.SameLoads (l.foldl f s) := by
  induction l generalizing s with
  | nil => exact of_units rfl
  | cons b l ih => exact (h s b).trans (ih _)

theorem of_updUnit (s : State) (u : UnitNo) {f : UnitRec → UnitRec} (hf : ∀ r, (f r).load = r.load) : s.SameLoads (s.updUnit u f) := by
  intro m
  by_cases h : m = u
  · subst h
    rw [State.updUnit_unit_self]
    exact hf _
  · rw [State.updUnit_unit_ne _ _ h]

end State.SameLoads

theorem State.sameLoads_transition (s : State) (u : UnitNo) (new : Fin 9) (causes : Byte) : s.SameLoads (s.transition u new causes) := by
  intro m
  by_cases h : m = u
  · rw [h, State.transition_unit_self] <;> rfl
  · rw [State.transition_unit_ne _ _ _ h]

theorem State.sameLoads_setCauses (s : State) (u : UnitNo) (causes : Byte) : s.SameLoads (s.setCauses u causes) := by
  intro m
  rw [(s.setCauses_notes u causes).units]
  by_cases h : m = u
  · rw [h, State.updUnit_unit_self] <;> rfl
  · rw [State.updUnit_unit_ne _ _ h]

theorem State.sameLoads_releaseBelow (s : State) (u : UnitNo) : s.SameLoads (s.releaseBelow u) := by
  unfold State.releaseBelow
  refine State.SameLoads.foldl (fun s m => ?_) _ _
  dsimp only
  split
  · exact .of_units rfl
  split
  · exact .of_units rfl
  split
  · exact s.sameLoads_transition m _ _
  · exact s.sameLoads_setCauses m _

/-- A unit that enters FAULTED leaves every unit's operation. -/
theorem State.sameLoads_moveTo_faulted (s : State) (u : UnitNo) (causes : Byte) : s.SameLoads (s.moveTo u stFaulted causes) := by
  have moved : s.SameLoads ((s.pipesLost u).transition u stFaulted causes) :=
    (State.SameLoads.of_units (t := s.pipesLost u) rfl).trans (State.sameLoads_transition _ u _ _)
  have released (t : State) : t.SameLoads (if s.ust u = stHeld then t.releaseBelow u else t) := by
    split
    · exact t.sameLoads_releaseBelow u
    · exact .of_units rfl
  have told (t : State) : t.SameLoads (if u = uPackage then t.faultNotice 1 else t) := by
    split
    · exact .of_units (t.notes_faultNotice 1).units
    · exact .of_units rfl
  have eq : s.moveTo u stFaulted causes = if u = uPackage
      then (if s.ust u = stHeld then ((s.pipesLost u).transition u stFaulted causes).releaseBelow u
        else (s.pipesLost u).transition u stFaulted causes).faultNotice 1
      else (if s.ust u = stHeld then ((s.pipesLost u).transition u stFaulted causes).releaseBelow u
        else (s.pipesLost u).transition u stFaulted causes) := by
    simp [State.moveTo, stFaulted, stHeld, stReady]
  rw [eq]
  exact (moved.trans (released _)).trans (told _)

theorem State.sameLoads_frozenFor (s : State) (u : UnitNo) : s.SameLoads (s.frozenFor u) := by
  have failed : s.SameLoads (if s.ust u = stLoading then s.loadFailed u 2 else s) := by
    split
    · exact (State.SameLoads.of_units (State.raise_units s _ _ _)).trans (State.SameLoads.of_updUnit _ u (f := fun r => { r with image := [] }) fun _ => rfl)
    · exact .of_units rfl
  have frozen (t : State) : t.SameLoads (t.freeze u) := by
    unfold State.freeze
    exact State.SameLoads.of_updUnit t u (f := fun r => { r with frozen := t.holdings u, frozenPipes := (t.slotsOf u).map Prod.fst }) fun _ => rfl
  have undrained (t : State) : t.SameLoads (t.updUnit u fun r => { r with drainTo := none }) := State.SameLoads.of_updUnit t u fun _ => rfl
  exact (failed.trans (frozen _)).trans (undrained _)

/-- The fault of a unit that is no core leaves every other unit's operation. -/
theorem State.faultUnit_load_ne (s : State) {u m : UnitNo} (ev : Nat) (core : ¬ (208 ≤ u.val ∧ u.val < 260)) (h : m ≠ u) :
    ((s.faultUnit u ev).units[m]).load = (s.units[m]).load := by
  by_cases up : s.ust u = stAbsent ∨ s.ust u = stFaulted
  · unfold State.faultUnit
    rw [if_pos up]
  · have moved := (s.sameLoads_frozenFor u).trans (State.sameLoads_moveTo_faulted _ u ((s.frozenFor u).view u).causes)
    rw [s.faultUnit_eq ev core up]
    split
    · rw [State.loadDone_unit_ne _ h]
      exact moved m
    · exact moved m

end Sys2Proof.Machine
end

section
/-! O28: the outcome of a load (R398, R436). -/

set_option Elab.async false
namespace Sys2Proof.Machine

/-! ### The outcome of a load -/

/-- A unit that has taken its image from a slot, where it was to have one (R398). -/
def State.imaged (s : State) (u : UnitNo) : State :=
  if s.units[u].streaming then s.updUnit u fun r => { r with
      image := (vget ImageSlot.reset s.images ((kindOf u).getD 0 - 1)).hash
      version := (vget ImageSlot.reset s.images ((kindOf u).getD 0 - 1)).version }
  else s

/-- The same with its image measured (R404). -/
def State.imageMeasured (s : State) (u : UnitNo) : State :=
  if (kindOf u).getD 0 ≠ 0 ∧ ¬(s.imaged u).units[u].image.isEmpty then
    (s.imaged u).extend (unitPath u) ((kindOf u).getD 0) (s.imaged u).units[u].version (s.imaged u).units[u].image
  else s.imaged u

/-- A load passed puts the unit READY behind its image: around the move a link's training changes an entry alone. -/
theorem State.loadPassed_units (s : State) (u : UnitNo) (clock : Bool) :
    (s.loadPassed u clock).units = ((s.imageMeasured u).moveTo u stReady 0#8).units := by
  have train (t : State) (b : Bool) (e : Nat) : (if b then t.setVol e 1 else t).units = t.units := by
    split <;> rfl
  unfold State.loadPassed
  change State.units (if _ then _ else if _ then _ else if _ then _ else (s.imageMeasured u).moveTo u stReady 0#8) = _
  split
  · exact train _ _ _
  split
  · exact train _ _ _
  split
  · exact train _ _ _
  · rfl

theorem State.loadPassed_view (s : State) (u : UnitNo) (clock : Bool) : ∃ n, (s.loadPassed u clock).units[u].mg = ⟨stReady, 0#8, n⟩
    ∧ (s.loadPassed u clock).units[u].dp = ⟨stReady, 0#8, n⟩ := by
  rw [s.loadPassed_units u clock, State.moveTo_unit_self]
  exact ⟨_, rfl, rfl⟩

/-- The unit of a load that has ended READY (R398). -/
theorem State.loadPassed_done (s : State) (u : UnitNo) (clock : Bool) : let t := (s.loadPassed u clock).loadDone u
    t.ust u = stReady ∧ t.units[u].mg.causes = 0#8 ∧ t.units[u].opSlot = none ∧ t.units[u].streaming = false := by
  intro t
  obtain ⟨n, mg, dp⟩ := s.loadPassed_view u clock
  obtain ⟨status, record⟩ := (s.loadPassed u clock).loadDone_unit_self u
  have view : t.view u = ⟨stReady, 0#8, n⟩ := State.view_of_same (by rw [record]; exact mg) (by rw [record]; exact dp)
  exact ⟨congrArg UView.state view, by rw [record, mg], by rw [record], by rw [record]⟩

/-- The state of a unit whose load has failed, before the package follows the hub die (R23, R398). -/
def State.loadFaulted (s : State) (u : UnitNo) (why : Nat) : State :=
  (((s.loadFailed u why).freeze u).moveTo u stFaulted (s.view u).causes).loadDone u

theorem State.loadFaulted_unit (s : State) (u : UnitNo) (why : Nat) : (s.loadFaulted u why).ust u = stFaulted
    ∧ (s.loadFaulted u why).units[u].load = (none, false) := by
  have state : (((s.loadFailed u why).freeze u).moveTo u stFaulted (s.view u).causes).ust u = stFaulted := State.moveTo_ust _ _ _ _
  unfold State.loadFaulted
  generalize ((s.loadFailed u why).freeze u).moveTo u stFaulted (s.view u).causes = t at state ⊢
  obtain ⟨status, record⟩ := t.loadDone_unit_self u
  exact ⟨(congrArg UView.state (t.loadDone_view u u)).trans state, by rw [record] <;> rfl⟩

/-- A load that fails leaves its unit FAULTED, its operation done (R23, R398). -/
theorem State.failLoad_unit (s : State) (u : UnitNo) (why : Nat) : (s.failLoad u why).ust u = stFaulted
    ∧ (s.failLoad u why).units[u].load = (none, false) := by
  obtain ⟨state, load⟩ := s.loadFaulted_unit u why
  have eq : s.failLoad u why = if u = uHub then (s.loadFaulted u why).faultUnit uPackage 0x1501 else s.loadFaulted u why := by
    unfold State.failLoad State.loadFaulted
    rfl
  rw [eq]
  by_cases hub : u = uHub
  · subst hub
    rw [if_pos rfl]
    exact ⟨(State.faultUnit_ust_ne _ _ (by decide) (by decide) (by rw [state]; decide)).trans state,
      (State.faultUnit_load_ne _ _ (by decide) (by decide)).trans load⟩
  · rw [if_neg hub]
    exact ⟨state, load⟩

/-- The units after the end of a load of a unit that is no array and no core: its image and self-test decide (R398). -/
theorem State.endLoading_units {s : State} {u : UnitNo} (r : SelfTest) (loads : s.ust u = stLoading) (high : 260 ≤ u.val)
    (sound : s.units[u].doomed = false) : ∃ t : State, ∃ why, (s.endLoading u r).units
      = (if (r.passed && (r.imageOk || !s.units[u].streaming)) = true then (t.loadPassed u r.clock).loadDone u else t.failLoad u why).units := by
  have units := s.takeFused_units (0x4000 + u.val * 16) (0x4000 + u.val * 16 + 15)
  have clock (v : State) : (if 276 ≤ u.val ∧ u.val < 280 then v.clockReading else v).units = v.units := by
    split
    · exact v.clockReading_units
    · rfl
  have array : ¬ u.val < 208 := by omega
  have core : ¬ (208 ≤ u.val ∧ u.val < 260) := by omega
  unfold State.endLoading
  rw [if_neg (Classical.not_not.mpr loads)]
  dsimp only
  rw [clock]
  generalize s.takeFused (0x4000 + u.val * 16) (0x4000 + u.val * 16 + 15) = t at units ⊢
  have doomed : t.units[u].doomed = false := by rw [units]; exact sound
  rw [← units]
  simp only [if_neg array, if_neg core]
  cases bad : (t.units[u].streaming && !r.imageOk) with
  | true =>
    obtain ⟨streams, image⟩ := Bool.and_eq_true_iff.mp bad
    have poor : (r.imageOk || !t.units[u].streaming) = false := by
      rw [streams, (Bool.not_eq_true' _).mp image]; rfl
    exact ⟨t, 1, by simp only [poor, if_true, Bool.false_and, Bool.and_false, Bool.false_eq_true, if_false]⟩
  | false =>
    have good : (r.imageOk || !t.units[u].streaming) = true := by
      rw [← Bool.not_not (r.imageOk || !t.units[u].streaming), Bool.not_or, Bool.not_not, Bool.and_comm, bad]; rfl
    exact ⟨t, 2, by simp only [good, doomed, Bool.true_and, Bool.and_true, Bool.not_false, Bool.false_eq_true, if_false]⟩

/-- A load's outcome (R398, R436). -/
theorem holdsLoadOutcome_holds : holdsLoadOutcome := by
  intro u r s clocks loads high sound
  obtain ⟨t, why, units⟩ := s.endLoading_units r loads high sound
  refine ⟨_, by rw [exec_loadingComplete, execLoadingComplete, State.clocked_of clocks], ?_⟩
  rw [State.ends_units, State.ust_of_record (s := s.endLoading u r) (t := s.ends (s.endLoading u r)) (by rw [State.ends_units])]
  cases good : (r.passed && (r.imageOk || !s.units[u].streaming)) with
  | true =>
    rw [good, if_pos rfl] at units
    obtain ⟨state, causes, slot, streams⟩ := t.loadPassed_done u r.clock
    have ust := (State.ust_of_record (u := u) (congrArg (fun v => v[u]) units)).trans state
    rw [units, ust]
    exact ⟨fun _ => ⟨rfl, causes⟩, fun h => absurd h (by decide), slot, streams⟩
  | false =>
    rw [good, if_neg Bool.false_ne_true] at units
    obtain ⟨state, load⟩ := t.failLoad_unit u why
    have ust := (State.ust_of_record (u := u) (congrArg (fun v => v[u]) units)).trans state
    rw [units, ust]
    exact ⟨fun h => absurd h (by decide), fun _ => rfl, congrArg Prod.fst load, congrArg Prod.snd load⟩

/-- Settles O28: a transition by the record it replaces; draining and loading by where the move takes the unit. -/
theorem unitLife : Obligations.UnitLife := by
  unfold Obligations.UnitLife
  exact ⟨holdsTransitionsCount_holds, holdsUnitProgress_holds, holdsLoadOutcome_holds⟩

end Sys2Proof.Machine
end

section
/-! O49: throttling, temperature and the thermal trip (R428 to R432). -/

set_option Elab.async false
namespace Sys2Proof.Machine

/-- A command with a power state of its own that raised nothing ends in the state it left. -/
theorem State.clockedPower_of_quiet {s t : State} {p : Power} (clocks : s.power.clocks = true) (pending : t.pending = s.pending)
    (raised : t.raised = s.raised) : s.clockedPower t p = .next { t with power := p } := by
  rw [State.clockedPower, if_pos clocks, State.endsPower, State.settled_quiet t _ (Nat.le_of_eq (congrArg List.length raised)), ← pending]

theorem State.clockedPower_of {s t : State} {p : Power} (clocks : s.power.clocks = true) : s.clockedPower t p = .next (s.endsPower t p) := by
  rw [State.clockedPower, if_pos clocks]

theorem State.endsPower_cores (s t : State) (p : Power) : (s.endsPower t p).cores = t.cores := (t.reported_settled s.raised.length).cores
theorem State.endsPower_units (s t : State) (p : Power) : (s.endsPower t p).units = t.units := (t.reported_settled s.raised.length).units
theorem State.endsPower_power (s t : State) (p : Power) : (s.endsPower t p).power = p := rfl

theorem State.volAt_endsPower (s t : State) (p : Power) {j : Nat} (h : j ≠ ek 0x9010 6) : (s.endsPower t p).volAt j = t.volAt j :=
  ((State.volAt_of_vol (s := t.settled s.raised.length) rfl).trans (State.volAt_settleOnce _ _ h)).trans (State.volAt_settleOnce _ _ h)

theorem State.noteSources_volAt {s : State} {p : Power} (rises : 0 < p.capDuty) :
    (s.noteSources p).volAt (ek 0x1004 3) = p.sources (s.cfgAt (ek 0x2070 2)) := by
  have dflt : volDefault (ek 0x1004 3) = 0 := by decide
  refine s.volAt_setVol_of_ne_default ?_
  rw [dflt, Power.sources, if_neg (by omega)]
  omega

/-- A thermal duty stays at most 48 (R431). -/
theorem thermalStep_le {duty : Nat} (readings : List Int) (threshold : Int) (h : duty ≤ 48) : thermalStep duty readings threshold ≤ 48 := by
  unfold thermalStep
  split
  · exact Nat.min_le_left _ _
  split <;> omega

theorem State.reported_countMs (s : State) (sub : Nat) (b : Bool) : s.Reported (s.countMs sub b) := by
  unfold State.countMs
  split
  · exact s.reported_count _ _ _ _ _
  · rfl

/-- The statistics of a millisecond report alone (Table 23-6). -/
theorem State.reported_countDuties (s : State) (p : Power) : s.Reported (s.countDuties p) :=
  (((s.reported_countMs _ _).trans (State.reported_countMs _ _ _)).trans (State.reported_countMs _ _ _)).trans (State.reported_countMs _ _ _)

/-- Gated cycles change no state of a core but their count, and no other entry of the power objects (R83, R427). -/
theorem State.countGated_kept (s : State) (duty : Nat) : (s.countGated duty).cores = s.cores
    ∧ (s.countGated duty).volAt (ek 0x1004 2) = s.volAt (ek 0x1004 2) := by
  unfold State.countGated
  generalize List.finRange 52 = l
  induction l generalizing s with
  | nil => exact ⟨rfl, rfl⟩
  | cons c l ih =>
    obtain ⟨cores, entry⟩ := ih (if s.ust (coreUnit c) = stAbsent then s
      else s.count (ek (0x8100 + c.val) 3) duty 0x0406 (corePath c) [(3, 2)])
    rw [List.foldl_cons, cores, entry]
    split
    · exact ⟨rfl, rfl⟩
    · exact ⟨(s.reported_count _ _ _ _ _).cores, s.volAt_count _ _ _ _ _ (by simp only [ek]; omega) (by decide)⟩

theorem exec_powerSample_of {w : Word} {s : State} (clocks : s.power.clocks = true) : exec (.powerSample w) s
    = .next { s.setVol (ek 0x1004 1) (averageOf (s.power.sampled w).samples).toNat with power := s.power.sampled w } := by
  rw [exec_powerSample, execPowerSample]
  exact State.clockedPower_of_quiet clocks rfl rfl

theorem exec_capDutyStep_of {s : State} (clocks : s.power.clocks = true) :
    exec .capDutyStep s = .next { s.noteSources s.capStep with power := s.capStep } := by
  rw [exec_capDutyStep, execCapDutyStep]
  exact State.clockedPower_of_quiet clocks rfl rfl

theorem exec_thermalDutyStep_of {s : State} (clocks : s.power.clocks = true) : exec .thermalDutyStep s
    = .next (s.endsPower ((s.noteSources s.thermalSteps).countDuties s.thermalSteps) s.thermalSteps) := by
  rw [exec_thermalDutyStep, execThermalDutyStep]
  exact State.clockedPower_of clocks

theorem exec_gateFrameBoundary_of {s : State} (clocks : s.power.clocks = true) : exec .gateFrameBoundary s
    = .next (s.endsPower (((s.setVol (ek 0x1004 2) s.lineDuty.duty).noteSources s.lineDuty).countGated s.lineDuty.duty) s.lineDuty) := by
  rw [exec_gateFrameBoundary, execGateFrameBoundary]
  exact State.clockedPower_of clocks

theorem exec_throttleNChange_of {high : Bool} {s : State} (clocks : s.power.clocks = true) : exec (.throttleNChange high) s
    = .next (({ s with power := { s.power with throttleHigh := high } } : State).setVol (ek 0x1004 6) (if high then 1 else 0)) := by
  rw [exec_throttleNChange, execThrottleNChange]
  exact congrArg Host.Outcome.next (if_pos clocks)

/-- The duty in force reads back (0x1004:02), whatever the gated cores count. -/
theorem State.volAt_gated {s : State} {p : Power} (gates : p.duty ≠ 0) :
    (((s.setVol (ek 0x1004 2) p.duty).noteSources p).countGated p.duty).volAt (ek 0x1004 2) = p.duty := by
  have dflt : volDefault (ek 0x1004 2) = 0 := by decide
  rw [(State.countGated_kept _ _).2, State.noteSources, State.volAt_setVol_ne _ _ (by decide)]
  exact s.volAt_setVol_of_ne_default (by rw [dflt]; exact gates)

/-- Throttling and temperature (R428 to R431). -/
theorem holdsPowerSteps_holds : holdsPowerSteps := by
  intro s clocks
  refine ⟨fun w => ⟨_, exec_powerSample_of clocks, rfl, rfl, rfl⟩, ⟨_, exec_capDutyStep_of clocks, rfl, rfl, fun rises => ?_⟩,
    ⟨_, exec_thermalDutyStep_of clocks, rfl, ?_, ?_, fun h => thermalStep_le _ _ h, fun h => thermalStep_le _ _ h, fun hot => if_pos hot⟩,
    ⟨_, exec_gateFrameBoundary_of clocks, ?_, rfl, rfl, fun gates => ?_⟩, fun high => ⟨_, exec_throttleNChange_of clocks, rfl, rfl⟩⟩
  · exact State.noteSources_volAt rises
  · rw [State.endsPower_cores, (State.reported_countDuties _ _).cores] <;> rfl
  · rw [State.endsPower_units, (State.reported_countDuties _ _).units] <;> rfl
  · rw [State.endsPower_cores, (State.countGated_kept _ _).1] <;> rfl
  · exact (State.volAt_endsPower _ _ _ (by decide)).trans (State.volAt_gated gates)

/-! ### The thermal trip -/

/-- Readings change volatile entries alone (Table 13-6, Table 23-6). -/
theorem State.noteReadings_eq (s : State) (r : ThermalReading) : s.noteReadings r = { s with vol := (s.noteReadings r).vol } := by
  have temps (l : List (Int × Nat)) (t : State) :
      l.foldl (fun s d => s.setVol (ek (0xD050 + d.2) 5) (degrees d.1)) t
        = { t with vol := (l.foldl (fun s d => s.setVol (ek (0xD050 + d.2) 5) (degrees d.1)) t).vol } := by
    induction l generalizing t with
    | nil => rfl
    | cons d l ih => exact (ih _).trans rfl
  unfold State.noteReadings
  dsimp only
  split
  · exact (temps _ _).trans rfl
  · exact temps _ s

/-- A thermal sample (R432). -/
theorem holdsThermalTrip_holds : holdsThermalTrip := by
  intro r s clocks trips
  refine ⟨fun cool => ?_, fun hot hub package => ?_⟩
  · have read : s.power.read r = { s.power with dies := r.dies, stackTemps := r.stackTemps } := if_neg (Bool.eq_false_iff.mp cool)
    have note := s.noteReadings_eq r
    refine ⟨{ s.noteReadings r with power := s.power.read r }, ?_, read, by rw [note]⟩
    rw [exec_thermalSample, execThermalSample, if_neg (show ¬ readingTrips r = true from Bool.eq_false_iff.mp cool)]
    exact State.clockedPower_of_quiet clocks (by rw [note]) (by rw [note])
  · have read : s.power.read r = { s.power with dies := r.dies, stackTemps := r.stackTemps, clocks := false, tripped := true } := if_pos hot
    let t := (s.noteReadings r).faultNotice 2
    have units : t.units = s.units := by
      rw [(State.notes_faultNotice _ 2).units, s.noteReadings_eq r]
    have ust (u : UnitNo) : t.ust u = s.ust u := State.ust_of_record (by rw [units])
    obtain ⟨hubState, packageState⟩ := t.enterFaulted_hub 0 (by rw [ust]; exact hub) (by rw [ust]; exact package)
    have ended (u : UnitNo) : (s.endsPower (t.enterFaulted uHub 0) (s.power.read r)).ust u = (t.enterFaulted uHub 0).ust u :=
      State.ust_of_record (by rw [State.endsPower_units])
    refine ⟨s.endsPower (t.enterFaulted uHub 0) (s.power.read r), ?_, ?_, ?_, ?_, (ended _).trans hubState, (ended _).trans packageState⟩
    · rw [exec_thermalSample, execThermalSample, if_pos (show readingTrips r = true from hot)]
      exact State.clockedPower_of clocks
    · rw [State.endsPower_power, read]
    · rw [State.endsPower_power, read]
    · rw [State.endsPower_power, read]

/-- Settles O49: each step by the one power record it leaves; a trip by the fault of the hub die. -/
theorem powerAndHeat : Obligations.PowerAndHeat := by
  unfold Obligations.PowerAndHeat
  exact ⟨holdsPowerSteps_holds, holdsThermalTrip_holds⟩

end Sys2Proof.Machine
end

section
/-! O50: the loss of power and power-good (R425, R426, R435). -/

set_option Elab.async false
namespace Sys2Proof.Machine

/-! ### The loss of power -/

/-- What a package without power holds is what it held, its last words apart (R426). -/
theorem State.unpowered_of_notes {s t : State} (h : s.Notes t) : t.unpowered = { State.reset with
    pending := s.pending, out := t.out, freeIx := s.freeIx, fuseBanks := s.fuseBanks, hbm := s.hbm, power := t.unpowered.power } := by
  unfold State.unpowered
  rw [h.pending, h.freeIx, h.fuseBanks, h.hbm]

theorem State.notes_lastNotice (s : State) : s.Notes ((if s.power.clocks then s.faultNotice 3 else s).send ⟨.croak, 1, [1], []⟩) := by
  refine State.Notes.trans ?_ (State.notes_send _ _)
  split
  · exact s.notes_faultNotice 3
  · exact .refl s

theorem exec_powerLoss_on {s : State} (on : s.power.on = true) : exec .powerLoss s
    = .next ((if s.power.clocks then s.faultNotice 3 else s).send ⟨.croak, 1, [1], []⟩).unpowered := by
  rw [exec_powerLoss, execPowerLoss, if_neg (by rw [on]; decide)]

/-! ### Power-good -/

/-- A unit that moves between states that are neither HELD, FAULTED nor SHED makes a transition alone. -/
theorem State.moveTo_plain {s : State} {u : UnitNo} {new : Fin 9} (causes : Byte) (old : s.ust u ≠ stHeld) (held : new ≠ stHeld)
    (faulted : new ≠ stFaulted) (shed : new ≠ stShed) :
    s.moveTo u new causes = s.transition u new (if new = stReady then 0#8 else causes) := by
  rw [State.moveTo_eq, State.movedAround, if_neg (not_or.mpr ⟨faulted, shed⟩)]
  simp only [if_neg (fun h : s.ust u = stHeld ∧ new ≠ stHeld => old h.1), if_neg (fun h : new = stHeld ∧ s.ust u ≠ stHeld => held h.1),
    if_neg (fun h : u = uPackage ∧ new = stFaulted => faulted h.2)]

/-- A unit that starts alone is no core: no arrays load with it. -/
theorem coldArrays_of_startsAlone (s : State) {u : UnitNo} (h : startsAlone u = true) : coldArrays s u = [] := by
  refine if_neg fun core => ?_
  have die : ¬ (276 ≤ u.val ∧ u.val < 280) := by omega
  have hub : u.val ≠ 271 := by omega
  simp [startsAlone, kindOf, die, hub, core] at h

/-- The state a unit detected is in: LOADING where its loading needs no image, COLD otherwise (R435). -/
def detectedState (u : UnitNo) : Fin 9 := if startsAlone u then stLoading else stCold

/-- One unit detected: from ABSENT to COLD, and on to LOADING where it starts alone (R435). -/
def State.detectOne (s : State) (u : UnitNo) : State :=
  if u = uPair ∨ u = uGroup ∨ s.ust u ≠ stAbsent then s
  else if startsAlone u then (s.transition u stCold 0#8).startLoading u false none else s.transition u stCold 0#8

theorem State.detect_eq (s : State) (us : List UnitNo) : s.detect us = us.foldl State.detectOne s := rfl

/-- A unit that is not held starts its load alone: a transition, with its operation before it. -/
theorem State.startLoading_alone {s : State} {u : UnitNo} (alone : startsAlone u = true) (old : s.ust u ≠ stHeld) :
    ∃ f : UnitRec → UnitRec, ∃ causes, s.startLoading u false none = (s.updUnit u f).transition u stLoading causes := by
  have same (doomed : Bool) : (s.updUnit u fun r => { r with
      streaming := false && (kindOf u).isSome, doomed := doomed, opSlot := none, drainTo := none, opStatus := 1 }).ust u ≠ stHeld := by
    have view := s.view_updUnit_of_views u u (fun r => { r with
      streaming := false && (kindOf u).isSome, doomed := doomed, opSlot := none, drainTo := none, opStatus := 1 }) (fun _ => rfl) fun _ => rfl
    rw [State.ust, view]
    exact old
  unfold State.startLoading
  dsimp only
  rw [coldArrays_of_startsAlone s alone, List.foldl_nil]
  exact ⟨_, _, State.moveTo_plain _ (same _) (by decide) (by decide) (by decide)⟩

theorem State.transition_ust (s : State) (u m : UnitNo) (new : Fin 9) (causes : Byte) :
    (s.transition u new causes).ust m = if m = u then new else s.ust m := by
  by_cases h : m = u
  · rw [h, if_pos rfl]
    exact congrArg UView.state (s.transition_view u new causes)
  · rw [if_neg h]
    exact State.ust_of_record (s.transition_unit_ne _ _ h)

/-- A unit that is COLD and starts alone goes on to LOADING, and no other unit changes its state. -/
theorem State.startLoading_ust {s : State} {u : UnitNo} (alone : startsAlone u = true) (old : s.ust u ≠ stHeld) (m : UnitNo) :
    (s.startLoading u false none).ust m = if m = u then stLoading else s.ust m := by
  obtain ⟨f, causes, eq⟩ := State.startLoading_alone alone old
  rw [eq, State.transition_ust]
  by_cases h : m = u
  · rw [if_pos h, if_pos h]
  · rw [if_neg h, if_neg h]
    exact State.ust_of_record (s.updUnit_unit_ne f h)

/-- A unit taken to COLD, and on to LOADING where it starts alone, changes no other unit's state. -/
theorem State.broughtUp_ust (s : State) (u m : UnitNo) :
    (if startsAlone u then (s.transition u stCold 0#8).startLoading u false none else s.transition u stCold 0#8).ust m
      = if m = u then detectedState u else s.ust m := by
  have cold : (s.transition u stCold 0#8).ust u ≠ stHeld := by
    rw [State.transition_ust, if_pos rfl]; decide
  unfold detectedState
  by_cases alone : startsAlone u = true
  · rw [if_pos alone, if_pos alone, State.startLoading_ust alone cold]
    by_cases h : m = u
    · rw [if_pos h, if_pos h]
    · rw [if_neg h, if_neg h, State.transition_ust, if_neg h]
  · rw [if_neg alone, if_neg alone, State.transition_ust]

/-- What one detection leaves of the units. -/
theorem State.detectOne_ust (s : State) (u m : UnitNo) : (s.detectOne u).ust m
    = if m = u ∧ m ≠ uPair ∧ m ≠ uGroup ∧ s.ust m = stAbsent then detectedState m else s.ust m := by
  unfold State.detectOne
  by_cases skip : u = uPair ∨ u = uGroup ∨ s.ust u ≠ stAbsent
  · have other : ¬ (m = u ∧ m ≠ uPair ∧ m ≠ uGroup ∧ s.ust m = stAbsent) := by
      rintro ⟨rfl, pair, group, absent⟩
      exact skip.elim pair fun h => h.elim group fun h => h absent
    rw [if_pos skip, if_neg other]
  · obtain ⟨pair, group, absent⟩ : u ≠ uPair ∧ u ≠ uGroup ∧ s.ust u = stAbsent := by simpa only [not_or, Classical.not_not] using skip
    rw [if_neg skip, State.broughtUp_ust]
    by_cases h : m = u
    · subst h
      rw [if_pos rfl]
      exact (if_pos ⟨rfl, pair, group, absent⟩).symm
    · rw [if_neg h, if_neg fun k => h k.1]

/-- A detection moves its unit alone. -/
theorem State.moved_detectOne (s : State) (u : UnitNo) : s.Moved (s.detectOne u) := by
  unfold State.detectOne
  split
  · exact .refl s
  split
  · next alone =>
    obtain ⟨f, causes, eq⟩ := State.startLoading_alone (s := s.transition u stCold 0#8) alone (by rw [State.transition_ust, if_pos rfl]; decide)
    rw [eq]
    exact ((s.moved_transition u _ _).trans (State.moved_updUnit _ u f)).trans (State.moved_transition _ u _ _)
  · exact s.moved_transition u _ _

theorem State.moved_detect (s : State) (us : List UnitNo) : s.Moved (s.detect us) := State.Moved.foldl State.moved_detectOne us s

/-- What detection leaves of the units (R435). -/
theorem State.detect_ust (us : List UnitNo) (s : State) (m : UnitNo) : (s.detect us).ust m
    = if m ∈ us ∧ m ≠ uPair ∧ m ≠ uGroup ∧ s.ust m = stAbsent then detectedState m else s.ust m := by
  rw [State.detect_eq]
  have present : detectedState m ≠ stAbsent := by
    unfold detectedState
    split <;> decide
  induction us generalizing s with
  | nil => exact (if_neg fun h => absurd h.1 (by simp)).symm
  | cons u us ih =>
    rw [List.foldl_cons, ih, State.detectOne_ust]
    by_cases first : m = u ∧ m ≠ uPair ∧ m ≠ uGroup ∧ s.ust m = stAbsent
    · rw [if_pos first, if_neg fun h => present h.2.2.2, if_pos ⟨List.mem_cons.mpr (.inl first.1), first.2⟩]
    · rw [if_neg first]
      refine ite_congr (propext ?_) (fun _ => rfl) fun _ => rfl
      rw [List.mem_cons]
      exact ⟨fun h => ⟨.inr h.1, h.2⟩, fun h => ⟨h.1.resolve_left fun e => first ⟨e, h.2⟩, h.2⟩⟩

/-- The state power-good leaves (R435). -/
def State.poweredGood (s : State) (p : PartStart) : State :=
  { ((s.started p.straps).detect p.detected).settled 0 with pending := s.pending, power := s.power.started }

/-- Settles O50: the loss of power by what a package without power holds; power-good by what each detection leaves. -/
theorem powerTransitions : Obligations.PowerTransitions := by
  unfold Obligations.PowerTransitions
  refine ⟨fun s on => ⟨_, exec_powerLoss_on on, rfl, rfl, State.unpowered_of_notes s.notes_lastNotice⟩, fun s off => ?_, fun p s on => ?_,
    fun p s off => ?_⟩
  · rw [exec_powerLoss, execPowerLoss, if_pos (by rw [off]; rfl)]
  · rw [exec_powerGood, execPowerGood, if_pos on]
  · have moved := ((s.started p.straps).moved_detect p.detected).trans
      (.of_notes (.of_reported (State.reported_settled ((s.started p.straps).detect p.detected) 0)))
    have run : exec (.powerGood p) s = .next (s.poweredGood p) := by
      rw [exec_powerGood, execPowerGood, if_neg (by rw [off]; decide)] <;> rfl
    refine ⟨s.poweredGood p, run, rfl, rfl, rfl, ?_, ?_, ?_, ?_, ?_, rfl, fun u => ?_⟩
    · exact moved.fuseBanks.trans (State.takeFused_kept (f := State.fuseBanks) (fun _ _ => rfl) s.unpowered 0 0xFFFF)
    · exact moved.hbm.trans (State.takeFused_kept (f := State.hbm) (fun _ _ => rfl) s.unpowered 0 0xFFFF)
    · exact moved.cores.trans (State.takeFused_kept (f := State.cores) (fun _ _ => rfl) s.unpowered 0 0xFFFF)
    · exact moved.sessions.trans (State.takeFused_kept (f := State.sessions) (fun _ _ => rfl) s.unpowered 0 0xFFFF)
    · exact moved.launches.trans (State.takeFused_kept (f := State.launches) (fun _ _ => rfl) s.unpowered 0 0xFFFF)
    · have settled : (s.poweredGood p).ust u = ((s.started p.straps).detect p.detected).ust u :=
        State.ust_of_record (by rw [show (s.poweredGood p).units = _ from (State.reported_settled _ 0).units])
      have absent : (s.started p.straps).ust u = stAbsent := by
        have units : (s.started p.straps).units = s.unpowered.units :=
          State.takeFused_kept (f := State.units) (fun _ _ => rfl) s.unpowered 0 0xFFFF
        rw [State.ust_of_record (congrArg (fun v => v[u]) units)]
        simp [State.ust, State.view, State.unpowered, State.reset, UnitRec.reset]
      rw [settled, State.detect_ust, absent]
      simp only [and_true]
      rfl

end Sys2Proof.Machine
end

section
/-! O27: a hold of a READY array by a command (R24, R26, R31). -/

set_option Elab.async false
namespace Sys2Proof.Machine

/-! ### The beat goes by no report -/

/-- A count of anything but the beat's own entry leaves the beat. -/
theorem State.beat_count (s : State) {key : Nat} (n code path : Nat) (fs : List (Nat × Nat)) (h : ek 0xB010 1 ≠ key) :
    (s.count key n code path fs).beat = s.beat := s.volAt_count _ _ _ _ _ h (by decide)

theorem State.beat_raise (s : State) (code path : Nat) (fs : List (Nat × Nat)) : (s.raise code path fs).beat = s.beat :=
  s.volAt_raise _ _ _ (by decide)

theorem State.beat_setVol (s : State) {key : Nat} (v : Nat) (h : ek 0xB010 1 ≠ key) : (s.setVol key v).beat = s.beat := s.volAt_setVol_ne v h

theorem State.beat_skipMirror (s : State) (gone : List (List Byte)) : (s.skipMirror gone).beat = s.beat := by
  unfold State.skipMirror
  split
  · rfl
  · split
    · rfl
    · dsimp only
      split
      · exact State.beat_count _ _ _ _ _ (by decide)
      · exact (State.beat_raise _ _ _ _).trans (State.beat_count _ _ _ _ _ (by decide))

theorem State.beat_toHost (s : State) (f : FnNo) (flow : Fin 17) (m : OutMsg) : (s.toHost f flow m).beat = s.beat := s.volAt_toHost f flow m _

theorem State.beat_mirrorAudit (s : State) (seq : Nat) (r : List Byte) : (s.mirrorAudit seq r).beat = s.beat := by
  unfold State.mirrorAudit
  dsimp only
  split
  · rfl
  · split
    · exact s.beat_toHost _ _ _
    · exact (State.beat_setVol _ _ (by decide)).trans (s.beat_toHost _ _ _)

theorem State.beat_auditTwin (s : State) (seq : Nat) (r : List Byte) : (s.auditTwin seq r).beat = s.beat := by
  unfold State.auditTwin State.sendTwin
  dsimp only
  split <;> rfl

theorem State.beat_auditRec (s : State) (e : AuditEntry) : (s.auditRec e).beat = s.beat := by
  have twin (t : State) (b : Prop) [Decidable b] (seq : Nat) (r : List Byte) : (if b then t.auditTwin seq r else t).beat = t.beat := by
    split
    · exact t.beat_auditTwin seq r
    · rfl
  have numbered (t : State) (v : Nat) : (t.setVol (ek 0x9000 1) v).beat = t.beat := t.beat_setVol v (by decide)
  have ring (l : List (List Byte)) : ({ s with audit := l } : State).beat = s.beat := rfl
  unfold State.auditRec
  exact (twin _ _ _ _).trans ((State.beat_mirrorAudit _ _ _).trans ((State.beat_skipMirror _ _).trans ((numbered _ _).trans (ring _))))

theorem State.beat_vatEvent (s : State) (v : VatNo) : (s.vatEvent v).beat = s.beat := by
  unfold State.vatEvent
  split
  · rfl
  · exact s.volAt_cause _ _ _ _

theorem State.beat_countVat (s : State) (v : VatNo) {sub : Nat} (small : sub < 256) : (s.countVat v sub).beat = s.beat := by
  have key : ek 0xB010 1 ≠ ek (0x8500 + v.val) sub := by simp only [ek]; omega
  unfold State.countVat State.countFor
  dsimp only
  split
  · exact (State.beat_vatEvent _ v).trans (s.beat_count _ _ _ _ key)
  · exact s.beat_count _ _ _ _ key

/-! ### The command taken -/

/-- A command taken changes the records of its function, its slot and what counts it, and neither units nor entries nor cores. -/
theorem State.takenAt_kept (s : State) (w : FrameWrite) : (s.takenAt w).units = s.units ∧ (s.takenAt w).cfg = s.cfg
    ∧ (s.takenAt w).cores = s.cores ∧ (s.takenAt w).beat = s.beat := by
  have cleared : ∃ F, s.cleared w = { s with funcs := F } := by
    unfold State.cleared State.written State.frameBody
    split <;> exact ⟨_, rfl⟩
  obtain ⟨F, cleared⟩ := cleared
  have counted : ({ s with funcs := F } : State).Reported (({ s with funcs := F } : State).countVat w.vat 1) := State.reported_countFor _ _ _ _ _ _
  have beat := State.beat_countVat { s with funcs := F } w.vat (sub := 1) (by decide)
  unfold State.takenAt
  rw [cleared]
  exact ⟨counted.units, counted.cfg, counted.cores, beat⟩

/-- Whose a unit is depends on the entries in force alone (R22, R280). -/
theorem State.foreign_of_cfg {s t : State} (h : t.cfg = s.cfg) (v : VatNo) (u : UnitNo) : t.foreign v u = s.foreign v u := by
  simp only [State.foreign, State.vatOwns, State.numberOf, State.boundTo, State.boundPhys, State.cfgAt, h]
  rfl

/-! ### A hold of an array -/

section
variable {u : UnitNo} (array : u.val < 208)
include array

theorem below_array : below u = [] := if_pos array

theorem coresOfUnit_array : coresOfUnit u = [] := by
  have core : ¬ (208 ≤ u.val ∧ u.val < 260) := by omega
  unfold coresOfUnit
  rw [below_array array]
  simp [core]

theorem State.requestBelow_array (s : State) : s.requestBelow u = s := by
  unfold State.requestBelow
  rw [coresOfUnit_array array, List.foldl_nil]

/-- A READY array held moves to HELD, and nothing drains with it (Table 2-6). -/
theorem State.holdFor_array {s : State} (ready : s.ust u = stReady) (cause : Byte) :
    s.holdFor u cause = s.moveTo u stHeld ((s.view u).causes ||| cause) := by
  unfold State.holdFor
  dsimp only
  rw [if_pos ready, State.requestBelow_array array]

end

/-- A driver's hold of a READY unit that names its version is refused for nothing (R26). -/
theorem State.whyRefused_hold {s : State} {u : UnitNo} {ver : BitVec 16} {mask : BitVec 16} (ready : (s.view u).state = stReady)
    (version : ver = (s.view u).version) : s.whyRefused u 1 ver .driver mask = none := by
  have image : s.noImage u 1 = false := by
    unfold State.noImage
    split <;> rfl
  simp [State.whyRefused, State.roleMay, appliesTo, ready, version, image]

/-- A unit as the data path sees it stands as its data path's view says (R31). -/
theorem State.asSeen_unit (s : State) (u : UnitNo) :
    (s.asSeen true [u]).units[u] = { s.units[u] with mg := s.units[u].dp } := by
  rw [State.asSeen, List.foldl_cons, List.foldl_nil, State.updUnit_unit_self]
  rfl

theorem State.asSeen_unit_ne (s : State) {u m : UnitNo} (h : m ≠ u) : (s.asSeen true [u]).units[m] = s.units[m] := by
  rw [State.asSeen, List.foldl_cons, List.foldl_nil, State.updUnit_unit_ne _ _ h]

theorem State.asSeen_view (s : State) (u : UnitNo) : (s.asSeen true [u]).view u = s.units[u].dp := by
  have h := s.asSeen_unit u
  exact State.view_of_same (by rw [h]) (by rw [h])

/-- What a path does to a unit with none below it, joined with the other path's view of it (R24, R31). -/
theorem State.onPath_array {s : State} {q : UnitReq} {o : OpSlot} (array : q.unit.val < 208) (slot : q.slot = some o) (f : State → State) :
    s.onPath q f = (f (s.asSeen true [q.unit])).updUnit q.unit fun r => { r with
      mg := { s.units[q.unit].mg with causes := r.dp.causes } } := by
  unfold State.onPath
  rw [below_array array, slot] <;> rfl

/-- What a command's hold of a READY array leaves (R24, R31). -/
theorem State.applyReq_hold {s : State} {q : UnitReq} {o : OpSlot} (array : q.unit.val < 208) (op : q.op = 1#8) (role : q.role = .driver)
    (slot : q.slot = some o) (ready : s.units[q.unit].dp.state = stReady) (version : q.version = s.units[q.unit].dp.version) :
    s.applyReq q = (((s.asSeen true [q.unit]).moveTo q.unit stHeld (s.units[q.unit].dp.causes ||| 2#8)).opDone q.unit (some o)).updUnit q.unit
      fun r => { r with mg := { s.units[q.unit].mg with causes := r.dp.causes } } := by
  have view := s.asSeen_view q.unit
  have open_ : (s.asSeen true [q.unit]).whyRefused q.unit q.op.toNat q.version q.role q.mask = none := by
    rw [op, role]
    exact State.whyRefused_hold (by rw [view]; exact ready) (by rw [view]; exact version)
  have effect : (s.asSeen true [q.unit]).effectReq q
      = ((s.asSeen true [q.unit]).moveTo q.unit stHeld (s.units[q.unit].dp.causes ||| 2#8)).opDone q.unit (some o) := by
    unfold State.effectReq
    rw [op]
    dsimp only
    rw [role, slot]
    exact congrArg (fun t => State.opDone t q.unit (some o))
      ((State.holdFor_array array (by rw [State.ust, view]; exact ready) 2#8).trans (by rw [view]))
  unfold State.applyReq
  rw [State.onPath_array array slot, open_, effect]

/-- A plain final slot is in the state it is given (Table 15-4). -/
theorem Final.slot_plain_state {state code : Nat} (hs : state < 16) (hc : code < 256) (gen : Word) (beat : Nat) :
    ((Final.plain state code 0).slot gen beat).state = state := by
  have word : ((Final.plain state code 0).slot gen beat).w[1] = BitVec.ofNat 32 (state * 2 ^ 28 + code * 2 ^ 20 + b2n false * 2 ^ 19
      + b2n false * 2 ^ 18 + b2n false * 2 ^ 17 + (0#4).toNat * 2 ^ 13 + 0) := rfl
  have unset : b2n false = 0 := rfl
  have summary : (0#4).toNat = 0 := rfl
  rw [RSlot.state, word, BitVec.toNat_ofNat, unset, summary]
  omega

/-- The slot of a UNITOP whose operation is done is DONE, and no core changes (Table 15-2). -/
theorem State.opDone_some_kept (s : State) (u : UnitNo) (o : OpSlot) : (s.opDone u (some o)).cores = s.cores
    ∧ ((s.opDone u (some o)).rslot o.slot).state = 2 := by
  have final : ∀ (x : RSlot), x.state = 2 → ((((s.opStatus u 2).setRslot o.slot x).cause o.fn 0
      (((s.opStatus u 2).setRslot o.slot x).resultVector o.fn o.slot)).rslot o.slot).state = 2 := by
    intro x hx
    have results := (State.reported_cause ((s.opStatus u 2).setRslot o.slot x) o.fn 0
      (((s.opStatus u 2).setRslot o.slot x).resultVector o.fn o.slot)).results
    have read := (s.opStatus u 2).rslot_setRslot_of_ne_reset o.slot (x := x) (fun h => by rw [h] at hx; exact absurd hx (by decide))
    unfold State.rslot at read ⊢
    rw [results, read, hx]
  exact ⟨(State.reported_cause _ _ _ _).cores, final _ (Final.slot_plain_state (by decide) (by decide) _ _)⟩

/-- The records and results that a command's hold of a READY array leaves (R24, R26, R31). -/
theorem State.applyReq_hold_kept {s : State} {q : UnitReq} {o : OpSlot} (array : q.unit.val < 208) (op : q.op = 1#8) (role : q.role = .driver)
    (slot : q.slot = some o) (ready : s.units[q.unit].dp.state = stReady) (version : q.version = s.units[q.unit].dp.version) :
    (s.applyReq q).units[q.unit] = { s.units[q.unit] with
        dp := ⟨stHeld, s.units[q.unit].dp.causes ||| 2#8, s.units[q.unit].dp.version + 1⟩
        mg := { s.units[q.unit].mg with causes := s.units[q.unit].dp.causes ||| 2#8 }
        lastBeat := s.beat, opStatus := 2 }
      ∧ (∀ m, m ≠ q.unit → (s.applyReq q).units[m] = s.units[m]) ∧ (s.applyReq q).cores = s.cores
      ∧ ((s.applyReq q).rslot o.slot).state = 2 := by
  let a := s.asSeen true [q.unit]
  let b := a.moveTo q.unit stHeld (s.units[q.unit].dp.causes ||| 2#8)
  have below (m : UnitNo) : m ∉ below q.unit := by rw [below_array array]; exact List.not_mem_nil
  have moved : b.units[q.unit] = { a.units[q.unit] with
      mg := ⟨stHeld, s.units[q.unit].dp.causes ||| 2#8, (a.view q.unit).version + 1⟩
      dp := ⟨stHeld, s.units[q.unit].dp.causes ||| 2#8, (a.view q.unit).version + 1⟩, lastBeat := a.beat } :=
    a.moveTo_unit_self q.unit stHeld _
  have cores : b.cores = s.cores := (a.moved_moveTo q.unit stHeld _).cores
  rw [State.applyReq_hold array op role slot ready version]
  refine ⟨?_, fun m hm => ?_, ?_, ?_⟩
  · rw [State.updUnit_unit_self, State.opDone_unit_self, moved, s.asSeen_view, s.asSeen_unit] <;> rfl
  · rw [State.updUnit_unit_ne _ _ hm, State.opDone_unit_ne _ _ hm, State.moveTo_unit_ne _ _ _ hm (below m)]
    exact s.asSeen_unit_ne hm
  · exact (State.opDone_some_kept b q.unit o).1.trans cores
  · exact (State.opDone_some_kept b q.unit o).2

/-! ### The command -/

/-- The driver's request of a hold that a UNITOP command makes (R26). -/
def holdRequest (u : UnitNo) (c : Cmd) : UnitReq :=
  ⟨u, 1#8, c.pair 2, BitVec.ofNat 16 (c.field 4 15 0), .driver, 0#16, List.replicate 8 0#8, 4, some ⟨c.fn, c.slot, c.vat, c.frame⟩⟩

/-- A command that asks for a hold of a unit of no other vat submits its request (R26, R280). -/
theorem State.command_hold {s : State} {w : FrameWrite} {u : UnitNo} (comes : s.comes w = true) (takes : s.takesNone = false)
    (waiting : s.host.waiting = []) (own : s.foreign (s.cmdOf w).vat u = false) (code : (s.cmdOf w).code = 12)
    (op : (s.cmdOf w).field 1 23 16 = 1) (physical : (s.cmdOf w).fn = 0) (path : unitOfPath ((s.cmdOf w).field 1 15 0) = some u)
    (inRange : s.slotIn (s.cmdOf w).vat (s.cmdOf w).slot = true) (released : (s.rslot (s.cmdOf w).slot).state = 0) :
    s.unitOperation (.frame w) 1 = (s.takenAt w).submitReq (holdRequest u (s.cmdOf w)) := by
  have stopped : ¬ (!(s.takenAt w).vatRunning (s.cmdOf w).vat && !whileStopped (s.cmdOf w).code) = true := by
    rw [code]; simp [whileStopped]
  have foreign : ¬ (s.takenAt w).foreign (s.cmdOf w).vat u = true := by
    rw [State.foreign_of_cfg (s.takenAt_kept w).2.1, own]; decide
  unfold State.unitOperation
  dsimp only
  rw [s.command_taken w _ _ comes (by simp [code, op]) takes waiting inRange released, if_neg stopped, State.unitop_eq,
    if_neg (Classical.not_not.mpr physical), path, op]
  exact if_neg foreign

/-- A request of a hold of a READY array whose beat has come is accepted and taken at once (R26, R28). -/
theorem State.submitReq_hold {s : State} {q : UnitReq} {o : OpSlot} (array : q.unit.val < 208) (op : q.op = 1#8) (role : q.role = .driver)
    (slot : q.slot = some o) (ready : s.units[q.unit].dp.state = stReady) (version : q.version = s.units[q.unit].dp.version)
    (pos : 0 < q.target) (due : q.target ≤ s.beat) : s.submitReq q = ((s.opStatus q.unit 1).auditReq q 8 0).applyReq q := by
  have pair : q.unit ≠ uPair := fun e => by rw [e] at array; exact absurd array (by decide)
  have group : q.unit ≠ uGroup := fun e => by rw [e] at array; exact absurd array (by decide)
  have view := s.asSeen_view q.unit
  have open_ : (s.asSeen true [q.unit]).whyRefused q.unit q.op.toNat q.version q.role q.mask = none := by
    rw [op, role]
    exact State.whyRefused_hold (by rw [view]; exact ready) (by rw [view]; exact version)
  have audited : ((s.opStatus q.unit 1).auditReq q 8 0).beat = s.beat := State.beat_auditRec _ _
  have target : ¬ q.target = 0 := by omega
  unfold State.submitReq
  dsimp only
  rw [if_neg target, if_neg (fun h => group h.1), show q.slot.isSome = true by rw [slot]; rfl, open_]
  dsimp only
  rw [if_neg group, State.sharePair, if_neg pair, if_pos (by rw [audited]; exact due)]

/-- The records and results that a request of a hold leaves (R24, R26, R31). -/
theorem State.submitReq_hold_kept {s : State} {u : UnitNo} {q : UnitReq} {o : OpSlot} (unit : q.unit = u) (array : u.val < 208)
    (op : q.op = 1#8) (role : q.role = .driver) (slot : q.slot = some o) (ready : s.units[u].dp.state = stReady)
    (version : q.version = s.units[u].dp.version) (pos : 0 < q.target) (due : q.target ≤ s.beat) :
    (s.submitReq q).units[u] = { s.units[u] with
        dp := ⟨stHeld, s.units[u].dp.causes ||| 2#8, s.units[u].dp.version + 1⟩
        mg := { s.units[u].mg with causes := s.units[u].dp.causes ||| 2#8 }
        lastBeat := s.beat, opStatus := 2 }
      ∧ (∀ m, m ≠ u → (s.submitReq q).units[m] = s.units[m]) ∧ (s.submitReq q).cores = s.cores
      ∧ ((s.submitReq q).rslot o.slot).state = 2 := by
  subst unit
  have notes : (s.opStatus q.unit 1).Notes ((s.opStatus q.unit 1).auditReq q 8 0) := State.notes_auditRec _ _
  have same : ((s.opStatus q.unit 1).auditReq q 8 0).beat = s.beat := State.beat_auditRec _ _
  rw [State.submitReq_hold array op role slot ready version pos due]
  generalize (s.opStatus q.unit 1).auditReq q 8 0 = r at notes same ⊢
  have self : r.units[q.unit] = { s.units[q.unit] with opStatus := 1 } := by
    rw [notes.units]
    exact s.updUnit_unit_self _ _
  have others (m : UnitNo) (h : m ≠ q.unit) : r.units[m] = s.units[m] := by
    rw [notes.units]
    exact s.updUnit_unit_ne _ h
  obtain ⟨record, rest, still, final⟩ := State.applyReq_hold_kept (s := r) array op role slot (by rw [self]; exact ready)
    (by rw [self]; exact version)
  exact ⟨by rw [record, self, same], fun m hm => (rest m hm).trans (others m hm), still.trans notes.cores, final⟩

/-- Settles O27: the command's request is taken at once, and a hold of an array is one move of its record. -/
theorem holdArray : Obligations.HoldArray := by
  unfold Obligations.HoldArray
  intro w s u clocks comes c takes waiting own code op physical path array ready version pos due inRange released
  obtain ⟨units, -, cores, beat⟩ := s.takenAt_kept w
  have run : exec (.unitHold (.frame w)) s = .next (s.ends ((s.takenAt w).submitReq (holdRequest u c))) := by
    rw [exec_unitHold, execUnitHold, State.clocked_of clocks,
      State.command_hold comes takes waiting own code op physical path inRange released]
  obtain ⟨record, rest, still, final⟩ := State.submitReq_hold_kept (s := s.takenAt w) (u := u) (q := holdRequest u c)
    (o := ⟨c.fn, c.slot, c.vat, c.frame⟩) rfl array rfl rfl rfl (by rw [units]; exact ready) (by rw [units]; exact version) pos
    (by rw [beat]; exact due)
  rw [units, beat] at record
  generalize (s.takenAt w).submitReq (holdRequest u c) = t at run record rest still final
  have slot : ((s.ends t).rslot c.slot).state = 2 := by
    unfold State.rslot at final ⊢
    rw [State.ends_results]
    exact final
  refine ⟨_, run, ?_, ?_, ?_, ?_, slot, fun m hm => ?_, ?_⟩
  · rw [State.ends_units, record]
  · rw [State.ends_units, record]
  · rw [State.ends_units, record]
  · rw [State.ends_units, record]
  · rw [State.ends_units, rest m hm, units]
  · rw [State.ends_cores, still, cores]

end Sys2Proof.Machine
end

section
/-! What the end of launches and requests for it change (R146, R289, R298): the run state of cores, launches and their results, the units at
the cores, and what reports; the registers, tables and memories of every core, and every unit that is no core or array, are as before. -/

set_option Elab.async false
namespace Sys2Proof.Machine

/-- Two states of a core alike but for what runs on it. -/
def Core.SameStore (k l : Core) : Prop :=
  l = { k with pc := l.pc, tiles := l.tiles, recency := l.recency, unfenced := l.unfenced, wait := l.wait, pipeIn := l.pipeIn,
               moving := l.moving, syncQ := l.syncQ, held := l.held, run := l.run, launch := l.launch, preReq := l.preReq,
               interval := l.interval, intervalRaised := l.intervalRaised, lastPoint := l.lastPoint, folds := l.folds }

theorem Core.SameStore.refl (k : Core) : k.SameStore k := rfl

theorem Core.SameStore.trans {k l m : Core} (h : k.SameStore l) (g : l.SameStore m) : k.SameStore m := by
  unfold Core.SameStore at *
  rw [g, h]

/-- Two states alike but for what the end of launches can change. -/
structure State.Stops (s t : State) : Prop where
  same : t = { s with events := t.events, evCount := t.evCount, evBeat := t.evBeat, raised := t.raised, vol := t.vol, funcs := t.funcs,
                      host := t.host, out := t.out, audit := t.audit, mirrorBeat := t.mirrorBeat, twinPool := t.twinPool,
                      lostCores := t.lostCores, fports := t.fports, bindings := t.bindings, units := t.units, pipes := t.pipes,
                      cores := t.cores, launches := t.launches, waitQ := t.waitQ, verdicts := t.verdicts, results := t.results,
                      freeIx := t.freeIx }
  store : ∀ c : CoreId, (s.cores[c]).SameStore t.cores[c]
  unit : ∀ u : UnitNo, 260 ≤ u.val → t.units[u] = s.units[u]

namespace State.Stops

/-- A change of units and what tells of it, none of them but cores and arrays. -/
theorem of_moved {s t : State} (h : s.Moved t) (unit : ∀ u : UnitNo, 260 ≤ u.val → t.units[u] = s.units[u]) : s.Stops t where
  same := by
    unfold State.Moved at h
    rw [h]
  store c := by rw [h.cores]; exact .refl _
  unit := unit

theorem of_notes {s t : State} (h : s.Notes t) : s.Stops t := of_moved (.of_notes h) fun _ _ => by rw [h.units]

theorem of_reported {s t : State} (h : s.Reported t) : s.Stops t := of_notes (.of_reported h)

theorem refl (s : State) : s.Stops s := of_notes (.refl s)

theorem trans {s t u : State} (h : s.Stops t) (k : t.Stops u) : s.Stops u where
  same := by rw [k.same, h.same]
  store c := (h.store c).trans (k.store c)
  unit v hv := (k.unit v hv).trans (h.unit v hv)

theorem foldl {β : Type} {f : State → β → State} (h : ∀ (s : State) b, s.Stops (f s b)) (l : List β) (s : State) : s.Stops (l.foldl f s) := by
  induction l generalizing s with
  | nil => exact refl s
  | cons b l ih => exact (h s b).trans (ih _)

section
variable {s t : State} (h : s.Stops t)
include h

theorem pending : t.pending = s.pending := by rw [h.same]
theorem power : t.power = s.power := by rw [h.same]
theorem cfg : t.cfg = s.cfg := by rw [h.same]
theorem hbm : t.hbm = s.hbm := by rw [h.same]
theorem dieBuf : t.dieBuf = s.dieBuf := by rw [h.same]
theorem hubBuf : t.hubBuf = s.hubBuf := by rw [h.same]
theorem ust {u : UnitNo} (hu : 260 ≤ u.val) : t.ust u = s.ust u := State.ust_of_record (h.unit u hu)
theorem view {u : UnitNo} (hu : 260 ≤ u.val) : t.view u = s.view u := State.view_of_record (h.unit u hu)

end

end State.Stops

/-! ### One core freed -/

/-- A core changed in what runs on it. -/
theorem State.stops_updCore (s : State) (c : CoreId) {f : Core → Core} (h : ∀ k : Core, k.SameStore (f k)) : s.Stops (s.updCore c f) where
  same := rfl
  store d := by
    by_cases hd : d = c
    · subst hd
      rw [State.updCore_core]
      exact h _
    · rw [State.updCore_core_ne _ _ hd]
      exact .refl _
  unit _ _ := rfl

theorem State.stops_waitQ (s : State) (q : List (Nat × CoreId)) : s.Stops { s with waitQ := q } := ⟨rfl, fun _ => rfl, fun _ _ => rfl⟩
theorem State.stops_launches (s : State) (l : List Launch) : s.Stops { s with launches := l } := ⟨rfl, fun _ => rfl, fun _ _ => rfl⟩
theorem State.stops_verdicts (s : State) (v : Vector Verdict 16) : s.Stops { s with verdicts := v } := ⟨rfl, fun _ => rfl, fun _ _ => rfl⟩
theorem State.stops_results (s : State) (r : Sparse RSlot) : s.Stops { s with results := r } := ⟨rfl, fun _ => rfl, fun _ _ => rfl⟩
theorem State.stops_freeIx (s : State) (n : Nat) : s.Stops { s with freeIx := n } := ⟨rfl, fun _ => rfl, fun _ _ => rfl⟩
theorem State.stops_updLaunch (s : State) (slot : Nat) (f : Launch → Launch) : s.Stops (s.updLaunch slot f) := s.stops_launches _

theorem State.stops_setVol (s : State) (k v : Nat) : s.Stops (s.setVol k v) := .of_notes (s.notes_setVol k v)

theorem State.stops_leaveQueue (s : State) (c : CoreId) : s.Stops (s.leaveQueue c) := by
  unfold State.leaveQueue
  exact (s.stops_waitQ _).trans (State.stops_updCore _ c fun _ => rfl)

/-! ### The units at a core rest -/

/-- Two states alike but for cores and arrays as units, and what tells of them. -/
structure State.Rests (s t : State) : Prop where
  moved : s.Moved t
  unit : ∀ u : UnitNo, 260 ≤ u.val → t.units[u] = s.units[u]

namespace State.Rests

theorem refl (s : State) : s.Rests s := ⟨.refl s, fun _ _ => rfl⟩

theorem trans {s t u : State} (h : s.Rests t) (k : t.Rests u) : s.Rests u :=
  ⟨h.moved.trans k.moved, fun v hv => (k.unit v hv).trans (h.unit v hv)⟩

theorem foldl {β : Type} {f : State → β → State} (h : ∀ (s : State) b, s.Rests (f s b)) (l : List β) (s : State) : s.Rests (l.foldl f s) := by
  induction l generalizing s with
  | nil => exact refl s
  | cons b l ih => exact (h s b).trans (ih _)

theorem stops {s t : State} (h : s.Rests t) : s.Stops t := .of_moved h.moved h.unit

end State.Rests

/-- A core or an array that makes a transition. -/
theorem State.rests_transition (s : State) {u : UnitNo} (hu : u.val < 260) (new : Fin 9) (causes : Byte) : s.Rests (s.transition u new causes) :=
  ⟨s.moved_transition u new causes, fun m hm => s.transition_unit_ne _ _ fun e => by rw [e] at hm; omega⟩

theorem State.rests_moveTo (s : State) {u : UnitNo} (hu : u.val < 208) (new : Fin 9) (causes : Byte) : s.Rests (s.moveTo u new causes) :=
  ⟨s.moved_moveTo u new causes, fun m hm => s.moveTo_unit_ne _ _ (fun e => by rw [e] at hm; omega)
    (by rw [below_array hu]; exact List.not_mem_nil)⟩

theorem State.rests_drained (s : State) {u : UnitNo} (hu : u.val < 208) : s.Rests (s.drained u) := by
  have undrained : s.Rests (s.updUnit u fun r => { r with drainTo := none }) :=
    ⟨s.moved_updUnit u _, fun m hm => s.updUnit_unit_ne _ fun e => by rw [e] at hm; omega⟩
  have freed (t : State) (b : Prop) [Decidable b] : t.Rests (if b then t.moveTo u stReady 0#8 else t) := by
    split
    · exact t.rests_moveTo hu _ _
    · exact .refl t
  exact (undrained.trans (State.rests_moveTo _ hu _ _)).trans (freed _ _)

/-- Work on a core has ended: its arrays and the core rest (R23, R24). -/
theorem State.rests_unitsRest (s : State) (c : CoreId) : s.Rests (s.unitsRest c) := by
  have core : (coreUnit c).val < 260 := by simp only [coreUnit]; omega
  have array (a : Fin 4) : (arrayUnit c a).val < 208 := by simp only [arrayUnit]; omega
  have held (t : State) (a : Fin 4) (b : Prop) [Decidable b] : t.Rests (if b then t.transition (arrayUnit c a) stHeld 8#8 else t) := by
    split
    · exact t.rests_transition (by have := array a; omega) _ _
    · exact .refl t
  have rested (t : State) (b : Prop) [Decidable b] : t.Rests (if b then t.transition (coreUnit c) stReady 0#8 else t) := by
    split
    · exact t.rests_transition core _ _
    · exact .refl t
  unfold State.unitsRest
  refine State.Rests.trans (State.Rests.foldl (fun t a => ?_) _ _) (rested _ _)
  dsimp only
  split
  · exact (t.rests_transition (by have := array a; omega) _ _).trans (held _ _ _)
  split
  · exact t.rests_drained (array a)
  · exact .refl t

theorem State.stops_freeCore (s : State) (c : CoreId) : s.Stops (s.freeCore c) := by
  unfold State.freeCore
  refine (((s.stops_leaveQueue c).trans ?_).trans (State.stops_setVol _ _ _)).trans (State.rests_unitsRest _ c).stops
  exact State.stops_updCore _ c fun _ => rfl

/-! ### Launches ended and asked -/

theorem State.stops_slotFinal (s : State) (fn : FnNo) (r : Nat) (f : Final) : s.Stops (s.slotFinal fn r f) := by
  unfold State.slotFinal
  exact (s.stops_results _).trans (.of_reported (State.reported_cause _ _ _ _))

theorem State.stops_countVat (s : State) (v : VatNo) (sub : Nat) : s.Stops (s.countVat v sub) := .of_reported (s.reported_countFor _ _ _ _ _)

theorem State.stops_raiseVat (s : State) (v : VatNo) (code path : Nat) (fs : List (Nat × Nat)) : s.Stops (s.raiseVat v code path fs) :=
  .of_reported (s.reported_raiseVat _ _ _ _)

theorem State.stops_applyFolds (s : State) (c : CoreId) : s.Stops (s.applyFolds c) := by
  unfold State.applyFolds
  exact (s.stops_verdicts _).trans (State.stops_updCore _ c fun _ => rfl)

theorem State.stops_measure (s : State) (slot : Nat) (c : CoreId) : s.Stops (s.measure slot c) :=
  (s.stops_freeIx _).trans (State.stops_launches _ _)

theorem State.stops_partOver (s : State) (c : CoreId) (e : CoreEnd) (f : Launch → Launch) : s.Stops (s.partOver c e f) := by
  unfold State.partOver
  split
  · exact .refl s
  · exact (((s.stops_applyFolds c).trans (State.stops_measure _ _ c)).trans (State.stops_updLaunch _ _ _)).trans (State.stops_freeCore _ c)

theorem State.stops_finishLaunch (s : State) (l : Launch) : s.Stops (s.finishLaunch l) := by
  have freed (t : State) (c : CoreId) : t.Stops (if t.cores[c].launch = some l.slot then t.freeCore c else t) := by
    split
    · exact t.stops_freeCore c
    · exact .refl t
  have tainted (t : State) : t.Stops (if l.finalState = 3 then
      { t with verdicts := t.verdicts.set l.vat { t.verdicts[l.vat] with taint := true } } else t) := by
    split
    · exact t.stops_verdicts _
    · exact .refl t
  have saved (t : State) : t.Stops (if l.finalState = 4 then (t.countVat l.vat 6).raiseVat l.vat 0x0F04 0x5000
      [(l.vat.val, 1), (l.slot, 2), (l.cores.foldl (fun m c => m ||| 2 ^ c.q.val) 0, 6), (l.ctxBase, 5)] else t) := by
    split
    · exact (t.stops_countVat _ _).trans (State.stops_raiseVat _ _ _ _ _)
    · exact .refl t
  unfold State.finishLaunch
  exact ((((((s.stops_launches _).trans (State.Stops.foldl freed _ _)).trans (tainted _)).trans (State.stops_slotFinal _ _ _ _)).trans
    (State.stops_countVat _ _ _)).trans (saved _)).trans (State.Stops.foldl (fun t r => t.stops_slotFinal _ _ _) _ _)

theorem State.stops_finishIfOver (s : State) (slot : Nat) : s.Stops (s.finishIfOver slot) := by
  unfold State.finishIfOver
  split
  · split
    · exact s.stops_finishLaunch _
    · exact .refl s
  · exact .refl s

theorem State.stops_stopOthers (s : State) (slot : Nat) : s.Stops (s.stopOthers slot) := by
  unfold State.stopOthers
  dsimp only
  split
  · exact s.stops_updLaunch _ _
  · refine (s.stops_updLaunch _ _).trans (State.Stops.foldl (fun t c => ?_) _ _)
    split
    · exact t.stops_partOver _ _ _
    · exact .refl t

theorem State.stops_haltCore (s : State) (c : CoreId) (ev word : Nat) : s.Stops (s.haltCore c ev word) := by
  unfold State.haltCore
  split
  · exact .refl s
  · exact ((s.stops_partOver _ _ _).trans (State.stops_stopOthers _ _)).trans (State.stops_finishIfOver _ _)

theorem State.stops_reachPoint (s : State) (c : CoreId) (word : Nat) : s.Stops (s.reachPoint c word) := by
  unfold State.reachPoint
  split
  · exact .refl s
  split
  · exact (s.stops_partOver _ _ _).trans (State.stops_finishIfOver _ _)
  split
  · refine ((s.stops_leaveQueue c).trans ?_).trans (State.stops_updLaunch _ _ _)
    exact State.stops_updCore _ c fun _ => rfl
  · exact .refl s

theorem State.stops_recheckPoint (s : State) (c : CoreId) : s.Stops (s.recheckPoint c) := by
  unfold State.recheckPoint
  split
  · split
    · exact s.stops_reachPoint _ _
    · exact .refl s
  · exact .refl s

theorem State.stops_requestPreempt (s : State) (slot : Nat) : s.Stops (s.requestPreempt slot) := by
  unfold State.requestPreempt
  split
  · exact .refl s
  split
  · refine (s.stops_updLaunch _ _).trans (State.Stops.foldl (fun t c => ?_) _ _)
    refine State.Stops.trans ?_ (State.stops_recheckPoint _ c)
    exact t.stops_updCore c fun _ => rfl
  · exact .refl s

theorem State.stops_requestBelow (s : State) (u : UnitNo) : s.Stops (s.requestBelow u) := by
  unfold State.requestBelow
  refine State.Stops.foldl (fun t c => ?_) _ _
  split
  · exact t.stops_requestPreempt _
  · exact .refl t

end Sys2Proof.Machine
end

section
/-! O18: END (R141, R289). -/

set_option Elab.async false
namespace Sys2Proof.Machine

/-- A core that is freed: it runs nothing, and its tiles are released. -/
def Core.Freed (k : Core) : Prop := k.run = .idle ∧ k.launch = none ∧ k.tiles = Vector.replicate 16 .unbound

theorem State.freeCore_core_self (s : State) (c : CoreId) : ((s.freeCore c).cores[c]).Freed := by
  unfold State.freeCore
  dsimp only
  rw [(State.rests_unitsRest _ c).moved.cores, State.setVol_cores, State.updCore_core]
  exact ⟨rfl, rfl, rfl⟩

theorem State.freeCore_core_ne (s : State) {c d : CoreId} (h : d ≠ c) : (s.freeCore c).cores[d] = s.cores[d] := by
  unfold State.freeCore State.leaveQueue
  dsimp only
  rw [(State.rests_unitsRest _ c).moved.cores, State.setVol_cores, State.updCore_core_ne _ _ h, State.updCore_core_ne _ _ h]

/-- A core that is freed stays so while others are freed. -/
theorem State.freeCore_freed {s : State} {d : CoreId} (h : (s.cores[d]).Freed) (c : CoreId) : ((s.freeCore c).cores[d]).Freed := by
  by_cases e : d = c
  · rw [e]
    exact s.freeCore_core_self c
  · rw [s.freeCore_core_ne e]
    exact h

/-- A core whose part of a launch is over is freed. -/
theorem State.partOver_freed {s : State} {c : CoreId} {slot : Nat} (running : s.cores[c].launch = some slot) (e : CoreEnd) (f : Launch → Launch) :
    ((s.partOver c e f).cores[c]).Freed := by
  unfold State.partOver
  rw [running]
  exact State.freeCore_core_self _ c

theorem State.slotFinal_cores (s : State) (fn : FnNo) (r : Nat) (f : Final) : (s.slotFinal fn r f).cores = s.cores :=
  (State.reported_cause _ _ _ _).cores

theorem State.foldl_slotFinal_cores (l : List Nat) (fn : FnNo) (f : Final) (s : State) :
    (l.foldl (fun s r => s.slotFinal fn r f) s).cores = s.cores := by
  induction l generalizing s with
  | nil => rfl
  | cons r l ih => exact (ih _).trans (s.slotFinal_cores _ _ _)

/-- The cores that a launch's end frees: those that still run it. -/
def State.freeCores (s : State) (l : Launch) : State :=
  (l.cores.filterMap fun c => c.phys).foldl (fun s c => if s.cores[c].launch = some l.slot then s.freeCore c else s)
    { s with launches := s.launches.filter fun k => k.slot != l.slot }

/-- What a launch's end does to cores is to free those that run it. -/
theorem State.finishLaunch_cores (s : State) (l : Launch) : (s.finishLaunch l).cores = (s.freeCores l).cores := by
  have saved (t : State) (b : Prop) [Decidable b] (fs : List (Nat × Nat)) :
      (if b then (t.countVat l.vat 6).raiseVat l.vat 0x0F04 0x5000 fs else t).cores = t.cores := by
    split
    · exact (State.reported_raiseVat _ _ _ _ _).cores.trans (State.reported_countFor _ _ _ _ _ _).cores
    · rfl
  have tainted (t : State) (b : Prop) [Decidable b] (v : Vector Verdict 16) : (if b then { t with verdicts := v } else t).cores = t.cores := by
    split <;> rfl
  unfold State.finishLaunch
  refine (State.foldl_slotFinal_cores _ _ _ _).trans ((saved _ _ _).trans ((State.reported_countFor _ _ _ _ _ _).cores.trans
    ((State.slotFinal_cores _ _ _ _).trans (tainted _ _ _))))

theorem State.finishLaunch_freed {s : State} {d : CoreId} (h : (s.cores[d]).Freed) (l : Launch) : ((s.finishLaunch l).cores[d]).Freed := by
  have freed (cs : List CoreId) (t : State) (ht : (t.cores[d]).Freed) :
      ((cs.foldl (fun s c => if s.cores[c].launch = some l.slot then s.freeCore c else s) t).cores[d]).Freed := by
    induction cs generalizing t with
    | nil => exact ht
    | cons c cs ih =>
      refine ih _ ?_
      dsimp only
      split
      · exact State.freeCore_freed ht c
      · exact ht
  rw [State.finishLaunch_cores]
  exact freed _ _ h

theorem State.finishIfOver_freed {s : State} {d : CoreId} (h : (s.cores[d]).Freed) (slot : Nat) : ((s.finishIfOver slot).cores[d]).Freed := by
  unfold State.finishIfOver
  split
  · split
    · exact State.finishLaunch_freed h _
    · exact h
  · exact h

theorem State.stops_closeInterval (s : State) (c : CoreId) : s.Stops (s.closeInterval c) := by
  unfold State.closeInterval
  refine State.Stops.trans ?_ (State.stops_updCore _ c (f := fun k => { k with interval := 0, intervalRaised := false, lastPoint := k.pc })
    fun _ => rfl)
  exact (s.stops_freeIx _).trans (State.stops_setVol _ _ _)

theorem State.endCore_freed {s : State} {c : CoreId} {slot : Nat} (running : s.cores[c].launch = some slot) :
    s.Stops (s.endCore c) ∧ ((s.endCore c).cores[c]).Freed := by
  have closed : (s.closeInterval c).cores[c].launch = some slot := by
    unfold State.closeInterval
    dsimp only
    rw [State.updCore_core]
    exact running
  unfold State.endCore
  rw [running]
  exact ⟨((s.stops_closeInterval c).trans (State.stops_partOver _ c _ _)).trans (State.stops_finishIfOver _ _),
    State.finishIfOver_freed (State.partOver_freed closed _ _) _⟩

/-- Settles O18: the core is freed with its part, and nothing of the launch's end writes a register or a memory. -/
theorem endProgram : Obligations.EndProgram := by
  unfold Obligations.EndProgram
  intro c h f s issues
  have runs : s.cores[c].launch.isSome = true := by
    have can := issues
    simp only [State.issues, State.canIssue, State.runs, Bool.and_eq_true] at can
    exact can.1.2.1.1.2
  obtain ⟨slot, running⟩ := Option.isSome_iff_exists.mp runs
  have cores := s.countIssued_cores c
  obtain ⟨stops, run, launch, tiles⟩ := State.endCore_freed (s := s.countIssued c) (c := c) (slot := slot) (by rw [cores]; exact running)
  have counted : s.Stops (s.countIssued c) := .of_reported (s.reported_count _ _ _ _ _)
  have ended := counted.trans stops
  have store := ended.store c
  unfold Core.SameStore at store
  refine ⟨_, by rw [exec_endProgram, execEndProgram, State.clocked_issue _ issues], ?_⟩
  simp only [State.ends_cores, State.ends_hbm, State.ends_dieBuf, State.ends_hubBuf]
  refine ⟨run, launch, tiles, ?_, ?_, ?_, ?_, ?_, ended.hbm, ended.dieBuf, ended.hubBuf⟩ <;> rw [store]

end Sys2Proof.Machine
end

section
/-! O30: errors of memories and links (R414, R415). -/

set_option Elab.async false
namespace Sys2Proof.Machine

theorem State.updCore_program_loaded (s : State) (c : CoreId) (f : Core → Core) (h : (f s.cores[c]).loaded = s.cores[c].loaded) :
    (s.updCore c f).cores[c].loaded = s.cores[c].loaded := by
  rw [State.updCore_core]
  exact h

theorem State.countErr_cores (s : State) (u : UnitNo) (obj sub : Nat) : (s.countErr u obj sub).cores = s.cores := (s.reported_count _ _ _ _ _).cores

/-- A word that was not written whole only tells and counts. -/
theorem State.reported_chipWord (s : State) (f : ChipError) (u : UnitNo) (obj sub st word : Nat) :
    s.Reported (s.chipWord false f u obj sub st word) :=
  (s.reported_count _ _ _ _ _).trans (State.reported_raise _ _ _ _)

/-- An update of a core that differs from another in a case the core is not in. -/
theorem State.updCore_congr {s : State} {c : CoreId} {f g : Core → Core} (h : f s.cores[c] = g s.cores[c]) : s.updCore c f = s.updCore c g := by
  unfold State.updCore
  rw [h]

/-- The parts of a core that a bad program word leaves as it was. -/
theorem State.updCore_progBad {s : State} {c : CoreId} {w : Nat} (fresh : s.cores[c].progBad.contains w = false) :
    (s.updCore c fun k => { k with progBad := if k.progBad.contains w then k.progBad else k.progBad ++ [w] }) =
      s.updCore c fun k => { k with progBad := k.progBad ++ [w] } :=
  State.updCore_congr (by simp only [fresh, Bool.false_eq_true, if_false])

section
variable (s : State) (offset : Nat) (hard : Bool)

theorem leaves_coreError (c : CoreId) : leaves (.onchipUncorrectable ⟨.core c, offset, hard⟩) s
    ((s.setMem (.core c) (s.cores[c].buf.poison [offset])).chipWord (s.cores[c].buf.hard offset) ⟨.core c, offset, hard⟩ (coreUnit c) 14 2 1 0xFFFF) := by
  intro clocks
  rw [exec_onchipUncorrectable, execOnchipUncorrectable, State.clocked_of clocks]
  rfl

theorem leaves_dieError (d : Fin 4) : leaves (.onchipUncorrectable ⟨.die d, offset, hard⟩) s
    ((s.setMem (.die d) (s.dieBuf[d].poison [offset])).chipWord (s.dieBuf[d].hard offset) ⟨.die d, offset, hard⟩ (dieUnit ⟨d.val, by omega⟩) 6 2 3
      0xFFFF) := by
  intro clocks
  rw [exec_onchipUncorrectable, execOnchipUncorrectable, State.clocked_of clocks]
  rfl

theorem leaves_hubError : leaves (.onchipUncorrectable ⟨.hub, offset, hard⟩) s
    (({ s with hubBuf := s.hubBuf.poison [offset] } : State).hubWord (s.hubBuf.hard offset) ⟨.hub, offset, hard⟩) := by
  intro clocks
  rw [exec_onchipUncorrectable, execOnchipUncorrectable, State.clocked_of clocks]
  rfl

theorem leaves_programError (c : CoreId) (fresh : s.cores[c].progBad.contains (offset / 32) = false) :
    leaves (.onchipUncorrectable ⟨.program c, offset, hard⟩) s
      (let t := (((s.updCore c fun k => { k with progBad := k.progBad ++ [offset / 32] }).countErr (coreUnit c) 14 4).raise 0x1600 (corePath c)
         [(2, 1), (offset, 5), (offset / 32, 2)]).haltCore c 0x1600 (offset / 32)
       if offset / 32 < s.cores[c].loaded then t.hardFault (coreUnit c) 2 offset else t) := by
  have path : unitPath (coreUnit c) = corePath c := rfl
  intro clocks
  rw [exec_onchipUncorrectable, execOnchipUncorrectable, State.clocked_of clocks]
  simp only [State.updCore_progBad fresh, State.raise_cores, State.countErr_cores, State.updCore_core, path, decide_eq_true_eq]

end

theorem holdsBufferErrors_holds : holdsBufferErrors := by
  rintro ⟨mem, offset, hard⟩ s
  refine ⟨?_, ?_, ?_, ?_, ?_, ?_, ?_, ?_, ?_, fun clocks => ⟨?_, ?_, ?_⟩⟩
  · rintro c rfl
    exact leaves_coreError s offset hard c
  · rintro c rfl fresh
    exact leaves_programError s offset hard c fresh
  · rintro d rfl
    exact leaves_dieError s offset hard d
  · rintro rfl
    exact leaves_hubError s offset hard
  · rintro k rfl clocks
    rw [exec_onchipUncorrectable, execOnchipUncorrectable, State.clocked_of clocks]
    rfl
  · rintro k rfl clocks
    rw [exec_onchipUncorrectable, execOnchipUncorrectable, State.clocked_of clocks]
    rfl
  · rintro k rfl clocks
    rw [exec_onchipUncorrectable, execOnchipUncorrectable, State.clocked_of clocks]
    rfl
  · rintro n rfl hub clocks
    rw [exec_onchipUncorrectable, execOnchipUncorrectable, State.clocked_of clocks]
    simp only [if_true, hub, endDie, Nat.lt_irrefl, dite_false]
    rfl
  · rintro n q rfl chip end_ clocks
    have die : q.val / 12 < 4 := by omega
    rw [exec_onchipUncorrectable, execOnchipUncorrectable, State.clocked_of clocks]
    simp only [Bool.false_eq_true, if_false, chip, end_, endDie, die, dite_true]
    rfl
  · rintro c rfl soft
    refine ⟨_, leaves_coreError s offset hard c clocks, ?_⟩
    rw [soft, State.ends_cores, State.ends_units, State.ends_hbm]
    have told := State.reported_chipWord (s.setMem (.core c) (s.cores[c].buf.poison [offset])) ⟨.core c, offset, hard⟩ (coreUnit c) 14 2 1 0xFFFF
    rw [told.cores, told.units, told.hbm]
    have core := s.updCore_core c fun k => { k with buf := s.cores[c].buf.poison [offset] }
    exact ⟨congrArg Core.buf core, fun d hd => s.updCore_core_ne _ hd, (congrArg Core.x core).trans rfl, rfl, rfl⟩
  · rintro d rfl soft
    refine ⟨_, leaves_dieError s offset hard d clocks, ?_⟩
    rw [soft, State.ends_dieBuf, State.ends_cores, State.ends_units, State.ends_hbm]
    have told := State.reported_chipWord (s.setMem (.die d) (s.dieBuf[d].poison [offset])) ⟨.die d, offset, hard⟩ (dieUnit ⟨d.val, by omega⟩) 6 2 3
      0xFFFF
    rw [told.dieBuf, told.cores, told.units, told.hbm]
    exact ⟨Vector.getElem_set_self _, rfl, rfl, rfl⟩
  · rintro rfl soft
    refine ⟨_, leaves_hubError s offset hard clocks, ?_⟩
    rw [soft, State.ends_hubBuf, State.ends_cores, State.ends_units, State.ends_hbm]
    have told := State.reported_chipWord { s with hubBuf := s.hubBuf.poison [offset] } ⟨.hub, offset, hard⟩ uHub 6 2 4 0xFFFF
    unfold State.hubWord
    rw [told.hubBuf, told.cores, told.units, told.hbm]
    exact ⟨rfl, rfl, rfl, rfl⟩

/-! ### Flits of a link -/

/-- What the report of an uncorrectable flit leaves before the link's count (R414). -/
def State.flitTold (s : State) (f : LinkError) : State :=
  (s.free.2.countErr (dieUnit f.die) 6 4).raise 0x1600 (unitPath (dieUnit f.die))
    [(5, 1), ((match f.target with | some t => t.2 | none => s.free.1), 5), (0xFFFF, 2)]

/-- A link's count of uncorrectable flits, one more. -/
def State.flitCounted (s : State) (k : Nat) : State := { s with linkBeat := Sparse.set 0 s.linkBeat k (Sparse.get 0 s.linkBeat k + 1) }

theorem State.reported_flitTold (s : State) (f : LinkError) : s.free.2.Reported (s.flitTold f) :=
  (State.reported_count _ _ _ _ _ _).trans (State.reported_raise _ _ _ _)

theorem State.flitCounted_self (s : State) (k : Nat) : Sparse.get 0 (s.flitCounted k).linkBeat k = Sparse.get 0 s.linkBeat k + 1 := by
  have some : ¬ Sparse.get 0 s.linkBeat k + 1 = 0 := by omega
  unfold State.flitCounted Sparse.set
  rw [if_neg some, Sparse.get_put, if_pos rfl]

/-- The end of a report of an uncorrectable flit: the link's count, and the die held at the seventeenth (R414). -/
def State.flitDone (s : State) (f : LinkError) : State :=
  let k := f.die.val * 4 + f.link % 4
  let n := Sparse.get 0 s.linkBeat k + 1
  if n = 17 then ((s.flitCounted k).raise 0x1604 (unitPath (dieUnit f.die)) [(f.link, 1), (n, 4)]).holdFor (dieUnit f.die) 4#8 else s.flitCounted k

theorem State.flitDone_few {s : State} {f : LinkError} (few : Sparse.get 0 s.linkBeat (f.die.val * 4 + f.link % 4) ≠ 16) :
    s.flitDone f = s.flitCounted (f.die.val * 4 + f.link % 4) := by
  unfold State.flitDone
  exact if_neg fun h => few (Nat.succ.inj h)

/-- The seventeenth flit of a beat holds a die that is READY (R414). -/
theorem State.flitDone_many {s : State} {f : LinkError} (many : Sparse.get 0 s.linkBeat (f.die.val * 4 + f.link % 4) = 16)
    (ready : s.ust (dieUnit f.die) = stReady) :
    (s.flitDone f).view (dieUnit f.die) = ⟨stHeld, (s.view (dieUnit f.die)).causes ||| 4#8, (s.view (dieUnit f.die)).version + 1⟩ := by
  have die : 260 ≤ (dieUnit f.die).val := by simp only [dieUnit]; omega
  unfold State.flitDone
  simp only [many, if_true]
  generalize hu : (s.flitCounted (f.die.val * 4 + f.link % 4)).raise 0x1604 (unitPath (dieUnit f.die)) [(f.link, 1), (16 + 1, 4)] = u
  have same : u.view (dieUnit f.die) = s.view (dieUnit f.die) := State.view_of_record (by rw [← hu, State.raise_units]; rfl)
  have now : u.ust (dieUnit f.die) = stReady := (congrArg UView.state same).trans ready
  unfold State.holdFor
  rw [if_pos now, (State.stops_requestBelow _ _).view die, State.moveTo_view, same, if_neg (by decide)]

/-- A flit that is sent again (R414). -/
theorem exec_linkFlit_resent {f : LinkError} {s : State} (clocks : s.power.clocks = true) (first : f.second = false) :
    exec (.linkFlitUncorrectable f) s = .next (s.ends ((s.flitTold f).flitDone f)) := by
  rw [exec_linkFlitUncorrectable, execLinkFlitUncorrectable, State.clocked_of clocks]
  simp only [first]
  rfl

/-- A flit that fails a second time delivers poison where it was bound (R414). -/
theorem exec_linkFlit_lost {f : LinkError} {s : State} {p : ChipMem × Nat} (clocks : s.power.clocks = true) (second : f.second = true)
    (bound : f.target = some p) : exec (.linkFlitUncorrectable f) s = .next (s.ends (((s.flitTold f).poisonTarget p).flitDone f)) := by
  rw [exec_linkFlitUncorrectable, execLinkFlitUncorrectable, State.clocked_of clocks]
  unfold State.flitTold
  simp only [second, bound]
  rfl

theorem holdsLinkFlits : ∀ (f : LinkError) (s : State), s.power.clocks = true →
    let k := f.die.val * 4 + f.link % 4
    (f.second = false → Sparse.get 0 s.linkBeat k ≠ 16 →
      ∃ t, exec (.linkFlitUncorrectable f) s = .next t ∧ Sparse.get 0 t.linkBeat k = Sparse.get 0 s.linkBeat k + 1
        ∧ t.units = s.units ∧ t.cores = s.cores ∧ t.hbm = s.hbm)
    ∧ (∀ c o, f.second = true → f.target = some (.core c, o) → Sparse.get 0 s.linkBeat k ≠ 16 →
      ∃ t, exec (.linkFlitUncorrectable f) s = .next t
        ∧ t.cores[c].buf = s.cores[c].buf.poison ((List.range 4).map fun i => o / 64 * 64 + 16 * i)
        ∧ (∀ d, d ≠ c → t.cores[d] = s.cores[d]) ∧ t.units = s.units ∧ t.hbm = s.hbm)
    ∧ (f.second = false → Sparse.get 0 s.linkBeat k = 16 → s.ust (dieUnit f.die) = stReady →
      ∃ t, exec (.linkFlitUncorrectable f) s = .next t ∧ t.ust (dieUnit f.die) = stHeld
        ∧ (t.view (dieUnit f.die)).causes = (s.view (dieUnit f.die)).causes ||| 4#8) := by
  intro f s clocks
  have told := s.reported_flitTold f
  generalize ht : s.flitTold f = t at told
  have counts : t.linkBeat = s.linkBeat := told.linkBeat
  have units : t.units = s.units := told.units
  have cores : t.cores = s.cores := told.cores
  have hbm : t.hbm = s.hbm := told.hbm
  refine ⟨fun first few => ⟨_, exec_linkFlit_resent clocks first, ?_⟩, fun c o second bound few => ⟨_, exec_linkFlit_lost clocks second bound, ?_⟩,
    fun first many ready => ⟨_, exec_linkFlit_resent clocks first, ?_⟩⟩
  · rw [ht, State.flitDone_few (by rw [counts]; exact few), State.ends_linkBeat, State.ends_units, State.ends_cores, State.ends_hbm,
      State.flitCounted_self, counts]
    exact ⟨rfl, units, cores, hbm⟩
  · have beats : (t.poisonTarget (.core c, o)).linkBeat = t.linkBeat := rfl
    rw [ht, State.flitDone_few (by rw [beats, counts]; exact few), State.ends_units, State.ends_cores, State.ends_hbm]
    have core := t.updCore_core c fun k => { k with buf := t.cores[c].buf.poison ((List.range 4).map fun i => o / 64 * 64 + 16 * i) }
    have others {d : CoreId} (hd : d ≠ c) :=
      t.updCore_core_ne (fun k => { k with buf := t.cores[c].buf.poison ((List.range 4).map fun i => o / 64 * 64 + 16 * i) }) hd
    refine ⟨(congrArg Core.buf core).trans (by rw [cores]), fun d hd => (others hd).trans (by rw [cores]), units, hbm⟩
  · have same : t.view (dieUnit f.die) = s.view (dieUnit f.die) := State.view_of_record (by rw [units])
    have held := State.flitDone_many (s := t) (f := f) (by rw [counts]; exact many) ((congrArg UView.state same).trans ready)
    have ended : (s.ends (t.flitDone f)).view (dieUnit f.die) = (t.flitDone f).view (dieUnit f.die) := State.view_of_record (by rw [State.ends_units])
    rw [ht]
    exact ⟨(congrArg UView.state ended).trans (congrArg UView.state held), by rw [ended, held, same]⟩

/-! ### Corrected errors -/

theorem holdsCorrectedThreshold : ∀ (e : CorrectedErrors) (s : State),
    let v := s.countCorrected e.unit e.place e.count
    let n := v.correctedSum e.unit - v.windowStart e.unit
    ((n ≤ v.cfgAt (ek 0x2060 1) ∨ 0 < v.units[e.unit].corrTold) → leaves (.correctedErrorThreshold e) s v)
    ∧ (v.cfgAt (ek 0x2060 1) < n → v.units[e.unit].corrTold = 0 → leaves (.correctedErrorThreshold e) s
      ((v.raise 0x1601 (unitPath e.unit) [(n, 4), (v.cfgAt (ek 0x2060 2), 8)]).updUnit e.unit fun r => { r with
        corrTold := max 1 (v.cfgAt (ek 0x2060 2)), corrHold := v.cfgAt (ek 0x2060 3) == 1 })) := by
  intro e s
  refine ⟨fun quiet clocks => ?_, fun past fresh clocks => ?_⟩
  · rw [exec_correctedErrorThreshold, execCorrectedErrorThreshold, State.clocked_of clocks, if_pos quiet]
  · have loud : ¬ ((s.countCorrected e.unit e.place e.count).correctedSum e.unit - (s.countCorrected e.unit e.place e.count).windowStart e.unit
        ≤ (s.countCorrected e.unit e.place e.count).cfgAt (ek 0x2060 1) ∨ 0 < (s.countCorrected e.unit e.place e.count).units[e.unit].corrTold) := by
      rw [fresh]; omega
    rw [exec_correctedErrorThreshold, execCorrectedErrorThreshold, State.clocked_of clocks, if_neg loud]
    generalize s.countCorrected e.unit e.place e.count = v
    simp only [State.windowBeats, State.cfgAt, State.raise_cfg]

theorem holdsCorrectedCount (u : UnitNo) (place : CorrectedIn) (n : Nat) (s : State) :
    (correctedKey u place = none → s.countCorrected u place n = s)
    ∧ ∀ k, correctedKey u place = some k → 0 < n → s.volAt k + n < 2 ^ 48 - 1 → s.countCorrected u place n = s.setVol k (s.volAt k + n) := by
  have counted {k : Nat} (code path : Nat) (fs : List (Nat × Nat)) (pos : 0 < n) (room : s.volAt k + n < 2 ^ 48 - 1) :
      s.count k n code path fs = s.setVol k (s.volAt k + n) := by
    have idle : ¬ (n = 0 ∨ 2 ^ 63 ≤ s.volAt k) := by omega
    unfold State.count
    simp only [if_neg idle, if_pos room]
  unfold correctedKey State.countCorrected
  by_cases array : u.val < 208
  · simp only [if_pos array]
    cases place <;> simp +contextual [counted]
  by_cases core : u.val < 260
  · simp only [if_neg array, if_pos core]
    cases place <;> simp +contextual [counted]
  by_cases die : 276 ≤ u.val ∧ u.val < 281
  · simp only [if_neg array, if_neg core, if_pos die]
    cases place <;> simp +contextual [counted]
  · simp only [if_neg array, if_neg core, if_neg die]
    simp

/-- Settles O30. -/
theorem memoryErrors : Obligations.MemoryErrors :=
  ⟨holdsBufferErrors_holds, holdsLinkFlits, holdsCorrectedThreshold, holdsCorrectedCount⟩

end Sys2Proof.Machine
end

section
/-! O29: faults that arise in units (R85, R106, R214, R416). -/

set_option Elab.async false
namespace Sys2Proof.Machine

/-! ### At the arrays -/

theorem holdsOperandFaults_holds : holdsOperandFaults := by
  intro c f s
  refine ⟨fun idle clocks => ?_, fun running => ⟨fun weight clocks => ?_, fun a row act clocks => ?_, fun a row cause array clocks => ?_⟩,
    fun kind g sweep => ?_, fun sources td e accop => ?_, fun tile ds drain => ?_⟩
  · have stopped : (s.cores[c].run != .running) = true := bne_iff_ne.mpr idle
    rw [exec_arrayOperandFault, execArrayOperandFault, State.clocked_of clocks, if_pos stopped]
  · have busy : ¬ (s.cores[c].run != .running) = true := by rw [running]; decide
    rw [exec_arrayOperandFault, execArrayOperandFault, State.clocked_of clocks, if_neg busy]
    simp only [weight]
  · have busy : ¬ (s.cores[c].run != .running) = true := by rw [running]; decide
    rw [exec_arrayOperandFault, execArrayOperandFault, State.clocked_of clocks, if_neg busy]
    simp only [act]
  · have busy : ¬ (s.cores[c].run != .running) = true := by rw [running]; decide
    rw [exec_arrayOperandFault, execArrayOperandFault, State.clocked_of clocks, if_neg busy]
    simp only [array]
  · unfold State.stopWork
    simp only [sweep] <;> rfl
  · unfold State.stopWork
    simp only [accop] <;> rfl
  · unfold State.stopWork
    simp only [drain] <;> rfl

/-! ### In a core's own units -/

theorem State.haltCore_of_free {s : State} {c : CoreId} (free : s.cores[c].launch = none) (ev word : Nat) : s.haltCore c ev word = s := by
  unfold State.haltCore
  rw [free]

/-- A fault of a core that runs no launch. -/
theorem State.faultUnit_core {s : State} {c : CoreId} (ev : Nat) (up : ¬ (s.ust (coreUnit c) = stAbsent ∨ s.ust (coreUnit c) = stFaulted))
    (loads : s.ust (coreUnit c) ≠ stLoading) (free : s.cores[c].launch = none) :
    (s.faultUnit (coreUnit c) ev).ust (coreUnit c) = stFaulted := by
  have core : 208 ≤ (coreUnit c).val ∧ (coreUnit c).val < 260 := by simp only [coreUnit]; omega
  have same (h : (coreUnit c).val - 208 < 52) : (⟨(coreUnit c).val - 208, h⟩ : CoreId) = c := by
    simp only [coreUnit, Nat.add_sub_cancel_left]
  unfold State.faultUnit
  simp only [if_neg up, if_neg loads, dif_pos core, same]
  rw [State.haltCore_of_free]
  · exact State.moveTo_ust _ _ _ _
  · rw [(State.moved_moveTo _ _ _ _).cores]
    exact free

/-- A core that ran no launch when a fault in one of its own units held it (R106, R214, R419). -/
theorem State.holdFaulty_of_free {s : State} {c : CoreId} (ev : Nat) (free : s.cores[c].launch = none) :
    let drops := s.ust (coreUnit c) = stDraining ∧ s.units[coreUnit c].drainTo = some stShed
    (¬drops → (s.ust (coreUnit c) = stReady ∨ s.ust (coreUnit c) = stRunning ∨ s.ust (coreUnit c) = stDraining) →
      (s.holdFaulty c ev).ust (coreUnit c) = stHeld ∧ ((s.holdFaulty c ev).view (coreUnit c)).causes = (s.view (coreUnit c)).causes ||| 4#8)
    ∧ (drops → (s.holdFaulty c ev).ust (coreUnit c) = stFaulted) := by
  refine ⟨fun stays works => ?_, fun drops => ?_⟩
  · let t := s.updUnit (coreUnit c) fun r => { r with drainTo := none }
    have same : t.view (coreUnit c) = s.view (coreUnit c) :=
      s.view_updUnit_of_views _ _ (fun r => { r with drainTo := none }) (fun _ => rfl) fun _ => rfl
    have held : s.holdFaulty c ev = t.enterHeld (coreUnit c) 4#8 := by
      unfold State.holdFaulty
      simp only [if_neg stays, if_pos works]
      refine State.haltCore_of_free ?_ _ _
      unfold State.enterHeld
      rw [(State.moved_moveTo _ _ _ _).cores]
      exact free
    rw [held, State.enterHeld]
    exact ⟨State.moveTo_ust _ _ _ _, by rw [State.moveTo_view, same, if_neg (by decide)]⟩
  · have hub : coreUnit c ≠ uHub := fun h => by
      have := congrArg Fin.val h
      simp only [coreUnit, uHub] at this
      omega
    unfold State.holdFaulty State.enterFaulted
    simp only [if_pos drops, if_neg hub]
    exact State.faultUnit_core ev (by rw [drops.1]; decide) (by rw [drops.1]; decide) free

theorem holdsLaneAndCultureFaults_holds : holdsLaneAndCultureFaults := by
  intro c g f s
  refine ⟨fun absent => ⟨fun clocks => ?_, fun clocks => ?_⟩,
    fun loading => ⟨fun retired clocks => ?_, fun tested clocks => ?_, s.free.1 % 64, Nat.mod_lt _ (by decide), fun clocks => ?_⟩,
    fun there loaded => ⟨fun other clocks => ?_, fun own => ⟨s.free.1, fun clocks => ?_⟩, fun clocks => ?_⟩,
    fun ev free => State.holdFaulty_of_free ev free⟩
  · rw [exec_laneGroupFault, execLaneGroupFault, State.clocked_of clocks]
    simp only [if_pos absent]
  · rw [exec_cultureFault, execCultureFault, State.clocked_of clocks]
    simp only [if_pos absent]
  · have there : s.ust (coreUnit c) ≠ stAbsent := by rw [loading]; decide
    rw [exec_laneGroupFault, execLaneGroupFault, State.clocked_of clocks]
    simp only [if_neg there, if_pos loading, if_pos retired]
  · have there : s.ust (coreUnit c) ≠ stAbsent := by rw [loading]; decide
    rw [exec_laneGroupFault, execLaneGroupFault, State.clocked_of clocks]
    simp only [if_neg there, if_pos loading, tested, Bool.false_eq_true, if_false]
  · have there : s.ust (coreUnit c) ≠ stAbsent := by rw [loading]; decide
    rw [exec_cultureFault, execCultureFault, State.clocked_of clocks]
    simp only [if_neg there, if_pos loading]
    rfl
  · rw [exec_laneGroupFault, execLaneGroupFault, State.clocked_of clocks]
    simp only [if_neg there, if_neg loaded, if_pos other]
  · rw [exec_laneGroupFault, execLaneGroupFault, State.clocked_of clocks]
    simp only [if_neg there, if_neg loaded, own, ne_eq, not_true_eq_false, if_false]
    rfl
  · rw [exec_cultureFault, execCultureFault, State.clocked_of clocks]
    simp only [if_neg there, if_neg loaded]

/-! ### Of a die and of the hub -/

theorem State.hardFault_die {s : State} (d : Fin 4) (structure_ offset : Nat) (there : s.ust (dieUnit ⟨d.val, by omega⟩) ≠ stAbsent) :
    (s.hardFault (dieUnit ⟨d.val, by omega⟩) structure_ offset).ust (dieUnit ⟨d.val, by omega⟩) = stFaulted := by
  have hub : dieUnit ⟨d.val, by omega⟩ ≠ uHub := fun h => by
    have := congrArg Fin.val h
    simp only [dieUnit, uHub] at this
    omega
  unfold State.hardFault State.enterFaulted
  simp only [if_neg hub]
  refine State.faultUnit_ust_self _ _ (by simp only [dieUnit]; omega) ?_
  rw [State.ust_of_record (s := s) (by rw [State.raise_units])]
  exact there

theorem State.ends_ust (s t : State) (u : UnitNo) : (s.ends t).ust u = t.ust u := State.ust_of_record (by rw [State.ends_units])

theorem holdsDieAndHubFaults_holds : holdsDieAndHubFaults := by
  refine ⟨?_, ?_, ?_⟩
  · rintro ⟨d, buffer⟩ s clocks there whole
    cases buffer with
    | none =>
      refine ⟨_, by rw [exec_dieFault, execDieFault, State.clocked_of clocks], ?_⟩
      rw [State.ends_ust, State.logicFaulted]
      exact State.hardFault_die (s := s.free.2) d _ _ there
    | some o =>
      have hard : s.dieBuf[d].hard o = true := whole
      refine ⟨_, by rw [exec_dieFault, execDieFault, State.clocked_of clocks], ?_⟩
      simp only [State.mem, hard, if_true]
      rw [State.ends_ust]
      exact State.hardFault_die d _ _ there
  · rintro ⟨d, buffer⟩ o s rfl
    refine ⟨fun hard clocks => ?_, fun soft clocks => ?_⟩
    · rw [exec_dieFault, execDieFault, State.clocked_of clocks]
      simp only [State.mem, hard, if_true]
      rfl
    · rw [exec_dieFault, execDieFault, State.clocked_of clocks]
      simp only [State.mem, soft, Bool.false_eq_true, if_false]
  · intro s clocks hub package
    have raised {m : UnitNo} (fs : List (Nat × Nat)) : (s.free.2.raise 0x1602 (unitPath uHub) fs).ust m = s.ust m :=
      State.ust_of_record (by rw [State.raise_units]; rfl)
    refine ⟨_, by rw [exec_hubFault, execHubFault, State.clocked_of clocks], ?_⟩
    rw [State.ends_ust, State.ends_ust, State.logicFaulted, State.hardFault]
    exact State.enterFaulted_hub _ _ (by rw [raised]; exact hub) (by rw [raised]; exact package)

/-- Settles O29. -/
theorem unitFaults : Obligations.UnitFaults := ⟨holdsOperandFaults_holds, holdsLaneAndCultureFaults_holds, holdsDieAndHubFaults_holds⟩

end Sys2Proof.Machine
end

section
/-! O16: SIGNAL, WAIT and FENCE, and the rennets that serve them (R144, R261, R262). -/

set_option Elab.async false
namespace Sys2Proof.Machine

/-! ### What counting leaves of the synchronisation unit -/

section
variable (s : State) (c d : CoreId)

@[simp] theorem State.countIssued_retries : (s.countIssued c).retries = s.retries := (s.reported_count _ _ _ _ _).retries
@[simp] theorem State.countIssued_rennet (n : Nat) : (s.countIssued c).rennet n = s.rennet n := by
  unfold State.rennet
  rw [State.countIssued, State.count_rennets]
@[simp] theorem State.countIssued_ust (u : UnitNo) : (s.countIssued c).ust u = s.ust u :=
  State.ust_of_record (by rw [State.countIssued, State.count_units])
@[simp] theorem State.countIssued_cfgAt (k : Nat) : (s.countIssued c).cfgAt k = s.cfgAt k := by
  unfold State.cfgAt
  rw [State.countIssued, State.count_cfg]
@[simp] theorem State.countIssued_rennetIn (v : VatNo) (n : Nat) : (s.countIssued c).rennetIn v n = s.rennetIn v n := by
  simp only [State.rennetIn, State.countIssued_cfgAt]
@[simp] theorem State.countIssued_rennetAway (n : Nat) : (s.countIssued c).rennetAway n = s.rennetAway n := by
  simp only [State.rennetAway, State.away, State.countIssued_ust]
@[simp] theorem State.countIssued_retrying : (s.countIssued c).retrying d = s.retrying d := by
  simp only [State.retrying, State.countIssued_retries]
@[simp] theorem State.countIssued_writing : (s.countIssued c).writing d = s.writing d := by
  simp only [State.writing, State.pipeBusy, State.countIssued_pipes, State.countIssued_cores, State.countIssued_lq, State.countIssued_vatOf]
@[simp] theorem State.countIssued_peerRoom (p : Peer) (v : VatNo) : (s.countIssued c).peerRoom p v = s.peerRoom p v := by
  have peers : (s.countIssued c).peers = s.peers := (s.reported_count _ _ _ _ _).peers
  have bindings : (s.countIssued c).bindings = s.bindings := (s.reported_count _ _ _ _ _).bindings
  simp only [State.peerRoom, State.peer, State.bindFor, State.bindingsIn, State.bindPeer, State.bindVat, State.bindWord, peers, bindings,
    State.countIssued_cfgAt]
@[simp] theorem State.countIssued_syncStarts (op : Fin 3) (f : SyncF) : (s.countIssued c).syncStarts d op f = s.syncStarts d op f := by
  simp only [State.syncStarts, State.countIssued_cores, State.countIssued_retrying, State.countIssued_writing, State.countIssued_peerRoom,
    State.countIssued_vatOf]

end

/-! ### The checks of SIGNAL and WAIT -/

/-- The checks of a SIGNAL or WAIT come in order: its target, its count, and what its rennet takes (R134, R261). -/
theorem State.firstStop_sync (s : State) (c : CoreId) (op : Nat) (f : SyncF) (r : Option Stop) : firstStop (s.syncStops c op f ++ [r])
    = if f.target = 3#2 then some (illegal (s.wordOf c) clsSync op 45)
      else if f.count = 0#32 then some (illegal (s.wordOf c) clsSync op 64) else r := by
  unfold State.syncStops stopIf firstStop
  by_cases target : f.target = 3#2
  · simp [target, atWord]
  by_cases count : f.count = 0#32
  · simp [target, count, atWord]
  · cases r <;> simp [target, count]

/-- Why a rennet cannot take a SIGNAL or WAIT: 2 before 1 before 3 (R261). -/
def State.rennetWhy (s : State) (c : CoreId) (f : SyncF) : Nat :=
  if s.rennetIn (s.vatOf c) f.rennet.toNat = false then 2 else if (s.rennet f.rennet.toNat).max = 0 then 1
    else if (s.rennet f.rennet.toNat).max < f.count.toNat then 3 else 0

theorem State.rennetStop_eq (s : State) (c : CoreId) (f : SyncF) : s.rennetStop c f
    = if s.rennetWhy c f = 0 then none else some (0x0E03, [(s.wordOf c, 2), (f.rennet.toNat, 2), (s.rennetWhy c f, 1)]) := by
  unfold State.rennetStop State.rennetWhy stopIf firstStop
  cases inside : s.rennetIn (s.vatOf c) f.rennet.toNat
  · simp [inside]
  by_cases none : (s.rennet f.rennet.toNat).max = 0
  · simp [inside, none]
  by_cases many : (s.rennet f.rennet.toNat).max < f.count.toNat
  · simp [inside, none, many]
  · simp [inside, none, many]

/-- What a SIGNAL or WAIT of a rennet must say to be taken (R261). -/
def State.SyncLegal (s : State) (c : CoreId) (f : SyncF) : Prop :=
  f.count ≠ 0#32 ∧ s.rennetIn (s.vatOf c) f.rennet.toNat = true ∧ f.count.toNat ≤ (s.rennet f.rennet.toNat).max ∧ (s.rennet f.rennet.toNat).max ≠ 0

theorem State.SyncLegal.stop {s : State} {c : CoreId} {f : SyncF} (legal : s.SyncLegal c f) : (s.countIssued c).rennetStop c f = none := by
  obtain ⟨_, inside, fits, bound⟩ := legal
  rw [State.rennetStop_eq, if_pos]
  simp only [State.rennetWhy, State.countIssued_rennetIn, State.countIssued_vatOf, State.countIssued_rennet, inside, Bool.true_eq_false, if_false,
    if_neg bound, if_neg (Nat.not_lt.mpr fits)]

/-! ### What a SYNC does when it issues -/

/-- A SYNC whose unit is free and can start it takes effect now (Table 7-17). -/
theorem State.syncOrQueue_of_free {s : State} {c : CoreId} {op : Fin 3} {f : SyncF} (idle : s.cores[c].syncQ = []) (starts : s.syncStarts c op f = true)
    (word : Nat) : s.syncOrQueue c op f word = s.syncDo c ⟨op, f, word⟩ := by
  unfold State.syncOrQueue
  rw [if_pos (by rw [idle, starts]; rfl)]

/-- A SYNC whose unit is not free to start it joins the unit's queue (Table 7-17). -/
theorem State.syncOrQueue_of_busy {s : State} {c : CoreId} {op : Fin 3} {f : SyncF} (busy : s.cores[c].syncQ ≠ [] ∨ s.syncStarts c op f = false)
    (word : Nat) : s.syncOrQueue c op f word = s.updCore c fun k => { k with syncQ := k.syncQ ++ [⟨op, f, word⟩] } := by
  unfold State.syncOrQueue
  refine if_neg fun free => ?_
  rw [Bool.and_eq_true, List.isEmpty_iff] at free
  rcases busy with queued | waits
  · exact queued free.1
  · rw [waits] at free
    exact absurd free.2 (by decide)

section
variable {c : CoreId} {h : Hdr} {f : SyncF} {s : State} (issues : s.issues c h clsSync false = true)
include issues

theorem exec_signal (target : f.target ≠ 3#2) (count : f.count ≠ 0#32) (takes : remoteSync f = true ∨ (s.countIssued c).rennetStop c f = none) :
    exec (.signalRennet c h f) s = .next (s.ends (((s.countIssued c).syncOrQueue c 0 f s.cores[c].pc).advance c)) := by
  have passed : passes ((s.countIssued c).syncStops c 0 f ++ [if remoteSync f then none else (s.countIssued c).rennetStop c f]) = true := by
    unfold passes
    rw [State.firstStop_sync, if_neg target, if_neg count]
    rcases takes with far | near
    · rw [if_pos far]; rfl
    · rw [near]; split <;> rfl
  rw [exec_signalRennet, execSignalRennet, State.clocked_issue _ issues, State.checked_of passed, State.countIssued_wordOf]
  rfl

theorem exec_wait (target : f.target ≠ 3#2) (legal : s.SyncLegal c f) :
    exec (.waitRennet c h f) s = .next (s.ends (((s.countIssued c).advance c).syncOrQueue c 1 f s.cores[c].pc)) := by
  rw [exec_waitRennet, execWaitRennet, State.clocked_issue _ issues, State.firstStop_sync, if_neg target, if_neg legal.1, legal.stop]
  simp only [State.countIssued_wordOf]
  rfl

theorem exec_fenceSync : exec (.fence c h f) s = .next (s.ends (((s.countIssued c).syncOrQueue c 2 f s.cores[c].pc).advance c)) := by
  rw [exec_fence, execFence, State.clocked_issue _ issues, State.countIssued_wordOf]
  rfl

end

end Sys2Proof.Machine
end

section
/-! O16: SIGNAL, WAIT and FENCE, and the rennets that serve them (R144, R261, R262). -/

set_option Elab.async false
namespace Sys2Proof.Machine

/-! ### Tokens -/

/-- A rennet that is configured reads back. -/
theorem State.setRennet_self (s : State) {n : Nat} {r : Rennet} (h : r ≠ Rennet.reset) : (s.setRennet n r).rennet n = r := by
  unfold State.setRennet State.rennet Sparse.set
  dsimp only
  rw [if_neg h, Sparse.get_put, if_pos rfl]

theorem State.setRennet_ne (s : State) {n m : Nat} (r : Rennet) (h : m ≠ n) : (s.setRennet n r).rennet m = s.rennet m :=
  Sparse.get_set_ne _ _ _ _ _ h

theorem Rennet.ne_reset_of_max {r : Rennet} (h : r.max ≠ 0) : r ≠ Rennet.reset := fun e => h (by rw [e]; rfl)

theorem State.rennet_congr {s t : State} (h : t.rennets = s.rennets) (n : Nat) : t.rennet n = s.rennet n := by
  unfold State.rennet
  rw [h]

/-! ### A local signal -/

section
variable {s : State} {src : SignalFrom} {path n k : Nat}

theorem State.signalLocal_away (away : s.rennetAway n = true) :
    s.signalLocal src path n k = { s with retries := s.retries ++ [(⟨n, k, src, false⟩ : Retry)] } := by
  unfold State.signalLocal
  exact if_pos away

theorem State.signalLocal_fits (there : s.rennetAway n = false) (fits : (s.rennet n).count + k ≤ (s.rennet n).max) :
    s.signalLocal src path n k = s.addTokens n k := by
  unfold State.signalLocal
  simp only [there, Bool.false_eq_true, if_false, Rennet.accepts, decide_eq_true fits, if_true]

theorem State.signalLocal_full (there : s.rennetAway n = false) (full : (s.rennet n).max < (s.rennet n).count + k) :
    s.signalLocal src path n k = ({ s with retries := s.retries ++ [(⟨n, k, src, true⟩ : Retry)] } : State).signalRefused path n := by
  unfold State.signalLocal
  simp only [there, Bool.false_eq_true, if_false, Rennet.accepts, decide_eq_false (Nat.not_le.mpr full)]

theorem State.reported_signalRefused (s : State) (path n : Nat) : s.Reported (s.signalRefused path n) :=
  (s.reported_raise _ _ _).trans (State.reported_count _ _ _ _ _ _)

end

/-! ### A WAIT -/

/-- A WAIT that is no pre-emption point only joins the queue of its rennet (R262). -/
theorem State.startWait_plain {s : State} {c : CoreId} {f : SyncF} (p : f.p = false) (word : Nat) : s.startWait c f word
    = ({ s with waitQ := s.waitQ ++ [(f.rennet.toNat, c)] } : State).updCore c fun k =>
        { k with wait := some ⟨f.rennet.toNat, f.count.toNat, f.f, f.p, word⟩ } := by
  unfold State.startWait
  dsimp only
  refine if_neg ?_
  unfold State.waitsAtPoint
  rw [State.updCore_core]
  simp [p]

theorem State.startWait_core {s : State} {c : CoreId} {f : SyncF} (p : f.p = false) (word : Nat) : (s.startWait c f word).cores[c]
    = { s.cores[c] with wait := some ⟨f.rennet.toNat, f.count.toNat, f.f, false, word⟩ } := by
  rw [State.startWait_plain p, State.updCore_core, p]

theorem State.fenceCore_core (s : State) (c : CoreId) : (s.fenceCore c).cores[c] = { s.cores[c] with unfenced := [], folds := [] } := by
  rw [State.fenceCore, State.updCore_core, State.applyFolds, State.updCore_core]

/-! ### Instructions -/

theorem State.syncIdle_parts {s : State} {c : CoreId} (idle : s.syncIdle c = true) :
    s.cores[c].wait = none ∧ s.retrying c = false ∧ s.cores[c].syncQ = [] := by
  simpa [State.syncIdle, and_assoc] using idle

theorem remoteSync_of_local {f : SyncF} (target : f.target = 0#2) : remoteSync f = false := by
  unfold remoteSync
  rw [target]
  decide

theorem remoteSync_of_far {f : SyncF} (far : f.target = 1#2 ∨ f.target = 2#2) : remoteSync f = true := by
  unfold remoteSync
  rcases far with h | h <;> rw [h] <;> decide

section
variable {c : CoreId} {h : Hdr} {f : SyncF} {s : State} (issues : s.issues c h clsSync false = true)
include issues

/-- A SIGNAL that its unit can start takes effect at its issue (R144, R261, R264). -/
theorem exec_signal_now (idle : s.syncIdle c = true) (ordered : f.f = true → s.writing c = false)
    (room : remoteSync f = true → s.peerRoom (syncPeer f) (s.vatOf c) = true) (target : f.target ≠ 3#2) (count : f.count ≠ 0#32)
    (takes : remoteSync f = true ∨ (s.countIssued c).rennetStop c f = none) :
    exec (.signalRennet c h f) s = .next (s.ends (((s.countIssued c).signalEffect c f).advance c)) := by
  obtain ⟨wait, retry, queue⟩ := State.syncIdle_parts idle
  have starts : s.syncStarts c 0 f = true := by
    unfold State.syncStarts
    simp only [wait, retry, Option.isNone_none, Bool.not_false, Bool.and_true, Bool.true_and, Bool.and_eq_true, Bool.or_eq_true, Bool.not_eq_true']
    refine ⟨?_, ?_⟩
    · cases hf : f.f
      · exact .inl rfl
      · exact .inr (ordered hf)
    · cases hr : remoteSync f
      · exact .inl rfl
      · exact .inr (room hr)
  rw [exec_signal issues target count takes, State.syncOrQueue_of_free (by rw [State.countIssued_cores]; exact queue)
    (by rw [State.countIssued_syncStarts]; exact starts)]
  rfl

/-- A SIGNAL to a rennet of the package (R144, R261). -/
theorem exec_signal_local (idle : s.syncIdle c = true) (ordered : f.f = true → s.writing c = false) (target : f.target = 0#2)
    (legal : s.SyncLegal c f) : exec (.signalRennet c h f) s = .next (s.ends (((if f.f then (s.countIssued c).fenceCore c else s.countIssued c).signalLocal
      (.core c) (corePath c) f.rennet.toNat f.count.toNat).advance c)) := by
  have near := remoteSync_of_local target
  rw [exec_signal_now issues idle ordered (fun far => by rw [near] at far; cases far) (by rw [target]; decide) legal.1 (.inr legal.stop)]
  unfold State.signalEffect
  simp only [near, Bool.false_eq_true, if_false]

end

section
variable {c : CoreId} {h : Hdr} {f : SyncF} {s : State} (issues : s.issues c h clsSync false = true) (idle : s.syncIdle c = true)
  (target : f.target = 0#2) (legal : s.SyncLegal c f) (plain : f.f = false)
include issues idle target legal plain

/-- A SIGNAL to a rennet of the package that asks for no order (R261). -/
theorem exec_signal_plain : exec (.signalRennet c h f) s
    = .next (s.ends (((s.countIssued c).signalLocal (.core c) (corePath c) f.rennet.toNat f.count.toNat).advance c)) := by
  rw [exec_signal_local issues idle (fun ordered => by rw [plain] at ordered; cases ordered) target legal]
  simp only [plain, Bool.false_eq_true, if_false]

/-- A SIGNAL that fits adds its tokens and nothing else (R261). -/
theorem signal_fits (there : s.rennetAway f.rennet.toNat = false)
    (fits : (s.rennet f.rennet.toNat).count + f.count.toNat ≤ (s.rennet f.rennet.toNat).max) :
    ∃ t, exec (.signalRennet c h f) s = .next t ∧ (t.rennet f.rennet.toNat).count = (s.rennet f.rennet.toNat).count + f.count.toNat
      ∧ (t.rennet f.rennet.toNat).max = (s.rennet f.rennet.toNat).max ∧ (∀ m, m ≠ f.rennet.toNat → t.rennet m = s.rennet m)
      ∧ t.cores[c] = { s.cores[c] with pc := s.cores[c].pc + 1 } ∧ (∀ d, d ≠ c → t.cores[d] = s.cores[d])
      ∧ t.hbm = s.hbm ∧ t.retries = s.retries := by
  have run := exec_signal_plain issues idle target legal plain
  obtain ⟨_, _, _, bound⟩ := legal
  rw [State.signalLocal_fits (by rw [State.countIssued_rennetAway]; exact there) (by rw [State.countIssued_rennet]; exact fits)] at run
  refine ⟨_, run, ?_⟩
  generalize hn : f.rennet.toNat = n at *
  generalize hk : f.count.toNat = k at *
  let r : Rennet := { s.rennet n with count := (s.rennet n).count + k }
  have rennet (m : Nat) : (s.ends (((s.countIssued c).addTokens n k).advance c)).rennet m = ((s.countIssued c).setRennet n r).rennet m := by
    refine State.rennet_congr ?_ m
    rw [State.ends_rennets, State.advance, State.updCore_rennets, State.addTokens, State.countIssued_rennet]
  have self : (s.ends (((s.countIssued c).addTokens n k).advance c)).rennet n = r :=
    (rennet n).trans (State.setRennet_self _ (Rennet.ne_reset_of_max bound))
  have cores : (s.countIssued c).cores = s.cores := s.countIssued_cores c
  rw [self, State.ends_cores, State.ends_hbm, State.ends_retries]
  refine ⟨rfl, rfl, fun m hm => (rennet m).trans ((State.setRennet_ne _ _ hm).trans (State.countIssued_rennet _ _ _)), ?_, fun d hd => ?_, ?_, ?_⟩
  · refine (State.updCore_core _ c _).trans ?_
    rw [State.addTokens, State.setRennet, cores]
  · refine (State.updCore_core_ne _ _ hd).trans ?_
    rw [State.addTokens, State.setRennet, cores]
  · exact s.countIssued_hbm c
  · exact s.countIssued_retries c

/-- A SIGNAL whose rennet's die is away waits for it (Table 22-7). -/
theorem signal_away (away : s.rennetAway f.rennet.toNat = true) :
    ∃ t, exec (.signalRennet c h f) s = .next t ∧ t.rennet f.rennet.toNat = s.rennet f.rennet.toNat
      ∧ t.retries = s.retries ++ [⟨f.rennet.toNat, f.count.toNat, .core c, false⟩] := by
  have run := exec_signal_plain issues idle target legal plain
  rw [State.signalLocal_away (by rw [State.countIssued_rennetAway]; exact away)] at run
  refine ⟨_, run, (State.rennet_congr (s := s.countIssued c) ?_ _).trans (s.countIssued_rennet c _), ?_⟩
  · rw [State.ends_rennets]; rfl
  · rw [State.ends_retries, State.advance, State.updCore_retries, State.countIssued_retries]

/-- A SIGNAL that does not fit is refused and kept for its retries (R261). -/
theorem signal_full (there : s.rennetAway f.rennet.toNat = false)
    (full : (s.rennet f.rennet.toNat).max < (s.rennet f.rennet.toNat).count + f.count.toNat) :
    ∃ t, exec (.signalRennet c h f) s = .next t ∧ t.rennet f.rennet.toNat = s.rennet f.rennet.toNat
      ∧ t.retries = s.retries ++ [⟨f.rennet.toNat, f.count.toNat, .core c, true⟩] := by
  have run := exec_signal_plain issues idle target legal plain
  rw [State.signalLocal_full (by rw [State.countIssued_rennetAway]; exact there) (by rw [State.countIssued_rennet]; exact full)] at run
  have told := State.reported_signalRefused { s.countIssued c with
    retries := (s.countIssued c).retries ++ [(⟨f.rennet.toNat, f.count.toNat, .core c, true⟩ : Retry)] } (corePath c) f.rennet.toNat
  refine ⟨_, run, (State.rennet_congr (s := s.countIssued c) ?_ _).trans (s.countIssued_rennet c _), ?_⟩
  · rw [State.ends_rennets, State.advance, State.updCore_rennets, told.rennets]
  · rw [State.ends_retries, State.advance, State.updCore_retries, told.retries, State.countIssued_retries]

end

section
variable {c : CoreId} {h : Hdr} {f : SyncF} {s : State} (issues : s.issues c h clsSync false = true)
include issues

/-- A SIGNAL to a peer with room (R264). -/
theorem exec_signal_far (idle : s.syncIdle c = true) (ordered : f.f = true → s.writing c = false) (far : f.target = 1#2 ∨ f.target = 2#2)
    (count : f.count ≠ 0#32) (room : s.peerRoom (syncPeer f) (s.vatOf c) = true) :
    let after : State := if f.f then (s.countIssued c).fenceCore c else s.countIssued c
    exec (.signalRennet c h f) s
      = .next (s.ends ((after.signalRemote (syncPeer f) (after.vatOf c) f.rennet.toNat f.count.toNat).advance c)) := by
  have remote := remoteSync_of_far far
  have target : f.target ≠ 3#2 := by rcases far with h | h <;> rw [h] <;> decide
  rw [exec_signal_now issues idle ordered (fun _ => room) target count (.inl remote)]
  unfold State.signalEffect
  simp only [remote, if_true]

/-- The core after a WAIT that is no pre-emption point (R262). -/
theorem wait_plain (idle : s.syncIdle c = true) (target : f.target ≠ 3#2) (legal : s.SyncLegal c f) :
    exec (.waitRennet c h f) s = .next (s.ends (((s.countIssued c).advance c).startWait c f s.cores[c].pc))
    ∧ (f.p = false → ∃ t, exec (.waitRennet c h f) s = .next t ∧ t.waitQ = s.waitQ ++ [(f.rennet.toNat, c)]
      ∧ t.cores[c] = { s.cores[c] with
          pc := s.cores[c].pc + 1, wait := some ⟨f.rennet.toNat, f.count.toNat, f.f, false, s.cores[c].pc⟩ }) := by
  obtain ⟨wait, retry, queue⟩ := State.syncIdle_parts idle
  have core : ((s.countIssued c).advance c).cores[c] = { s.cores[c] with pc := s.cores[c].pc + 1 } := by
    rw [State.advance, State.updCore_core, State.countIssued_cores]
  have starts : ((s.countIssued c).advance c).syncStarts c 1 f = true := by
    have kept : ((s.countIssued c).advance c).retrying c = s.retrying c := s.countIssued_retrying c c
    unfold State.syncStarts
    simp only [core, wait, kept, retry]
    rfl
  have run : exec (.waitRennet c h f) s = .next (s.ends (((s.countIssued c).advance c).startWait c f s.cores[c].pc)) := by
    rw [exec_wait issues target legal, State.syncOrQueue_of_free (by rw [core]; exact queue) starts]
    rfl
  refine ⟨run, fun p => ⟨_, run, ?_, ?_⟩⟩
  · rw [State.startWait_plain p, State.ends_waitQ, State.updCore_waitQ]
    exact congrArg (· ++ _) (s.reported_count _ _ _ _ _).waitQ
  · rw [State.ends_cores, State.startWait_core p, core]

/-- A FENCE that starts (R144). -/
theorem fence_now (idle : s.syncIdle c = true) (quiet : s.writing c = false) :
    ∃ t, exec (.fence c h f) s = .next t ∧ t.cores[c] = { s.cores[c] with unfenced := [], folds := [], pc := s.cores[c].pc + 1 } := by
  obtain ⟨wait, retry, queue⟩ := State.syncIdle_parts idle
  have starts : (s.countIssued c).syncStarts c 2 f = true := by
    rw [State.countIssued_syncStarts]
    unfold State.syncStarts
    rw [wait, retry, quiet]
    rfl
  refine ⟨_, exec_fenceSync issues, ?_⟩
  rw [State.syncOrQueue_of_free (by rw [State.countIssued_cores]; exact queue) starts, State.ends_cores]
  show (((s.countIssued c).fenceCore c).advance c).cores[c] = _
  rw [State.advance, State.updCore_core, State.fenceCore_core, State.countIssued_cores]

/-- A SIGNAL that its unit cannot start joins the unit's queue (Table 7-17). -/
theorem signal_queued (target : f.target ≠ 3#2) (count : f.count ≠ 0#32) (takes : remoteSync f = true ∨ (s.countIssued c).rennetStop c f = none)
    (busy : s.cores[c].syncQ ≠ [] ∨ s.syncStarts c 0 f = false) :
    onCore (.signalRennet c h f) c s { s.cores[c] with syncQ := s.cores[c].syncQ ++ [⟨0, f, s.cores[c].pc⟩], pc := s.cores[c].pc + 1 } := by
  refine onCore_of (g := fun k => { k with syncQ := k.syncQ ++ [⟨0, f, s.cores[c].pc⟩], pc := k.pc + 1 }) ?_
  rw [exec_signal issues target count takes, State.syncOrQueue_of_busy (by rw [State.countIssued_cores, State.countIssued_syncStarts]; exact busy),
    State.advance, State.updCore_updCore]

theorem wait_queued (target : f.target ≠ 3#2) (legal : s.SyncLegal c f) (busy : s.cores[c].syncQ ≠ [] ∨ s.syncStarts c 1 f = false) :
    onCore (.waitRennet c h f) c s { s.cores[c] with syncQ := s.cores[c].syncQ ++ [⟨1, f, s.cores[c].pc⟩], pc := s.cores[c].pc + 1 } := by
  refine onCore_of (g := fun k => { k with syncQ := k.syncQ ++ [⟨1, f, s.cores[c].pc⟩], pc := k.pc + 1 }) ?_
  have core : ((s.countIssued c).advance c).cores[c] = { s.cores[c] with pc := s.cores[c].pc + 1 } := by
    rw [State.advance, State.updCore_core, State.countIssued_cores]
  have starts : ((s.countIssued c).advance c).syncStarts c 1 f = s.syncStarts c 1 f := by
    have kept : ((s.countIssued c).advance c).retrying c = s.retrying c := s.countIssued_retrying c c
    unfold State.syncStarts
    simp only [core, kept]
  rw [exec_wait issues target legal, State.syncOrQueue_of_busy (by rw [core, starts]; exact busy), State.advance, State.updCore_updCore]

theorem fence_queued (busy : s.cores[c].syncQ ≠ [] ∨ s.syncStarts c 2 f = false) :
    onCore (.fence c h f) c s { s.cores[c] with syncQ := s.cores[c].syncQ ++ [⟨2, f, s.cores[c].pc⟩], pc := s.cores[c].pc + 1 } := by
  refine onCore_of (g := fun k => { k with syncQ := k.syncQ ++ [⟨2, f, s.cores[c].pc⟩], pc := k.pc + 1 }) ?_
  rw [exec_fenceSync issues, State.syncOrQueue_of_busy (by rw [State.countIssued_cores, State.countIssued_syncStarts]; exact busy),
    State.advance, State.updCore_updCore]

end

theorem holdsSyncRuns_holds : holdsSyncRuns := by
  intro c h f s issues
  refine ⟨fun idle ordered => ⟨fun target legal => exec_signal_local issues idle ordered target legal,
      fun target legal plain there fits => signal_fits issues idle target legal plain there fits,
      fun target legal plain away => signal_away issues idle target legal plain away,
      fun target legal plain there full => signal_full issues idle target legal plain there full,
      fun far room => exec_signal_far issues idle ordered far.1 far.2 room⟩,
    fun idle target legal => wait_plain issues idle target legal, fun idle quiet => fence_now issues idle quiet, fun takes busy => ?_,
    fun target legal busy => wait_queued issues target legal busy, fun busy => fence_queued issues busy⟩
  rcases takes with ⟨target, legal⟩ | far
  · exact signal_queued issues (by rw [target]; decide) legal.1 (.inr (State.SyncLegal.stop legal)) busy
  · exact signal_queued issues (by rcases far.1 with h | h <;> rw [h] <;> decide) far.2 (.inl (remoteSync_of_far far.1)) busy

/-! ### Stops -/

section
variable {c : CoreId} {h : Hdr} {f : SyncF} {s : State} (issues : s.issues c h clsSync false = true)
include issues

theorem signal_stops {e : Stop} (stop : firstStop ((s.countIssued c).syncStops c 0 f ++ [if remoteSync f then none else (s.countIssued c).rennetStop c f])
    = some e) : exec (.signalRennet c h f) s = .next (s.ends ((s.countIssued c).stopProgram c e.1 e.2)) := by
  rw [exec_signalRennet, execSignalRennet, State.clocked_issue _ issues]
  unfold State.checked
  simp only [stop]

theorem wait_stops {e : Stop} (stop : firstStop ((s.countIssued c).syncStops c 1 f ++ [(s.countIssued c).rennetStop c f]) = some e) :
    exec (.waitRennet c h f) s = .next (s.ends ((s.countIssued c).stopProgram c e.1 e.2)) := by
  rw [exec_waitRennet, execWaitRennet, State.clocked_issue _ issues]
  simp only [stop]

end

theorem holdsSyncStops_holds : holdsSyncStops := by
  intro c h f s issues
  have word : (s.countIssued c).wordOf c = s.cores[c].pc := s.countIssued_wordOf c c
  refine ⟨fun target => ⟨?_, ?_⟩, fun target count => ⟨?_, ?_⟩, fun why hwhy bad target count => ⟨fun near => ?_, ?_⟩⟩
  · exact signal_stops issues (e := illegal s.cores[c].pc clsSync 0 45) (by rw [State.firstStop_sync, if_pos target, word])
  · exact wait_stops issues (e := illegal s.cores[c].pc clsSync 1 45) (by rw [State.firstStop_sync, if_pos target, word])
  · exact signal_stops issues (e := illegal s.cores[c].pc clsSync 0 64) (by rw [State.firstStop_sync, if_neg target, if_pos count, word])
  · exact wait_stops issues (e := illegal s.cores[c].pc clsSync 1 64) (by rw [State.firstStop_sync, if_neg target, if_pos count, word])
  all_goals
    have reason : (s.countIssued c).rennetWhy c f = why := by
      rw [hwhy, State.rennetWhy, State.countIssued_rennetIn, State.countIssued_vatOf, State.countIssued_rennet]
    have stop : (s.countIssued c).rennetStop c f = some (0x0E03, [(s.cores[c].pc, 2), (f.rennet.toNat, 2), (why, 1)]) := by
      rw [State.rennetStop_eq, reason, if_neg bad, word]
  · refine signal_stops issues (e := (0x0E03, [(s.cores[c].pc, 2), (f.rennet.toNat, 2), (why, 1)])) ?_
    rw [State.firstStop_sync, if_neg target, if_neg count, remoteSync_of_local near, stop, if_neg Bool.false_ne_true]
  · refine wait_stops issues (e := (0x0E03, [(s.cores[c].pc, 2), (f.rennet.toNat, 2), (why, 1)])) ?_
    rw [State.firstStop_sync, if_neg target, if_neg count, stop]

/-! ### Retries and waits served -/

theorem State.ends_self (s : State) : s.ends s = s := State.ends_eq rfl rfl rfl

theorem holdsRetries (c : CoreId) (s : State) (r : Retry) (clocks : s.power.clocks = true) (kept : s.retries.find? (fun x => x.src == .core c) = some r) :
    (s.rennetAway r.rennet = true → exec (.signalRetry c) s = .next s)
    ∧ (s.rennetAway r.rennet = false → r.count + (s.rennet r.rennet).count ≤ (s.rennet r.rennet).max →
      exec (.signalRetry c) s = .next (({ s with retries := s.retries.erase r } : State).addTokens r.rennet r.count))
    ∧ (s.rennetAway r.rennet = false → (s.rennet r.rennet).max < r.count + (s.rennet r.rennet).count →
      (r.told = true → exec (.signalRetry c) s = .next s)
      ∧ (r.told = false → exec (.signalRetry c) s = .next (s.ends
          (({ s with retries := s.retries.map fun q => if q = r then { q with told := true } else q } : State).signalRefused
            (corePath c) r.rennet)))) := by
  have run : exec (.signalRetry c) s = .next (s.ends (s.retry (.core c))) := by rw [exec_signalRetry, execSignalRetry, State.clocked_of clocks]
  have full (h : (s.rennet r.rennet).max < r.count + (s.rennet r.rennet).count) : (s.rennet r.rennet).accepts r.count = false :=
    decide_eq_false (by omega)
  rw [run]
  unfold State.retry
  simp only [kept]
  refine ⟨fun away => ?_, fun there fits => ?_, fun there many => ⟨fun told => ?_, fun untold => ?_⟩⟩
  · rw [if_pos away, State.ends_self]
  · have takes : (s.rennet r.rennet).accepts r.count = true := decide_eq_true (by omega)
    simp only [there, takes, Bool.false_eq_true, if_false, if_true]
    exact congrArg _ (State.ends_eq rfl rfl rfl)
  · simp only [there, full many, told, Bool.false_eq_true, if_false, if_true, State.ends_self]
  · simp only [there, full many, untold, Bool.false_eq_true, if_false]
    rfl

theorem holdsWaitServed (n : Fin 65536) (c : CoreId) (w : CoreWait) (s : State) (clocks : s.power.clocks = true) (one : s.waitQ = [(n.val, c)])
    (wait : s.cores[c].wait = some w) (own : w.rennet = n.val) (bound : (s.rennet n).max ≠ 0) :
    (w.count ≤ (s.rennet n).count → s.rennetAway n = false →
      ∃ t, exec (.waitSatisfied n) s = .next t ∧ t.waitQ = [] ∧ t.cores[c].wait = none
        ∧ (t.rennet n).count = (s.rennet n).count - w.count)
    ∧ (((s.rennet n).count < w.count ∨ s.rennetAway n = true) → exec (.waitSatisfied n) s = .next s) := by
  have run : exec (.waitSatisfied n) s = .next (s.ends (State.serveQueue (1 + 1) s n)) := by
    rw [exec_waitSatisfied, execWaitSatisfied, State.clocked_of clocks, one]
    rfl
  have head : s.headWaiter n = some c := by
    unfold State.headWaiter
    rw [one]
    simp
  rw [run, State.serveQueue]
  simp only [head, wait]
  refine ⟨fun covers there => ?_, fun short => ?_⟩
  · rw [if_pos ⟨covers, by rw [there]; rfl⟩]
    have gone : (s.satisfy c w).waitQ = [] := by
      show s.waitQ.erase (w.rennet, c) = []
      rw [one, own]
      simp
    have last : State.serveQueue 1 (s.satisfy c w) n = s.satisfy c w := by
      have none : (s.satisfy c w).headWaiter n = none := by
        unfold State.headWaiter
        rw [gone]
        rfl
      rw [State.serveQueue]
      simp only [none]
    refine ⟨_, rfl, ?_⟩
    rw [last, State.ends_waitQ, State.ends_cores]
    refine ⟨gone, congrArg Core.wait (State.updCore_core _ c _), ?_⟩
    have rennet : (s.ends (s.satisfy c w)).rennet n = (s.takeTokens n w.count).rennet n := by
      refine State.rennet_congr ?_ _
      rw [State.ends_rennets, ← own]
      rfl
    have self := s.setRennet_self (n := n) (r := { s.rennet n with count := (s.rennet n).count - w.count }) (Rennet.ne_reset_of_max bound)
    rw [rennet, State.takeTokens]
    exact congrArg Rennet.count self
  · rw [if_neg, State.ends_self]
    rintro ⟨covers, there⟩
    rcases short with few | away
    · omega
    · rw [away] at there
      exact absurd there (by decide)

/-- Settles O16. -/
theorem signalsAndWaits : Obligations.SignalsAndWaits := ⟨holdsSyncRuns_holds, holdsSyncStops_holds, holdsRetries, holdsWaitServed⟩

end Sys2Proof.Machine
end

section
/-! O40 and O42: packets and signals on their way (R255 to R258, R264 to R266), shadow records and exports (R351, R352, R355). -/

set_option Elab.async false
namespace Sys2Proof.Machine

/-! ### Packets and signals -/

/-- A pipe's end with no signal waiting retries none. -/
theorem State.retry_of_none {s : State} {src : SignalFrom} (none : (s.retries.all fun r => r.src != src) = true) : s.retry src = s := by
  have found : (s.retries.find? fun r => r.src == src) = .none := by
    rw [List.find?_eq_none]
    intro r hr
    have := List.all_eq_true.mp none r hr
    simpa using this
  unfold State.retry
  rw [found]

theorem State.stopWriter_of_empty {s : State} {n : Fin 1024} (empty : s.pipes[n].waiting = []) : s.stopWriter n = s := by
  unfold State.stopWriter
  dsimp only
  rw [if_pos (.inr (by rw [empty]; rfl))]

theorem holdsPackets (n : Fin 1024) (s : State) (quiet : (s.retries.all fun r => r.src != .pipe n) = true) :
    ((s.pipes[n].state ≠ 1 ∧ s.pipes[n].state ≠ 2) → leaves (.pipePacketAdvance n) s
      ((s.sendNotices n (s.pipes[n].owed + 3)).stopWriter n))
    ∧ (s.pipes[n].waiting = [] → s.stopWriter n = s)
    ∧ ((s.pipes[n].state = 1 ∨ s.pipes[n].state = 2) → leaves (.pipePacketAdvance n) s
        (((((s.moveOne n).sendNotices n (s.pipes[n].owed + 3)).sendPacket n).feedSlice n).updPipe n fun p => Pipe.fill (p.waiting.length + 4) p)) := by
  refine ⟨fun closed clocks => ?_, State.stopWriter_of_empty, fun opened clocks => ?_⟩
  · rw [exec_pipePacketAdvance, execPipePacketAdvance, State.clocked_of clocks, State.retry_of_none quiet]
    exact congrArg (fun t => Host.Outcome.next (s.ends t)) (if_pos closed)
  · have runs : ¬ (s.pipes[n].state ≠ 1 ∧ s.pipes[n].state ≠ 2) := fun h => opened.elim h.1 h.2
    rw [exec_pipePacketAdvance, execPipePacketAdvance, State.clocked_of clocks, State.retry_of_none quiet]
    exact congrArg (fun t => Host.Outcome.next (s.ends t)) (if_neg runs)

theorem holdsResend (q : Peer) (seq : Word) (s : State) (r : PeerRec) (g : SentSignal) (peer : s.peer q = some r) (bound : r.reconciling = false)
    (refused : r.sent.find? (fun g => g.seq == seq && g.full) = some g) :
    let h : SentSignal := { g with seq := r.nextSeq, full := false }
    leaves (.remoteSignalResend q seq) s ((s.updPeer q fun r => { r with
      nextSeq := r.nextSeq + 1#32, sent := (r.sent.filter fun x => !(x.seq == seq && x.full)) ++ [h] }).sendSignal q h) := by
  intro h clocks
  rw [exec_remoteSignalResend, execRemoteSignalResend, State.clocked_of clocks]
  simp only [peer, refused, bound, Bool.false_eq_true, if_false]
  rfl

theorem holdsTwinSignals (bs : List Byte) (s : State) (up : s.volAt (ek 0xC010 3) = 2) :
    leaves (.remoteSignalReceive (.twin bs)) s ((s.owe 2 bs.length).receiveSignal .twin 0 (signalOf .twin bs))
    ∧ leaves (.remoteSignalOutcome (.twin bs)) s ((s.owe 1 bs.length).settle .twin 0 (payWord bs 0) (outcomeOf (payWord bs 1).toNat)) := by
  refine ⟨fun clocks => ?_, fun clocks => ?_⟩
  · rw [exec_remoteSignalReceive, execRemoteSignalReceive, State.clocked_of clocks]
    simp only [if_pos up]
  · rw [exec_remoteSignalOutcome, execRemoteSignalOutcome, State.clocked_of clocks]
    simp only [if_pos up]

/-- Settles O40. -/
theorem pipesAndSignals : Obligations.PipesAndSignals := ⟨holdsPackets, holdsResend, holdsTwinSignals⟩

/-! ### Shadow records -/

/-- A command that leaves the state as it is does so whether clocks run or not. -/
theorem State.clocked_self (s : State) : s.clocked s = .next s := by
  unfold State.clocked
  rw [State.ends_self, ite_self]

section
variable {s : State} {r : ShadowRecord} {mine : Bool} {eff : State → State}

theorem State.shadowIn_broken (broken : wholeRecord r = false) : s.shadowIn r mine eff = s := by
  unfold State.shadowIn
  rw [if_pos (.inr (.inl (by rw [broken]; rfl)))]

variable (up : s.volAt (ek 0xC010 3) = 2) (whole : wholeRecord r = true) (own : mine = true)
include up whole own

/-- A whole record of its command is checked from its magic on (R351, R352). -/
theorem State.shadowIn_whole : s.shadowIn r mine eff
    = (let s := s.owe 0 (64 + r.data.length)
       if shadowWord r 0 ≠ 0x4B534844 ∨ shadowKind r = 3 then s.shadowRefused r 1
       else if shadowKind r = 2 ∧ s.twin.refused.contains (shadowEpoch r) then eff s
       else if !s.epochOk r then s.shadowRefused r 2
       else eff s) := by
  have takes : ¬ (s.volAt (ek 0xC010 3) ≠ 2 ∨ (!wholeRecord r) = true ∨ (!mine) = true) := by simp [up, whole, own]
  unfold State.shadowIn
  exact if_neg takes

theorem State.shadowIn_foreign (magic : shadowWord r 0 ≠ 0x4B534844) :
    s.shadowIn r mine eff = (s.owe 0 (64 + r.data.length)).shadowRefused r 1 :=
  (State.shadowIn_whole up whole own).trans (if_pos (.inl magic))

theorem State.shadowIn_late (magic : shadowWord r 0 = 0x4B534844) (kind : shadowKind r ≤ 1)
    (late : (s.owe 0 (64 + r.data.length)).epochOk r = false) :
    s.shadowIn r mine eff = (s.owe 0 (64 + r.data.length)).shadowRefused r 2 := by
  have known : ¬ (shadowWord r 0 ≠ 0x4B534844 ∨ shadowKind r = 3) := by omega
  have abort : ¬ (shadowKind r = 2 ∧ (s.owe 0 (64 + r.data.length)).twin.refused.contains (shadowEpoch r) = true) := fun h => by omega
  rw [State.shadowIn_whole up whole own]
  dsimp only
  rw [if_neg known, if_neg abort, if_pos (by rw [late]; rfl)]

theorem State.shadowIn_takes (magic : shadowWord r 0 = 0x4B534844) (kind : shadowKind r ≠ 3)
    (takes : (s.owe 0 (64 + r.data.length)).epochOk r = true
      ∨ shadowKind r = 2 ∧ (s.owe 0 (64 + r.data.length)).twin.refused.contains (shadowEpoch r) = true) :
    s.shadowIn r mine eff = eff (s.owe 0 (64 + r.data.length)) := by
  have known : ¬ (shadowWord r 0 ≠ 0x4B534844 ∨ shadowKind r = 3) := by omega
  rw [State.shadowIn_whole up whole own]
  dsimp only
  rw [if_neg known]
  split
  · rfl
  · next fresh => rw [takes.resolve_right fresh]; rfl

end

theorem holdsShadowRecords (r : ShadowRecord) (i : State) (up : i.volAt (ek 0xC010 3) = 2) :
    let s := i.owe 0 (64 + r.data.length)
    let leaves (c : Instr) (_ t : State) : Prop := leaves c i t
    (wholeRecord r = false → exec (.shadowData r) i = .next i ∧ exec (.shadowCommit r) i = .next i ∧ exec (.shadowAbort r) i = .next i)
    ∧ (wholeRecord r = true →
    let half := s.shadowSize / 2
    let e := shadowEpoch r
    let n := shadowOffset r
    (shadowWord r 0 ≠ 0x4B534844 → shadowKind r = 0 → leaves (.shadowData r) s (s.shadowRefused r 1))
    ∧ (shadowWord r 0 = 0x4B534844 → s.epochOk r = false → shadowKind r ≤ 1 →
        leaves (if shadowKind r = 0 then .shadowData r else .shadowCommit r) s (s.shadowRefused r 2))
    ∧ (shadowWord r 0 = 0x4B534844 → s.epochOk r = true →
      (shadowKind r = 0 → half < n + r.data.length → leaves (.shadowData r) s (s.shadowRefused r 3))
      ∧ (shadowKind r = 0 → n + r.data.length ≤ half →
          leaves (.shadowData r) s ((s.writeShadow (e % 2 * half + n) r.data).countFabric 8 r.data.length))
      ∧ (shadowKind r = 1 → half < n → leaves (.shadowCommit r) s (s.shadowRefused r 4))
      ∧ (shadowKind r = 1 → n ≤ half →
          let t := ((s.setVol (ek 0xC300 1) e).setVol (ek 0xC300 2) n).setVol (ek 0xC300 3) (e % 2)
          leaves (.shadowCommit r) s (((t.setVol (ek 0xC300 4) t.beat).hubSignal .twin r.vat (shadowWord r 6 / 2 ^ 16) 1).raise
            0x1207 0x3009 [(e, 4), (n, 8), (e % 2, 1)]))
      )
    ∧ (shadowWord r 0 = 0x4B534844 → shadowKind r = 2 → (s.epochOk r = true ∨ s.twin.refused.contains (shadowEpoch r) = true) →
      leaves (.shadowAbort r) s { s with twin := { s.twin with refused := s.twin.refused.filter (· != shadowEpoch r) } })) := by
  refine ⟨fun broken => ⟨?_, ?_, ?_⟩, fun whole => ⟨fun magic kind clocks => ?_, fun magic late kind => ?_,
    fun magic due => ⟨fun kind long clocks => ?_, fun kind fits clocks => ?_, fun kind long clocks => ?_, fun kind fits clocks => ?_⟩,
    fun magic kind due clocks => ?_⟩⟩
  · rw [exec_shadowData, execShadowData, State.shadowIn_broken broken, State.clocked_self]
  · rw [exec_shadowCommit, execShadowCommit, State.shadowIn_broken broken, State.clocked_self]
  · rw [exec_shadowAbort, execShadowAbort, State.shadowIn_broken broken, State.clocked_self]
  · rw [exec_shadowData, execShadowData, State.clocked_of clocks, State.shadowIn_foreign up whole (by rw [kind]; rfl) magic]
  · by_cases data : shadowKind r = 0
    · rw [if_pos data]
      intro clocks
      rw [exec_shadowData, execShadowData, State.clocked_of clocks, State.shadowIn_late up whole (by rw [data]; rfl) magic kind late]
    · rw [if_neg data]
      intro clocks
      have commit : shadowKind r = 1 := by omega
      rw [exec_shadowCommit, execShadowCommit, State.clocked_of clocks, State.shadowIn_late up whole (by rw [commit]; rfl) magic kind late]
  · rw [exec_shadowData, execShadowData, State.clocked_of clocks,
      State.shadowIn_takes up whole (by rw [kind]; rfl) magic (by omega) (.inl due)]
    exact congrArg (fun t => Host.Outcome.next (i.ends t)) (if_pos long)
  · rw [exec_shadowData, execShadowData, State.clocked_of clocks,
      State.shadowIn_takes up whole (by rw [kind]; rfl) magic (by omega) (.inl due)]
    exact congrArg (fun t => Host.Outcome.next (i.ends t)) (if_neg (Nat.not_lt.mpr fits))
  · rw [exec_shadowCommit, execShadowCommit, State.clocked_of clocks,
      State.shadowIn_takes up whole (by rw [kind]; rfl) magic (by omega) (.inl due)]
    exact congrArg (fun t => Host.Outcome.next (i.ends t)) (if_pos long)
  · rw [exec_shadowCommit, execShadowCommit, State.clocked_of clocks,
      State.shadowIn_takes up whole (by rw [kind]; rfl) magic (by omega) (.inl due)]
    exact congrArg (fun t => Host.Outcome.next (i.ends t)) (if_neg (Nat.not_lt.mpr fits))
  · rw [exec_shadowAbort, execShadowAbort, State.clocked_of clocks,
      State.shadowIn_takes up whole (by rw [kind]; rfl) magic (by omega) (due.imp_right fun h => ⟨kind, h⟩)]

/-! ### Exports -/

theorem holdsExportEnds (s : State) (t : Transfer) (exporting : s.exporting = some t) :
    let b := s.cfgAt (ek 0xC310 1)
    let waits := (s.binding b).sent.any (fun g => segType ⟨g.header, [], none⟩ == 10) || (s.binding b).held.any fun h => h.typ == 10
    ((t.done < t.size ∨ waits = true) → leaves .exportComplete s s)
    ∧ (t.size ≤ t.done → waits = false → leaves .exportComplete s
        ((State.setVol { s with exporting := none } (ek 0xC310 2) 2).raise 0x1208 0x3009 [(s.bindPeer b, 4), (t.size, 8), (0, 1)])) := by
  intro b waits
  refine ⟨fun on clocks => ?_, fun sent acked clocks => ?_⟩
  · rw [exec_exportComplete, execExportComplete, State.clocked_of clocks]
    simp only [exporting]
    exact congrArg (fun t => Host.Outcome.next (s.ends t)) (if_pos on)
  · have done : ¬ (t.done < t.size ∨ waits = true) := fun h => h.elim (fun h => by omega) fun h => by rw [acked] at h; cases h
    rw [exec_exportComplete, execExportComplete, State.clocked_of clocks]
    simp only [exporting]
    exact congrArg (fun t => Host.Outcome.next (s.ends t)) (if_neg done)

/-- Settles O42. -/
theorem shadowAndExport : Obligations.ShadowAndExport := by
  refine ⟨holdsShadowRecords, fun s idle clocks => ?_, holdsExportEnds⟩
  rw [exec_exportComplete, execExportComplete, State.clocked_of clocks]
  simp only [idle]

end Sys2Proof.Machine
end

section
/-! O38: Psiger segments, what each does in its turn, and their order (R339, R342, R345, R346). -/

set_option Elab.async false
namespace Sys2Proof.Machine

/-! ### Segments at a port -/

/-- A row of segments is a command that takes the segments of its type at a port and makes its effect (Table 18-2). -/
structure SegmentRow (mk : Fin 8 → Segment → Instr) (typ : Nat) (eff : State → Fin 8 → Segment → Nat → State) : Prop where
  runs : ∀ (p : Fin 8) (g : Segment) (s : State), segType g = typ → s.power.clocks = true →
    exec (mk p g) s = .next (s.ends (s.segmentIn p g true fun s b => eff s p g b))

section
variable {mk : Fin 8 → Segment → Instr} {typ : Nat} {eff : State → Fin 8 → Segment → Nat → State}

theorem State.segmentIn_unprotected {s : State} {p : Fin 8} {g : Segment} {f : State → Nat → State} (up : s.volAt (ek (0xC008 + p.val) 5) = 2)
    (bad : s.macsecOk p g.sa = false) : s.segmentIn p g true f = s.macsecDiscard p := by
  unfold State.segmentIn
  rw [if_neg (by simp [up]), if_pos (by rw [bad]; rfl)]

theorem State.segmentIn_malformed {s : State} {p : Fin 8} {g : Segment} {f : State → Nat → State} (up : s.volAt (ek (0xC008 + p.val) 5) = 2)
    (ok : s.macsecOk p g.sa = true) (bad : (segWellFormed g && s.bindingTakes (segBinding g)) = false) :
    s.segmentIn p g true f = s.countFabric 5 1 := by
  have malformed : (!segWellFormed g) = true ∨ (!s.bindingTakes (segBinding g)) = true := by
    rw [Bool.and_eq_false_iff] at bad
    simpa using bad
  unfold State.segmentIn
  rw [if_neg (by simp [up]), if_neg (by simp [ok])]
  exact if_pos malformed

theorem State.segmentIn_taken {s : State} {p : Fin 8} {g : Segment} {f : State → Nat → State} (up : s.volAt (ek (0xC008 + p.val) 5) = 2)
    (ok : s.macsecOk p g.sa = true) (good : (segWellFormed g && s.bindingTakes (segBinding g)) = true) :
    s.segmentIn p g true f = f ((s.countFabric 2 1).ackUpTo (segBinding g) (BitVec.ofNat 32 (segWord g 5))) (segBinding g) := by
  have formed : ¬ ((!segWellFormed g) = true ∨ (!s.bindingTakes (segBinding g)) = true) := by
    rw [Bool.and_eq_true] at good
    simp [good.1, good.2]
  unfold State.segmentIn
  rw [if_neg (by simp [up]), if_neg (by simp [ok])]
  exact if_neg formed

theorem SegmentRow.segmentAs (row : SegmentRow mk typ eff) : segmentAs mk typ eff := by
  intro p g s up type b
  refine ⟨fun bad clocks => ?_, fun ok bad clocks => ?_, fun ok good clocks => ?_⟩
  · rw [row.runs p g s type clocks, State.segmentIn_unprotected up bad]
  · rw [row.runs p g s type clocks, State.segmentIn_malformed up ok bad]
  · rw [row.runs p g s type clocks, State.segmentIn_taken up ok good]

end

/-! ### The rows of segments -/

/-- The segments that take their turn in their binding's order. -/
def inSequence (s : State) (p : Fin 8) (g : Segment) (b : Nat) : State := s.sequenced p b g

theorem segmentRow_data : SegmentRow .psigerData 0 inSequence where
  runs p g s type clocks := by
    rw [exec_psigerData, execPsigerData, State.clocked_of clocks, type]
    rfl

theorem segmentRow_credit : SegmentRow .psigerCredit 3 inSequence where
  runs p g s type clocks := by
    rw [exec_psigerCredit, execPsigerCredit, State.clocked_of clocks, type]
    rfl

theorem segmentRow_reconcile : SegmentRow .psigerReconcile 6 inSequence where
  runs p g s type clocks := by
    rw [exec_psigerReconcile, execPsigerReconcile, State.clocked_of clocks, type]
    rfl

theorem segmentRow_faultNotice : SegmentRow .psigerFaultNotice 9 inSequence where
  runs p g s type clocks := by
    rw [exec_psigerFaultNotice, execPsigerFaultNotice, State.clocked_of clocks, type]
    rfl

theorem segmentRow_export : SegmentRow .psigerExport 10 inSequence where
  runs p g s type clocks := by
    rw [exec_psigerExport, execPsigerExport, State.clocked_of clocks, type]
    rfl

theorem segmentRow_signal : SegmentRow (fun p g => .remoteSignalReceive (.fabric p g)) 4 inSequence where
  runs p g s type clocks := by
    rw [exec_remoteSignalReceive, execRemoteSignalReceive, State.clocked_of clocks]
    simp only [type]
    rfl

theorem segmentRow_outcome : SegmentRow (fun p g => .remoteSignalOutcome (.fabric p g)) 5 inSequence where
  runs p g s type clocks := by
    rw [exec_remoteSignalOutcome, execRemoteSignalOutcome, State.clocked_of clocks]
    simp only [type]
    rfl

theorem segmentRow_ack : SegmentRow .psigerAck 1 (fun s _ g b =>
    let t := s.creditBack (segPipe g).val (BitVec.ofNat 32 (segWord g 6))
    if t.cfgAt (ek 0xC310 1) = b then State.exportMore 1024 t else t) where
  runs p g s type clocks := by
    rw [exec_psigerAck, execPsigerAck, State.clocked_of clocks, type]
    rfl

theorem segmentRow_nak : SegmentRow .psigerNak 2 (fun s _ g b => s.resend b (BitVec.ofNat 32 (segWord g 5) + 1#32)) where
  runs p g s type clocks := by
    rw [exec_psigerNak, execPsigerNak, State.clocked_of clocks, type]
    rfl

theorem segmentRow_probe : SegmentRow .psigerProbe 7 (fun s _ _ b => s.psigerControl b 8 1 0 0 []) where
  runs p g s type clocks := by
    rw [exec_psigerProbe, execPsigerProbe, State.clocked_of clocks, type]
    rfl

/-- What the reply to a probe does: with a probe out, only the twin link is down (R350). -/
def probeReplied (s : State) (_ : Fin 8) (_ : Segment) (b : Nat) : State :=
  if s.twin.probing = true ∧ b = s.cfgAt (ek 0xC010 2) then
    (State.holdFor { s with twin := { s.twin with probing := false } } (hubUnit 9) 4#8).raise 0x1204 0x3009 [(s.cfgAt (ek 0xC010 1), 4)]
  else s

theorem segmentRow_probeReply : SegmentRow .psigerProbeReply 8 probeReplied where
  runs p g s type clocks := by
    have swapped (t : State) (b : Nat) : (if (!t.twin.probing) = true ∨ b ≠ t.cfgAt (ek 0xC010 2) then t
        else (State.holdFor { t with twin := { t.twin with probing := false } } (hubUnit 9) 4#8).raise 0x1204 0x3009
          [(t.cfgAt (ek 0xC010 1), 4)]) = probeReplied t p g b := by
      unfold probeReplied
      by_cases mine : t.twin.probing = true ∧ b = t.cfgAt (ek 0xC010 2)
      · rw [if_neg (by simp [mine.1, mine.2]), if_pos mine]
      · rw [if_pos ((Decidable.not_and_iff_not_or_not.mp mine).imp_left fun h => by simpa using h), if_neg mine]
    rw [exec_psigerProbeReply, execPsigerProbeReply, State.clocked_of clocks, type]
    simp only [swapped]
    rfl

theorem holdsSegments_holds : holdsSegments :=
  ⟨segmentRow_data.segmentAs, segmentRow_credit.segmentAs, segmentRow_reconcile.segmentAs, segmentRow_faultNotice.segmentAs,
    segmentRow_export.segmentAs, segmentRow_signal.segmentAs, segmentRow_outcome.segmentAs, segmentRow_ack.segmentAs, segmentRow_nak.segmentAs,
    segmentRow_probe.segmentAs, segmentRow_probeReply.segmentAs⟩

/-! ### A segment in its turn -/

theorem State.updBinding_congr {s : State} {b : Nat} {f g : Binding → Binding} (h : f (s.binding b) = g (s.binding b)) :
    s.updBinding b f = s.updBinding b g := by
  unfold State.updBinding
  rw [h]

/-- A segment in its turn with none kept ahead of it delivers itself alone (R345). -/
theorem State.sequenced_next {s : State} {p : Fin 8} {b : Nat} {g : Segment} (alone : (s.binding b).early = [])
    (next : (segSeq g - (s.binding b).last).toNat = 1) :
    s.sequenced p b g = (s.updBinding b fun r => { r with last := segSeq g, ackDue := true, early := [] }).deliverSegment p b g := by
  have moved : (s.updBinding b fun r => { r with last := segSeq g, ackDue := true, early := r.early.filter fun e => segSeq e != segSeq g })
      = s.updBinding b fun r => { r with last := segSeq g, ackDue := true, early := [] } :=
    State.updBinding_congr (by simp only [alone, List.filter_nil])
  unfold State.sequenced
  simp only [if_pos next, alone, List.length_nil]
  unfold State.deliverFrom
  rw [moved]
  dsimp only
  split
  · rfl
  · split <;> rfl

/-- A segment of a row in its turn makes the effect of its type. -/
theorem SegmentRow.inTurn {mk : Fin 8 → Segment → Instr} {typ : Nat} (row : SegmentRow mk typ inSequence)
    {eff : State → Fin 8 → Nat → Segment → State → Prop}
    (made : ∀ (u : State) (p : Fin 8) (b : Nat) (g : Segment) (v : State), segType g = typ → eff u p b g v → u.deliverSegment p b g = v) :
    inTurnAs mk typ eff := by
  intro p g s clocks up type ok formed takes b t alone next u v made_v
  rw [row.runs p g s type clocks, State.segmentIn_taken up ok (by rw [formed, takes]; rfl), inSequence, State.sequenced_next alone next,
    made u p b g v type made_v]

theorem holdsSegmentEffects_holds : holdsSegmentEffects := by
  refine ⟨segmentRow_data.inTurn fun u p b g v type h => ?_, segmentRow_credit.inTurn fun u p b g v type h => ?_,
    segmentRow_signal.inTurn fun u p b g v type h => ?_, segmentRow_outcome.inTurn fun u p b g v type h => ?_,
    segmentRow_reconcile.inTurn fun u p b g v type h => ?_, segmentRow_faultNotice.inTurn fun u p b g v type h => ?_,
    segmentRow_export.inTurn fun u p b g v type h => ?_⟩
  · obtain ⟨feeds, rfl⟩ := h
    simp only [State.deliverSegment, type, feeds, if_true]
  all_goals simp only [State.deliverSegment, type, h]

/-! ### Order -/

/-- A binding that is not unbound reads back. -/
theorem State.updBinding_self (s : State) {b : Nat} {f : Binding → Binding} (h : f (s.binding b) ≠ Binding.unbound) :
    (s.updBinding b f).binding b = f (s.binding b) := by
  unfold State.updBinding Sparse.set
  rw [if_neg h]
  exact (Sparse.get_put _ _ _ _ _).trans (if_pos rfl)

theorem holdsSegmentOrder_holds : holdsSegmentOrder := by
  intro p b g s r d
  have past (h : d ≠ 1) : s.sequenced p b g = if d = 0 ∨ 2 ^ 31 ≤ d then (s.updBinding b fun r => { r with ackDue := true }).countFabric 4 1
      else if 1024 < d ∨ r.early.any (fun e => segSeq e == segSeq g) then s
      else s.updBinding b fun r => { r with early := r.early ++ [g], ackDue := true } := if_neg h
  refine ⟨fun old => ?_, fun ahead near known => ?_, fun ahead near fresh => ?_⟩
  · rw [past (by omega), if_pos old]
  · rw [past (by omega), if_neg (by omega), if_pos known]
  · have new : ¬ (1024 < d ∨ (r.early.any fun e => segSeq e == segSeq g) = true) := by
      rw [fresh]
      exact fun h => h.elim (by omega) (by decide)
    have listed : ({ r with early := r.early ++ [g], ackDue := true } : Binding) ≠ Binding.unbound := fun h => by
      have := congrArg Binding.early h
      simp [Binding.unbound] at this
    have reads := s.updBinding_self (b := b) (f := fun r => { r with early := r.early ++ [g], ackDue := true }) listed
    refine ⟨_, rfl, ?_⟩
    rw [past (by omega), if_neg (by omega), if_neg new, reads]
    exact ⟨rfl, rfl, rfl, rfl⟩

/-- Settles O38. -/
theorem fabric : Obligations.Fabric := ⟨holdsSegments_holds, holdsSegmentEffects_holds, holdsSegmentOrder_holds⟩

end Sys2Proof.Machine
end

section
/-! O41: the twin link and the pair (R30, R348 to R350, R391). -/

set_option Elab.async false
namespace Sys2Proof.Machine

/-! ### Messages and credits (R268, R349) -/

/-- A message leaves against the credits of its class. -/
theorem State.sendTwin_leaves {s : State} {cls : Fin 4} {m : OutMsg} (room : m.flits ≤ s.twinPool.free[cls]) (there : s.away 269 = false)
    (works : s.ust 269 ≠ stFaulted) (first : (s.twinPool.waiting.any fun w => w.1 == cls) = false) :
    s.sendTwin cls m = ({ s with twinPool := { s.twinPool with
      free := s.twinPool.free.set cls (s.twinPool.free[cls] - m.flits),
      taken := s.twinPool.taken.set cls (s.twinPool.taken[cls] + m.flits) } } : State).send m := by
  unfold State.sendTwin
  simp only [there, beq_eq_false_iff_ne.mpr works, first, Nat.not_lt.mpr room, decide_false, Bool.or_self, Bool.false_eq_true, if_false]

/-- A message without credits waits. -/
theorem State.sendTwin_waits {s : State} {cls : Fin 4} {m : OutMsg} (short : s.twinPool.free[cls] < m.flits) :
    s.sendTwin cls m = { s with twinPool := { s.twinPool with waiting := s.twinPool.waiting ++ [(cls, m)] } } := by
  unfold State.sendTwin
  simp only [short, decide_true, Bool.or_true, if_true]

/-! ### The link -/

theorem exec_heartbeat_up {s : State} (clocks : s.power.clocks = true) (up : s.volAt (ek 0xC010 3) = 2) :
    let h := ((s.toTell true 0).foldl (fun s c =>
      s.send ⟨.twin, 10, [mapRemote (s.pipeMap c.1.val), c.2.toNat], []⟩) (s.send ⟨.twin, 0, [], []⟩)).told (s.toTell true 0)
    exec .twinHeartbeat s = .next (s.ends (if h.twinPool.owe.toList.all (fun n => n == 0) = true then h
      else State.send { h with twinPool := { h.twinPool with owe := Vector.replicate 4 0 } } ⟨.twin, 13, h.twinPool.owe.toList, []⟩)) := by
  rw [exec_twinHeartbeat, execTwinHeartbeat, State.clocked_of clocks, if_neg (fun h => h up)]

section
variable {s : State} {m : Reconcile} {r : PeerRec} (clocks : s.power.clocks = true) (down : s.volAt (ek 0xC010 3) < 2)
  (unit : s.ust (hubUnit 9) = stReady ∨ s.ust (hubUnit 9) = stRunning) (peer : s.peer .twin = some r)
include clocks down unit peer

/-- The twin link as it comes up (R350). -/
theorem exec_twinLinkUp_down : exec (.twinLinkUp m) s = .next (s.ends (
    let u : State := { s.setVol (ek 0xC010 3) 2 with twin := { s.twin with probing := false } }
    if (!r.reconciling) = true then u.catchUpAudit
    else (((u.owe 3 (reconcilePayload m).length).sendTwin 3 ⟨.twin, 11, [], reconcilePayload (u.reconcileMsg .twin true 0)⟩).reconcileWith .twin 0
      m).catchUpAudit)) := by
  have comes : ¬ (s.volAt (ek 0xC010 3) = 2 ∨ s.volAt (ek 0xC010 3) = 3 ∨ s.ust (hubUnit 9) = stAbsent ∨ s.ust (hubUnit 9) = stCold
      ∨ s.ust (hubUnit 9) = stLoading) := by
    rintro (h | h | h)
    · omega
    · omega
    · rcases unit with e | e <;> rw [e] at h <;> revert h <;> decide
  have peer' : ({ s.setVol (ek 0xC010 3) 2 with twin := { s.twin with probing := false } } : State).peer .twin = some r := peer
  rw [exec_twinLinkUp, execTwinLinkUp, State.clocked_of clocks]
  simp only [if_neg comes, peer']

end

theorem holdsTwinLink_holds : holdsTwinLink := by
  intro s up
  refine ⟨fun h => ⟨fun even clocks => ?_, fun owes clocks => ?_⟩, fun clocks => ?_, fun clocks => ?_, fun h => ?_, fun probing clocks => ?_,
    fun quiet clocks => ?_, fun n m h few sent clocks => ?_, fun m r down unit peer agreed clocks => ?_, fun m r down unit peer open_ => ?_,
    fun named there clocks => ?_, fun n bs last h => ?_, fun n w h twin out clocks => ?_, fun c0 c1 c2 c3 h clocks => ?_,
    fun cls m room there works first => ?_, fun cls m short => ?_⟩
  · rw [exec_heartbeat_up clocks h, if_pos even]
  · rw [exec_heartbeat_up clocks h]
    exact congrArg (fun t => Host.Outcome.next (s.ends t)) (if_neg (by rw [owes]; decide))
  · rw [exec_twinLossOfSignal, execTwinLossOfSignal, State.clocked_of clocks]
  · rw [exec_twinFlitTimeout, execTwinFlitTimeout, State.clocked_of clocks]
  · exact if_pos h
  · rw [exec_twinProbeTimeout, execTwinProbeTimeout, State.clocked_of clocks, if_pos probing]
  · rw [exec_twinProbeTimeout, execTwinProbeTimeout, State.clocked_of clocks, quiet, if_neg Bool.false_ne_true]
  · have again : ¬ (s.volAt (ek 0xC010 3) ≠ 2 ∨ 256 ≤ n) := fun k => k.elim (fun k => k h) (by omega)
    rw [exec_twinFlitCrcFail, execTwinFlitCrcFail, State.clocked_of clocks]
    simp only [if_neg again, sent]
  · rw [exec_twinLinkUp_down clocks down unit peer]
    exact congrArg (fun t => Host.Outcome.next (s.ends t)) (if_pos (by rw [agreed]; rfl))
  · intro u clocks
    rw [exec_twinLinkUp_down clocks down unit peer]
    exact congrArg (fun t => Host.Outcome.next (s.ends t)) (if_neg (by rw [open_]; decide))
  · rw [exec_twinFaultNotice, execTwinFaultNotice, State.clocked_of clocks, if_neg (not_or.mpr ⟨named, there⟩)]
  · intro o clocks
    rw [exec_twinPipeFlit, execTwinPipeFlit, State.clocked_of clocks, if_neg (fun k => k h)]
  · rw [exec_twinPipeFlit, execTwinPipeFlit, State.clocked_of clocks, if_neg (fun k => k h)]
    simp only [twin, out, Bool.and_self, if_true]
  · rw [exec_twinPipeFlit, execTwinPipeFlit, State.clocked_of clocks, if_neg (fun k => k h)]
  · rw [State.sendTwin_leaves room there works first]
    exact ⟨rfl, Vector.getElem_set_self _⟩
  · rw [State.sendTwin_waits short]
    exact ⟨rfl, rfl⟩

/-! ### The pair -/

/-- What a pair record gives before the pair's own state is looked at (R30). -/
def State.pairHeard (s : State) (r : PairRecord) : State :=
  { (s.owe 3 0).takePairReqs r.requests with partner := ⟨r.member, r.memberCauses, 0#16⟩ }

theorem State.pairHeard_ust (s : State) (r : PairRecord) (u : UnitNo) : (s.pairHeard r).ust u = s.ust u := rfl

theorem State.pairHeard_cfgAt (s : State) (r : PairRecord) (k : Nat) : (s.pairHeard r).cfgAt k = s.cfgAt k := rfl

/-- A pair record that finds the pair past COLD (R30). -/
theorem exec_pairRecord {s : State} {r : PairRecord} (clocks : s.power.clocks = true) (up : s.volAt (ek 0xC010 3) = 2)
    (named : s.cfgAt (ek 0xC010 1) ≠ 0) (warm : s.ust uPair ≠ stCold) : exec (.pairRecordReceive r) s = .next (s.ends (
      if s.ust uPair = stLoading then
        if r.names.toNat = s.cfgAt (ek 0xC000 1) ∧ r.sender.toNat = s.cfgAt (ek 0xC010 1) then
          ((s.pairHeard r).transition uPair stReady 0#8).reevaluate uPair
        else s.pairHeard r
      else State.reevaluate { s.pairHeard r with twin := { (s.pairHeard r).twin with record := some r } } uPair)) := by
  have takes : ¬ (s.volAt (ek 0xC010 3) ≠ 2 ∨ s.cfgAt (ek 0xC010 1) = 0) := not_or.mpr ⟨fun h => h up, named⟩
  have warm' : ¬ (s.pairHeard r).ust uPair = stCold := warm
  have same : (if (s.pairHeard r).ust uPair = stCold then (s.pairHeard r).transition uPair stLoading 0#8 else s.pairHeard r) = s.pairHeard r :=
    if_neg warm'
  rw [exec_pairRecordReceive, execPairRecordReceive, State.clocked_of clocks, if_neg takes]
  unfold State.pairHeard at same
  simp only [same]
  rfl

theorem wordsLE_ne_nil {ws : List Word} (long : ws.length = 64) : wordsLE ws ≠ [] := by
  cases ws with
  | nil => cases long
  | cons w ws =>
    intro h
    have := congrArg List.length h
    simp [wordsLE, leBytes] at this

/-- A whole audit record of the twin's is kept in its slot of the twin's ring (R391). -/
theorem exec_twinAudit {s : State} {ws : List Word} (clocks : s.power.clocks = true) (long : ws.length = 64) (up : s.volAt (ek 0xC010 3) = 2) :
    exec (.twinAuditRecordReceive ws) s = .next { s.owe 0 256 with
      twinAudit := Sparse.set [] s.twinAudit (((ws.headD 0#32).toNat + 2 ^ 32 - 1) % 4096) (wordsLE ws) } := by
  rw [exec_twinAuditRecordReceive, execTwinAuditRecordReceive, State.clocked_of clocks, if_neg (not_or.mpr ⟨fun h => h long, fun h => h up⟩)]
  exact congrArg _ (State.ends_eq rfl rfl rfl)

theorem holdsTwinPair_holds : holdsTwinPair := by
  intro s clocks
  refine ⟨fun absent _ => ?_, fun beats _ => ?_, fun r up named => ⟨fun warm loaded _ => ?_, fun loading names sender _ => ?_, fun loading other _ => ?_⟩,
    fun ws long up => ⟨_, exec_twinAudit clocks long up, rfl, ?_, fun k hk => ?_⟩⟩
  · rw [exec_pairRecordTimer, execPairRecordTimer, State.clocked_of clocks, if_pos absent]
  · rw [exec_pairRecordTimer, execPairRecordTimer, State.clocked_of clocks, beats, if_neg Bool.false_ne_true]
  · rw [exec_pairRecord clocks up named warm, if_neg loaded]
    rfl
  · rw [exec_pairRecord clocks up named (by rw [loading]; decide), if_pos loading, if_pos ⟨names, sender⟩]
    rfl
  · have far : ¬ (r.names.toNat = s.cfgAt (ek 0xC000 1) ∧ r.sender.toNat = s.cfgAt (ek 0xC010 1)) := fun h => other.elim (fun o => o h.1) fun o => o h.2
    rw [exec_pairRecord clocks up named (by rw [loading]; decide), if_pos loading, if_neg far]
    rfl
  · dsimp only
    unfold Sparse.set
    rw [if_neg (wordsLE_ne_nil long), Sparse.get_put, if_pos rfl]
  · exact Sparse.get_set_ne _ _ _ _ _ hk

/-- Settles O41. -/
theorem twin : Obligations.Twin := ⟨holdsTwinLink_holds, holdsTwinPair_holds⟩

end Sys2Proof.Machine
end

section
/-! O24 and O25: launches become eligible, start, load, restore, save, overrun and get their seed (R203, R287 to R290, R299, R300). -/

set_option Elab.async false
namespace Sys2Proof.Machine

/-! ### The launch of a slot -/

theorem State.launchAt_slot {s : State} {slot : Nat} {l : Launch} (h : s.launchAt slot = some l) : l.slot = slot := by
  have := List.find?_some h
  simpa using this

/-- A change of a launch that keeps its slot is found at its slot. -/
theorem State.launchAt_updLaunch (s : State) (slot : Nat) {f : Launch → Launch} (keeps : ∀ l, (f l).slot = l.slot) :
    (s.updLaunch slot f).launchAt slot = (s.launchAt slot).map f := by
  unfold State.updLaunch State.launchAt
  dsimp only
  induction s.launches with
  | nil => rfl
  | cons l ls ih =>
    rw [List.map_cons]
    by_cases own : l.slot = slot
    · simp [own, keeps]
    · simp only [if_neg own]
      rw [List.find?_cons_of_neg (by simp [own]), List.find?_cons_of_neg (by simp [own]), ih]

/-! ### Eligibility (R13, R287) -/

theorem State.eligible_of_bound {s : State} {l : Launch} (h : s.mayStart l = false) : s.eligible l = false := by
  unfold State.eligible
  rw [h]
  rfl

theorem State.eligible_iff {s : State} {l : Launch} (h : s.mayStart l = true) : s.eligible l = (s.serveFor l).preHold l := by
  unfold State.eligible
  rw [h, Bool.true_and]

theorem State.tryStart_of_eligible {s : State} {l : Launch} (h : s.eligible l = true) : s.tryStart l = (s.serveFor l).startLaunch l := if_pos h

/-- Launches none of which is eligible start nothing. -/
theorem State.foldl_tryStart_of_none {s : State} {ls : List Launch} (h : ∀ k ∈ ls, s.eligible k = false) : ls.foldl State.tryStart s = s := by
  induction ls with
  | nil => rfl
  | cons k ls ih =>
    have quiet : s.tryStart k = s := if_neg (by rw [h k (List.mem_cons_self ..)]; decide)
    rw [List.foldl_cons, quiet]
    exact ih fun j hj => h j (List.mem_cons_of_mem _ hj)

section
variable {slot : Fin 4096} {s : State} {l : Launch} (found : s.launchAt slot = some l)
include found

theorem leaves_ineligible (h : s.eligible l = false) : leaves (.launchEligible slot) s s := by
  intro clocks
  rw [exec_launchEligible, execLaunchEligible, State.clocked_of clocks]
  simp only [found, h, Bool.not_false, if_true]

theorem leaves_eligible (h : s.eligible l = true) : leaves (.launchEligible slot) s
    (((s.launches.takeWhile fun k => k.slot != l.slot).foldl State.tryStart s).tryStart l) := by
  intro clocks
  rw [exec_launchEligible, execLaunchEligible, State.clocked_of clocks]
  simp only [found, h, Bool.not_true, Bool.false_eq_true, if_false]

/-- A launch that is eligible alone starts (R287). -/
theorem leaves_starts (h : s.eligible l = true) (alone : ∀ k ∈ s.launches.takeWhile fun k => k.slot != l.slot, s.eligible k = false) :
    leaves (.launchEligible slot) s ((s.serveFor l).startLaunch l) := by
  have starts := leaves_eligible found h
  rw [State.foldl_tryStart_of_none alone, State.tryStart_of_eligible h] at starts
  exact starts

end

theorem holdsLaunchEligibility_holds : holdsLaunchEligibility := by
  intro slot s l found
  refine ⟨fun bound => leaves_ineligible found (State.eligible_of_bound bound),
    fun may short => leaves_ineligible found ((State.eligible_iff may).trans short), fun may covered => ?_⟩
  have eligible : s.eligible l = true := (State.eligible_iff may).trans covered
  refine ⟨fun alone => leaves_starts found eligible alone, fun k one first => ?_⟩
  have starts := leaves_eligible found eligible
  rw [one, List.foldl_cons, List.foldl_nil, State.tryStart_of_eligible first] at starts
  exact starts

/-! ### A RUN of one core (R287, R288) -/

theorem Launch.preconditions_of_none {l : Launch} (h : l.preEn = 0#4) : l.preconditions = [] := by
  unfold Launch.preconditions
  rw [h]
  simp

theorem State.moved_unitsRun (s : State) (c : CoreId) : s.Moved (s.unitsRun c) := by
  have runs (t : State) (u : UnitNo) (b : Prop) [Decidable b] : t.Moved (if b then t.transition u stRunning 0#8 else t) := by
    split
    · exact t.moved_transition _ _ _
    · exact .refl t
  unfold State.unitsRun
  exact (State.Moved.foldl (fun t a => runs t _ _) _ _).trans (runs _ _ _)

/-- A launch that has begun. -/
def Launch.begun (l : Launch) : Launch := { l with started := true }

/-- A launch one of whose cores runs on a physical core. -/
def Launch.runsOn (q : Fin 48) (c : CoreId) (l : Launch) : Launch :=
  { l with cores := l.cores.map fun e => if e.q = q then { e with phys := some c, fin := .running } else e }

/-- What a core's part of a RUN leaves, but for what tells of its units (R288). -/
def State.partRuns (s : State) (l : Launch) (q : Fin 48) (c : CoreId) : State :=
  ((s.updCore c fun k => k.startRun l).updLaunch l.slot (Launch.runsOn q c)).setVol (ek (unitObj (coreUnit c) 13) 2) l.slot

theorem State.startPart_run (s : State) {l : Launch} (kind : l.kind = 0) (q : Fin 48) (c : CoreId) :
    s.startPart l q c = (s.partRuns l q c).unitsRun c := by
  unfold State.startPart State.partRuns
  simp only [kind, if_true]
  rfl

/-- What a RUN of one core with no precondition, tag or fault leaves as it starts. -/
def State.oneRuns (s : State) (l : Launch) (q : Fin 48) (c : CoreId) : State :=
  ((s.updLaunch l.slot Launch.begun).partRuns l q c).unitsRun c

section
variable {s : State} {l : Launch} {q : Fin 48} {c : CoreId} (found : s.launchAt l.slot = some l) (one : l.cores = [⟨q, none, .waiting, 0, false⟩])
include found one

theorem State.oneRuns_launchAt : (s.oneRuns l q c).launchAt l.slot = some { l with started := true, cores := [⟨q, some c, .running, 0, false⟩] } := by
  have same : (s.oneRuns l q c).launchAt l.slot = ((s.updLaunch l.slot Launch.begun).partRuns l q c).launchAt l.slot := by
    unfold State.launchAt
    exact congrArg (List.find? _) (State.moved_unitsRun _ c).launches
  have part : ((s.updLaunch l.slot Launch.begun).partRuns l q c).launchAt l.slot
      = ((s.updLaunch l.slot Launch.begun).launchAt l.slot).map (Launch.runsOn q c) :=
    State.launchAt_updLaunch ((s.updLaunch l.slot Launch.begun).updCore c fun k => k.startRun l) l.slot fun _ => rfl
  rw [same, part, State.launchAt_updLaunch _ _ (f := Launch.begun) fun _ => rfl, found]
  simp only [Option.map_some, Launch.runsOn, Launch.begun, one, List.map_cons, List.map_nil, if_true]

/-- The launch that a RUN of one core with no precondition, tag or fault starts. -/
theorem State.startLaunch_one (kind : l.kind = 0) (free : l.preEn = 0#4) (tag : l.tag = 0#32) (sound : l.reason = 0)
    (bound : s.physOf q = some c) : s.startLaunch l = s.oneRuns l q c := by
  have bound' : (s.updLaunch l.slot Launch.begun).physOf q = some c := bound
  have cores : (s.updLaunch l.slot Launch.begun).startCores l = s.oneRuns l q c := by
    unfold State.startCores
    rw [one]
    simp only [List.foldl_cons, List.foldl_nil, bound', kind, tag, ne_eq, not_true_eq_false, false_and, and_false, if_false]
    exact State.startPart_run _ kind q c
  have quiet : ¬ ((s.oneRuns l q c).launchAt l.slot).any (fun l => l.reason != 0) = true := by
    rw [State.oneRuns_launchAt found one]
    simp [sound]
  have run : ¬ l.kind = 2 := by rw [kind]; decide
  unfold State.startLaunch
  simp only [Launch.preconditions_of_none free, List.foldl_nil, if_neg run, ne_eq, not_true_eq_false, if_false]
  exact (if_neg (by rw [← cores] at quiet; exact quiet)).trans cores

end

theorem State.partRuns_cores (s : State) (l : Launch) (q : Fin 48) (c : CoreId) :
    (s.partRuns l q c).cores = (s.updCore c fun k => k.startRun l).cores := rfl

theorem State.oneRuns_core_self (s : State) (l : Launch) (q : Fin 48) (c : CoreId) : (s.oneRuns l q c).cores[c] = (s.cores[c]).startRun l := by
  unfold State.oneRuns
  rw [(State.moved_unitsRun _ c).cores, State.partRuns_cores, State.updCore_core]
  rfl

theorem State.oneRuns_core_ne (s : State) (l : Launch) (q : Fin 48) {c d : CoreId} (h : d ≠ c) : (s.oneRuns l q c).cores[d] = s.cores[d] := by
  unfold State.oneRuns
  rw [(State.moved_unitsRun _ c).cores, State.partRuns_cores, State.updCore_core_ne _ _ h]
  rfl

theorem State.oneRuns_rennets (s : State) (l : Launch) (q : Fin 48) (c : CoreId) : (s.oneRuns l q c).rennets = s.rennets := by
  have moved := State.moved_unitsRun ((s.updLaunch l.slot Launch.begun).partRuns l q c) c
  unfold State.Moved at moved
  unfold State.oneRuns
  rw [moved]
  rfl

/-- Settles O24: with no other launch eligible and nothing to wait for, the launch's one core starts. -/
theorem runStarts : Obligations.RunStarts := by
  unfold Obligations.RunStarts
  intro slot s l q c clocks found others may kind free tag sound one bound
  have own : l.slot = slot := State.launchAt_slot found
  have served : s.serveFor l = s := by
    unfold State.serveFor
    rw [Launch.preconditions_of_none free]
    rfl
  have eligible : s.eligible l = true := by
    rw [State.eligible_iff may, served, State.preHold, Launch.preconditions_of_none free]
    rfl
  have alone : ∀ k ∈ s.launches.takeWhile fun k => k.slot != l.slot, s.eligible k = false := fun k hk =>
    others k ((List.takeWhile_sublist _).subset hk) (by have := List.all_eq_true.mp List.all_takeWhile k hk; simpa [own] using this)
  have found' : s.launchAt l.slot = some l := by rw [own]; exact found
  have run := leaves_starts found eligible alone clocks
  rw [served, State.startLaunch_one found' one kind free tag sound bound] at run
  have launch : (s.ends (s.oneRuns l q c)).launchAt slot = (s.oneRuns l q c).launchAt l.slot := by
    unfold State.launchAt
    rw [State.ends_launches, own]
  refine ⟨_, run, launch.trans (State.oneRuns_launchAt found' one), ?_⟩
  rw [State.ends_cores, State.ends_hbm, State.ends_rennets, State.oneRuns_core_self, State.oneRuns_rennets]
  refine ⟨rfl, by rw [← own]; rfl, rfl, rfl, rfl, rfl, rfl, rfl, rfl, rfl, rfl, rfl, rfl, fun d hd => s.oneRuns_core_ne l q hd, ?_, rfl⟩
  exact (State.moved_unitsRun _ c).hbm

/-! ### Transfers (R288, R299, R300) -/

theorem holdsTransfersComplete_holds : holdsTransfersComplete := by
  intro slot s l found
  refine ⟨fun some => ?_, fun some => ?_, fun some past quiet clocks => ?_⟩
  · intro r clocks
    have loads : ¬ (s.coresDoing l .loading).isEmpty = true := fun h => some (List.isEmpty_iff.mp h)
    rw [exec_loadCopyComplete, execLoadCopyComplete, State.clocked_of clocks]
    simp only [found, if_neg loads]
    rfl
  · intro t clocks
    have restores : ¬ (s.coresDoing l .restoring).isEmpty = true := fun h => some (List.isEmpty_iff.mp h)
    rw [exec_restoreLoadComplete, execRestoreLoadComplete, State.clocked_of clocks]
    simp only [found, if_neg restores]
    split <;> rfl
  · have saves : (s.coresDoing l .saving).isEmpty = false := Bool.eq_false_iff.mpr fun h => some (List.isEmpty_iff.mp h)
    rw [exec_contextSaveComplete, execContextSaveComplete, State.clocked_of clocks]
    simp only [found, saves, past, quiet, Bool.not_true, Bool.or_self, Bool.false_eq_true, if_false]

/-! ### Overruns (R290) -/

/-- A launch past its bound on a core. -/
def Launch.overran (c : CoreId) (l : Launch) : Launch :=
  { l with overrun := true, cores := l.cores.map fun e => if e.phys = some c then { e with past := true } else e }

theorem State.reported_countVat (s : State) (v : VatNo) (sub : Nat) : s.Reported (s.countVat v sub) := s.reported_countFor _ _ _ _ _

theorem holdsOverrunOnce_holds : holdsOverrunOnce := by
  intro c s l clocks found
  obtain ⟨slot, _, at_⟩ := Option.bind_eq_some_iff.mp found
  have own : s.launchAt l.slot = some l := by rw [State.launchAt_slot at_]; exact at_
  let u := s.updLaunch l.slot (Launch.overran c)
  have passed : (u.launchAt l.slot).any (fun k => k.overrun) = true := by
    rw [State.launchAt_updLaunch _ _ (f := Launch.overran c) fun _ => rfl, own]
    rfl
  have run : exec (.launchOverrun c) s = .next (s.ends (if l.overrun = true then u
      else ((u.raiseVat l.vat 0x0F00 (corePath c) [(l.vat.val, 1), (l.slot, 2), (l.bound, 6)]).countVat l.vat 5).vatCause l.vat 5 4)) := by
    rw [exec_launchOverrun, execLaunchOverrun, State.clocked_of clocks]
    simp only [found]
    rfl
  rw [run]
  cases overrun : l.overrun
  · have told := ((u.reported_raiseVat l.vat 0x0F00 (corePath c) [(l.vat.val, 1), (l.slot, 2), (l.bound, 6)]).trans
      (State.reported_countVat _ l.vat 5)).trans (State.reported_vatCause _ l.vat 5 4)
    have kept : (s.ends (((u.raiseVat l.vat 0x0F00 (corePath c) [(l.vat.val, 1), (l.slot, 2), (l.bound, 6)]).countVat l.vat 5).vatCause
        l.vat 5 4)).launches = u.launches := (State.ends_launches _ _).trans told.launches
    refine ⟨_, rfl, ?_⟩
    rw [if_neg Bool.false_ne_true]
    refine ⟨(State.ends_cores _ _).trans told.cores, ?_, fun h => (by cases h), fun _ => ⟨u, rfl, ?_⟩⟩
    · unfold State.launchAt at passed ⊢
      rw [kept]
      exact passed
    · rw [kept]
      rfl
  · refine ⟨_, rfl, ?_⟩
    rw [if_pos rfl, State.ends_eq (s := s) (t := u) rfl rfl rfl]
    exact ⟨rfl, passed, fun _ => rfl, fun h => by cases h⟩

/-! ### Seeds (R203) -/

/-- What a plain final state leaves in its slot reads back (R292). -/
theorem State.slotFinal_rslot (s : State) (fn : FnNo) (r : Nat) {state code : Nat} (final : state ≠ 0) (hs : state < 16) (hc : code < 256) :
    (s.slotFinal fn r (Final.plain state code 0)).rslot r = (Final.plain state code 0).slot (s.rslot r).w[0] s.beat := by
  have set : (Final.plain state code 0).slot (s.rslot r).w[0] s.beat ≠ RSlot.reset := fun h => by
    have read := Final.slot_plain_state hs hc (s.rslot r).w[0] s.beat
    rw [h] at read
    exact final read.symm
  have read := s.rslot_setRslot_of_ne_reset r set
  unfold State.slotFinal
  unfold State.rslot at read ⊢
  rw [(State.reported_cause _ _ _ _).results]
  exact read

theorem holdsSeedReady_holds : holdsSeedReady := by
  intro v s r rest clocks pend
  let u : State := { s with seeds := s.seeds.set v ⟨r.seed, rest, false⟩, launches := s.launches.map fun l =>
    if l.vat = v then { l with keyWait := l.keyWait - 1 } else l }
  have run : exec (.seedKeyReady v) s = .next (s.ends (u.slotFinal r.fn r.slot (Final.plain 2 4 0))) := by
    rw [exec_seedKeyReady, execSeedKeyReady, State.clocked_of clocks]
    simp only [pend]
    rfl
  have told := State.reported_cause (u.setRslot r.slot ((Final.plain 2 4 0).slot (u.rslot r.slot).w[0] u.beat)) r.fn 0
    ((u.setRslot r.slot ((Final.plain 2 4 0).slot (u.rslot r.slot).w[0] u.beat)).resultVector r.fn r.slot)
  have slot : (s.ends (u.slotFinal r.fn r.slot (Final.plain 2 4 0))).rslot r.slot = (Final.plain 2 4 0).slot (s.rslot r.slot).w[0] s.beat := by
    have read := u.slotFinal_rslot r.fn r.slot (state := 2) (code := 4) (by decide) (by decide) (by decide)
    unfold State.rslot at read ⊢
    rw [State.ends_results, read]
    rfl
  refine ⟨_, run, ?_⟩
  rw [slot, State.ends_seeds, State.ends_cores, State.ends_hbm]
  unfold State.slotFinal
  dsimp only
  rw [told.seeds, told.cores, told.hbm]
  exact ⟨Vector.getElem_set_self _, fun w hw => Vector.getElem_set_ne v.isLt w.isLt fun h => hw (Fin.ext h.symm),
    Final.slot_plain_state (by decide) (by decide) _ _, rfl, rfl, rfl⟩

/-- Settles O25. -/
theorem launchProgress : Obligations.LaunchProgress :=
  ⟨holdsLaunchEligibility_holds, holdsTransfersComplete_holds, holdsOverrunOnce_holds, holdsSeedReady_holds⟩

end Sys2Proof.Machine
end

section
/-! What the ends of swaps change (R184 to R186): sequences, pages and their storage, results, and what reports; not the cores, the launches, the
states asked of vats, nor a function but for its causes and the interrupts it has pending (R329, R334). -/

set_option Elab.async false
namespace Sys2Proof.Machine

/-- A function but for the causes that its events set (R329). -/
def Func.standing (g : Func) : Func := { g with causes := 0#6, pend := 0#128 }

/-- What the end of a swap does not change. -/
structure HostView where
  cores : Vector Core 52
  launches : List Launch
  runReq : List (Nat × Nat)
  funcs : Vector Func 17
  vfEnable : Bool

/-- The part of a state that the end of a swap does not change. -/
def State.hostView (s : State) : HostView := ⟨s.cores, s.launches, s.runReq, s.funcs.map Func.standing, s.host.vfEnable⟩

/-- A loop whose every turn keeps the view keeps it. -/
theorem State.hostView_foldl {β : Type} {f : State → β → State} (h : ∀ s b, (f s b).hostView = s.hostView) (l : List β) (s : State) :
    (l.foldl f s).hostView = s.hostView := by
  induction l generalizing s with
  | nil => rfl
  | cons b l ih => exact (ih _).trans (h s b)

/-- A loop with a result beside the state. -/
theorem State.hostView_foldl_snd {α β : Type} {f : α × State → β → α × State} (h : ∀ p b, (f p b).2.hostView = p.2.hostView) (l : List β)
    (p : α × State) : (l.foldl f p).2.hostView = p.2.hostView := by
  induction l generalizing p with
  | nil => rfl
  | cons b l ih => exact (ih _).trans (h p b)

/-! ### Reports -/

@[simp] theorem State.hostView_setVol (s : State) (k v : Nat) : (s.setVol k v).hostView = s.hostView := rfl

theorem State.hostView_updFunc (s : State) (fn : FnNo) {f : Func → Func} (h : ∀ g, (f g).standing = g.standing) :
    (s.updFunc fn f).hostView = s.hostView := by
  have same : (s.updFunc fn f).funcs.map Func.standing = s.funcs.map Func.standing := by
    refine Vector.ext fun i hi => ?_
    rw [Vector.getElem_map, Vector.getElem_map]
    show ((s.funcs.set fn (f s.funcs[fn]))[i]).standing = _
    rw [Vector.getElem_set]
    split
    · next e => subst e; exact h _
    · rfl
  unfold State.hostView
  rw [same]
  rfl

theorem State.hostView_asks (s : State) (h : HostBound) : (s.asks h).hostView = s.hostView := by
  unfold State.asks
  split <;> rfl

@[simp] theorem State.hostView_toHost (s : State) (f : FnNo) (w : Fin 17) (m : OutMsg) : (s.toHost f w m).hostView = s.hostView := by
  unfold State.toHost
  dsimp only
  split
  · exact s.hostView_asks _
  · rfl

@[simp] theorem State.hostView_signalVector (s : State) (f : FnNo) (v : Nat) : (s.signalVector f v).hostView = s.hostView := by
  unfold State.signalVector
  split
  · exact s.hostView_updFunc f fun _ => rfl
  · exact s.hostView_toHost _ _ _

@[simp] theorem State.hostView_cause (s : State) (f : FnNo) (b v : Nat) : (s.cause f b v).hostView = s.hostView := by
  have set := s.hostView_updFunc f (f := fun g => { g with causes := g.causes ||| BitVec.twoPow 6 b }) fun _ => rfl
  unfold State.cause
  dsimp only
  split
  · exact (State.hostView_signalVector _ f v).trans set
  · exact set

@[simp] theorem State.hostView_emit (s : State) (code path : Nat) (fs : List (Nat × Nat)) : (s.emit code path fs).2.hostView = s.hostView := by
  unfold State.emit
  dsimp only
  split <;> rfl

@[simp] theorem State.hostView_countEvent (s : State) (sub : Nat) : (s.countEvent sub).hostView = s.hostView := by
  unfold State.countEvent
  dsimp only
  split
  · rfl
  · split
    · rfl
    · exact State.hostView_emit _ _ _ _

@[simp] theorem State.hostView_raise (s : State) (code path : Nat) (fs : List (Nat × Nat)) : (s.raise code path fs).hostView = s.hostView := by
  unfold State.raise
  dsimp only
  split
  · exact s.hostView_emit code path fs
  · exact (State.hostView_countEvent _ 3).trans (s.hostView_emit code path fs)

@[simp] theorem State.hostView_count (s : State) (key n code path : Nat) (fs : List (Nat × Nat)) :
    (s.count key n code path fs).hostView = s.hostView := by
  unfold State.count
  dsimp only
  split
  · rfl
  · split
    · rfl
    · exact State.hostView_raise _ _ _ _

@[simp] theorem State.hostView_vatEvent (s : State) (v : VatNo) : (s.vatEvent v).hostView = s.hostView := by
  unfold State.vatEvent
  split
  · rfl
  · exact s.hostView_cause _ _ _

@[simp] theorem State.hostView_raiseVat (s : State) (v : VatNo) (code path : Nat) (fs : List (Nat × Nat)) :
    (s.raiseVat v code path fs).hostView = s.hostView := (State.hostView_vatEvent _ v).trans (s.hostView_raise code path fs)

theorem State.hostView_skipEvent (s : State) : s.skipEvent.hostView = s.hostView := by
  unfold State.skipEvent
  dsimp only
  split
  · rfl
  · exact State.hostView_countEvent _ 6

theorem State.hostView_numbered (s : State) (l : List EventRec) (n : Nat) : ({ s with events := l, evCount := n } : State).hostView = s.hostView := rfl

theorem State.hostView_writeEvent (s : State) (e : EventRec) : (s.writeEvent e).hostView = s.hostView := by
  unfold State.writeEvent
  dsimp only
  split
  · exact (State.hostView_cause _ 0 1 0).trans ((State.hostView_numbered _ _ _).trans s.hostView_skipEvent)
  · exact (State.hostView_toHost _ 0 _ _).trans ((State.hostView_cause _ 0 1 0).trans ((State.hostView_numbered _ _ _).trans s.hostView_skipEvent))

theorem State.hostView_settleOnce (s : State) (n : Nat) : (s.settleOnce n).hostView = s.hostView := by
  unfold State.settleOnce
  exact (State.hostView_foldl State.hostView_writeEvent _ _).trans rfl

@[simp] theorem State.hostView_ends (s t : State) : (s.ends t).hostView = t.hostView := by
  unfold State.ends State.endsPower State.settled
  exact (State.hostView_settleOnce _ _).trans (State.hostView_settleOnce _ _)

/-! ### Memory -/

theorem State.hostView_hbmEvent (s : State) (key source : Nat) : (s.hbmEvent key source).hostView = s.hostView := s.hostView_raise _ _ _

@[simp] theorem State.hostView_countMem (s : State) (idx sub path : Nat) : (s.countMem idx sub path).hostView = s.hostView :=
  s.hostView_count _ _ _ _ _

theorem State.hostView_hbmUncorrectable (s : State) (key source : Nat) : (s.hbmUncorrectable key source).hostView = s.hostView := by
  unfold State.hbmUncorrectable
  exact (State.hostView_hbmEvent _ _ _).trans ((State.hostView_countMem _ _ _ _).trans (State.hostView_countMem _ _ _ _))

theorem State.hostView_scrubbed (s : State) (m : Sparse Nat) : ({ s with scrubCount := m } : State).hostView = s.hostView := rfl

theorem State.hostView_hbmCorrected (s : State) (key : Nat) : (s.hbmCorrected key).hostView = s.hostView := by
  have counted (t : State) (a b c d e f i j k : Nat) (m : Sparse Nat) :
      ({ ((t.countMem a b c).countMem d e f).countMem i j k with scrubCount := m } : State).hostView = t.hostView :=
    (State.hostView_scrubbed _ _).trans
      ((State.hostView_countMem _ _ _ _).trans ((State.hostView_countMem _ _ _ _).trans (State.hostView_countMem _ _ _ _)))
  unfold State.hbmCorrected
  dsimp only
  split
  · exact (State.hostView_raise _ _ _ _).trans (counted _ _ _ _ _ _ _ _ _ _ _)
  · exact counted _ _ _ _ _ _ _ _ _ _ _

theorem State.hostView_resolveWord (s : State) (w : Nat) : (s.resolveWord .hbm w).hostView = s.hostView := by
  unfold State.resolveWord
  dsimp only
  split
  · exact State.hostView_hbmCorrected _ _
  · exact State.hostView_hbmUncorrectable _ _ _
  · rfl

theorem State.hostView_resolve (s : State) (a n : Nat) : (s.resolve .hbm a n).hostView = s.hostView :=
  State.hostView_foldl State.hostView_resolveWord _ s

section
variable (s : State) (hbm : Mem) (cleared : List (Nat × Nat)) (move : Option ShadowMove) (reloc : Vector (Option Reloc) 4)

theorem State.hostView_stored : ({ s with hbm := hbm, uncleared := cleared } : State).hostView = s.hostView := rfl
theorem State.hostView_shadowMove : ({ s with shadowMove := move } : State).hostView = s.hostView := rfl
theorem State.hostView_shadowDone : ({ s with shadowMove := move, reloc := reloc } : State).hostView = s.hostView := rfl
theorem State.hostView_reloc : ({ s with reloc := reloc } : State).hostView = s.hostView := rfl

end

theorem State.hostView_copyShadow (s : State) (m : ShadowMove) (i : Nat) : (s.copyShadow m i).hostView = s.hostView := by
  unfold State.copyShadow
  dsimp only
  split
  · exact (State.hostView_raise _ _ _ _).trans ((State.hostView_shadowDone _ _ _).trans ((State.hostView_setVol _ _ _).trans
      ((State.hostView_stored _ _ _).trans (s.hostView_resolve _ _))))
  · exact (State.hostView_shadowMove _ _).trans ((State.hostView_setVol _ _ _).trans
      ((State.hostView_stored _ _ _).trans (s.hostView_resolve _ _)))

theorem State.hostView_copyAhead (n : Nat) (s : State) (g : Nat) : (State.copyAhead n s g).hostView = s.hostView := by
  induction n generalizing s g with
  | zero => rfl
  | succ n ih =>
    unfold State.copyAhead
    split
    · rfl
    · split
      · rfl
      · split
        · rfl
        · dsimp only
          split
          · exact (State.hostView_copyShadow _ _ _).trans (ih _ _)
          · exact ih _ _

theorem State.hostView_clearFirst (s : State) (a n : Nat) : (s.clearFirst a n).hostView = s.hostView := by
  have cleared (t : State) (g : Nat) : (t.clearGranule g).hostView = t.hostView := State.hostView_copyAhead 128 t g
  unfold State.clearFirst
  refine State.hostView_foldl (fun t g => ?_) _ s
  split
  · exact cleared t g
  · rfl

theorem State.hostView_relocateRow (s : State) (d : Fin 4) (j : Nat) : (s.relocateRow d j).hostView = s.hostView := by
  have marked (t : State) (l : List Nat) : (l.foldl (fun (s : State) w => match Sparse.get 0 s.hbm.marks w with
      | 2 => ({ s with hbm := { s.hbm with marks := Sparse.set 0 s.hbm.marks w 3 } } : State).hbmUncorrectable (16 * w) 4
      | 1 => ({ s with hbm := { s.hbm with marks := Sparse.set 0 s.hbm.marks w 0 } } : State).hbmCorrected (16 * w)
      | _ => s) t).hostView = t.hostView := by
    refine State.hostView_foldl (fun u w => ?_) l t
    split
    · exact State.hostView_hbmUncorrectable _ _ _
    · exact State.hostView_hbmCorrected _ _
    · rfl
  unfold State.relocateRow
  split
  · rfl
  · split
    · rfl
    · dsimp only
      split
      · rfl
      · exact (State.hostView_reloc _ _).trans ((State.hostView_setVol _ _ _).trans (marked _ _))

theorem State.hostView_relocateFirst (s : State) (a n : Nat) : (s.relocateFirst a n).hostView = s.hostView := by
  unfold State.relocateFirst
  refine State.hostView_foldl (fun t g => ?_) _ s
  dsimp only
  split
  · split
    · exact t.hostView_relocateRow _ _
    · rfl
  · rfl

theorem State.hostView_refuseAccess (s : State) (code path a agent vat : Nat) : (s.refuseAccess code path a agent vat).hostView = s.hostView := by
  unfold State.refuseAccess
  split
  · rfl
  · dsimp only
    split
    · exact (State.hostView_vatEvent _ _).trans (State.hostView_raise _ _ _ _)
    · exact State.hostView_raise _ _ _ _

theorem State.hostView_refuseInvalid (s : State) (a n agent : Nat) : (s.refuseInvalid a n agent).hostView = s.hostView :=
  s.hostView_refuseAccess _ _ _ _ _

theorem State.hostView_refuseOutside (s : State) (vat a n agent : Nat) : (s.refuseOutside vat a n agent).hostView = s.hostView := by
  unfold State.refuseOutside
  split
  · exact s.hostView_refuseInvalid _ _ _
  · exact s.hostView_refuseAccess _ _ _ _ _

theorem State.hostView_openHbm (s : State) (a n : Nat) : (s.openHbm a n).hostView = s.hostView := by
  unfold State.openHbm
  refine State.hostView_foldl (fun t g => ?_) _ s
  dsimp only
  split
  · exact (State.hostView_resolve _ _ _).trans ((State.hostView_relocateFirst _ _ _).trans (t.hostView_clearFirst _ _))
  · rfl

theorem State.hostView_readyHbm (s : State) (a n : Nat) : (s.readyHbm a n).hostView = s.hostView := by
  unfold State.readyHbm
  refine State.hostView_foldl (fun t g => ?_) _ s
  split
  · exact (State.hostView_relocateFirst _ _ _).trans (t.hostView_clearFirst _ _)
  · rfl

theorem State.hostView_readHbm (s : State) (a n agent : Nat) : (s.readHbm a n agent).2.hostView = s.hostView := by
  unfold State.readHbm
  dsimp only
  split
  · exact s.hostView_openHbm a n
  · exact (State.hostView_refuseInvalid _ _ _ _).trans (s.hostView_openHbm a n)

theorem State.hostView_agentRead (s : State) (vat a n agent : Nat) : (s.agentRead vat a n agent).2.hostView = s.hostView := by
  unfold State.agentRead
  split
  · exact s.hostView_readHbm _ _ _
  · exact s.hostView_refuseOutside _ _ _ _

theorem State.hostView_mergeWord (s : State) (w : Nat) : (s.mergeWord .hbm w).hostView = s.hostView := by
  unfold State.mergeWord
  split
  · exact State.hostView_hbmUncorrectable _ _ _
  · exact s.hostView_hbmEvent _ _
  · exact s.hostView_resolveWord w

theorem State.hostView_writeMem (s : State) (cells : List (Nat × Byte)) : (s.writeMem .hbm cells).hostView = s.hostView := by
  unfold State.writeMem
  exact (State.hostView_foldl State.hostView_mergeWord _ s :)

theorem State.hostView_writeHbm (s : State) (a : Nat) (bs : List Byte) (agent : Nat) : (s.writeHbm a bs agent).hostView = s.hostView := by
  have ready : (if (s.readyHbm a bs.length).reachable a bs.length then s.readyHbm a bs.length
      else (s.readyHbm a bs.length).refuseInvalid a bs.length agent).hostView = s.hostView := by
    split
    · exact s.hostView_readyHbm _ _
    · exact (State.hostView_refuseInvalid _ _ _ _).trans (s.hostView_readyHbm _ _)
  unfold State.writeHbm
  dsimp only
  split
  · exact ready
  · exact (State.hostView_writeMem _ _).trans ready

theorem State.hostView_agentWrite (s : State) (vat a : Nat) (bs : List Byte) (agent : Nat) : (s.agentWrite vat a bs agent).hostView = s.hostView := by
  unfold State.agentWrite
  split
  · exact s.hostView_writeHbm _ _ _
  · exact s.hostView_refuseOutside _ _ _ _

end Sys2Proof.Machine
end

section
/-! What the ends of swaps change (R184 to R186): pages, sequences and results; see the view of the file before. -/

set_option Elab.async false
namespace Sys2Proof.Machine

/-! ### Fields of the page keeper -/

section
variable (s : State)

theorem State.hostView_freeIx (n : Nat) : ({ s with freeIx := n } : State).hostView = s.hostView := rfl
theorem State.hostView_setSeq (b : Fin 64) (q : SeqRec) : (s.setSeq b q).hostView = s.hostView := rfl
theorem State.hostView_setFrame (f : Nat) (r : Frame) : (s.setFrame f r).hostView = s.hostView := rfl
theorem State.hostView_updWork (v : VatNo) (f : PageWork → PageWork) : (s.updWork v f).hostView = s.hostView := rfl
theorem State.hostView_setRslot (r : Nat) (x : RSlot) : (s.setRslot r x).hostView = s.hostView := rfl
theorem State.hostView_resumes (l : List JoinRec) : ({ s with resumes := l } : State).hostView = s.hostView := rfl
theorem State.hostView_readsEnd (v : VatNo) (p : Nat → Bool) : (s.readsEnd v p).hostView = s.hostView := rfl
theorem State.hostView_countPage (sub n : Nat) : (s.countPage sub n).hostView = s.hostView := s.hostView_count _ _ _ _ _

theorem State.hostView_slotFinal (fn : FnNo) (r : Nat) (f : Final) : (s.slotFinal fn r f).hostView = s.hostView :=
  (State.hostView_cause _ _ _ _).trans (s.hostView_setRslot _ _)

end

/-! ### The page keeper's reads and writes -/

theorem State.hostView_kRead (s : State) (v : VatNo) (a n : Nat) : (s.kRead v a n).2.hostView = s.hostView := by
  unfold State.kRead
  dsimp only
  refine (State.hostView_foldl_snd (fun p b => ?_) _ _).trans (s.hostView_agentRead _ _ _ _)
  split
  · exact p.2.hostView_freeIx _
  · rfl

theorem State.hostView_kWrite (s : State) (v : VatNo) (a : Nat) (bs : List Byte) : (s.kWrite v a bs).hostView = s.hostView :=
  s.hostView_agentWrite _ _ _ _

theorem State.hostView_readNode (s : State) (v : VatNo) (i : Nat) : (s.readNode v i).2.hostView = s.hostView := s.hostView_kRead _ _ _

theorem State.hostView_nodes (s : State) (v : VatNo) : (s.nodes v).2.hostView = s.hostView := by
  unfold State.nodes
  dsimp only
  refine State.hostView_foldl_snd (fun p i => ?_) _ _
  exact p.2.hostView_readNode v i

theorem State.hostView_nodeEntries (s : State) (v : VatNo) (n : Node) : (s.nodeEntries v n).2.hostView = s.hostView := s.hostView_kRead _ _ _

theorem State.hostView_dropRef (s : State) (v : VatNo) (f : Nat) : (s.dropRef v f).hostView = s.hostView := by
  unfold State.dropRef
  dsimp only
  split
  · exact s.hostView_setFrame _ _
  · rfl

theorem State.hostView_takeRef (s : State) (v : VatNo) (f : Nat) : (s.takeRef v f).hostView = s.hostView := by
  unfold State.takeRef
  dsimp only
  split
  · exact s.hostView_setFrame _ _
  · rfl

theorem State.hostView_evictNode (s : State) (v : VatNo) (n : Node) : (s.evictNode v n).hostView = s.hostView := by
  unfold State.evictNode State.writeNode
  dsimp only
  exact (State.hostView_countPage _ _ _).trans ((State.hostView_kWrite _ _ _ _).trans
    ((State.hostView_foldl (fun t w => t.hostView_dropRef v _) _ _).trans (s.hostView_nodeEntries v n)))

theorem State.hostView_evictFor (fuel : Nat) (s : State) (v : VatNo) (need : Nat) : (s.evictFor v need fuel).hostView = s.hostView := by
  induction fuel generalizing s with
  | zero => rfl
  | succ fuel ih =>
    unfold State.evictFor State.liveNodes
    dsimp only
    split
    · rfl
    · split
      · exact s.hostView_nodes v
      · exact (ih _).trans ((State.hostView_evictNode _ _ _).trans (s.hostView_nodes v))

theorem State.hostView_makeRoom (s : State) (v : VatNo) (need : Nat) : (s.makeRoom v need).hostView = s.hostView := State.hostView_evictFor _ s v need

/-! ### Frames and blocks -/

theorem State.hostView_pickMany (n : Nat) (s : State) (l : List Nat) : (s.pickMany n l).2.hostView = s.hostView := by
  induction n generalizing s l with
  | zero => rfl
  | succ n ih =>
    unfold State.pickMany State.pick
    exact (ih _ _).trans (s.hostView_freeIx _)

theorem State.hostView_allocFrames (s : State) (v : VatNo) (n st : Nat) : (s.allocFrames v n st).2.hostView = s.hostView := by
  unfold State.allocFrames
  exact (State.hostView_foldl (fun t f => t.hostView_setFrame _ _) _ _).trans (s.hostView_pickMany _ _)

theorem State.hostView_readBlock (s : State) (q : SeqRec) (t : Nat) : (s.readBlock q t).2.hostView = s.hostView := s.hostView_kRead _ _ _

theorem State.hostView_readBlocks (s : State) (q : SeqRec) (a b : Nat) : (s.readBlocks q a b).2.hostView = s.hostView := by
  unfold State.readBlocks
  dsimp only
  refine State.hostView_foldl_snd (fun p i => ?_) _ _
  exact p.2.hostView_readBlock q (a + i)

theorem State.hostView_heldEntries (s : State) (q : SeqRec) : (s.heldEntries q).2.hostView = s.hostView := s.hostView_readBlocks _ _ _

theorem State.hostView_takeRefs (s : State) (v : VatNo) (l : List Nat) : (l.foldl (fun s f => s.takeRef v f) s).hostView = s.hostView :=
  State.hostView_foldl (fun t f => t.hostView_takeRef v f) l s

theorem State.hostView_addBlock (s : State) (q : SeqRec) (t : Nat) : (s.addBlock q t).hostView = s.hostView := by
  have prev (b : Prop) [Decidable b] : (if b then s.readBlock q (t - 1) else ([], s)).2.hostView = s.hostView := by
    split
    · exact s.hostView_readBlock _ _
    · rfl
  unfold State.addBlock State.writeBlock
  dsimp only
  refine (State.hostView_kWrite _ _ _ _).trans ((State.hostView_foldl_snd (fun p i => ?_) _ _).trans (prev _))
  have filled (n m : Nat) : (((p.2.allocFrames q.vat n m).1.foldl (fun s f => s.takeRef q.vat f) (p.2.allocFrames q.vat n m).2)).hostView
      = p.2.hostView := (State.hostView_takeRefs _ _ _).trans (p.2.hostView_allocFrames _ _ _)
  split
  · exact filled _ _
  · split
    · exact (State.hostView_takeRefs _ _ _).trans ((State.hostView_allocFrames _ _ _ _).trans (filled _ _))
    · exact (State.hostView_takeRef _ _ _).trans (filled _ _)

theorem State.hostView_addBlocks (s : State) (q : SeqRec) (a b : Nat) : (s.addBlocks q a b).hostView = s.hostView :=
  State.hostView_foldl (fun t _ => t.hostView_addBlock q _) _ s

/-! ### Swaps -/

theorem State.hostView_postHost (s : State) (kind : Nat) (v : VatNo) (a : Nat) (b : List Byte) (bad : List Nat) :
    (s.postHost kind v a b bad).hostView = s.hostView := by
  unfold State.postHost
  exact State.hostView_foldl (fun t i => t.hostView_toHost _ _ _) _ s

theorem State.hostView_askHost (s : State) (v : VatNo) (a len : Nat) : (s.askHost v a len).hostView = s.hostView := by
  unfold State.askHost
  exact State.hostView_foldl (fun t i => t.hostView_toHost _ _ _) _ s

theorem State.hostView_toHostFrames (l : List Nat) (s : State) (v : VatNo) (bs : List (Byte × Bool)) : (s.toHostFrames v l bs).hostView = s.hostView := by
  induction l generalizing s bs with
  | nil => rfl
  | cons f l ih =>
    unfold State.toHostFrames
    exact (ih _ _).trans (s.hostView_postHost _ _ _ _ _)

theorem State.hostView_swapOut (s : State) (b : Fin 64) : (s.swapOut b).hostView = s.hostView := by
  unfold State.swapOut
  dsimp only
  refine (State.hostView_askHost _ _ _ _).trans ((State.hostView_foldl (fun t p => ?_) _ _).trans ?_)
  · exact (State.hostView_toHostFrames _ _ _ _).trans (t.hostView_agentRead _ _ _ _)
  refine (State.hostView_toHostFrames _ _ _ _).trans ((State.hostView_toHostFrames _ _ _ _).trans ((State.hostView_agentRead _ _ _ _ _).trans
    ((State.hostView_agentRead _ _ _ _ _).trans ((State.hostView_setSeq _ _ _).trans
      ((State.hostView_foldl (fun t f => t.hostView_setFrame _ _) _ _).trans ((State.hostView_pickMany _ _ _).trans (s.hostView_heldEntries _)))))))

theorem State.hostView_park (s : State) (b : Fin 64) (demanded : Nat) : (s.park b demanded).hostView = s.hostView := by
  unfold State.park
  exact (State.hostView_raise _ _ _ _).trans ((State.hostView_countPage _ _ _).trans (s.hostView_setSeq _ _))

theorem State.hostView_evictSeq (s : State) (b : Fin 64) (demanded : Nat) : (s.evictSeq b demanded).hostView = s.hostView := by
  have need : (s.swapNeed b).2.2.hostView = s.hostView := s.hostView_heldEntries _
  unfold State.evictSeq
  dsimp only
  split
  · exact (State.hostView_swapOut _ _).trans ((State.hostView_raiseVat _ _ _ _ _).trans need)
  · split
    · exact need
    · exact (State.hostView_park _ _ _).trans need

theorem State.hostView_runDemands (v : VatNo) (n : Nat) (l : List (Fin 64)) (held : Nat) (unmet waits : List Nat) (out : List (Fin 64)) (s : State) :
    (State.runDemands v n l held unmet waits out s).hostView = s.hostView := by
  induction l generalizing held unmet waits out s with
  | nil => exact s.hostView_updWork _ _
  | cons b l ih =>
    unfold State.runDemands
    dsimp only
    split
    · exact ih _ _ _ _ _
    · split
      · exact (ih _ _ _ _ _).trans ((State.hostView_setSeq _ _ _).trans ((State.hostView_addBlocks _ _ _ _).trans (s.hostView_makeRoom _ _)))
      · split
        · exact (ih _ _ _ _ _).trans ((State.hostView_evictSeq _ _ _).trans (s.hostView_makeRoom _ _))
        · exact (ih _ _ _ _ _).trans ((State.hostView_foldl (fun t a => t.hostView_evictSeq a _) _ _).trans (s.hostView_makeRoom _ _))

theorem State.hostView_demandStep (s : State) (v : VatNo) : (s.demandStep v).hostView = s.hostView := by
  unfold State.demandStep
  split
  · rfl
  · split
    · rfl
    · exact State.hostView_runDemands _ _ _ _ _ _ _ s

theorem State.hostView_endResume (s : State) (b : Fin 64) (ok : Bool) : (s.endResume b ok).hostView = s.hostView := by
  unfold State.endResume
  refine (State.hostView_demandStep _ _).trans ?_
  split
  · rfl
  · exact (State.hostView_slotFinal _ _ _ _).trans (s.hostView_resumes _)

theorem State.hostView_swapFail (s : State) (b : Fin 64) (status : Nat) : (s.swapFail b status).hostView = s.hostView := by
  have frames (l : List Nat) (t : State) (f : State → Nat → Frame) : (l.foldl (fun s n => s.setFrame n (f s n)) t).hostView = t.hostView :=
    State.hostView_foldl (fun t n => t.hostView_setFrame _ _) l t
  have told (fs : List (Nat × Nat)) : ((s.readsEnd s.seqs[b].vat (s.inHostFrames s.seqs[b])).raise 0x0907 0x5000 fs).hostView = s.hostView :=
    (State.hostView_raise _ _ _ _).trans (s.hostView_readsEnd _ _)
  unfold State.swapFail
  dsimp only
  split
  · exact (State.hostView_park _ _ _).trans ((State.hostView_setSeq _ _ _).trans ((frames _ _ _).trans (told _)))
  split
  · exact (State.hostView_endResume _ _ _).trans ((State.hostView_setSeq _ _ _).trans ((frames _ _ _).trans (told _)))
  · exact s.hostView_readsEnd _ _

theorem State.hostView_endSwaps (s : State) (p : VatNo → Bool) : (s.endSwaps p).hostView = s.hostView := by
  unfold State.endSwaps
  refine State.hostView_foldl (fun t b => ?_) _ s
  dsimp only
  split
  · exact (State.hostView_swapFail _ _ _).trans (t.hostView_freeIx _)
  · rfl

/-- Emptied flows of the host-bound queue change the queue alone (R334). -/
theorem State.hostView_emptyFlows (s : State) (p : FnNo → Bool) : (s.emptyFlows p).hostView = s.hostView := by
  unfold State.emptyFlows State.countHost
  exact (State.hostView_count _ _ _ _ _ _).trans rfl

end Sys2Proof.Machine
end

section
/-! O37: the host link, function-level resets, virtual functions and IDE (R324, R332 to R334). -/

set_option Elab.async false
namespace Sys2Proof.Machine

/-! ### The host-bound queue served -/

/-- Two states alike but for the host-bound queue, what is sent, and volatile entries. -/
def State.Served (s t : State) : Prop := t = { s with host := t.host, out := t.out, vol := t.vol }

theorem State.Served.trans {s t u : State} (h : s.Served t) (k : t.Served u) : s.Served u := by
  unfold State.Served at *
  rw [k, h]

theorem State.served_host (s : State) (h : HostPort) : s.Served { s with host := h } := rfl

theorem State.served_serveBound (s : State) (h : HostBound) : s.Served (s.serveBound h) := by
  have asked (t : State) : t.Served (t.asks h) := by
    unfold State.asks
    split <;> rfl
  have mirrored (t : State) (b : Prop) [Decidable b] (n : Nat) : t.Served (if b then t.setVol (ek 0x9000 4) n else t) := by
    split <;> rfl
  unfold State.serveBound
  exact ((s.served_host _).trans (asked _)).trans (mirrored _ _ _)

theorem State.served_flushHost (s : State) : s.Served s.flushHost := by
  have served (n : Nat) (t : State) : t.Served (State.serveHost n t) := by
    induction n generalizing t with
    | zero => rfl
    | succ n ih =>
      unfold State.serveHost
      split
      · rfl
      · exact (t.served_serveBound _).trans (ih _)
  unfold State.flushHost
  split
  · exact served _ s
  · rfl

theorem State.Served.ends {s t u : State} (h : t.Served u) (hp : t.pending = s.pending) (hw : t.power = s.power) (hr : t.raised = s.raised) :
    s.ends u = u := by
  refine State.ends_eq ?_ ?_ ?_ <;> rw [h]
  · exact hp
  · exact hw
  · exact hr

/-- One message that waits is next, whatever was served before it (R332). -/
theorem nextBound_one (last : Fin 17) (a : HostBound) : nextBound last [a] = some a := by
  unfold nextBound
  split
  · next h found => exact found.symm.trans (by
      have := List.mem_of_find?_eq_some found
      rw [List.mem_singleton] at this
      rw [found, this])
  · cases turn : (List.finRange 17).findSome? fun i => [a].find? fun h => h.flow == Fin.ofNat 17 (last.val + 1 + i.val) with
    | some h =>
      obtain ⟨i, _, found⟩ := List.exists_of_findSome?_eq_some turn
      have := List.mem_of_find?_eq_some found
      rw [List.mem_singleton] at this
      rw [this]
    | none =>
      rw [List.findSome?_eq_none_iff] at turn
      have own := turn ⟨(a.flow.val + 16 - last.val) % 17, Nat.mod_lt _ (by decide)⟩ (List.mem_finRange _)
      have same : a.flow = Fin.ofNat 17 (last.val + 1 + (a.flow.val + 16 - last.val) % 17) := by
        apply Fin.ext
        simp only [Fin.ofNat]
        omega
      rw [List.find?_cons_of_pos (by rw [beq_iff_eq]; exact same)] at own
      cases own

/-- An interrupt that waits behind another message is next (R332). -/
theorem nextBound_msix (last : Fin 17) {a m : HostBound} (ha : a.isMsix = false) (hm : m.isMsix = true) : nextBound last [a, m] = some m := by
  unfold nextBound
  rw [List.find?_cons_of_neg (by rw [ha]; decide), List.find?_cons_of_pos (by rw [hm])]

theorem HostBound.isRead_of_msix {m : HostBound} (h : m.isMsix = true) : m.isRead = false := by
  unfold HostBound.isMsix at h
  unfold HostBound.isRead
  rw [eq_of_beq h]
  rfl

theorem State.asks_sent (s : State) (h : HostBound) : (s.asks h).out = s.out ++ [h.msg] ∧ (s.asks h).host.held = s.host.held
    ∧ (s.asks h).funcs = s.funcs ∧ (h.isRead = false → (s.asks h).host.asked = s.host.asked) := by
  unfold State.asks
  cases h.isRead
  · exact ⟨rfl, rfl, rfl, fun _ => rfl⟩
  · exact ⟨rfl, rfl, rfl, fun h => by cases h⟩

/-- What a message leaves as it leaves the queue: itself sent, and the queue without it. -/
theorem State.serveBound_sent (s : State) (h : HostBound) : (s.serveBound h).out = s.out ++ [h.msg]
    ∧ (s.serveBound h).host.held = s.host.held.erase h ∧ (s.serveBound h).funcs = s.funcs
    ∧ (h.isRead = false → (s.serveBound h).host.asked = s.host.asked) := by
  have mirrored (t : State) (b : Prop) [Decidable b] (n : Nat) : (if b then t.setVol (ek 0x9000 4) n else t).out = t.out
      ∧ (if b then t.setVol (ek 0x9000 4) n else t).host = t.host ∧ (if b then t.setVol (ek 0x9000 4) n else t).funcs = t.funcs := by
    split <;> exact ⟨rfl, rfl, rfl⟩
  let u : State := { s with host := { s.host with
    held := s.host.held.erase h, served := if h.isMsix then s.host.served else h.flow } }
  obtain ⟨out, host, funcs⟩ := mirrored (u.asks h) ((u.asks h).audit.contains h.msg.data = true) (leNat (h.msg.data.take 4))
  obtain ⟨sent, held, same, asked⟩ := u.asks_sent h
  exact ⟨out.trans sent, (congrArg HostPort.held host).trans held, funcs.trans same, fun write => (congrArg HostPort.asked host).trans (asked write)⟩

/-- A link that trains with a message and an interrupt held sends the interrupt first (R332, R334). -/
theorem State.flushHost_two {s : State} {a m : HostBound} (sends : s.hostSends = true) (held : s.host.held = [a, m]) (ha : a.isMsix = false)
    (hm : m.isMsix = true) (room : s.readRoom a = true) (openA : s.funcs[a.fn].ideHold = false) (openM : s.funcs[m.fn].ideHold = false) :
    s.flushHost.out = s.out ++ [m.msg, a.msg] ∧ s.flushHost.host.held = [] := by
  have roomM : s.readRoom m = true := by
    unfold State.readRoom
    rw [HostBound.isRead_of_msix hm]
    rfl
  have first : (s.host.held.filter fun h => !s.funcs[h.fn].ideHold && s.readRoom h) = [a, m] := by
    rw [held, List.filter_cons_of_pos (by rw [openA, room]; rfl), List.filter_cons_of_pos (by rw [openM, roomM]; rfl), List.filter_nil]
  obtain ⟨out, left, funcs, asked⟩ := s.serveBound_sent m
  have other : a ≠ m := fun e => by rw [e, hm] at ha; cases ha
  have left' : (s.serveBound m).host.held = [a] := by
    rw [left, held, List.erase_cons_tail (by simpa using other), List.erase_cons_head]
  have room' : (s.serveBound m).readRoom a = true := by
    unfold State.readRoom at room ⊢
    rw [asked (HostBound.isRead_of_msix hm)]
    exact room
  have second : ((s.serveBound m).host.held.filter fun h => !(s.serveBound m).funcs[h.fn].ideHold && (s.serveBound m).readRoom h) = [a] := by
    rw [left', List.filter_cons_of_pos (by rw [funcs, openA, room']; rfl), List.filter_nil]
  have run : s.flushHost = (s.serveBound m).serveBound a := by
    unfold State.flushHost
    rw [if_pos sends, held]
    show State.serveHost 2 s = _
    rw [State.serveHost, first, nextBound_msix _ ha hm]
    show State.serveHost 1 (s.serveBound m) = _
    rw [State.serveHost, second, nextBound_one] <;> rfl
  obtain ⟨outA, leftA, _, _⟩ := (s.serveBound m).serveBound_sent a
  rw [run, outA, leftA, out, left']
  exact ⟨by simp, by simp⟩

/-! ### Link happenings (R334) -/

theorem State.setLink_hostSends {s : State} (rate width : Nat) (away : s.away 260 = false) : (s.setLink 2 rate width).hostSends = true := by
  have up : (s.setLink 2 rate width).volAt (ek 0x1100 3) = 2 := State.volAt_setVol_of_ne_default _ (by decide)
  have away' : (s.setLink 2 rate width).away 260 = false := away
  unfold State.hostSends State.hostUp
  rw [up, away']
  rfl

theorem holdsLinkTrained {rate width : Nat} {s : State} {a m : HostBound} (clocks : s.power.clocks = true) (powered : s.portPowered = true)
    (mode : linkMode rate width = true) (enough : s.linkEnough rate width = true) (away : s.away 260 = false) (held : s.host.held = [a, m])
    (ha : a.isMsix = false) (hm : m.isMsix = true) (room : s.readRoom a = true) (openA : s.funcs[a.fn].ideHold = false)
    (openM : s.funcs[m.fn].ideHold = false) :
    ∃ t, exec (.hostLinkTrained rate width) s = .next t ∧ t.out = s.out ++ [m.msg, a.msg] ∧ t.host.held = [] := by
  obtain ⟨out, left⟩ := State.flushHost_two (s := s.setLink 2 rate width) (State.setLink_hostSends rate width away) held ha hm room openA openM
  refine ⟨_, ?_, out, left⟩
  rw [exec_hostLinkTrained, execHostLinkTrained, State.clocked_of clocks, powered, mode, enough]
  exact congrArg _ ((State.served_flushHost (s.setLink 2 rate width)).ends (s := s) rfl rfl rfl)

/-- What the loss of the host link does to functions, from the state whose flows are emptied and whose swaps are ended. -/
def State.linkLost (s : State) : State :=
  (({ s with funcs := s.funcs.map Func.linkReset, host := { HostPort.reset with
    tlpBeat := s.host.tlpBeat, served := s.host.served, waiting := s.host.waiting, lost := s.host.lost, late := s.host.late } } : State).setVol
      (ek 0x1100 4) 0).setVol (ek 0x1100 5) 39

theorem State.linkLost_view (s : State) : s.linkLost.hostView = ⟨s.cores, s.launches, s.runReq, s.funcs.map fun g => g.linkReset.standing, false⟩ := by
  have funcs : (s.funcs.map Func.linkReset).map Func.standing = s.funcs.map fun g => g.linkReset.standing := by
    rw [Vector.map_map]
    rfl
  show (⟨s.cores, s.launches, s.runReq, (s.funcs.map Func.linkReset).map Func.standing, false⟩ : HostView) = _
  rw [funcs]

/-- A function as its view shows it. -/
theorem State.hostView_func {s : State} {v : HostView} (h : s.hostView = v) (f : FnNo) : (s.funcs[f]).standing = v.funcs[f] := by
  rw [← h]
  exact (Vector.getElem_map _ f.isLt).symm

theorem exec_linkDown {s : State} (clocks : s.power.clocks = true) (powered : s.portPowered = true) :
    ∃ u : State, u.hostView = s.hostView ∧ exec .hostLinkDown s = .next (s.ends u.linkLost) := by
  refine ⟨((((s.setVol (ek 0x1100 3) 0).countHost 2 1).emptyFlows fun _ => true).endSwaps fun _ => true), ?_, ?_⟩
  · exact (State.hostView_endSwaps _ _).trans ((State.hostView_emptyFlows _ _).trans
      ((State.hostView_count _ _ _ _ _ _).trans (s.hostView_setVol _ _)))
  · rw [exec_hostLinkDown, execHostLinkDown, State.clocked_of clocks, powered]
    exact congrArg (fun t => Host.Outcome.next (s.ends t)) (if_neg (by decide))

theorem holdsLinkDown {s : State} (clocks : s.power.clocks = true) (powered : s.portPowered = true) :
    ∃ t, exec .hostLinkDown s = .next t ∧ t.host.vfEnable = false
      ∧ (∀ f : FnNo, (t.funcs[f]).frames = [] ∧ (t.funcs[f]).secure = false ∧ (t.funcs[f]).enables = Func.reset.enables)
      ∧ t.cores = s.cores ∧ t.launches = s.launches := by
  obtain ⟨u, before, run⟩ := exec_linkDown clocks powered
  have after : (s.ends u.linkLost).hostView = ⟨u.cores, u.launches, u.runReq, u.funcs.map fun g => g.linkReset.standing, false⟩ :=
    (State.hostView_ends _ _).trans u.linkLost_view
  generalize s.ends u.linkLost = t at run after
  have reset (f : FnNo) : (t.funcs[f]).standing = (u.funcs[f]).linkReset.standing :=
    (State.hostView_func after f).trans (Vector.getElem_map _ f.isLt)
  refine ⟨t, run, congrArg HostView.vfEnable after, fun f => ⟨?_, ?_, ?_⟩, ?_, ?_⟩
  · exact congrArg Func.frames (reset f)
  · exact congrArg Func.secure (reset f)
  · exact (congrArg Func.enables (reset f)).trans rfl
  · exact (congrArg HostView.cores after).trans (congrArg HostView.cores before)
  · exact (congrArg HostView.launches after).trans (congrArg HostView.launches before)

theorem holdsHostLink_holds : holdsHostLink := by
  intro rate width s
  refine ⟨fun powered mode enough clocks => ?_, fun powered mode short clocks => ?_, fun up mode clocks => ?_, fun off clocks => ?_,
    fun a m clocks powered mode enough away held ha hm room openA openM =>
      holdsLinkTrained clocks powered mode enough away held ha hm room openA openM,
    fun clocks powered => holdsLinkDown clocks powered⟩
  · rw [exec_hostLinkTrained, execHostLinkTrained, State.clocked_of clocks, powered, mode, enough]
    rfl
  · rw [exec_hostLinkBelowMinimum, execHostLinkBelowMinimum, State.clocked_of clocks, powered, mode, short]
    rfl
  · have runs : ¬ ((!s.hostUp) = true ∨ (!linkMode rate width) = true) := by simp [up, mode]
    rw [exec_hostLinkRecovery, execHostLinkRecovery, State.clocked_of clocks, if_neg runs]
  · have stays : (!s.hostUp) = true ∨ (!linkMode rate width) = true := by simpa using off
    rw [exec_hostLinkRecovery, execHostLinkRecovery, State.clocked_of clocks, if_pos stays]

/-! ### Functions reset (R324, R334) -/

/-- The functions of a list reset. -/
def State.resetAll (s : State) (n : Nat) (l : List FnNo) : State := l.foldl (fun s f => if n < f.val then s.resetFunc f else s) s

theorem State.resetAll_kept (l : List FnNo) (n : Nat) (s : State) : s.resetAll n l = { s with funcs := (s.resetAll n l).funcs } := by
  unfold State.resetAll
  induction l generalizing s with
  | nil => rfl
  | cons f l ih =>
    rw [List.foldl_cons]
    refine (ih _).trans ?_
    split <;> rfl

/-- A function that is reset once stays reset. -/
theorem State.resetAll_reset (l : List FnNo) (n : Nat) (s : State) (f : FnNo) (h : s.funcs[f] = Func.reset ∨ f ∈ l ∧ n < f.val) :
    (s.resetAll n l).funcs[f] = Func.reset := by
  unfold State.resetAll
  induction l generalizing s with
  | nil => exact h.elim id fun h => absurd h.1 List.not_mem_nil
  | cons g l ih =>
    rw [List.foldl_cons]
    refine ih _ ?_
    by_cases same : f = g
    · subst same
      left
      split
      · exact s.updFunc_func_self f _
      · next low => exact h.elim id fun h => absurd h.2 low
    · have other : (if n < g.val then s.resetFunc g else s).funcs[f] = s.funcs[f] := by
        split
        · exact Vector.getElem_set_ne g.isLt f.isLt fun e => same (Fin.ext e.symm)
        · rfl
      rw [other]
      exact h.imp id fun h => ⟨(List.mem_cons.mp h.1).resolve_left same, h.2⟩

theorem State.resetVfs_kept (s : State) (n : Nat) : s.resetVfs n = { s with funcs := (s.resetVfs n).funcs } := State.resetAll_kept _ n s

/-- The physical function's reset takes every function with it (R334). -/
theorem State.resetFuncs_all (s : State) (f : FnNo) : ((s.resetFunc 0).resetVfs 0).funcs[f] = Func.reset := by
  refine State.resetAll_reset _ 0 _ f ?_
  by_cases physical : f = 0
  · subst physical
    exact .inl (s.updFunc_func_self 0 _)
  · exact .inr ⟨List.mem_finRange f, Nat.pos_of_ne_zero fun h => physical (Fin.ext h)⟩

/-- What the physical function's reset leaves, from the state whose flows are emptied and whose swaps are ended (R334). -/
def State.physicalReset (s : State) : State :=
  let s := (s.resetFunc 0).resetVfs 0
  (({ s with host := { s.host with
    vfEnable := false, maxRead := 512, vfBar := 34, bars := HostPort.reset.bars, vfBars := HostPort.reset.vfBars } } : State).setVol
      (ek 0x1100 4) 0).setVol (ek 0x1100 5) 39

theorem State.physicalReset_funcs (s : State) (f : FnNo) : (s.physicalReset).funcs[f] = Func.reset := s.resetFuncs_all f

theorem State.physicalReset_kept (s : State) : s.physicalReset.cores = s.cores ∧ s.physicalReset.launches = s.launches
    ∧ s.physicalReset.host.vfEnable = false ∧ s.physicalReset.raised = s.raised ∧ s.physicalReset.power = s.power
    ∧ s.physicalReset.pending = s.pending := by
  unfold State.physicalReset
  dsimp only
  rw [State.resetVfs_kept]
  exact ⟨rfl, rfl, rfl, rfl, rfl, rfl⟩

/-- With no swap in flight none ends. -/
theorem State.endSwaps_of_none {s : State} (quiet : ∀ b : Fin 64, s.seqs[b].state ≠ 2 ∧ s.seqs[b].state ≠ 4) (p : VatNo → Bool) :
    s.endSwaps p = s := by
  unfold State.endSwaps
  induction List.finRange 64 with
  | nil => rfl
  | cons b l ih =>
    obtain ⟨out, in_⟩ := quiet b
    have none : ¬ ((s.seqs[b].state == 2 || s.seqs[b].state == 4) && p s.seqs[b].vat) = true := by
      rw [beq_eq_false_iff_ne.mpr out, beq_eq_false_iff_ne.mpr in_]
      exact Bool.false_ne_true
    rw [List.foldl_cons]
    simp only [if_neg none]
    exact ih

theorem State.emptyFlows_of_none {s : State} (empty : s.host.held = []) (p : FnNo → Bool) :
    s.emptyFlows p = { s with host := { s.host with asked := s.host.asked.filter fun x => !p x.fn } } := by
  unfold State.emptyFlows State.countHost State.count
  simp only [empty, List.filter_nil, List.length_nil, List.map_nil, List.append_nil, true_or, if_true]

theorem exec_flrPhysical_reset {s : State} (clocks : s.power.clocks = true) (powered : s.portPowered = true) :
    ∃ u : State, u.hostView = s.hostView
      ∧ (s.host.held = [] → (∀ b : Fin 64, s.seqs[b].state ≠ 2 ∧ s.seqs[b].state ≠ 4) → u = { s with host := u.host })
      ∧ exec .flrPhysical s = .next (s.ends u.physicalReset) := by
  refine ⟨(s.emptyFlows fun f => f == 0).endSwaps fun v => s.vatFn v == 0, ?_, fun empty quiet => ?_, ?_⟩
  · exact (State.hostView_endSwaps _ _).trans (State.hostView_emptyFlows _ _)
  · rw [State.emptyFlows_of_none empty, State.endSwaps_of_none (by exact quiet)]
  · have up : ¬ (!s.portPowered) = true := by rw [powered]; decide
    rw [exec_flrPhysical, execFlrPhysical, State.clocked_of clocks, if_neg up, State.physicalReset]

theorem holdsPhysicalReset {s : State} (clocks : s.power.clocks = true) (powered : s.portPowered = true) :
    ∃ t, exec .flrPhysical s = .next t ∧ t.host.vfEnable = false
      ∧ (∀ f : FnNo, t.funcs[f] = { Func.reset with causes := (t.funcs[f]).causes, pend := (t.funcs[f]).pend })
      ∧ (s.host.held = [] → (∀ b : Fin 64, s.seqs[b].state ≠ 2 ∧ s.seqs[b].state ≠ 4) → ∀ f : FnNo, t.funcs[f] = Func.reset)
      ∧ t.cores = s.cores ∧ t.launches = s.launches := by
  obtain ⟨u, before, quiet, run⟩ := exec_flrPhysical_reset clocks powered
  obtain ⟨cores, launches, vfs, raised, power, pending⟩ := u.physicalReset_kept
  have funcs := u.physicalReset_funcs
  generalize u.physicalReset = v at run cores launches vfs raised power pending funcs
  have ended := State.hostView_ends s v
  refine ⟨s.ends v, run, (congrArg HostView.vfEnable ended).trans vfs, fun f => ?_, fun empty none f => ?_, ?_, ?_⟩
  · have reset : ((s.ends v).funcs[f]).standing = Func.reset.standing :=
      (State.hostView_func ended f).trans ((Vector.getElem_map _ f.isLt).trans (congrArg Func.standing (funcs f)))
    have back (g : Func) : g = { g.standing with causes := g.causes, pend := g.pend } := rfl
    refine (back _).trans ?_
    rw [reset]
    rfl
  · have same := quiet empty none
    rw [State.ends_eq (s := s) (t := v)]
    · exact funcs f
    · rw [pending, same]
    · rw [power, same]
    · rw [raised, same]
  · exact (State.ends_cores _ _).trans (cores.trans (congrArg HostView.cores before))
  · exact (State.ends_launches _ _).trans (launches.trans (congrArg HostView.launches before))

/-- Asks that vat `n` stop at the next beat. -/
def State.askStop (s : State) (n : Fin 16) : State :=
  { s with runReq := s.runReq ++ [(n.val, 0)] }

/-- A virtual function reset, and its vat to stop at the next beat. -/
def State.stopsVat (s : State) (n : Fin 16) : State :=
  (s.resetFunc ⟨n.val + 1, by omega⟩).askStop n

theorem exec_flrVirtual_reset {s : State} (clocks : s.power.clocks = true) (n : Fin 16) (there : s.fnExists ⟨n.val + 1, by omega⟩ = true) :
    ∃ (u : State) (fs : List (Nat × Nat)), u.hostView = s.hostView
      ∧ exec (.flrVirtual n) s = .next (s.ends ((u.stopsVat n).raiseVat n 0x1104 0x3000 fs)) := by
  refine ⟨(s.emptyFlows fun x => x == ⟨n.val + 1, by omega⟩).endSwaps fun v => v == n, [(n.val + 1, 1), (n.val, 1)], ?_, ?_⟩
  · exact (State.hostView_endSwaps _ _).trans (State.hostView_emptyFlows _ _)
  · have exists_ : ¬ (!s.fnExists ⟨n.val + 1, by omega⟩) = true := by rw [there]; decide
    rw [exec_flrVirtual, execFlrVirtual, State.clocked_of clocks]
    dsimp only
    rw [if_neg exists_, State.stopsVat, State.askStop]

theorem holdsVirtualReset {s : State} (clocks : s.power.clocks = true) (n : Fin 16) (there : s.fnExists ⟨n.val + 1, by omega⟩ = true) :
    ∃ t, exec (.flrVirtual n) s = .next t ∧ t.runReq = s.runReq ++ [(n.val, 0)] ∧ t.cores = s.cores ∧ t.launches = s.launches := by
  obtain ⟨u, fs, before, run⟩ := exec_flrVirtual_reset clocks n there
  have told := (u.stopsVat n).reported_raiseVat n 0x1104 0x3000 fs
  refine ⟨_, run, ?_⟩
  rw [State.ends_runReq, State.ends_cores, State.ends_launches, told.runReq, told.cores, told.launches]
  exact ⟨congrArg (· ++ [(n.val, 0)]) (congrArg HostView.runReq before), congrArg HostView.cores before, congrArg HostView.launches before⟩

theorem volDefault_numVfs : volDefault (ek 0x1100 4) = 0 := by decide +kernel

/-- What a write of VF Enable leaves of the machine beside the virtual functions and their number (R324). -/
theorem State.resetVfs_setVol_kept (s : State) (m key k : Nat) : ((s.resetVfs m).setVol key k).host = s.host
    ∧ ((s.resetVfs m).setVol key k).cores = s.cores ∧ ((s.resetVfs m).setVol key k).pending = s.pending
    ∧ ((s.resetVfs m).setVol key k).power = s.power ∧ ((s.resetVfs m).setVol key k).raised = s.raised := by
  rw [State.resetVfs_kept]
  exact ⟨rfl, rfl, rfl, rfl, rfl⟩

theorem holdsVfEnable {s : State} (clocks : s.power.clocks = true) (n : Nat) (on : Bool) (few : n ≤ 16) :
    ∃ t, exec (.vfEnableWrite n on) s = .next t ∧ t.host = { s.host with vfEnable := on }
      ∧ (0 < n → on = true → t.volAt (ek 0x1100 4) = n) ∧ t.cores = s.cores := by
  let u : State := { s with host := { s.host with vfEnable := on } }
  let k := if on = true then n else 0
  let m := min k (if s.host.vfEnable = true then s.volAt (ek 0x1100 4) else 0)
  obtain ⟨host, cores, pending, power, raised⟩ := u.resetVfs_setVol_kept m (ek 0x1100 4) k
  refine ⟨(u.resetVfs m).setVol (ek 0x1100 4) k, ?_, host, fun pos set => ?_, cores⟩
  · rw [exec_vfEnableWrite, execVfEnableWrite, State.clocked_of clocks, if_neg (Nat.not_lt.mpr few)]
    exact congrArg Host.Outcome.next (State.ends_eq (s := s) pending power raised)
  · have all : k = n := if_pos set
    rw [all]
    exact State.volAt_setVol_of_ne_default _ (by rw [volDefault_numVfs]; exact Nat.pos_iff_ne_zero.mp pos)

/-! ### IDE (R333) -/

theorem holdsIdeFailure {s : State} (clocks : s.power.clocks = true) (k : Nat) (fn : FnNo) (secure : s.funcs[fn].secure = true) :
    ∃ t, exec (.ideIntegrityFailure k fn) s = .next t ∧ (t.funcs[fn]).secure = false ∧ (t.funcs[fn]).ideHold = true ∧ t.cores = s.cores := by
  let u := s.updFunc fn fun g => { g with secure := false, ideHold := true }
  let v := (u.countHost 3 1).raise 0x1102 0x3000 [(k, 1), (fn.val, 1)]
  let w := v.endSwaps fun x => v.vatFn x == fn
  have kept : (s.ends w).hostView = u.hostView := (State.hostView_ends _ _).trans ((State.hostView_endSwaps _ _).trans
    ((State.hostView_raise _ _ _ _).trans (State.hostView_count _ _ _ _ _ _)))
  have run : exec (.ideIntegrityFailure k fn) s = .next (s.ends w) := by
    rw [exec_ideIntegrityFailure, execIdeIntegrityFailure, State.clocked_of clocks, secure]
    rfl
  have failed : ((s.ends w).funcs[fn]).standing = ({ s.funcs[fn] with secure := false, ideHold := true } : Func).standing :=
    (State.hostView_func kept fn).trans ((Vector.getElem_map _ fn.isLt).trans (congrArg Func.standing (s.updFunc_func_self fn _)))
  exact ⟨_, run, congrArg Func.secure failed, congrArg Func.ideHold failed, congrArg HostView.cores kept⟩

theorem holdsIdeKeys {s : State} (clocks : s.power.clocks = true) (k : Nat) (fn : FnNo) (there : s.fnExists fn = true) :
    ∃ t, exec (.ideKeyProgramming k fn) s = .next t
      ∧ t.funcs = s.funcs.set fn { s.funcs[fn] with secure := true, ideHold := false } ∧ t.cores = s.cores ∧ t.results = s.results := by
  let u := s.updFunc fn fun g => { g with secure := true, ideHold := false }
  have served := u.served_flushHost
  have run : exec (.ideKeyProgramming k fn) s = .next u.flushHost := by
    rw [exec_ideKeyProgramming, execIdeKeyProgramming, State.clocked_of clocks, there]
    exact congrArg _ (served.ends (s := s) rfl rfl rfl)
  unfold State.Served at served
  refine ⟨_, run, ?_⟩
  rw [served]
  exact ⟨rfl, rfl, rfl⟩

theorem holdsFunctionResets_holds : holdsFunctionResets := by
  intro s clocks
  refine ⟨fun powered => holdsPhysicalReset clocks powered, fun n there => holdsVirtualReset clocks n there,
    fun n on few => holdsVfEnable clocks n on few, fun k fn => ⟨fun open_ => ?_, fun secure => holdsIdeFailure clocks k fn secure,
      fun there => holdsIdeKeys clocks k fn there⟩⟩
  rw [exec_ideIntegrityFailure, execIdeIntegrityFailure, open_]
  exact State.clocked_self s

/-- Settles O37. -/
theorem hostLinkAndResets : Obligations.HostLinkAndResets := ⟨holdsHostLink_holds, holdsFunctionResets_holds⟩

end Sys2Proof.Machine
end

section
/-! What a read of device memory returns, and what it leaves beside the engines, does not depend on the codec engines (for O43). -/

set_option Elab.async false
namespace Sys2Proof.Machine

/-- A state with other codec engines. -/
def State.withCodecs (s : State) (cs : Vector CodecEngine 8) : State := { s with codecs := cs }

section
variable (s : State) (cs : Vector CodecEngine 8)

/-! ### What does not look at the engines -/

@[simp] theorem State.withCodecs_volAt (k : Nat) : (s.withCodecs cs).volAt k = s.volAt k := rfl
@[simp] theorem State.withCodecs_cfgAt (k : Nat) : (s.withCodecs cs).cfgAt k = s.cfgAt k := rfl
@[simp] theorem State.withCodecs_hbm : (s.withCodecs cs).hbm = s.hbm := rfl
@[simp] theorem State.withCodecs_uncleared : (s.withCodecs cs).uncleared = s.uncleared := rfl
@[simp] theorem State.withCodecs_reloc : (s.withCodecs cs).reloc = s.reloc := rfl
@[simp] theorem State.withCodecs_shadowMove : (s.withCodecs cs).shadowMove = s.shadowMove := rfl
@[simp] theorem State.withCodecs_evBeat : (s.withCodecs cs).evBeat = s.evBeat := rfl
@[simp] theorem State.withCodecs_scrubCount : (s.withCodecs cs).scrubCount = s.scrubCount := rfl
@[simp] theorem State.withCodecs_dieAnswers (k : Nat) : (s.withCodecs cs).dieAnswers k = s.dieAnswers k := rfl
@[simp] theorem State.withCodecs_decodeAddr (a : Nat) : (s.withCodecs cs).decodeAddr a = s.decodeAddr a := rfl
@[simp] theorem State.withCodecs_rawKey (a : Nat) : (s.withCodecs cs).rawKey a = s.rawKey a := rfl
@[simp] theorem State.withCodecs_spread (k : Nat) : (s.withCodecs cs).spread k = s.spread k := rfl
@[simp] theorem State.withCodecs_addrOf (k : Nat) : (s.withCodecs cs).addrOf k = s.addrOf k := rfl
@[simp] theorem State.withCodecs_stackSet (k : Nat) : (s.withCodecs cs).stackSet k = s.stackSet k := rfl
@[simp] theorem State.withCodecs_invalidByte (a n : Nat) : (s.withCodecs cs).invalidByte a n = s.invalidByte a n := rfl
@[simp] theorem State.withCodecs_peekHbm (a n : Nat) : (s.withCodecs cs).peekHbm a n = s.peekHbm a n := rfl

/-- A fold of steps that do not look at the engines does not. -/
theorem State.foldl_withCodecs {α : Type} (f : State → α → State) (step : ∀ s a, f (s.withCodecs cs) a = (f s a).withCodecs cs)
    (l : List α) : l.foldl f (s.withCodecs cs) = (l.foldl f s).withCodecs cs := by
  induction l generalizing s with
  | nil => rfl
  | cons a l ih => rw [List.foldl_cons, List.foldl_cons, step, ih]

/-! ### Events and counters -/

theorem State.setVol_withCodecs (k v : Nat) : (s.withCodecs cs).setVol k v = (s.setVol k v).withCodecs cs := rfl

theorem State.emit_withCodecs (code path : Nat) (fs : List (Nat × Nat)) :
    (s.withCodecs cs).emit code path fs = ((s.emit code path fs).1, (s.emit code path fs).2.withCodecs cs) := by
  unfold State.emit
  dsimp only [State.withCodecs_evBeat]
  split <;> rfl

theorem State.countEvent_withCodecs (sub : Nat) : (s.withCodecs cs).countEvent sub = (s.countEvent sub).withCodecs cs := by
  unfold State.countEvent
  dsimp only [State.withCodecs_volAt]
  split
  · rfl
  · split
    · rfl
    · rw [State.setVol_withCodecs, State.emit_withCodecs]

theorem State.raise_withCodecs (code path : Nat) (fs : List (Nat × Nat)) :
    (s.withCodecs cs).raise code path fs = (s.raise code path fs).withCodecs cs := by
  unfold State.raise
  rw [State.emit_withCodecs]
  dsimp only
  split
  · rfl
  · exact State.countEvent_withCodecs _ _ _

theorem State.count_withCodecs (key n code path : Nat) (fs : List (Nat × Nat)) :
    (s.withCodecs cs).count key n code path fs = (s.count key n code path fs).withCodecs cs := by
  unfold State.count
  dsimp only [State.withCodecs_volAt]
  split
  · rfl
  · split
    · rfl
    · rw [State.setVol_withCodecs, State.raise_withCodecs]

theorem State.countMem_withCodecs (idx sub path : Nat) : (s.withCodecs cs).countMem idx sub path = (s.countMem idx sub path).withCodecs cs :=
  State.count_withCodecs ..

/-! ### The bits of a word resolved -/

/-- A read of a word with a corrected bit, counted. -/
theorem State.hbmCorrected_withCodecs (key : Nat) : (s.withCodecs cs).hbmCorrected key = (s.hbmCorrected key).withCodecs cs := by
  unfold State.hbmCorrected
  simp only [State.withCodecs_stackSet, State.countMem_withCodecs, State.withCodecs_scrubCount]
  generalize State.countMem _ _ _ _ = t
  refine .trans ?_ (apply_ite (fun t : State => t.withCodecs cs) _ _ _).symm
  exact ite_congr rfl (fun _ => State.raise_withCodecs { t with scrubCount := _ } cs _ _ _) fun _ => rfl

theorem State.hbmEvent_withCodecs (key source : Nat) : (s.withCodecs cs).hbmEvent key source = (s.hbmEvent key source).withCodecs cs :=
  State.raise_withCodecs ..

theorem State.hbmUncorrectable_withCodecs (key source : Nat) :
    (s.withCodecs cs).hbmUncorrectable key source = (s.hbmUncorrectable key source).withCodecs cs := by
  unfold State.hbmUncorrectable
  simp only [State.withCodecs_stackSet, State.countMem_withCodecs, State.hbmEvent_withCodecs]

theorem State.setHbm_withCodecs (m : Mem) : (s.withCodecs cs).setMem .hbm m = (s.setMem .hbm m).withCodecs cs := rfl

theorem State.resolveWord_withCodecs (w : Nat) : (s.withCodecs cs).resolveWord .hbm w = (s.resolveWord .hbm w).withCodecs cs := by
  unfold State.resolveWord
  simp only [State.mem, State.withCodecs_hbm, State.setHbm_withCodecs, State.hbmCorrected_withCodecs, State.hbmUncorrectable_withCodecs]
  split <;> rfl

theorem State.resolve_withCodecs (a n : Nat) : (s.withCodecs cs).resolve .hbm a n = (s.resolve .hbm a n).withCodecs cs :=
  State.foldl_withCodecs _ _ _ (fun s w => s.resolveWord_withCodecs cs w) _

/-! ### Shadow moves and clearing -/

/-- What a granule's new place holds once the granule has moved to it (R374). -/
def State.movedGranule (t : State) (a b : Nat) : Mem :=
  if !t.dieAnswers b then t.hbm
  else if t.dieAnswers a then t.hbm.copyGranule (a / 4096) (b / 4096)
  else t.hbm.poison ((List.range 256).map fun w => b / 4096 * 4096 + 16 * w)

/-- A granule moved: its bytes, and what is left to move. -/
def State.shadowStep (t : State) (a b left : Nat) : State :=
  State.setVol { t with hbm := t.movedGranule a b, uncleared := cutRange t.uncleared (b / 4096) } (ek 0xD000 7) left

/-- A shadow move over. -/
def State.shadowOver (t : State) : State :=
  { t with shadowMove := none, reloc := t.reloc.map fun r => r.map fun r => { r with begun := true } }

theorem State.copyShadow_eq (m : ShadowMove) (i : Nat) :
    s.copyShadow m i =
      let t := (s.resolve .hbm (s.rawKey (m.origin i)) 4096).shadowStep (s.rawKey (m.origin i)) (s.rawKey (m.goal i)) (m.note (m.place i)).left
      let m := m.note (m.place i)
      if m.left = 0 then t.shadowOver.raise 0x0D09 0x6000 [(m.oldBase, 5), (m.newBase, 5), (m.granules, 4)]
      else { t with shadowMove := some m } := rfl

theorem State.copyShadow_withCodecs (m : ShadowMove) (i : Nat) : (s.withCodecs cs).copyShadow m i = (s.copyShadow m i).withCodecs cs := by
  have step (t : State) (a b left : Nat) : (t.withCodecs cs).shadowStep a b left = (t.shadowStep a b left).withCodecs cs := rfl
  have stop (t : State) : (t.withCodecs cs).shadowOver = t.shadowOver.withCodecs cs := rfl
  rw [State.copyShadow_eq, State.copyShadow_eq, State.resolve_withCodecs]
  dsimp only [State.withCodecs_rawKey]
  rw [step, stop, State.raise_withCodecs]
  split <;> rfl

theorem State.copyAhead_withCodecs (n g : Nat) : (s.withCodecs cs).copyAhead n g = (s.copyAhead n g).withCodecs cs := by
  induction n generalizing g with
  | zero => rfl
  | succ n ih =>
    unfold State.copyAhead
    simp only [State.withCodecs_shadowMove, State.withCodecs_spread, State.withCodecs_rawKey, ih]
    split
    · rfl
    · split
      · rfl
      · split
        · rfl
        · split
          · exact State.copyShadow_withCodecs _ _ _ _
          · rfl

theorem State.clearGranule_withCodecs (g : Nat) : (s.withCodecs cs).clearGranule g = (s.clearGranule g).withCodecs cs := by
  unfold State.clearGranule
  rw [State.copyAhead_withCodecs] <;> rfl

theorem State.clearFirst_withCodecs (a n : Nat) : (s.withCodecs cs).clearFirst a n = (s.clearFirst a n).withCodecs cs := by
  refine State.foldl_withCodecs _ _ _ (fun s g => ?_) _
  rw [State.withCodecs_uncleared, State.clearGranule_withCodecs]
  exact (apply_ite (fun t : State => t.withCodecs cs) _ _ _).symm

/-! ### Relocation -/

/-- A word of a row that moves, read: corrected, or told (R246). -/
def State.relocateWord (s : State) (w : Nat) : State :=
  match Sparse.get 0 s.hbm.marks w with
  | 2 => ({ s with hbm := { s.hbm with marks := Sparse.set 0 s.hbm.marks w 3 } } : State).hbmUncorrectable (16 * w) 4
  | 1 => ({ s with hbm := { s.hbm with marks := Sparse.set 0 s.hbm.marks w 0 } } : State).hbmCorrected (16 * w)
  | _ => s

/-- The words of granule `g` of a row that moves. -/
def State.relocateWords (s : State) (r : Reloc) (g : Nat) : State :=
  if r.poisonMode then { s with hbm := s.hbm.poison ((List.range 256).map fun i => g * 4096 + 16 * i) }
  else (s.hbm.marked (g * 4096) 4096).foldl State.relocateWord s

/-- A row moved: counted, and the relocation one row further. -/
def State.rowMoved (s : State) (d : Fin 4) (j : Nat) (r : Reloc) (words : Nat) : State :=
  let s := s.setVol (ek (0xD040 + d.val) 5) (s.volAt (ek (0xD040 + d.val) 5) + 1)
  { s with reloc := s.reloc.set d (some { r with
      early := if j = r.next then r.early else r.early ++ [j]
      next := if j = r.next then r.next + 1 else r.next
      poisoned := r.poisoned + words }) }

theorem State.relocateRow_eq (d : Fin 4) (j : Nat) :
    s.relocateRow d j = match s.reloc[d] with
      | none => s
      | some r =>
        if !r.begun || j < r.next || r.early.contains j then s
        else
          let g := (d.val * 2 ^ 37) / 4096 + 32 * j + r.set
          let bad := (s.hbm.marks.filter fun k => k.1 / 256 == g && decide (2 ≤ k.2)).length
          (s.relocateWords r g).rowMoved d j r (if r.poisonMode then 256 else bad) := rfl

theorem State.relocateWord_withCodecs (w : Nat) : (s.withCodecs cs).relocateWord w = (s.relocateWord w).withCodecs cs := by
  unfold State.relocateWord
  dsimp only [State.withCodecs_hbm]
  split
  · exact State.hbmUncorrectable_withCodecs { s with hbm := _ } cs _ _
  · exact State.hbmCorrected_withCodecs { s with hbm := _ } cs _
  · rfl

theorem State.relocateWords_withCodecs (r : Reloc) (g : Nat) :
    (s.withCodecs cs).relocateWords r g = (s.relocateWords r g).withCodecs cs := by
  unfold State.relocateWords
  split
  · rfl
  · exact s.foldl_withCodecs cs State.relocateWord (fun s w => s.relocateWord_withCodecs cs w) _

theorem State.relocateRow_withCodecs (d : Fin 4) (j : Nat) : (s.withCodecs cs).relocateRow d j = (s.relocateRow d j).withCodecs cs := by
  have moved (t : State) (r : Reloc) (n : Nat) : (t.withCodecs cs).rowMoved d j r n = (t.rowMoved d j r n).withCodecs cs := rfl
  rw [State.relocateRow_eq, State.relocateRow_eq, State.withCodecs_reloc]
  split
  · rfl
  · split
    · rfl
    · dsimp only
      rw [State.relocateWords_withCodecs, moved] <;> rfl

theorem State.relocateFirst_withCodecs (a n : Nat) : (s.withCodecs cs).relocateFirst a n = (s.relocateFirst a n).withCodecs cs := by
  refine State.foldl_withCodecs _ _ _ (fun s g => ?_) _
  dsimp only [State.withCodecs_reloc]
  split
  · split
    · exact State.relocateRow_withCodecs ..
    · rfl
  · rfl

/-! ### Reads -/

theorem State.openHbm_withCodecs (a n : Nat) : (s.withCodecs cs).openHbm a n = (s.openHbm a n).withCodecs cs := by
  refine State.foldl_withCodecs _ _ _ (fun s g => ?_) _
  dsimp only [State.withCodecs_decodeAddr]
  split
  · rw [State.clearFirst_withCodecs, State.relocateFirst_withCodecs, State.resolve_withCodecs]
  · rfl

theorem State.readHbm_withCodecs (a n agent : Nat) : ((s.withCodecs cs).readHbm a n agent).1 = (s.readHbm a n agent).1 := by
  unfold State.readHbm
  rw [State.openHbm_withCodecs] <;> rfl

theorem State.agentRead_withCodecs (vat a n agent : Nat) : ((s.withCodecs cs).agentRead vat a n agent).1 = (s.agentRead vat a n agent).1 := by
  have region : (s.withCodecs cs).inRegions vat a n = s.inRegions vat a n := rfl
  unfold State.agentRead
  rw [region, apply_ite Prod.fst, apply_ite Prod.fst, State.readHbm_withCodecs]

end

end Sys2Proof.Machine
end

section
/-! O43: codec records and frames (R362 to R371). -/

set_option Elab.async false
namespace Sys2Proof.Machine

/-! ### Engines and their records -/

theorem sliceOf_engineNo (k : Fin 4) (enc : Bool) : sliceOf (engineNo k enc) = k := by
  apply Fin.ext
  show (2 * k.val + b2n (!enc)) / 2 = k.val
  unfold b2n
  split <;> omega

theorem State.updEngine_codec (s : State) (e : Fin 8) (f : CodecEngine → CodecEngine) : (s.updEngine e f).codecs[e] = f s.codecs[e] := by
  simp [State.updEngine]

theorem State.updEngine_codec_ne (s : State) {d e : Fin 8} (f : CodecEngine → CodecEngine) (h : d ≠ e) :
    (s.updEngine e f).codecs[d] = s.codecs[d] := by
  show (s.codecs.set e (f s.codecs[e]))[d] = s.codecs[d]
  rw [Fin.getElem_fin, Vector.getElem_set_ne _ _ fun i => h (Fin.ext i.symm)]
  rfl

theorem State.updEngine_updEngine (s : State) (e : Fin 8) (f g : CodecEngine → CodecEngine) :
    (s.updEngine e f).updEngine e g = s.updEngine e fun x => g (f x) := by
  unfold State.updEngine
  simp

theorem State.updEngine_id (s : State) (e : Fin 8) {f : CodecEngine → CodecEngine} (h : f s.codecs[e] = s.codecs[e]) : s.updEngine e f = s := by
  unfold State.updEngine
  rw [h]
  simp

theorem State.updCtx_codecs (s : State) (c : Nat) (f : CodecCtx → CodecCtx) : (s.updCtx c f).codecs = s.codecs := by
  rw [State.updCtx, State.setVol_codecs]

/-- An engine at work takes no record (R363). -/
theorem State.takeNext_of_work {s : State} {e : Fin 8} (h : s.codecs[e].work.isSome = true) (n : Nat) : s.takeNext e n = s := by
  cases n with
  | zero => rfl
  | succ n =>
    obtain ⟨w, hw⟩ := Option.isSome_iff_exists.mp h
    unfold State.takeNext
    simp only [hw]

/-- An engine with no record behind it takes none. -/
theorem State.takeNext_of_empty {s : State} {e : Fin 8} (h : s.codecs[e].queue = []) (n : Nat) : s.takeNext e n = s := by
  cases n with
  | zero => rfl
  | succ n =>
    unfold State.takeNext
    simp only [h]
    cases s.codecs[e].work <;> rfl

/-- An idle engine has nothing to write. -/
theorem State.putAll_of_idle {s : State} {e : Fin 8} (h : s.codecs[e].work = none) (p : Option Word) : s.putAll e p = s := by
  rw [State.putAll, h]

/-- Whether a ring is legal does not depend on what the engines do. -/
theorem State.ringOk_withCodecs (s : State) (cs : Vector CodecEngine 8) (v ring : Nat) : (s.withCodecs cs).ringOk v ring = s.ringOk v ring := by
  have region (a n : Nat) : (s.withCodecs cs).inRegions v a n = s.inRegions v a n := rfl
  have desc : ((s.withCodecs cs).ringDesc v ring).1 = (s.ringDesc v ring).1 := by
    unfold State.ringDesc
    dsimp only
    rw [State.agentRead_withCodecs]
  unfold State.ringOk
  rw [desc, region] <;> rfl

/-- Whether a record is refused does not depend on what the engines do. -/
theorem State.recordRefused_withCodecs (s : State) (cs : Vector CodecEngine 8) (k : Fin 4) (enc : Bool) (r : FrameRecord) :
    (s.withCodecs cs).recordRefused k enc r = s.recordRefused k enc r := by
  unfold State.recordRefused
  dsimp only
  rw [State.ringOk_withCodecs, State.ringOk_withCodecs] <;> rfl

theorem State.earlierElsewhere_updEngine (s : State) (e : Fin 8) (f : CodecEngine → CodecEngine) (r : FrameRecord) :
    (s.updEngine e f).earlierElsewhere e r = s.earlierElsewhere e r := by
  have ctx (c : Nat) : (s.updEngine e f).ctx c = s.ctx c := rfl
  have other (d : Fin 8) (q : CodecEngine → Bool) : (d != e && q (s.updEngine e f).codecs[d]) = (d != e && q s.codecs[d]) := by
    by_cases h : d = e
    · simp [h]
    · rw [s.updEngine_codec_ne f h]
  simp only [State.earlierElsewhere, ctx]
  congr 2
  funext d
  exact other d fun g => g.queue.any fun q =>
      recCtx q == recCtx r && recKind q != 2
        && (recOpen q || (((s.ctx (recCtx r)).state != 0 && newer (recNumber r) ((s.ctx (recCtx r)).last + 1#32))
          && newer (recNumber q) (s.ctx (recCtx r)).last && newer (recNumber r) (recNumber q)))

/-- The record that an idle engine with nothing behind it takes where it may: refused, a close, or a frame (R363). -/
theorem State.takeNext_one {s : State} {e : Fin 8} {r : FrameRecord} (idle : s.codecs[e].work = none) (empty : s.codecs[e].queue = [])
    (takes : s.sliceTakes (sliceOf e) = true) (free : (s.ctx (recCtx r)).state ≠ 2) (first : s.earlierElsewhere e r = false) (n : Nat) :
    (s.updEngine e fun g => { g with queue := g.queue ++ [r] }).takeNext e (n + 1) =
      match s.recordRefused (sliceOf e) (encodes e) r with
      | some why => (s.raise 0x1300 (slicePath (sliceOf e)) [(recCtx r, 2), ((recNumber r).toNat, 4), (why, 1)]).countCodec (sliceOf e) 3
      | none => if recKind r = 2 then s.updCtx (recCtx r) fun _ => CodecCtx.closed else s.takeRecord e r := by
  have taken : (s.updEngine e fun g => { g with queue := g.queue ++ [r] }).codecs[e] = { s.codecs[e] with queue := [r] } := by
    rw [State.updEngine_codec, empty]; rfl
  have back : (s.updEngine e fun g => { g with queue := g.queue ++ [r] }).updEngine e (fun g => { g with queue := [] }) = s := by
    rw [State.updEngine_updEngine]
    exact s.updEngine_id e (by rw [← empty])
  have goes : ¬ (!(s.updEngine e fun g => { g with queue := g.queue ++ [r] }).sliceTakes (sliceOf e)
      || ((s.updEngine e fun g => { g with queue := g.queue ++ [r] }).ctx (recCtx r)).state == 2
      || (s.updEngine e fun g => { g with queue := g.queue ++ [r] }).earlierElsewhere e r) = true := by
    rw [s.earlierElsewhere_updEngine, first, show (s.updEngine e _).sliceTakes (sliceOf e) = s.sliceTakes (sliceOf e) from rfl, takes,
      show (s.updEngine e _).ctx (recCtx r) = s.ctx (recCtx r) from rfl]
    simp [free]
  unfold State.takeNext
  simp only [taken, idle]
  rw [if_neg goes, show (s.updEngine e _).recordRefused (sliceOf e) (encodes e) r = _ from s.recordRefused_withCodecs _ _ _ _, back]
  cases s.recordRefused (sliceOf e) (encodes e) r with
  | some why =>
    refine State.takeNext_of_empty ?_ n
    rw [State.countCodec, State.count_codecs, State.raise_codecs, empty]
  | none =>
    simp only
    split
    · exact State.takeNext_of_empty (by rw [State.updCtx_codecs, empty]) n
    · rfl

/-! ### Records (R362, R363, R365, R368) -/

/-- An engine at work takes nothing; its entries leave as their rings have room. -/
theorem State.takeWork_of_work {s : State} {e : Fin 8} (h : s.codecs[e].work.isSome = true) : s.takeWork e = s.putAll e none := by
  rw [State.takeWork, State.takeNext_of_work h]

/-- What a record comes to that an idle engine, nothing behind it, takes: refused, a close, or a frame. -/
theorem State.takeWork_one {s : State} {e : Fin 8} {r : FrameRecord} (idle : s.codecs[e].work = none) (empty : s.codecs[e].queue = [])
    (takes : s.sliceTakes (sliceOf e) = true) (free : (s.ctx (recCtx r)).state ≠ 2) (first : s.earlierElsewhere e r = false) :
    (s.updEngine e fun g => { g with queue := g.queue ++ [r] }).takeWork e =
      match s.recordRefused (sliceOf e) (encodes e) r with
      | some why => (s.raise 0x1300 (slicePath (sliceOf e)) [(recCtx r, 2), ((recNumber r).toNat, 4), (why, 1)]).countCodec (sliceOf e) 3
      | none => if recKind r = 2 then s.updCtx (recCtx r) fun _ => CodecCtx.closed else (s.takeRecord e r).putAll e none := by
  have one : (s.updEngine e fun g => { g with queue := g.queue ++ [r] }).codecs[e].queue.length = 0 + 1 := by
    rw [State.updEngine_codec, empty]; rfl
  rw [State.takeWork, one, State.takeNext_one idle empty takes free first]
  cases s.recordRefused (sliceOf e) (encodes e) r with
  | some why =>
    dsimp only
    refine State.putAll_of_idle ?_ none
    rw [State.countCodec, State.count_codecs, State.raise_codecs, idle]
  | none =>
    dsimp only
    split
    · exact State.putAll_of_idle (by rw [State.updCtx_codecs, idle]) none
    · rfl

/-- What a record that reaches engine `e` by command `i` does (R363): behind the others of a busy engine, and refused, worked on or closing
its context at an idle one. -/
theorem codecRecord {i : Instr} {s : State} {e : Fin 8} {r : FrameRecord} {k : Fin 4} (slice : sliceOf e = k)
    (run : exec i s = s.clocked (s.recordIn e r)) :
    let u := s.entryRead (sliceOf e) r
    let go (t : State) : State := t.letGo e (recCtx r)
    (u.codecs[e].work.isSome = true → leaves i s (go ((u.updEngine e fun g => { g with queue := g.queue ++ [r] }).putAll e none)))
    ∧ (u.codecs[e].work = none → u.codecs[e].queue = [] → u.sliceTakes k = true → (u.ctx (recCtx r)).state ≠ 2 → u.earlierElsewhere e r = false →
      (∀ why, u.recordRefused k (encodes e) r = some why →
        leaves i s (go ((u.raise 0x1300 (slicePath k) [(recCtx r, 2), ((recNumber r).toNat, 4), (why, 1)]).countCodec k 3)))
      ∧ (u.recordRefused k (encodes e) r = none → recKind r ≠ 2 → leaves i s (go ((u.takeRecord e r).putAll e none)))
      ∧ (u.recordRefused k (encodes e) r = none → recKind r = 2 → leaves i s (go (u.updCtx (recCtx r) fun _ => CodecCtx.closed)))) := by
  subst slice
  intro u go
  have ran {t : State} (h : (u.updEngine e fun g => { g with queue := g.queue ++ [r] }).takeWork e = t) : leaves i s (go t) := by
    intro clocks
    rw [run, State.clocked_of clocks, State.recordIn, h]
  refine ⟨fun busy => ran ?_, fun idle empty takes free first => ?_⟩
  · exact State.takeWork_of_work (by rw [State.updEngine_codec]; exact busy)
  · have one := State.takeWork_one idle empty takes free first
    refine ⟨fun why h => ran ?_, fun h frame => ran ?_, fun h close => ran ?_⟩
    · rw [one, h]
    · rw [one, h]
      exact if_neg frame
    · rw [one, h]
      exact if_pos close

theorem codecRecords : holdsCodecRecords := by
  intro k r s
  refine ⟨fun kind => codecRecord (sliceOf_engineNo k true) ?_, fun kind => codecRecord (sliceOf_engineNo k false) ?_,
    fun kind => codecRecord (sliceOf_engineNo k _) ?_, fun unread j => ?_⟩
  · have encode : ¬ (recKind r = 1 ∨ recKind r = 2) := by omega
    rw [exec_encodeFrame, execEncodeFrame, if_neg encode]
  · rw [exec_decodeAccessUnit, execDecodeAccessUnit, if_pos kind]
  · rw [exec_codecClose, execCodecClose, if_pos kind]
  · rw [State.entryRead, unread]

/-! ### Frames (R365, R367, R371) -/

section
variable {s : State} {k : Fin 4} {enc : Bool} (quiet : (s.retries.all fun r => r.src != .codec (engineNo k enc)) = true)
include quiet

theorem leaves_idle (idle : s.codecs[engineNo k enc].work = none) :
    leaves (.blockRowStart k enc) s (s.takeWork (engineNo k enc)) ∧ leaves (.frameOutput k enc) s s ∧ ∀ c, leaves (.ringPoll k enc c) s s := by
  refine ⟨fun clocks => ?_, fun clocks => ?_, fun c clocks => ?_⟩
  · rw [exec_blockRowStart, execBlockRowStart, State.clocked_of clocks]
    dsimp only
    rw [State.retry_of_none quiet, idle]
  · rw [exec_frameOutput, execFrameOutput, State.clocked_of clocks]
    dsimp only
    rw [State.retry_of_none quiet, idle]
  · rw [exec_ringPoll, execRingPoll, State.clocked_of clocks]
    dsimp only
    rw [State.retry_of_none quiet, idle]

variable {w : CodecWork} (work : s.codecs[engineNo k enc].work = some w)
include work

theorem leaves_blockRowStart (b : Bool) (left : decide (w.rows < blockRows (s.ctx w.ctx).words) = b) :
    leaves (.blockRowStart k enc) s
      (if b then s.updEngine (engineNo k enc) fun g => { g with work := some { w with rows := w.rows + 1 } } else s) := by
  intro clocks
  rw [exec_blockRowStart, execBlockRowStart, State.clocked_of clocks]
  dsimp only
  rw [State.retry_of_none quiet, work, ← left]
  simp only [decide_eq_true_eq]

theorem leaves_frameOutput (b : Bool) (stays : (w.finished || decide (w.rows < blockRows (s.ctx w.ctx).words)) = b) :
    leaves (.frameOutput k enc) s (if b then s else (s.finishFrame (engineNo k enc) w).drainEntries (engineNo k enc) none) := by
  intro clocks
  rw [exec_frameOutput, execFrameOutput, State.clocked_of clocks]
  dsimp only
  rw [State.retry_of_none quiet, work, ← stays]

theorem leaves_ringPoll (c : Word) :
    leaves (.ringPoll k enc c) s (if w.waits then s.drainEntries (engineNo k enc) (some c) else s) := by
  intro clocks
  rw [exec_ringPoll, execRingPoll, State.clocked_of clocks]
  dsimp only
  rw [State.retry_of_none quiet, work]

end

theorem codecFrames : holdsCodecFrames := by
  intro k enc s e quiet
  refine ⟨leaves_idle quiet, fun w work => ⟨fun left => ?_, fun done => ?_, fun c => ?_⟩⟩
  · exact ⟨leaves_blockRowStart quiet work true (decide_eq_true left),
      leaves_frameOutput quiet work true (by rw [decide_eq_true left, Bool.or_true])⟩
  · have noRow : decide (w.rows < blockRows (s.ctx w.ctx).words) = false := decide_eq_false (by omega)
    exact ⟨leaves_blockRowStart quiet work false noRow, fun unfinished => leaves_frameOutput quiet work false (by rw [unfinished, noRow]; rfl),
      fun finished => leaves_frameOutput quiet work true (by rw [finished, Bool.true_or])⟩
  · have poll := leaves_ringPoll quiet work c
    exact ⟨fun h => by rwa [h] at poll, fun h => by rwa [h] at poll⟩

/-- Settles O43. -/
theorem codec : Obligations.Codec := ⟨codecRecords, codecFrames⟩

end Sys2Proof.Machine
end
